-- ==== Sys2Proof/Word.lean ====
section
/-!
DEFINITION. Sys2Proof/Word.lean: the word types of the model.
Bytes are bit vectors. Addresses and register values that are only compared, added or looked up are `Nat`, kept below their
width by the operations that form them.
-/

namespace Sys2Proof

/-- A byte of memory, of a frame or of a format (00_scope.md, Notation). -/
abbrev Byte := BitVec 8

/-- An Agrek register value (10_agrek_model.md R263). -/
abbrev Long := BitVec 64

end Sys2Proof
end

