-- ==== Sys2Proof/Syntax.lean ====
section
/-!
DEFINITION. Sys2Proof/Syntax.lean: the commands the block takes and the data they carry.
One constructor of `Instr` per row of spec/opcode_table.json. The table gives its rows no operand fields, so the operands
are this model's reading of what each row's rule needs from outside the block (log entry 2).
-/

namespace Sys2Proof

/-- The agents that reach the register pages (21_register_pages.md R507): the host driver on function 1, a Bobbin core, Thimble. -/
inductive Agent where
  | host
  | bobbin (core : Nat)
  | thimble
deriving DecidableEq, Repr

/-- The Agrek cores (10_agrek_model.md R262): Shuttle 0 to 31, Bobbin 0 to 7, and the Thimble pair, seen as one core. -/
inductive CoreId where
  | shuttle (n : Nat)
  | bobbin (n : Nat)
  | thimble
deriving DecidableEq, Repr

/-- Integer sizes of Agrek: byte, half, word, long (10_agrek_model.md R268). -/
inductive Sz where
  | b | h | w | l
deriving DecidableEq, Repr

/-- An operand specifier (10_agrek_model.md R281). Extension values are kept raw (unsigned, as encoded); `reserved` is a mode
byte whose MODE and REG are a reserved combination and which has no extension bytes (R287). -/
inductive Spec where
  /-- MODE 0x0, the value 0 to 15. -/
  | imm4 (v : Nat)
  /-- MODE 0x1, the 1 to 8 extension bytes. -/
  | imm (bytes : List Byte)
  /-- MODE 0x2. -/
  | abs32 (a : Nat)
  /-- MODE 0x3. -/
  | abs48 (a : Nat)
  /-- MODE 0x4, base and raw 8-bit displacement. -/
  | disp8 (n d : Nat)
  /-- MODE 0x5, base and raw 16-bit displacement. -/
  | disp16 (n d : Nat)
  /-- MODE 0x6, base and raw 32-bit displacement. -/
  | disp32 (n d : Nat)
  /-- MODE 0x7, base and raw extension byte. -/
  | index (n ext : Nat)
  /-- MODE 0x8. -/
  | postInc (n : Nat)
  /-- MODE 0x9. -/
  | preDec (n : Nat)
  /-- MODE 0xA, base and raw 16-bit displacement. -/
  | memInd (n d : Nat)
  /-- MODE 0xB, raw 32-bit displacement. -/
  | pcRel (d : Nat)
  /-- MODE 0xC, raw 16-bit displacement. -/
  | fpRel (d : Nat)
  /-- MODE 0xD, raw 24-bit extension. -/
  | bitAbs (ext : Nat)
  /-- MODE 0xE, base and raw 16-bit displacement. -/
  | bitBase (n d : Nat)
  /-- MODE 0xF, 12-bit local-store offset. -/
  | lsShort (off : Nat)
  /-- A reserved MODE and REG combination, by its mode byte. -/
  | reserved (modeByte : Nat)
deriving DecidableEq, Repr

/-- The four staging classes, in rotation order (01_ledger_path.md R16, R17). -/
inductive StgClass where
  | media | engine | host | program
deriving DecidableEq, Repr

/-- What the checker of a memory read reports (16_memory_integrity.md R402, R405): correct, one correction with its syndrome,
or uncorrectable with its syndrome. -/
inductive CodeOutcome where
  | correct
  | corrected (syn : Nat)
  | uncorrectable (syn : Nat)
deriving DecidableEq, Repr

/-- A memory word of a register page's block, as scrub meets it (16_memory_integrity.md R415 to R417): the page that counts
it, its address in ERR_ADDR form, and whether it is control memory (R407). -/
structure MemWord where
  page    : Nat
  addr    : Nat
  control : Bool
deriving DecidableEq, Repr

/-- Who reads or writes a DRAM line (16_memory_integrity.md R407, R408). -/
inductive Reader where
  | core (c : CoreId)
  | block (page : Nat)
deriving DecidableEq, Repr

/-- A demand access to DRAM (17_dram.md R433): the offset D from DRAM_BASE, its direction, its byte count, whether it
rewrites the whole line, who makes it, and whether the line is control memory. -/
structure DramAcc where
  d       : Nat
  isWrite : Bool
  bytes   : Nat
  who     : Reader
  control : Bool
deriving DecidableEq, Repr

/-- Where an NVMe command comes from (13_host_network.md R354, R371). -/
inductive HostSrc where
  | pcie
  | tcp (conn : Nat)
deriving DecidableEq, Repr

/-- The header of an NVMe command: its source, queue (0 is the admin queue), command identifier, namespace identifier, and the
bitwise OR of the dwords the command reserves (R361). -/
structure Hdr where
  src  : HostSrc
  q    : Nat
  cid  : Nat
  nsid : Nat
  rsvd : Nat
deriving DecidableEq, Repr

/-- An NVMe data pointer after PRP or SGL resolution (R353): host memory segments (address, length); bytes carried in a
capsule; or write data that H2CData PDUs will carry (R372). -/
inductive DataPtr where
  | segs (l : List (Nat × Nat))
  | inline (bytes : List Byte)
  | h2c (len : Nat)
deriving DecidableEq, Repr

/-- The I/O commands an NVMe/TCP capsule may carry (R353, R361, R371); each acts as the row of the same name. -/
inductive IoCmd where
  | read (slba nlb : Nat) (dp : DataPtr)
  | write (slba nlb : Nat) (dp : DataPtr)
  | flush
  | compare (slba nlb : Nat) (dp : DataPtr)
  | verify (slba nlb : Nat)
  | writeZeroes (slba nlb : Nat) (deac : Bool)
  | datasetManagement (ranges : List (Nat × Nat)) (deallocate : Bool)
  | copy (sdlba : Nat) (ranges : List (Nat × Nat))
  | executeProgram (pid : Nat) (dp : DataPtr)
  | memoryRead (off len : Nat) (dp : DataPtr)
  | memoryWrite (off len : Nat) (dp : DataPtr)
  | registerRecordRange (first count recLen : Nat) (nocmp : Bool)
  | filterStream
  | hemCreate (first count : Nat)
  | hemAppend (region bytes : Nat) (dp : DataPtr)
  | unpick (first count : Nat)
  | pleatJob
deriving DecidableEq, Repr

/-- What the parameter pages and training of one NAND channel report (04_nand_channels.md R110, R111). -/
structure NandInfo where
  cePresent : Nat
  lunsM1    : Nat
  iface     : Nat
  fastest   : Nat
deriving DecidableEq, Repr

/-- How the training of a NAND channel ends (R111): at the rate first tried, at half of it, or not at all. -/
inductive TrainResult where
  | full | half | failed
deriving DecidableEq, Repr

/-- What one servo wedge shows (06_selvedge_servo.md R168 to R176): the SAM found or not, the wedge number and track decoded,
the two burst amplitudes A and B and the sign of C - D, the servo clock cycles since the SAM before, the SAM's offset from its
place in bits, and whether the resync mark after the wedge was found (05_selvedge_channel.md R155). -/
structure WedgeSample where
  found    : Bool
  wedge    : Nat
  track    : Nat
  ambiguous : Bool
  altTrack : Nat
  a        : Nat
  b        : Nat
  cAboveD  : Bool
  cycles   : Nat
  offset   : Int
  resync   : Bool
deriving DecidableEq, Repr

/-- The control packets Bobbin firmware handles (13_host_network.md R370). -/
inductive NetKind where
  | arp | nd | icmpEcho | icmp6Echo
deriving DecidableEq, Repr

/-- The commands the sideband tunnels (R373). -/
inductive MiTunnel where
  | identify (cns : Nat)
  | getFeatures (fid : Nat)
  | getLogPage (lid off len : Nat)
  | other (opcode : Nat)
deriving DecidableEq, Repr


/-- The Agrek mnemonics of the opcode map, without their size letter (10_agrek_model.md R297, R298). -/
inductive Mn where
  | mov | clr | neg | not | add | sub | adc | sbc | mul | div | divu | rem | remu | and | or | xor | andn
  | shl | shr | sar | sal | rol | ror | cmp | tst | inc | dec | xchg | sxtbh | sxtbw | sxtbl | sxthw
  | sxthl | sxtwl | zxtbl | zxthl | zxtwl | nrwlw | nrwlh | nrwlb | eal | pushe | push | pop | bset | bclr
  | bcom | bmov | btst | btas | btac | band | bor | bxor | bscan | bfex | bfin | bbt | bbf | dadd | dsub
  | dmul | ddiv | dmov | dcmp | dshf | dtst | dtol | ltod | ztod | dtoz | zadd | zsub | zcmp | zmov | smov
  | sfil | scmp | sxlt | sfnd | sskp | sscn | scrc | br | beq | bne | blt | bge | ble | bgt | bltu | bgeu
  | bleu | bgtu | bvs | bvc | bds | call | dbp | cas | xadd | post | wcpl | rcpl | trap | chkrd | chkwr
  | winset | winget | kload | kzap | nop | halt | ret | rte | fence | exit | yield | wfi | bkpt
deriving DecidableEq, Repr

/-- One Agrek instruction: its mnemonic, its size (`.b` where the opcode carries none) and its specifiers in order
(10_agrek_model.md R287, R289). -/
structure AgInsn where
  mn  : Mn
  z   : Sz
  ops : List Spec
deriving DecidableEq, Repr

/-- The commands of the block, one constructor per row of spec/opcode_table.json, in the table's order. `ag` is the
agent that makes a register access; `c` the core that executes an Agrek instruction. -/
inductive Instr where
  /-- POWER_ON_DETECT (R519). -/
  | powerOnDetect
  /-- REGULATOR_PGOOD (R452). -/
  | regulatorPgood (reg : Nat)
  /-- REGULATOR_PGOOD_TIMEOUT (R452). -/
  | regulatorPgoodTimeout (reg : Nat)
  /-- PWR_PGOOD_LOSS (R520). -/
  | pwrPgoodLoss (reg : Nat)
  /-- CRYSTAL_RUNNING (R453). -/
  | crystalRunning
  /-- CRYSTAL_TIMEOUT (R453). -/
  | crystalTimeout
  /-- XTAL_RETRY (R453). -/
  | xtalRetry (ag : Agent)
  /-- PLL_LOCK_ACQUIRED (R451). -/
  | pllLockAcquired (plls : Nat)
  /-- PLL_LOCK_LOST (R461). -/
  | pllLockLost (pll : Nat)
  /-- FILL_SRAM_DONE (R410). -/
  | fillSramDone (us : Nat)
  /-- DRAM_TRAINING_DONE (R410). -/
  | dramTrainingDone (ch : Nat) (ok : Bool)
  /-- FILL_DRAM_DONE (R410). -/
  | fillDramDone (ms : Nat)
  /-- BOOT_FIRMWARE_VERIFIED (R475). -/
  | bootFirmwareVerified
  /-- REBUILD_PHASE_DONE (R56). -/
  | rebuildPhaseDone (ms : Nat) (badSlots : List Nat)
  /-- REBUILD_OVERRUN (R58). -/
  | rebuildOverrun
  /-- DEV_RST (R464). -/
  | devRst (ag : Agent) (val : Nat)
  /-- SRESET (R463). -/
  | sreset (ag : Agent) (page : Nat)
  /-- TAP_RESET (R462). -/
  | tapReset
  /-- HOST_CONTROLLER_RESET (R352). -/
  | hostControllerReset
  /-- FLR_FUNCTION0 (R352). -/
  | flrFunction0
  /-- FLR_FUNCTION1 (R352). -/
  | flrFunction1
  /-- NVM_SUBSYSTEM_RESET (R352). -/
  | nvmSubsystemReset
  /-- PERST_N_ASSERT (R352). -/
  | perstNAssert
  /-- DOZE_REQUEST (R446). -/
  | dozeRequest (ag : Agent)
  /-- SLUMBER_REQUEST (R447). -/
  | slumberRequest (ag : Agent)
  /-- VAULT_REQUEST (R447). -/
  | vaultRequest (ag : Agent)
  /-- DOZE_IDLE_TIMEOUT (R444). -/
  | dozeIdleTimeout
  /-- DOZE_BIAS_SETTLED (R446). -/
  | dozeBiasSettled
  /-- DRAM_SELF_REFRESH_ENTERED (R436). -/
  | dramSelfRefreshEntered
  /-- WAKE_EVENT (R450). -/
  | wakeEvent (src : Nat)
  /-- WAKE_TIMER_EXPIRY (R450). -/
  | wakeTimerExpiry
  /-- RETENTION_CHECK_DONE (R454). -/
  | retentionCheckDone (failed : Nat) (arrayLost : Bool) (corrected : Nat)
  /-- DRAM_SELF_REFRESH_EXIT_DONE (R437). -/
  | dramSelfRefreshExitDone (ch : Nat) (ok : Bool)
  /-- BOBBIN_IMAGE_CHECKED (R451). -/
  | bobbinImageChecked (ok : Bool)
  /-- NAND_TRAINING_DONE (R111). -/
  | nandTrainingDone (ch : Nat) (info : NandInfo) (result : TrainResult)
  /-- DOM_OFF_GO (R443). -/
  | domOffGo (ag : Agent)
  /-- DOM_ON_GO (R443). -/
  | domOnGo (ag : Agent)
  /-- POWER_LIMIT_AVERAGE (R457). -/
  | powerLimitAverage (watts : Nat)
  /-- POWER_LIMIT_RESTORE (R457). -/
  | powerLimitRestore
  /-- PAD_TACK_REL (R458). -/
  | padTackRel (ag : Agent) (lo hi : Nat)
  /-- DVFS_REQ (R328). -/
  | dvfsReq (ag : Agent) (cluster point : Nat)
  /-- VID_SETTLE_WAIT (R518). -/
  | vidSettleWait
  /-- DVFS_CORES_STOPPED (R328). -/
  | dvfsCoresStopped (cluster : Nat)
  /-- DVFS_DONE (R328). -/
  | dvfsDone (cluster : Nat)
  /-- FAULT_REQUEST (R487). -/
  | faultRequest (code page info addr : Nat)
  /-- WARD_QUIESCED (R492). -/
  | wardQuiesced
  /-- WARD_RESET_TIMER (R493). -/
  | wardResetTimer
  /-- WDOG_KICK (R489). -/
  | wdogKick (ag : Agent)
  /-- WDOG_HALF_PERIOD (R489). -/
  | wdogHalfPeriod
  /-- WDOG_EXPIRY (R489). -/
  | wdogExpiry
  /-- THIMBLE_HEARTBEAT_TIMEOUT (R489). -/
  | thimbleHeartbeatTimeout
  /-- LOCKSTEP_MISMATCH (R469). -/
  | lockstepMismatch
  /-- REGISTER_WRITE (R500). -/
  | registerWrite (ag : Agent) (addr size val : Nat)
  /-- MISALIGNED_REGISTER_ACCESS (R500). -/
  | misalignedRegisterAccess (ag : Agent) (addr size : Nat) (isRead : Bool)
  /-- COUNTER_LOW_READ (R501). -/
  | counterLowRead (ag : Agent) (addr : Nat)
  /-- LOCK_TAKE (R507). -/
  | lockTake (page : Nat) (takers : List Agent)
  /-- LOCK_RELEASE (R507). -/
  | lockRelease (ag : Agent) (page : Nat)
  /-- INT_CLR (R509). -/
  | intClr (ag : Agent) (page bits events : Nat)
  /-- INT_EN (R509). -/
  | intEn (ag : Agent) (page val : Nat)
  /-- ERR_CODE_CLEAR (R505). -/
  | errCodeClear (ag : Agent) (page val : Nat)
  /-- ROUTE_WRITE (R509). -/
  | routeWrite (ag : Agent) (page val : Nat)
  /-- INTERRUPT_ENTRY (R510). -/
  | interruptEntry (c : CoreId)
  /-- TX_DATA (R511). -/
  | txData (ag : Agent) (byte : Nat)
  /-- UART_RX_BYTE (R511). -/
  | uartRxByte (byte : Nat)
  /-- RX_DATA_READ (R511). -/
  | rxDataRead (ag : Agent)
  /-- GPIO_EDGE (R511). -/
  | gpioEdge (pin : Nat) (level : Bool)
  /-- STG_MIN_WRITE (R20). -/
  | stgMinWrite (ag : Agent) (cls : StgClass) (val : Nat)
  /-- STAGING_ALLOC_REQUEST (R16). -/
  | stagingAllocRequest (cls : StgClass) (panel tag : Nat)
  /-- CE_LEAK_PERIOD (R413); `corr` is a correction (address, syndrome) that falls in the same cycle. -/
  | ceLeakPeriod (page : Nat) (corr : Option (Nat × Nat))
  /-- CAP_CLR (R414). -/
  | capClr (ag : Agent)
  /-- SCRUB_READ (R415). -/
  | scrubRead (w : MemWord) (outcome : CodeOutcome) (writeReached : Bool)
  /-- SCRUB_PASS_TIMER (R415). -/
  | scrubPassTimer (dram finished : Bool)
  /-- DRAM_ACCESS (R433). -/
  | dramAccess (d : DramAcc) (outcome : CodeOutcome)
  /-- DRAM_REFRESH_DUE (R429). -/
  | dramRefreshDue (ch rank : Nat) (demandQueued idle : Bool)
  /-- ACT_TABLE_CLEAR (R430). -/
  | actTableClear
  /-- DRAM_RETRAIN_CHECK (R434). -/
  | dramRetrainCheck (ch sub driftPs : Nat)
  /-- DRAM_RETRAIN_DONE (R434). -/
  | dramRetrainDone (ch sub : Nat) (ok : Bool)
  /-- ZQ_CALIBRATION_DUE (R434). -/
  | zqCalibrationDue
  /-- CA_PARITY_ALERT (R435). -/
  | caParityAlert (ch sub : Nat)
  /-- ARBITRATION_EPOCH (R381). -/
  | arbitrationEpoch
  /-- DRC_CTRL_EN_CLEAR (R438). -/
  | drcCtrlEnClear (ag : Agent) (ch : Nat) (sreset : Bool)
  /-- SQ_TAIL_DOORBELL (R354). -/
  | sqTailDoorbell (q tail : Nat)
  /-- NVME_ITEM_ADMIT (R354). -/
  | nvmeItemAdmit
  /-- READ (R14). -/
  | read (h : Hdr) (slba nlb : Nat) (dp : DataPtr)
  /-- WRITE (R13). -/
  | write (h : Hdr) (slba nlb : Nat) (dp : DataPtr)
  /-- FLUSH (R355). -/
  | flush (h : Hdr)
  /-- COMPARE (R353). -/
  | compare (h : Hdr) (slba nlb : Nat) (dp : DataPtr)
  /-- VERIFY (R353). -/
  | verify (h : Hdr) (slba nlb : Nat)
  /-- WRITE_ZEROES (R88). -/
  | writeZeroes (h : Hdr) (slba nlb : Nat) (deac : Bool)
  /-- DATASET_MANAGEMENT (R88). -/
  | datasetManagement (h : Hdr) (ranges : List (Nat × Nat)) (deallocate : Bool)
  /-- COPY (R353). -/
  | copy (h : Hdr) (sdlba : Nat) (ranges : List (Nat × Nat))
  /-- IDENTIFY (R355). -/
  | identify (h : Hdr) (cns : Nat) (dp : DataPtr)
  /-- GET_FEATURES (R353). -/
  | getFeatures (h : Hdr) (fid : Nat)
  /-- SET_FEATURES (R444). -/
  | setFeatures (h : Hdr) (fid val : Nat)
  /-- GET_LOG_PAGE (R365). -/
  | getLogPage (h : Hdr) (lid off len : Nat) (dp : DataPtr)
  /-- ABORT (R359). -/
  | abort (h : Hdr) (sqid cid : Nat)
  /-- ASYNCHRONOUS_EVENT_REQUEST (R353). -/
  | asynchronousEventRequest (h : Hdr)
  /-- KEEP_ALIVE (R353). -/
  | keepAlive (h : Hdr)
  /-- FIRMWARE_IMAGE_DOWNLOAD (R474). -/
  | firmwareImageDownload (h : Hdr) (off : Nat) (dp : DataPtr)
  /-- FIRMWARE_COMMIT (R474). -/
  | firmwareCommit (h : Hdr)
  /-- FORMAT_NVM (R533). -/
  | formatNvm (h : Hdr) (lbaf ses : Nat)
  /-- NAMESPACE_CREATE (R480). -/
  | namespaceCreate (h : Hdr) (blocks lbaf : Nat)
  /-- NAMESPACE_DELETE (R480). -/
  | namespaceDelete (h : Hdr)
  /-- NAMESPACE_ATTACHMENT (R379). -/
  | namespaceAttachment (h : Hdr) (panel : Nat)
  /-- CREATE_IO_SQ (R378). -/
  | createIoSq (h : Hdr) (qid size cqid : Nat)
  /-- CREATE_IO_CQ (R354). -/
  | createIoCq (h : Hdr) (qid size vec : Nat)
  /-- DELETE_IO_SQ (R354). -/
  | deleteIoSq (h : Hdr) (qid : Nat)
  /-- DELETE_IO_CQ (R354). -/
  | deleteIoCq (h : Hdr) (qid : Nat)
  /-- PROGRAM_DOWNLOAD (R358). -/
  | programDownload (h : Hdr) (pid ptype : Nat) (dp : DataPtr)
  /-- PROGRAM_DELETE (R358). -/
  | programDelete (h : Hdr) (pid : Nat)
  /-- EXECUTE_PROGRAM (R359). -/
  | executeProgram (h : Hdr) (pid : Nat) (dp : DataPtr)
  /-- MEMORY_RANGE_SET (R360). -/
  | memoryRangeSet (h : Hdr) (setId : Nat) (ranges : List (Nat × Nat))
  /-- MEMORY_READ (R360). -/
  | memoryRead (h : Hdr) (off len : Nat) (dp : DataPtr)
  /-- MEMORY_WRITE (R360). -/
  | memoryWrite (h : Hdr) (off len : Nat) (dp : DataPtr)
  /-- MEMORY_COPY (R360). -/
  | memoryCopy (h : Hdr) (off nsid slba nlb : Nat) (toMemory : Bool)
  /-- REGISTER_RECORD_RANGE (R50). -/
  | registerRecordRange (h : Hdr) (first count recLen : Nat) (nocmp : Bool)
  /-- FILTER_STREAM (R362). -/
  | filterStream (h : Hdr) (reportBase outBase first count slot : Nat) (streamMode : Bool) (firstOffset outLen : Nat)
  /-- HEM_CREATE (R94). -/
  | hemCreate (h : Hdr) (first count : Nat)
  /-- HEM_APPEND (R97). -/
  | hemAppend (h : Hdr) (region bytes : Nat) (dp : DataPtr)
  /-- UNPICK (R89). -/
  | unpick (h : Hdr) (first count : Nat)
  /-- PLEAT_JOB (R361). -/
  | pleatJob (h : Hdr) (job : Nat)
  /-- SET_LEGACY_PROFILE (R368). -/
  | setLegacyProfile (h : Hdr) (idx : Nat) (dp : DataPtr)
  /-- BIND_LEGACY_PROFILE (R361). -/
  | bindLegacyProfile (h : Hdr) (idx : Nat)
  /-- MAP_UPDATE_APPLY (R38). -/
  | mapUpdateApply (seq : Nat)
  /-- HEAT_HALVE_TICK (R42). -/
  | heatHalveTick
  /-- DEMOTE_AGE_EXPIRY (R44). -/
  | demoteAgeExpiry (group : Nat)
  /-- DEMOTION_COPY_DONE (R45). -/
  | demotionCopyDone (group : Nat)
  /-- CHECKPOINT_DUE (R52). -/
  | checkpointDue
  /-- CHECKPOINT_DURABLE (R53). -/
  | checkpointDurable
  /-- PFAIL_N_ASSERT (R61). -/
  | pfailNAssert
  /-- PFAIL_LATCH (R61). -/
  | pfailLatch
  /-- FLUSH_DONE (R64). -/
  | flushDone (ms : Nat) (okA okB : Bool)
  /-- SEAM_READ_ISSUE (R11). -/
  | seamReadIssue (job : Nat)
  /-- NAND_SLOT_DECODED (R116). -/
  | nandSlotDecoded (job slot : Nat) (ok : Bool) (bits : Nat)
  /-- READ_RETRY_ATTEMPT (R116). -/
  | readRetryAttempt (job : Nat) (okSlots : List Nat)
  /-- SOFT_JOB_SUBMIT (R117). -/
  | softJobSubmit (job slot : Nat)
  /-- LDD_JOB_COMPLETE (R117). -/
  | lddJobComplete (ldd : Nat) (ok : Bool)
  /-- NAND_PROGRAM_DONE (R123). -/
  | nandProgramDone (op : Nat) (ok : Bool)
  /-- NAND_ERASE_DONE (R79). -/
  | nandEraseDone (op : Nat) (ok scrambled : Bool)
  /-- TARGET_BUSY_TIMEOUT (R123). -/
  | targetBusyTimeout (ch ce : Nat)
  /-- NFC_CTRL_EN_CLEAR (R124). -/
  | nfcCtrlEnClear (ag : Agent) (ch : Nat)
  /-- RELOCATION_COMMIT (R76). -/
  | relocationCommit (copy : Nat)
  /-- VFY_GO (R100). -/
  | vfyGo (ag : Agent)
  /-- HEM_CHAIN_CHECK_DONE (R100). -/
  | hemChainCheckDone
  /-- HEM_SEAL_TIMER (R97). -/
  | hemSealTimer (region : Nat)
  /-- HEM_MIGRATION_TRIGGER (R101). -/
  | hemMigrationTrigger (region : Nat)
  /-- HEM_MIGRATION_READ_DONE (R101). -/
  | hemMigrationReadDone (region : Nat)
  /-- HEM_RELEASE (R483). -/
  | hemRelease (ag : Agent)
  /-- PA_GO (R131). -/
  | paGo (ag : Agent)
  /-- PA_FRAME_DONE (R130). -/
  | paFrameDone (data : Nat)
  /-- ARC_FLT_N_ASSERT (R132). -/
  | arcFltNAssert
  /-- RING_TAIL_WRITE (R133). -/
  | ringTailWrite (ag : Agent) (tail : Nat)
  /-- SLV_REQUEST_START (R133). -/
  | slvRequestStart
  /-- SLV_DECODE_ATTEMPT_DONE (R152). -/
  | slvDecodeAttemptDone (scores : List (Int × Nat)) (decoded : Bool)
  /-- SLV_SECTOR_WRITTEN (R156). -/
  | slvSectorWritten
  /-- SLV_ABORT (R160). -/
  | slvAbort (fromHem : Bool) (idx : Nat)
  /-- SLV_CTRL_EN_CLEAR (R159). -/
  | slvCtrlEnClear (ag : Agent)
  /-- ZONE_CFG_WRITE (R144). -/
  | zoneCfgWrite (ag : Agent) (zone : Nat) (rate spt : Nat)
  /-- SERVO_WEDGE (R168). -/
  | servoWedge (w : WedgeSample)
  /-- SEEK_GO (R174). -/
  | seekGo (ag : Agent)
  /-- SEEK_TIMEOUT (R173). -/
  | seekTimeout
  /-- SPN_GO (R175). -/
  | spnGo (ag : Agent)
  /-- SPN_STOP (R175). -/
  | spnStop (ag : Agent)
  /-- PARK (R185). -/
  | park (ag : Agent)
  /-- SPINUP_TIMEOUT (R175). -/
  | spinupTimeout
  /-- TRD_ATTN_N_ASSERT (R176). -/
  | trdAttnNAssert (shock : Bool)
  /-- TREADLE_RESPONSE (R181). -/
  | treadleResponse (frame : Nat)
  /-- TRD_NOP (R179). -/
  | trdNop (ag : Agent)
  /-- RD_REG (R179). -/
  | rdReg (ag : Agent)
  /-- WR_REG (R179). -/
  | wrReg (ag : Agent)
  /-- CLR_FLT (R179). -/
  | clrFlt (ag : Agent)
  /-- SVO_CTRL_EN_CLEAR (R182). -/
  | svoCtrlEnClear (ag : Agent)
  /-- LOAD_GO (R200). -/
  | loadGo (ag : Agent) (unit : Nat)
  /-- PINK_LOAD_DONE (R200). -/
  | pinkLoadDone (unit : Nat)
  /-- PNK_UNIT_FILTERED (R202). -/
  | pnkUnitFiltered (unit : Nat)
  /-- PNK_CTRL_EN_CLEAR (R207). -/
  | pnkCtrlEnClear (ag : Agent) (unit : Nat)
  /-- JOB_GO (R235). -/
  | jobGo (ag : Agent) (engine : Nat)
  /-- INLINE_JOB_ENQUEUE (R213). -/
  | inlineJobEnqueue (seq : Nat)
  /-- DECODE_JOB_ENQUEUE (R215). -/
  | decodeJobEnqueue (job : Nat)
  /-- PLEAT_JOB_COMPLETE (R222). -/
  | pleatJobComplete (engine lane : Nat)
  /-- PLT_CTRL_EN_CLEAR (R231). -/
  | pltCtrlEnClear (ag : Agent) (engine : Nat)
  /-- BATCH_GO (R244). -/
  | batchGo (ag : Agent)
  /-- GAUGE_SEARCH (R240). -/
  | gaugeSearch
  /-- GAUGE_COUNT (R241). -/
  | gaugeCount
  /-- GAUGE_UPDATE (R246). -/
  | gaugeUpdate
  /-- INSERT (R248). -/
  | insert
  /-- DELETE (R245). -/
  | delete
  /-- GAUGE_WRITE (R245). -/
  | gaugeWrite
  /-- GAUGE_READ (R245). -/
  | gaugeRead
  /-- GAUGE_MOVE_COMMIT (R249). -/
  | gaugeMoveCommit
  /-- GAUGE_SPREAD_MOVE (R250). -/
  | gaugeSpreadMove (src dst : Nat)
  /-- WIDTH_WRITE (R237). -/
  | widthWrite (ag : Agent) (width : Nat)
  /-- GCB_FRAME_RECEIVE (R255). -/
  | gcbFrameReceive (words : List Nat) (matchInLow : Bool)
  /-- GCB_FRAME_TIMEOUT (R256). -/
  | gcbFrameTimeout (tag : Nat)
  /-- GCB_LINK_TIMER (R254). -/
  | gcbLinkTimer (traffic : Bool)
  /-- GAU_CTRL_EN_CLEAR (R257). -/
  | gauCtrlEnClear (ag : Agent)
  /-- SPOOL_SHUTTLE_DISPATCH (R335). -/
  | spoolShuttleDispatch
  /-- SPOOL_UNIT_DISPATCH (R335). -/
  | spoolUnitDispatch
  /-- AFFINITY_AGE_EXPIRY (R335). -/
  | affinityAgeExpiry (item : Nat)
  /-- PROGRAM (R336). -/
  | program (item : Nat)
  /-- SEAM_STREAM (R189). -/
  | seamStream (item : Nat)
  /-- SEAM_REGISTER (R50). -/
  | seamRegister (item : Nat)
  /-- SEAM_UNPICK (R89). -/
  | seamUnpick (item : Nat)
  /-- SEAM_HEM_CREATE (R94). -/
  | seamHemCreate (item : Nat)
  /-- SEAM_HEM_APPEND (R97). -/
  | seamHemAppend (item : Nat)
  /-- PINK_LOAD (R200). -/
  | pinkLoad (item : Nat)
  /-- PLEAT (R231). -/
  | pleat (item : Nat)
  /-- GAUGE (R244). -/
  | gauge (item : Nat)
  /-- DMA (R351). -/
  | dma (item : Nat)
  /-- DMA_REQUEST_COMPLETE (R351). -/
  | dmaRequestComplete (item code : Nat)
  /-- DMA_TIMEOUT (R351). -/
  | dmaTimeout (item : Nat)
  /-- BUF_RELEASE (R339). -/
  | bufRelease (item : Nat)
  /-- STG_REL_GO (R346). -/
  | stgRelGo (ag : Agent)
  /-- CANCEL_GO (R340). -/
  | cancelGo (ag : Agent)
  /-- SPL_CTRL_EN_CLEAR (R342). -/
  | splCtrlEnClear (ag : Agent)
  /-- CORE_EN_WRITE (R342). -/
  | coreEnWrite (ag : Agent) (cluster val : Nat)
  /-- TAKEUP_GRANT (R343). -/
  | takeupGrant
  /-- COMPLETION_DELIVERY (R338). -/
  | completionDelivery
  /-- TRACE_RECORD_ACK (R345). -/
  | traceRecordAck
  /-- BOBBIN_RESTART (R484). -/
  | bobbinRestart (core : Nat) (digestOk : Bool)
  /-- PCIE_LINK_UP (R349). -/
  | pcieLinkUp (speed width : Nat) (sris : Bool)
  /-- PCIE_LINK_DOWN (R349). -/
  | pcieLinkDown
  /-- ETH_PORT_UP (R370). -/
  | ethPortUp (port : Nat)
  /-- ETH_PORT_DOWN (R370). -/
  | ethPortDown (port : Nat)
  /-- GROUPING_WRITE (R3). -/
  | groupingWrite (ag : Agent) (val : Nat)
  /-- TCP_CONNECT (R371). -/
  | tcpConnect (nqn : List Nat) (ctrl qid : Nat) (hdgst ddgst : Bool)
  /-- TCP_CONNECTION_LOST (R372). -/
  | tcpConnectionLost (conn : Nat)
  /-- TCP_RETRANSMIT_TIMEOUT (R370). -/
  | tcpRetransmitTimeout (conn : Nat)
  /-- NVME_TCP_CAPSULE (R371). -/
  | nvmeTcpCapsule (conn cid nsid rsvd : Nat) (io : IoCmd)
  /-- NETWORK_CONTROL_PACKET (R370). -/
  | networkControlPacket (port : Nat) (kind : NetKind)
  /-- READ_NVME_MI_DATA_STRUCTURE (R373). -/
  | readNvmeMiDataStructure (dtyp : Nat)
  /-- NVM_SUBSYSTEM_HEALTH_STATUS_POLL (R373). -/
  | nvmSubsystemHealthStatusPoll
  /-- CONTROLLER_HEALTH_STATUS_POLL (R373). -/
  | controllerHealthStatusPoll
  /-- CONFIGURATION_GET (R373). -/
  | configurationGet (cid : Nat)
  /-- CONFIGURATION_SET (R373). -/
  | configurationSet (cid val : Nat)
  /-- VPD_READ (R373). -/
  | vpdRead (off len : Nat)
  /-- MI_TUNNELLED_COMMAND (R373). -/
  | miTunnelledCommand (cmd : MiTunnel)
  /-- PAN_ACTIVATE (R382). -/
  | panActivate (ag : Agent)
  /-- PAN_RESET (R383). -/
  | panReset (ag : Agent)
  /-- PAN_REMOVE (R383). -/
  | panRemove (ag : Agent)
  /-- PANEL_DRAIN_DONE (R383). -/
  | panelDrainDone
  /-- PANEL_DRAIN_TIMEOUT (R383). -/
  | panelDrainTimeout
  /-- PANEL_SQUASH_DONE (R383). -/
  | panelSquashDone
  /-- PANEL_ZEROING_DONE (R383). -/
  | panelZeroingDone
  /-- SQ_PANEL_WRITE (R386). -/
  | sqPanelWrite (ag : Agent) (q panel : Nat)
  /-- REQ_GO (R391). -/
  | reqGo (ag : Agent)
  /-- MODE_DRAIN_DONE (R391). -/
  | modeDrainDone
  /-- MODE_ENABLE_DONE (R391). -/
  | modeEnableDone
  /-- PATTERN_READ (R483). -/
  | patternRead (ag : Agent)
  /-- PATTERN_WRITE (R483). -/
  | patternWrite (ag : Agent)
  /-- PATTERN_COPY_PROGRAMMED (R483). -/
  | patternCopyProgrammed (ok : Bool)
  /-- KEY_UNLOCK (R481). -/
  | keyUnlock (ag : Agent)
  /-- KEY_LOCK (R481). -/
  | keyLock (ag : Agent)
  /-- KEY_POLICY (R483). -/
  | keyPolicy (ag : Agent)
  /-- FW_WRITE (R474). -/
  | fwWrite (ag : Agent)
  /-- MOV (R300). -/
  | mov (c : CoreId) (z : Sz) (src dst : Spec)
  /-- CLR (R300). -/
  | clr (c : CoreId) (z : Sz) (dst : Spec)
  /-- NEG (R301). -/
  | neg (c : CoreId) (z : Sz) (src dst : Spec)
  /-- NOT (R300). -/
  | not (c : CoreId) (z : Sz) (src dst : Spec)
  /-- ADD (R300). -/
  | add (c : CoreId) (z : Sz) (src dst : Spec)
  /-- SUB (R300). -/
  | sub (c : CoreId) (z : Sz) (src dst : Spec)
  /-- ADC (R300). -/
  | adc (c : CoreId) (z : Sz) (src dst : Spec)
  /-- SBC (R300). -/
  | sbc (c : CoreId) (z : Sz) (src dst : Spec)
  /-- MUL (R300). -/
  | mul (c : CoreId) (z : Sz) (src dst : Spec)
  /-- DIV (R301). -/
  | div (c : CoreId) (z : Sz) (src dst : Spec)
  /-- DIVU (R300). -/
  | divu (c : CoreId) (z : Sz) (src dst : Spec)
  /-- REM (R301). -/
  | rem (c : CoreId) (z : Sz) (src dst : Spec)
  /-- REMU (R300). -/
  | remu (c : CoreId) (z : Sz) (src dst : Spec)
  /-- AND (R300). -/
  | and (c : CoreId) (z : Sz) (src dst : Spec)
  /-- OR (R300). -/
  | or (c : CoreId) (z : Sz) (src dst : Spec)
  /-- XOR (R300). -/
  | xor (c : CoreId) (z : Sz) (src dst : Spec)
  /-- ANDN (R300). -/
  | andn (c : CoreId) (z : Sz) (src dst : Spec)
  /-- SHL (R302). -/
  | shl (c : CoreId) (z : Sz) (count dst : Spec)
  /-- SHR (R302). -/
  | shr (c : CoreId) (z : Sz) (count dst : Spec)
  /-- SAR (R302). -/
  | sar (c : CoreId) (z : Sz) (count dst : Spec)
  /-- SAL (R302). -/
  | sal (c : CoreId) (z : Sz) (count dst : Spec)
  /-- ROL (R302). -/
  | rol (c : CoreId) (z : Sz) (count dst : Spec)
  /-- ROR (R302). -/
  | ror (c : CoreId) (z : Sz) (count dst : Spec)
  /-- CMP (R300). -/
  | cmp (c : CoreId) (z : Sz) (op1 op2 : Spec)
  /-- TST (R300). -/
  | tst (c : CoreId) (z : Sz) (src : Spec)
  /-- INC (R300). -/
  | inc (c : CoreId) (z : Sz) (dst : Spec)
  /-- DEC (R300). -/
  | dec (c : CoreId) (z : Sz) (dst : Spec)
  /-- XCHG (R300). -/
  | xchg (c : CoreId) (z : Sz) (a b : Spec)
  /-- SXTBH (R300). -/
  | sxtbh (c : CoreId) (src dst : Spec)
  /-- SXTBW (R300). -/
  | sxtbw (c : CoreId) (src dst : Spec)
  /-- SXTBL (R300). -/
  | sxtbl (c : CoreId) (src dst : Spec)
  /-- SXTHW (R300). -/
  | sxthw (c : CoreId) (src dst : Spec)
  /-- SXTHL (R300). -/
  | sxthl (c : CoreId) (src dst : Spec)
  /-- SXTWL (R300). -/
  | sxtwl (c : CoreId) (src dst : Spec)
  /-- ZXTBL (R300). -/
  | zxtbl (c : CoreId) (src dst : Spec)
  /-- ZXTHL (R300). -/
  | zxthl (c : CoreId) (src dst : Spec)
  /-- ZXTWL (R300). -/
  | zxtwl (c : CoreId) (src dst : Spec)
  /-- NRWLW (R300). -/
  | nrwlw (c : CoreId) (src dst : Spec)
  /-- NRWLH (R300). -/
  | nrwlh (c : CoreId) (src dst : Spec)
  /-- NRWLB (R300). -/
  | nrwlb (c : CoreId) (src dst : Spec)
  /-- EAL (R300). -/
  | eal (c : CoreId) (addr dst : Spec)
  /-- PUSHE (R300). -/
  | pushe (c : CoreId) (addr : Spec)
  /-- PUSH (R264). -/
  | push (c : CoreId) (src : Spec)
  /-- POP (R300). -/
  | pop (c : CoreId) (dst : Spec)
  /-- BSET (R303). -/
  | bset (c : CoreId) (bit : Spec)
  /-- BCLR (R303). -/
  | bclr (c : CoreId) (bit : Spec)
  /-- BCOM (R303). -/
  | bcom (c : CoreId) (bit : Spec)
  /-- BMOV (R303). -/
  | bmov (c : CoreId) (src dst : Spec)
  /-- BTST (R303). -/
  | btst (c : CoreId) (bit : Spec)
  /-- BTAS (R303). -/
  | btas (c : CoreId) (bit : Spec)
  /-- BTAC (R303). -/
  | btac (c : CoreId) (bit : Spec)
  /-- BAND (R303). -/
  | band (c : CoreId) (src dst : Spec)
  /-- BOR (R303). -/
  | bor (c : CoreId) (src dst : Spec)
  /-- BXOR (R303). -/
  | bxor (c : CoreId) (src dst : Spec)
  /-- BSCAN (R303). -/
  | bscan (c : CoreId) (field count dst : Spec)
  /-- BFEX (R303). -/
  | bfex (c : CoreId) (field width dst : Spec)
  /-- BFIN (R303). -/
  | bfin (c : CoreId) (src width field : Spec)
  /-- BBT (R303). -/
  | bbt (c : CoreId) (bit target : Spec)
  /-- BBF (R303). -/
  | bbf (c : CoreId) (bit target : Spec)
  /-- DADD (R305). -/
  | dadd (c : CoreId) (len src dst : Spec)
  /-- DSUB (R305). -/
  | dsub (c : CoreId) (len src dst : Spec)
  /-- DMUL (R305). -/
  | dmul (c : CoreId) (len src dst : Spec)
  /-- DDIV (R305). -/
  | ddiv (c : CoreId) (len src dst : Spec)
  /-- DMOV (R305). -/
  | dmov (c : CoreId) (len src dst : Spec)
  /-- DCMP (R307). -/
  | dcmp (c : CoreId) (len src dst : Spec)
  /-- DSHF (R306). -/
  | dshf (c : CoreId) (len shift dst : Spec)
  /-- DTST (R305). -/
  | dtst (c : CoreId) (len src : Spec)
  /-- DTOL (R307). -/
  | dtol (c : CoreId) (len src dst : Spec)
  /-- LTOD (R305). -/
  | ltod (c : CoreId) (len src dst : Spec)
  /-- ZTOD (R305). -/
  | ztod (c : CoreId) (len src dst : Spec)
  /-- DTOZ (R305). -/
  | dtoz (c : CoreId) (len src dst : Spec)
  /-- ZADD (R305). -/
  | zadd (c : CoreId) (len src dst : Spec)
  /-- ZSUB (R305). -/
  | zsub (c : CoreId) (len src dst : Spec)
  /-- ZCMP (R307). -/
  | zcmp (c : CoreId) (len src dst : Spec)
  /-- ZMOV (R305). -/
  | zmov (c : CoreId) (len src dst : Spec)
  /-- SMOV (R293). -/
  | smov (c : CoreId) (len src dst : Spec)
  /-- SFIL (R308). -/
  | sfil (c : CoreId) (len byte dst : Spec)
  /-- SCMP (R308). -/
  | scmp (c : CoreId) (len a b : Spec)
  /-- SXLT (R308). -/
  | sxlt (c : CoreId) (len table buf : Spec)
  /-- SFND (R309). -/
  | sfnd (c : CoreId) (len byte buf : Spec)
  /-- SSKP (R309). -/
  | sskp (c : CoreId) (len byte buf : Spec)
  /-- SSCN (R309). -/
  | sscn (c : CoreId) (len table buf : Spec)
  /-- SCRC (R308). -/
  | scrc (c : CoreId) (len buf crc : Spec)
  /-- BR (R311). -/
  | br (c : CoreId) (target : Spec)
  /-- BEQ (R311). -/
  | beq (c : CoreId) (target : Spec)
  /-- BNE (R311). -/
  | bne (c : CoreId) (target : Spec)
  /-- BLT (R311). -/
  | blt (c : CoreId) (target : Spec)
  /-- BGE (R311). -/
  | bge (c : CoreId) (target : Spec)
  /-- BLE (R311). -/
  | ble (c : CoreId) (target : Spec)
  /-- BGT (R311). -/
  | bgt (c : CoreId) (target : Spec)
  /-- BLTU (R311). -/
  | bltu (c : CoreId) (target : Spec)
  /-- BGEU (R311). -/
  | bgeu (c : CoreId) (target : Spec)
  /-- BLEU (R311). -/
  | bleu (c : CoreId) (target : Spec)
  /-- BGTU (R311). -/
  | bgtu (c : CoreId) (target : Spec)
  /-- BVS (R311). -/
  | bvs (c : CoreId) (target : Spec)
  /-- BVC (R311). -/
  | bvc (c : CoreId) (target : Spec)
  /-- BDS (R311). -/
  | bds (c : CoreId) (target : Spec)
  /-- CALL (R312). -/
  | call (c : CoreId) (target : Spec)
  /-- DBP (R312). -/
  | dbp (c : CoreId) (count target : Spec)
  /-- CAS (R314). -/
  | cas (c : CoreId) (z : Sz) (new expected target : Spec)
  /-- XADD (R314). -/
  | xadd (c : CoreId) (z : Sz) (src target : Spec)
  /-- POST (R316). -/
  | post (c : CoreId) (desc status : Spec)
  /-- WCPL (R317). -/
  | wcpl (c : CoreId) (dst : Spec)
  /-- RCPL (R317). -/
  | rcpl (c : CoreId) (dst : Spec)
  /-- TRAP (R312). -/
  | trap (c : CoreId) (info : Spec)
  /-- REP (R318). -/
  | rep (c : CoreId) (body : AgInsn)
  /-- REPZ (R318). -/
  | repz (c : CoreId) (body : AgInsn)
  /-- REPNZ (R318). -/
  | repnz (c : CoreId) (body : AgInsn)
  /-- REPU (R319). -/
  | repu (c : CoreId) (body : AgInsn)
  /-- CHKRD (R312). -/
  | chkrd (c : CoreId) (addr len : Spec)
  /-- CHKWR (R312). -/
  | chkwr (c : CoreId) (addr len : Spec)
  /-- WINSET (R315). -/
  | winset (c : CoreId) (win desc : Spec)
  /-- WINGET (R315). -/
  | winget (c : CoreId) (win desc : Spec)
  /-- KLOAD (R315). -/
  | kload (c : CoreId) (slot key : Spec)
  /-- KZAP (R315). -/
  | kzap (c : CoreId) (slot : Spec)
  /-- NOP (R312). -/
  | nop (c : CoreId)
  /-- HALT (R312). -/
  | halt (c : CoreId)
  /-- RET (R312). -/
  | ret (c : CoreId)
  /-- RTE (R323). -/
  | rte (c : CoreId)
  /-- FENCE (R313). -/
  | fence (c : CoreId)
  /-- EXIT (R337). -/
  | exit (c : CoreId)
  /-- YIELD (R337). -/
  | yield (c : CoreId)
  /-- WFI (R312). -/
  | wfi (c : CoreId)
  /-- BKPT (R312). -/
  | bkpt (c : CoreId)
  /-- ILLEGAL_OPCODE (R288). -/
  | illegalOpcode (c : CoreId) (bytes : List Nat)
  /-- POWER_LOSS (R519). -/
  | powerLoss
  /-- CC_EN_SET (R352). -/
  | ccEnSet
  /-- CQ_HEAD_DOORBELL (R348). -/
  | cqHeadDoorbell (q head : Nat)
  /-- PCIE_D_STATE_CHANGE (R349). -/
  | pcieDStateChange (d3hot : Bool)
  /-- PERST_N_DEASSERT (R450). -/
  | perstNDeassert
  /-- PFAIL_N_DEASSERT (R61). -/
  | pfailNDeassert
  /-- H2CDATA_PDU (R372). -/
  | h2cdataPdu (conn cid off : Nat) (data : List Byte)
  /-- I3C_DYNAMIC_ADDRESS_ASSIGNMENT (R373). -/
  | i3cDynamicAddressAssignment (addr : Nat)
  /-- DRAM_POWER_DOWN_IDLE (R437). -/
  | dramPowerDownIdle (ch : Nat)
  /-- PAUSE_FRAME_RECEIVED (R370). -/
  | pauseFrameReceived (port prioMask quanta : Nat)
deriving DecidableEq, Repr

end Sys2Proof
end

