-- ==== Sys2Proof/Decode.lean ====
section
/-!
DEFINITION. Sys2Proof/Decode.lean: the host's question which command a table word spells. No row of spec/opcode_table.json
gives bits, so no word spells a command (log entry 1). The byte encoding of the Agrek instructions, which the spec does give
(10_agrek_model.md R281, R287 to R298), is read and written in Machine/AgrekCodec.lean.
-/

namespace Sys2Proof

/-- The command a word spells by the table's bits: none, for the table gives no row bits. -/
def decodeTableWord (_nbits _w : Nat) : Option Instr := none

end Sys2Proof
end

