-- ==== Sys2Proof/Config.lean ====
section
/-!
DEFINITION. Sys2Proof/Config.lean: what the spec leaves open, as constants without a body, so that no proof can see a value.
-/

namespace Sys2Proof

/-- A fresh value of `w` bits where the spec leaves one open: applied to the state's counter `free` (log entry 7). -/
opaque Config.freeValue (w : Nat) : Nat → BitVec w


/-- The bytes of Thimble's ROM (10_agrek_model.md R262; 19_trust_pattern.md R469), by address from the ROM's base. -/
opaque Config.romByte : Nat → Byte

/-- The key that wraps a SECRET entry, derived from the OTP root key and the host secret (19_trust_pattern.md R480). -/
opaque Config.deriveKey : List Byte → List Byte → List Byte

/-- The Pleat compressor (08_pleat.md R221): any stream that follows the format is right. The arguments are the level, the
window's bytes, the dictionary bytes and the bytes to compress; the result is the tokens of one block. -/
opaque Config.pleatEncode : Nat → Nat → List Byte → List Byte → List Byte

/-- The bytes of a saved Pleat context (08_pleat.md R230): its content is private to the engines. By stamp and offset. -/
opaque Config.ctxByte : Nat → Nat → Byte

/-- The scramble pattern that overwrites a cold-tier unit (15_modes.md R397 note 10), by its stamp and byte: the spec gives no bytes. -/
opaque Config.scrambleByte : Nat → Nat → Byte

/-- The bytes of an Identify data structure beyond the fields the rules state (13_host_network.md R353, R355), by CNS and
offset. -/
opaque Config.identifyByte : Nat → Nat → Byte

/-- The bytes of the Vital Product Data (13_host_network.md R373). -/
opaque Config.vpdByte : Nat → Byte

/-- The bytes of an NVMe-MI data structure by type and offset (13_host_network.md R373). -/
opaque Config.miByte : Nat → Nat → Byte

/-- The bytes of a standard log page (13_host_network.md R353), by page and offset. -/
opaque Config.logByte : Nat → Nat → Byte

/-- The value of an NVMe feature that has never been set (13_host_network.md R353). -/
opaque Config.featureDefault : Nat → Nat

/-- The preamplifier register that selects the head (05_selvedge_channel.md R129): the integrator's part fixes it. -/
opaque Config.headRegister : BitVec 7

end Sys2Proof
end

