-- ==== Sys2Proof/Machine/Crypto.lean ====
section
/-!
DEFINITION. Sys2Proof/Machine/Crypto.lean: the published algorithms the spec names: AES-256 and XTS (04_nand_channels.md R114),
AES key wrap (19_trust_pattern.md R480), SHA-256, HMAC-SHA-256, SHA-384 and ECDSA P-384 (R471, R472, R476), and the check sums
(CRC-32C R39; the frame checks of the serial links take their polynomial as a parameter).
-/

namespace Sys2Proof.Machine

/-- A number as `n` bytes, low byte first (00_scope.md, Notation). -/
def natLE : Nat → Nat → List Byte
  | 0, _ => []
  | n + 1, v => BitVec.ofNat 8 v :: natLE n (v / 256)

/-- The number of a list of bytes, low byte first. -/
def leNat : List Byte → Nat
  | [] => 0
  | b :: r => b.toNat + 256 * leNat r

/-- The number of a list of bytes, high byte first. -/
def beNat (l : List Byte) : Nat := leNat l.reverse
/-- A number as `n` bytes, high byte first. -/
def natBE (n v : Nat) : List Byte := (natLE n v).reverse

/-- The exclusive or of two byte strings. -/
def xorBytes (a b : List Byte) : List Byte := List.zipWith (· ^^^ ·) a b

/-- A list cut into pieces of `n`, for at most `fuel` pieces. -/
def chunksOf {α : Type} (n : Nat) : Nat → List α → List (List α)
  | 0, _ => []
  | _ + 1, [] => []
  | fuel + 1, l => l.take n :: chunksOf n fuel (l.drop n)

/-! ### Check sums -/

/-- One byte into a reflected CRC of 32 bits with polynomial 0x82F63B78 (CRC-32C). -/
def crc32cByte (c : BitVec 32) (b : Byte) : BitVec 32 :=
  Nat.rec (c ^^^ b.setWidth 32) (fun _ x => if x.getLsbD 0 then (x >>> 1) ^^^ 0x82F63B78#32 else x >>> 1) 8

/-- CRC-32C continued from a running register value. -/
def crc32cFrom (c : BitVec 32) (l : List Byte) : BitVec 32 := l.foldl crc32cByte c
/-- CRC-32C of a byte string. -/
def crc32c (l : List Byte) : Nat := (~~~ crc32cFrom 0xFFFFFFFF#32 l).toNat

/-- One bit, high bit first, into an unreflected CRC of width `w` and polynomial `poly`. -/
def crcBit (w poly c : Nat) (b : Bool) : Nat :=
  let top := c.testBit (w - 1)
  let c2 := (2 * c) % 2 ^ w
  if top != b then Nat.xor c2 poly else c2

/-- An unreflected CRC over bits, high bit first. -/
def crcBits (w poly init : Nat) (bits : List Bool) : Nat := bits.foldl (crcBit w poly) init

/-- The low `n` bits of a number, high bit first. -/
def bitsBE (n v : Nat) : List Bool := (List.range n).map fun i => v.testBit (n - 1 - i)

/-! ### AES-256 -/

/-- Doubling in the field of AES. -/
def gfDouble (a : Byte) : Byte := if a.getLsbD 7 then (a <<< 1) ^^^ 0x1B#8 else a <<< 1
/-- Product in the field of AES, over the bits of `b`. -/
def gfMul (a b : Byte) : Byte :=
  ((List.range 8).foldl (fun (acc : Byte × Byte) i =>
    (if b.getLsbD i then acc.1 ^^^ acc.2 else acc.1, gfDouble acc.2)) (0#8, a)).1
/-- The inverse in the field of AES (0 for 0), as the 254th power. -/
def gfInv (a : Byte) : Byte :=
  let a2 := gfMul a a
  let a3 := gfMul a2 a
  let a6 := gfMul a3 a3
  let a12 := gfMul a6 a6
  let a15 := gfMul a12 a3
  let a30 := gfMul a15 a15
  let a60 := gfMul a30 a30
  let a120 := gfMul a60 a60
  let a126 := gfMul a120 a6
  let a252 := gfMul a126 a126
  gfMul a252 a2
/-- The AES substitution. -/
def aesSub (a : Byte) : Byte :=
  let x := gfInv a
  x ^^^ x.rotateLeft 1 ^^^ x.rotateLeft 2 ^^^ x.rotateLeft 3 ^^^ x.rotateLeft 4 ^^^ 0x63#8
/-- The inverse substitution. -/
def aesSubInv (a : Byte) : Byte :=
  gfInv (a.rotateLeft 1 ^^^ a.rotateLeft 3 ^^^ a.rotateLeft 6 ^^^ 0x05#8)

/-- The next words of the key schedule: `ws` holds the words so far, newest first; `i` counts them. -/
def aesExpand : Nat → Nat → Byte → List (List Byte) → List (List Byte)
  | 0, _, _, ws => ws
  | fuel + 1, i, rcon, ws =>
    let prev := ws.headD []
    let back := ws.getD 7 []
    if i % 8 = 0 then
      let t := (prev.drop 1 ++ prev.take 1).map aesSub
      aesExpand fuel (i + 1) (gfDouble rcon) (xorBytes back (xorBytes t [rcon, 0#8, 0#8, 0#8]) :: ws)
    else if i % 8 = 4 then aesExpand fuel (i + 1) rcon (xorBytes back (prev.map aesSub) :: ws)
    else aesExpand fuel (i + 1) rcon (xorBytes back prev :: ws)

/-- The fifteen round keys of a 32-byte key. -/
def aesKeys (key : List Byte) : List (List Byte) :=
  (chunksOf 4 15 (aesExpand 52 8 1#8 (chunksOf 4 8 key).reverse).reverse).map List.flatten

/-- Rows shifted: byte `4c + r` comes from column `c + r` (or `c - r` for the inverse). -/
def aesShift (inv : Bool) (b : List Byte) : List Byte :=
  (List.range 16).map fun i => b.getD ((4 * (i / 4 + (if inv then 4 - i % 4 else i % 4)) + i % 4) % 16) 0#8
/-- The columns mixed by the circulant of `c`. -/
def aesMix (c : List Byte) (b : List Byte) : List Byte :=
  (List.range 16).map fun i =>
    (List.range 4).foldl (fun acc j => acc ^^^ gfMul (c.getD ((j + 4 - i % 4) % 4) 0#8) (b.getD (4 * (i / 4) + j) 0#8)) 0#8

/-- AES-256 encryption of one block. -/
def aesEnc (ks : List (List Byte)) (b : List Byte) : List Byte :=
  let b0 := xorBytes b (ks.getD 0 [])
  let b1 := (List.range 13).foldl (fun x r =>
    xorBytes (aesMix [2#8, 3#8, 1#8, 1#8] (aesShift false (x.map aesSub))) (ks.getD (r + 1) [])) b0
  xorBytes (aesShift false (b1.map aesSub)) (ks.getD 14 [])
/-- AES-256 decryption of one block. -/
def aesDec (ks : List (List Byte)) (b : List Byte) : List Byte :=
  let b0 := (aesShift true (xorBytes b (ks.getD 14 []))).map aesSubInv
  let b1 := (List.range 13).foldl (fun x r =>
    (aesShift true (aesMix [14#8, 11#8, 13#8, 9#8] (xorBytes x (ks.getD (13 - r) [])))).map aesSubInv) b0
  xorBytes b1 (ks.getD 0 [])

/-- The XTS tweak doubled: the block is a number, low byte first. -/
def xtsDouble (t : Nat) : Nat :=
  let d := 2 * t
  if d < 2 ^ 128 then d else Nat.xor (d % 2 ^ 128) 0x87
/-- AES-256-XTS over whole blocks; the 64-byte key is the data key and the tweak key, the tweak a 16-byte data unit number. -/
def xts (enc : Bool) (key : List Byte) (tweak : Nat) (data : List Byte) : List Byte :=
  let k1 := aesKeys (key.take 32)
  let k2 := aesKeys (key.drop 32)
  let t0 := leNat (aesEnc k2 (natLE 16 tweak))
  let r := (chunksOf 16 (data.length / 16) data).foldl (fun (acc : List (List Byte) × Nat) b =>
    let t := natLE 16 acc.2
    let c := xorBytes t (if enc then aesEnc k1 (xorBytes b t) else aesDec k1 (xorBytes b t))
    (c :: acc.1, xtsDouble acc.2)) ([], t0)
  r.1.reverse.flatten

/-- AES key wrap: six rounds over the 8-byte pieces, integrity value 0xA6A6A6A6A6A6A6A6. -/
def keyWrap (kek data : List Byte) : List Byte :=
  let ks := aesKeys kek
  let n := data.length / 8
  let st := (List.range (6 * n)).foldl (fun (st : List Byte × List (List Byte)) i =>
    let b := aesEnc ks (st.1 ++ st.2.getD (i % n) [])
    (xorBytes (b.take 8) (natBE 8 (i + 1)), st.2.set (i % n) (b.drop 8))) (List.replicate 8 0xA6#8, chunksOf 8 n data)
  st.1 ++ st.2.flatten
/-- AES key unwrap; none where the integrity value is wrong. -/
def keyUnwrap (kek data : List Byte) : Option (List Byte) :=
  let ks := aesKeys kek
  let n := data.length / 8 - 1
  let st := (List.range (6 * n)).foldl (fun (st : List Byte × List (List Byte)) j =>
    let i := 6 * n - 1 - j
    let b := aesDec ks (xorBytes st.1 (natBE 8 (i + 1)) ++ st.2.getD (i % n) [])
    (b.take 8, st.2.set (i % n) (b.drop 8))) (data.take 8, chunksOf 8 n (data.drop 8))
  if st.1 = List.replicate 8 0xA6#8 then some st.2.flatten else none

/-! ### SHA-2 -/

/-- The round constants of SHA-256. -/
def sha256K0 : List (BitVec 32) :=
  [0x428A2F98, 0x71374491, 0xB5C0FBCF, 0xE9B5DBA5, 0x3956C25B, 0x59F111F1, 0x923F82A4, 0xAB1C5ED5,
   0xD807AA98, 0x12835B01, 0x243185BE, 0x550C7DC3, 0x72BE5D74, 0x80DEB1FE, 0x9BDC06A7, 0xC19BF174,
   0xE49B69C1, 0xEFBE4786, 0x0FC19DC6, 0x240CA1CC, 0x2DE92C6F, 0x4A7484AA, 0x5CB0A9DC, 0x76F988DA,
   0x983E5152, 0xA831C66D, 0xB00327C8, 0xBF597FC7, 0xC6E00BF3, 0xD5A79147, 0x06CA6351, 0x14292967]
def sha256K1 : List (BitVec 32) :=
  [0x27B70A85, 0x2E1B2138, 0x4D2C6DFC, 0x53380D13, 0x650A7354, 0x766A0ABB, 0x81C2C92E, 0x92722C85,
   0xA2BFE8A1, 0xA81A664B, 0xC24B8B70, 0xC76C51A3, 0xD192E819, 0xD6990624, 0xF40E3585, 0x106AA070,
   0x19A4C116, 0x1E376C08, 0x2748774C, 0x34B0BCB5, 0x391C0CB3, 0x4ED8AA4A, 0x5B9CCA4F, 0x682E6FF3,
   0x748F82EE, 0x78A5636F, 0x84C87814, 0x8CC70208, 0x90BEFFFA, 0xA4506CEB, 0xBEF9A3F7, 0xC67178F2]
/-- The message schedule extended, newest first. -/
def sha2Expand {w : Nat} (s0 s1 : BitVec w → BitVec w) : Nat → List (BitVec w) → List (BitVec w)
  | 0, ws => ws
  | n + 1, ws =>
    sha2Expand s0 s1 n ((s1 (ws.getD 1 0) + ws.getD 6 0 + s0 (ws.getD 14 0) + ws.getD 15 0) :: ws)

/-- One round of SHA-2. -/
def sha2Round {w : Nat} (e0 e1 : BitVec w → BitVec w) (st : List (BitVec w)) (kw : BitVec w × BitVec w) : List (BitVec w) :=
  match st with
  | [a, b, c, d, e, f, g, h] =>
    let t1 := h + e1 e + ((e &&& f) ^^^ (~~~ e &&& g)) + kw.1 + kw.2
    let t2 := e0 a + ((a &&& b) ^^^ (a &&& c) ^^^ (b &&& c))
    [t1 + t2, a, b, c, d + t1, e, f, g]
  | x => x

/-- The message padded to blocks of `blk` bytes with a length of `lb` bytes. -/
def sha2Pad (blk lb : Nat) (m : List Byte) : List Byte :=
  let z := (blk - (m.length + 1 + lb) % blk) % blk
  m ++ [0x80#8] ++ List.replicate z 0#8 ++ natBE lb (8 * m.length)

/-- SHA-2 with the functions and constants of one word width. -/
def sha2 {w : Nat} (bytes : Nat) (s0 s1 e0 e1 : BitVec w → BitVec w) (ks : List (BitVec w)) (init : List (BitVec w))
    (m : List Byte) : List Byte :=
  let p := sha2Pad (16 * bytes) (2 * bytes) m
  let final := (chunksOf (16 * bytes) (p.length / (16 * bytes)) p).foldl (fun st blk =>
    let ws := (chunksOf bytes 16 blk).map fun b => BitVec.ofNat w (beNat b)
    let all := (sha2Expand s0 s1 (ks.length - 16) ws.reverse).reverse
    List.zipWith (· + ·) st ((ks.zip all).foldl (sha2Round e0 e1) st)) init
  (final.map fun v => natBE bytes v.toNat).flatten

/-- SHA-256. -/
def sha256 (m : List Byte) : List Byte :=
  sha2 4 (fun x => x.rotateRight 7 ^^^ x.rotateRight 18 ^^^ (x >>> 3)) (fun x => x.rotateRight 17 ^^^ x.rotateRight 19 ^^^ (x >>> 10))
    (fun x => x.rotateRight 2 ^^^ x.rotateRight 13 ^^^ x.rotateRight 22)
    (fun x => x.rotateRight 6 ^^^ x.rotateRight 11 ^^^ x.rotateRight 25) (sha256K0 ++ sha256K1)
    [0x6A09E667, 0xBB67AE85, 0x3C6EF372, 0xA54FF53A, 0x510E527F, 0x9B05688C, 0x1F83D9AB, 0x5BE0CD19] m

/-- HMAC-SHA-256. -/
def hmac256 (key m : List Byte) : List Byte :=
  let k0 := if key.length ≤ 64 then key else sha256 key
  let k := k0 ++ List.replicate (64 - k0.length) 0#8
  sha256 (k.map (· ^^^ 0x5C#8) ++ sha256 (k.map (· ^^^ 0x36#8) ++ m))

/-- The round constants of SHA-384. -/
def sha512K0 : List (BitVec 64) :=
  [0x428A2F98D728AE22, 0x7137449123EF65CD, 0xB5C0FBCFEC4D3B2F, 0xE9B5DBA58189DBBC,
   0x3956C25BF348B538, 0x59F111F1B605D019, 0x923F82A4AF194F9B, 0xAB1C5ED5DA6D8118,
   0xD807AA98A3030242, 0x12835B0145706FBE, 0x243185BE4EE4B28C, 0x550C7DC3D5FFB4E2,
   0x72BE5D74F27B896F, 0x80DEB1FE3B1696B1, 0x9BDC06A725C71235, 0xC19BF174CF692694,
   0xE49B69C19EF14AD2, 0xEFBE4786384F25E3, 0x0FC19DC68B8CD5B5, 0x240CA1CC77AC9C65,
   0x2DE92C6F592B0275, 0x4A7484AA6EA6E483, 0x5CB0A9DCBD41FBD4, 0x76F988DA831153B5,
   0x983E5152EE66DFAB, 0xA831C66D2DB43210, 0xB00327C898FB213F, 0xBF597FC7BEEF0EE4,
   0xC6E00BF33DA88FC2, 0xD5A79147930AA725, 0x06CA6351E003826F, 0x142929670A0E6E70,
   0x27B70A8546D22FFC, 0x2E1B21385C26C926, 0x4D2C6DFC5AC42AED, 0x53380D139D95B3DF,
   0x650A73548BAF63DE, 0x766A0ABB3C77B2A8, 0x81C2C92E47EDAEE6, 0x92722C851482353B]
def sha512K1 : List (BitVec 64) :=
  [0xA2BFE8A14CF10364, 0xA81A664BBC423001, 0xC24B8B70D0F89791, 0xC76C51A30654BE30,
   0xD192E819D6EF5218, 0xD69906245565A910, 0xF40E35855771202A, 0x106AA07032BBD1B8,
   0x19A4C116B8D2D0C8, 0x1E376C085141AB53, 0x2748774CDF8EEB99, 0x34B0BCB5E19B48A8,
   0x391C0CB3C5C95A63, 0x4ED8AA4AE3418ACB, 0x5B9CCA4F7763E373, 0x682E6FF3D6B2B8A3,
   0x748F82EE5DEFB2FC, 0x78A5636F43172F60, 0x84C87814A1F0AB72, 0x8CC702081A6439EC,
   0x90BEFFFA23631E28, 0xA4506CEBDE82BDE9, 0xBEF9A3F7B2C67915, 0xC67178F2E372532B,
   0xCA273ECEEA26619C, 0xD186B8C721C0C207, 0xEADA7DD6CDE0EB1E, 0xF57D4F7FEE6ED178,
   0x06F067AA72176FBA, 0x0A637DC5A2C898A6, 0x113F9804BEF90DAE, 0x1B710B35131C471B,
   0x28DB77F523047D84, 0x32CAAB7B40C72493, 0x3C9EBE0A15C9BEBC, 0x431D67C49C100D4C,
   0x4CC5D4BECB3E42B6, 0x597F299CFC657E2A, 0x5FCB6FAB3AD6FAEC, 0x6C44198C4A475817]

/-- SHA-384. -/
def sha384 (m : List Byte) : List Byte :=
  (sha2 8 (fun x => x.rotateRight 1 ^^^ x.rotateRight 8 ^^^ (x >>> 7)) (fun x => x.rotateRight 19 ^^^ x.rotateRight 61 ^^^ (x >>> 6))
    (fun x => x.rotateRight 28 ^^^ x.rotateRight 34 ^^^ x.rotateRight 39)
    (fun x => x.rotateRight 14 ^^^ x.rotateRight 18 ^^^ x.rotateRight 41) (sha512K0 ++ sha512K1)
    [0xCBBB9D5DC1059ED8, 0x629A292A367CD507, 0x9159015A3070DD17, 0x152FECD8F70E5939,
   0x67332667FFC00B31, 0x8EB44A8768581511, 0xDB0C2E0D64F98FA7, 0x47B5481DBEFA4FA4] m).take 48

/-! ### ECDSA P-384 -/

/-- The field prime of P-384. -/
def p384p : Nat := 2 ^ 384 - 2 ^ 128 - 2 ^ 96 + 2 ^ 32 - 1
/-- The group order of P-384. -/
def p384n : Nat :=
  0xFFFFFFFFFFFFFFFFFFFFFFFFFFFFFFFFFFFFFFFFFFFFFFFFC7634D81F4372DDF581A0DB248B0A77AECEC196ACCC52973
/-- The curve's constant b. -/
def p384b : Nat :=
  0xB3312FA7E23EE7E4988E056BE3F82D19181D9C6EFE8141120314088F5013875AC656398D8A2ED19D2A85C8EDD3EC2AEF
/-- The base point. -/
def p384g : Nat × Nat :=
  (0xAA87CA22BE8B05378EB1C71EF320AD746E1D3B628BA79B9859F741E082542A385502F25DBF55296C3A545E3872760AB7,
   0x3617DE4A96262C6F5D9E98BF9292DC29F8F41DBD289A147CE9DA3113B5F0B8C00A60B1CE1D7E819D7A431D7C90EA0E5F)

/-- A power modulo `m`, over the low `bits` bits of the exponent. -/
def powMod (m : Nat) : Nat → Nat → Nat → Nat
  | 0, _, _ => 1 % m
  | bits + 1, b, e =>
    let r := powMod m bits (b * b % m) (e / 2)
    if e % 2 = 1 then r * b % m else r
/-- The inverse modulo a prime of 384 bits. -/
def invMod (m a : Nat) : Nat := powMod m 384 (a % m) (m - 2)

/-- A point of P-384 as (X, Y, Z), which stands for X / Z² and Y / Z³; the point at infinity has Z = 0. -/
abbrev Point := Nat × Nat × Nat
/-- A point doubled. -/
def p384Dbl (a : Point) : Point :=
  let (x, y, z) := a
  let m := 3 * (x + z * z) * (x + p384p - z * z % p384p) % p384p
  let s := 4 * x * (y * y % p384p) % p384p
  let x' := (m * m + 2 * (p384p - s)) % p384p
  (x', (m * (s + p384p - x') + 8 * (p384p - y * y % p384p) * (y * y)) % p384p, 2 * y * z % p384p)
/-- Two points added. -/
def p384Add (a b : Point) : Point :=
  let (x1, y1, z1) := a
  let (x2, y2, z2) := b
  if z1 = 0 then b
  else if z2 = 0 then a
  else
    let u1 := x1 * (z2 * z2) % p384p
    let u2 := x2 * (z1 * z1) % p384p
    let s1 := y1 * (z2 * z2 * z2) % p384p
    let s2 := y2 * (z1 * z1 * z1) % p384p
    if u1 = u2 then if s1 = s2 then p384Dbl a else (1, 1, 0)
    else
      let h := u2 + p384p - u1
      let r := s2 + p384p - s1
      let hh := h * h % p384p
      let x := (r * r + hh * (2 * p384p - h % p384p) + 2 * u1 * (p384p - hh)) % p384p
      (x, (r * (u1 * hh % p384p + p384p - x) + s1 * (p384p - hh * h % p384p)) % p384p, h * (z1 * z2) % p384p)
/-- Point multiplication over the low `bits` bits of `k`. -/
def p384Mul : Nat → Nat → Point → Point
  | 0, _, _ => (1, 1, 0)
  | bits + 1, k, a =>
    let r := p384Mul bits (k / 2) (p384Dbl a)
    if k % 2 = 1 then p384Add r a else r

/-- Whether `r`, `s` is a signature of the digest `z` under the public key. -/
def ecdsaOk (px py r s z : Nat) : Bool :=
  decide (px < p384p ∧ py < p384p ∧ (py * py) % p384p = (px * px * px + (p384p - 3) * px + p384b) % p384p ∧
    0 < r ∧ r < p384n ∧ 0 < s ∧ s < p384n) &&
    let w := invMod p384n s
    let q := p384Add (p384Mul 384 (z * w % p384n) (p384g.1, p384g.2, 1)) (p384Mul 384 (r * w % p384n) (px, py, 1))
    q.2.2 != 0 && decide (q.1 * invMod p384p (q.2.2 * q.2.2) % p384p % p384n = r)

end Sys2Proof.Machine
end

