-- ==== Sys2Proof/Machine/State.lean ====
section
/-!
DEFINITION. Sys2Proof/Machine/State.lean: the state of the block as plain data, and the state after reset.
Every register field the spec lays out is held in `regs` (a field not listed holds its reset value); everything else the spec
gives the device has a field of its own. The tables are association lists with rising keys.
-/

namespace Sys2Proof.Machine

/-- A table from numbers to values, as a list of pairs with strictly rising keys. -/
abbrev Tbl (β : Type) := List (Nat × β)

/-- Bytes by address, keys rising, no byte equal to what an unlisted address reads as (zero). -/
abbrev Memory := List Host.Cell

/-! ### Faults and refusals -/

/-- No command ends the run with a fault: a device fault of 20_faults.md R487 is a change of state (Ward), not an end of the
run. Nothing raises a value of this type; that is safe. -/
inductive Fault where
deriving DecidableEq, Repr

/-- Why a command may be refused. -/
inductive Refusal where
  /-- The command has no meaning in this model yet. Raised by the dispatcher alone; safe. -/
  | notModelled (mnemonic : String)
deriving DecidableEq, Repr

/-! ### Part and board -/

/-- The two parts (00_scope.md R1, R2). -/
inductive Part where
  | od7400 | od7420
deriving DecidableEq, Repr

/-- What the board attaches: the NAND geometry, alike on every channel (04_nand_channels.md R110), and the DRAM
(17_dram.md R422). -/
structure Board where
  ces        : Nat
  luns       : Nat
  blocks     : Nat
  pages      : Nat
  ranks      : Nat
  density32  : Bool
  rfmReq     : Bool
  raaimt     : Nat
deriving DecidableEq, Repr

/-! ### What leaves the device -/

/-- Everything the block sends outward, in order: interrupt messages, completions, frames of its serial links, responses. -/
inductive Output where
  | msix (fn vec : Nat)
  | nvmeCqe (cq cid status dw0 dw1 : Nat)
  | tcpResp (conn cid status dw0 dw1 : Nat)
  | tcpData (conn cid : Nat) (data : List Byte)
  | tcpReset (conn : Nat)
  | tcpRefused (ctrl qid : Nat)
  | tcpSegment (conn : Nat)
  | vid (frame : Nat)
  | treadle (frame : Nat)
  | preamp (frame : Nat)
  | gcb (words : List Nat) (matchOutLow : Bool)
  | uart (byte : Nat)
  | netReply (port : Nat) (kind : NetKind)
  | pauseTx (port prio : Nat) (paused : Bool)
  | mi (status : Nat) (data : List Byte)
  | completerAbort (page : Nat)
  | regData (page off val : Nat)
  | pwrEn (reg : Nat) (on : Bool)
  | dramCmd (ch : Nat) (kind : Nat) (arg : Nat)
  | traceport (record : List Byte)
  | pcieRead (pasid : Option Nat) (addr len : Nat)
  | pcieWrite (pasid : Option Nat) (addr len : Nat)
deriving DecidableEq, Repr

/-! ### Staging SRAM (01_ledger_path.md R15 to R20, R530) -/

/-- What a staging buffer is held for. -/
inductive StgTag where
  | request (tag : Nat)
  | write (cmd : Nat)
  | job (id : Nat)
  | output (stream seq : Nat)
  | pleat (id : Nat)
deriving DecidableEq, Repr

/-- A class, a panel and a purpose: an allocated buffer or a waiting request. -/
structure StgReq where
  cls   : StgClass
  panel : Nat
  tag   : StgTag
deriving DecidableEq, Repr

/-- The staging allocator: the allocated buffers by number bank × 32 + i, the waiting requests in arrival order, the class
served last by the rotation of R17, and the bank of the last allocation (R530). -/
structure Staging where
  bufs     : Tbl StgReq
  waits    : List StgReq
  lastCls  : Nat
  lastBank : Nat
deriving DecidableEq, Repr

/-! ### Memory integrity (16_memory_integrity.md) -/

/-- Patrol scrub and hard words: the pass numbers, the watch list of each page (address, pass of the write-back, oldest first,
at most 32), the hard-word list of each page (at most 16), the words declared hard while the list was full (R417), and the
words found uncorrectable and not yet rewritten (R409). -/
structure Integrity where
  sramPass : Nat
  dramPass : Nat
  watch    : Tbl (List (Nat × Nat))
  hard     : Tbl (List Nat)
  marked   : List (Nat × Nat)
  bad      : List (Nat × Nat)
deriving DecidableEq, Repr

/-! ### DRAM controller (17_dram.md) -/

/-- The DRAM channels: which trained in Fill; the activation tables by bank (R430), the rolling activation counts by bank
(R432), the postponed refreshes by rank (R429), the time of the last CA parity alert by subchannel (R435), the subchannels
whose retrain pause runs (R434), the channels in power-down (R437), the bytes carried by each channel in this epoch, and
whether a run of epochs over IMB_THR is on (R427). -/
structure Dram where
  trained   : Tbl Bool
  act       : Tbl (List (Nat × Nat))
  raa       : Tbl Nat
  postponed : Tbl Nat
  pulledIn  : Tbl Nat
  lastAlert : Tbl Nat
  pausing   : List Nat
  zqDue     : Bool
  powerDown : List Nat
  bytes     : Tbl Nat
  imbRun    : Bool
  /-- Accesses that wait for a pause, a power-down exit or a self-refresh exit of their channel, oldest first. -/
  waits     : List (DramAcc × CodeOutcome)
  /-- Where Fill stands: 0 none, 1 SRAM, 2 training, 3 lines, 4 the repeat of the lines in Boot (R410, R425). -/
  fill      : Nat
  /-- Microseconds of step 1. -/
  fillUs    : Nat
deriving DecidableEq, Repr

/-! ### Power, clocks, boot (18_power_clocks.md, 19_trust_pattern.md) -/

/-- The low-power states (18_power_clocks.md R444). -/
inductive LowPower where
  | doze | slumber | vault
deriving DecidableEq, Repr

/-- Where the power sequences stand: held in power-on reset, bringing up the regulators (the index awaited) or the crystal,
running, entering a low-power state (the step awaited), asleep, waking (the step awaited; in step 1 the regulators still to
enable follow in `regsDue`), or off. -/
inductive PowerSeq where
  | heldInReset
  | upRegulator (r : Nat)
  | upCrystal
  | run
  | entry (target : LowPower) (step : Nat)
  | asleep (target : LowPower)
  | wake (from_ : LowPower) (step : Nat)
deriving DecidableEq, Repr

/-- A DVFS change of one cluster (12_shuttle_spool.md R328, 18_power_clocks.md R457). -/
structure Dvfs where
  target  : Nat
  /-- 0: VDD_CORE rising; 1: waiting for the cores to stop; 2: PLL relock; 3: last voltage settling. -/
  phase   : Nat
deriving DecidableEq, Repr

/-- Power sequencing state. -/
structure Power where
  seq        : PowerSeq
  regsDue    : List Nat
  regEn      : List Nat
  wakeSrc    : Nat
  latched    : Nat
  partialWake : Bool
  faultOnWake : Bool
  dramAwake  : List Nat
  nandTrained : List Nat
  vddCode    : Nat
  vidWait    : Bool
  dvfs       : Tbl Dvfs
  /-- Milliseconds for which the average power has stayed below 90 % of the limit. -/
  underMs    : Nat
  /-- When the present low-power state was entered: WAKE_TIMER_S runs from it. -/
  asleepSince : Nat
  /-- The domains that were on when Slumber was entered, to be powered again on the wake. -/
  domsWere   : List Nat
deriving DecidableEq, Repr

/-- Boot, Rebuild and trust: the Fill held fault is in `fault`; the Rebuild phase (0 when none runs), its media view, the
values the AON domain keeps from the last full Boot (R455), the pattern block in use, and the mailbox. -/
structure Trust where
  pattern     : List Byte
  rebuild     : Nat
  keptGen     : Nat
  keptGrain   : Nat
  keptXor     : Nat
  keptModes   : Nat
  bootDigest  : List Byte
  fwRunning   : Bool
  keyHashes   : List (List Byte)
  patternKey  : List Byte
  rootKey     : List Byte
  keySlots    : Tbl (List Byte)
  /-- The key last held by each slot, which accepted commands go on using after the slot locks (R481). -/
  lastKeys    : Tbl (List Byte)
  keyFails    : Tbl Nat
  restarts    : List Nat
  wdogAt      : Nat
deriving DecidableEq, Repr

/-- A request Thimble serialises: a mailbox command, a mode request or a PAN command (15_modes.md R391, 19_trust_pattern.md
R482). -/
inductive ThmReq where
  | mailbox (ag : Agent)
  | mode (ag : Agent)
  | panel (op : Nat)
deriving DecidableEq, Repr

/-- A mailbox command whose SPI programming runs: the new block, and the copy being programmed (1: copy B, 0: copy A). -/
structure PatWrite where
  block : List Byte
  copy  : Nat
deriving DecidableEq, Repr

/-- A mode request past its check (15_modes.md R391): the target, the drain bit, and whether step 2 (0) or step 4 (1) runs. -/
structure ModeRun where
  target : Nat
  drain  : Bool
  step   : Nat
deriving DecidableEq, Repr

/-- A PAN command running (14_panels.md R383): its panel, its operation (1 reset, 2 remove), its step, whether it squashed
after the timeout. -/
structure PanRun where
  panel   : Nat
  op      : Nat
  step    : Nat
  timeout : Bool
deriving DecidableEq, Repr

/-- The serialised work of Thimble. -/
structure Serial where
  queue : List ThmReq
  pat   : Option PatWrite
  mode  : Option ModeRun
  pan   : Option PanRun
deriving DecidableEq, Repr

/-! ### Faults (20_faults.md) -/

/-- The fault controller beside its page: the fault held during Fill (R28), and the time step 7 of R492 was reached. -/
structure FaultSt where
  held       : Bool
  quiescedAt : Nat
deriving DecidableEq, Repr

/-! ### Media (04_nand_channels.md, 02_seam_map.md) -/

/-- A page tag (02_seam_map.md R39). -/
structure Tag where
  lba    : Nat
  seq    : Nat
  panel  : Nat
  ns     : Nat
  kind   : Nat
  idx    : Nat
  extLen : Nat
  cmp    : Bool
  fine   : Bool
  hem    : Bool
  ralign : Bool
  hemIdx : Nat
  hemReg : Nat
  crc    : Nat
deriving DecidableEq, Repr

/-- A programmed slot: its tag and its 4,096 stored bytes (ciphertext for the KINDs that R114 encrypts). -/
structure Slot where
  tag  : Tag
  data : List Byte
deriving DecidableEq, Repr

/-- The state of a block row (03_seam_reclaim.md R71, R72, R79, R83). -/
inductive RowState where
  | free | open_ | full | retired | system
deriving DecidableEq, Repr

/-- A block row: its state, erase count, read count, next slot to program, the time of the last soft decode in it (R75), the
tracked read-level set (R116), its namespaces' spans (R89 step 3: namespace, lowest and highest unit), and the SEQ at which it
was opened. -/
structure Row where
  st      : RowState
  erases  : Nat
  reads   : Nat
  ptr     : Nat
  softAt  : Option Nat
  levels  : Nat
  spans   : List (Nat × Nat × Nat)
  openSeq : Nat
deriving DecidableEq, Repr

/-- An operation queued to or started on a NAND channel (04_nand_channels.md R121 to R124). -/
inductive NandOpKind where
  | programUnits (seqs : List Nat)
  | programCopy (copy : Nat)
  | programRoot (area : Nat)
  | erase
deriving DecidableEq, Repr

/-- A NAND array operation: its number, channel, row, kind, the slots it programs, its arbitration class (R121: 0 host read,
1 scan read, 2 write, 3 foreground reclaim, 4 background, 5 system), whether it has started on its die, how often it was
suspended (R122), and whether it is suspended now. -/
structure NandOp where
  id        : Nat
  ch        : Nat
  row       : Nat
  kind      : NandOpKind
  slots     : List Nat
  cls       : Nat
  started   : Bool
  suspends  : Nat
  suspended : Bool
deriving DecidableEq, Repr

/-- What a unit read is for: a host command (which bytes of the unit go where in the command's data), a unit of a filter stream,
the old content of a held unit, a demotion, a relocation. -/
inductive ReadFor where
  | host (cmd dst from_ len : Nat)
  | stream (stream seq : Nat)
  | merge (held : Nat)
  | demote (group : Nat)
  | reclaim (copy : Nat)
deriving DecidableEq, Repr

/-- Where a slot of a unit read stands on the ladder of R116: sensing, waiting for a retry, waiting in the channel for a soft
job, at a deep decoder, decoded, or uncorrectable. -/
inductive SlotSt where
  | sensing | retry | softWait | softJob (ldd : Nat) | done | bad
deriving DecidableEq, Repr

/-- One slot of a read: its place in the unit, its location, its state, and the ladder step it has reached (1 to 4). -/
structure ReadSlot where
  idx  : Nat
  loc  : Nat
  st   : SlotSt
  step : Nat
deriving DecidableEq, Repr

/-- A unit read in Seam: its number, purpose, namespace, unit, map entry, slots, whether it has been issued, the retry attempt
of step 2 it has reached, its staging buffer, and the data delivered by unit offset. -/
structure ReadJob where
  id     : Nat
  use    : ReadFor
  ns     : Nat
  unit   : Nat
  cmp    : Bool
  slots  : List ReadSlot
  issued : Bool
  retry  : Nat
  cls    : Nat
  /-- Every slot is decoded and the compressed block waits for a Pleat engine (1) or is queued at one (2). -/
  decode : Nat
  /-- The Pinking unit that takes it, for a filter stream. -/
  pnk    : Nat
deriving DecidableEq, Repr

/-- A deep decoder's queued soft job (04_nand_channels.md R117). -/
structure SoftJob where
  ch   : Nat
  job  : Nat
  idx  : Nat
  bits : Nat
deriving DecidableEq, Repr

/-! ### Seam (02_seam_map.md, 03_seam_reclaim.md) -/

/-- A map word: the 48-bit entry of R34 and the heat count of R37. -/
structure MapWord where
  entry : Nat
  heat  : Nat
deriving DecidableEq, Repr

/-- A fine group (R37): its sixteen entries, its unit, the order of its promotion, and the time its heat became 0. -/
structure FineGroup where
  entries  : List Nat
  ns       : Nat
  unit     : Nat
  promoted : Nat
  copying  : Bool
  written  : Bool
deriving DecidableEq, Repr

/-- A registered record range (R50). -/
structure RecRange where
  ns    : Nat
  first : Nat
  count : Nat
  len   : Nat
  nocmp : Bool
  panel : Nat
deriving DecidableEq, Repr

/-- Who a unit write belongs to. -/
inductive WriteFor where
  | host (cmd : Nat)
  | hem (region idx : Nat)
  | demote (group : Nat)
  | system
deriving DecidableEq, Repr

/-- A unit on its way to the media: its SEQ, namespace, unit, fine index (none for a coarse unit), kind, panel, stored slots'
plaintext or block bytes, compressed flag, owner, locations, how many slots have still to pass, the tag fields of Hem units,
whether it has passed program status, and whether its map update has applied. -/
structure UnitWrite where
  seq     : Nat
  ns      : Nat
  unit    : Nat
  fine    : Option Nat
  kind    : Nat
  panel   : Nat
  cmp     : Bool
  data    : List Byte
  use     : WriteFor
  locs    : List Nat
  passed  : Bool
  applied : Bool
  hemReg  : Nat
  hemIdx  : Nat
deriving DecidableEq, Repr

/-- A partial write waiting for the old content of its unit (R43), or a whole unit waiting for Pleat (R213). -/
structure HeldUnit where
  id     : Nat
  ns     : Nat
  unit   : Nat
  panel  : Nat
  /-- The new bytes: (offset in the unit, bytes). -/
  new    : List (Nat × List Byte)
  use    : WriteFor
  whole  : Option (List Byte)
  /-- The pieces go to fine units. -/
  fine   : Bool
  /-- 0: waiting for a read; 1: waiting for Pleat in Seam; 2: queued at an engine; 3: behind earlier writes of its unit. -/
  phase  : Nat
deriving DecidableEq, Repr

/-- A relocation copy (R76): the unit, its source entry, where it goes, the row it leaves, whether its program has passed. -/
structure Copy where
  id     : Nat
  ns     : Nat
  unit   : Nat
  fine   : Option Nat
  /-- The source entry and its slots' places. -/
  src    : Nat
  from_  : List Nat
  seq    : Nat
  srcRow : Nat
  locs   : List Nat
  passed : Bool
deriving DecidableEq, Repr

/-- A row being reclaimed: its key, the copies not yet swapped or abandoned, whether it belongs to an Unpick's erase set, and
whether it is a refresh or levelling victim. -/
structure Victim where
  row    : Nat
  copies : List Nat
  unpick : Bool
deriving DecidableEq, Repr

/-- An Unpick (03_seam_reclaim.md R89): the Spool item that asked for it (none for one resumed under R93), its range, its step
(0 waiting, 2 before the commit point, 4 relocating, 5 erasing), the rows left, the disk places of its cold-tier units left to overwrite
(15_modes.md R397 note 10), whether a row became residue, whether an abort arrived after the commit point, and, up to the commit
point, what the range held (map word, fine group, disk place), for an abort that has no effect (R91). -/
structure Unpick where
  item    : Option Nat
  ns      : Nat
  first   : Nat
  count   : Nat
  step    : Nat
  rows    : List Nat
  cold    : List Nat
  residue : Bool
  aborted : Bool
  saved   : Tbl (MapWord × Option FineGroup × Option Nat)
deriving DecidableEq, Repr

/-- What a disk write is for: a Hem unit (region, index), a cold unit (its relocation copy), the overwriting of an Unpick's unit. -/
inductive MigFor where
  | hem (region idx : Nat)
  | cold (copy : Nat)
  | scramble
deriving DecidableEq, Repr

/-- A unit on its way to the archive disk (R101; 15_modes.md R397 notes 9 and 10): its number, which names its staging buffer, its unit,
purpose, bytes, disk place, phase (0 waiting for its data or buffer, 1 writing, 2 reading back), the Selvedge index of its request, and
how often an overwriting was tried. -/
structure Mig where
  id    : Nat
  ns    : Nat
  unit  : Nat
  use   : MigFor
  bytes : List Byte
  place : Nat
  phase : Nat
  req   : Nat
  tries : Nat
deriving DecidableEq, Repr

/-- A pending append of a Hem region (R97). -/
structure HemAppend where
  item : Nat
  idx  : Nat
  off  : Nat
deriving DecidableEq, Repr

/-- A Hem region (03_seam_reclaim.md R94 to R103). -/
structure HemRegion where
  ns       : Nat
  first    : Nat
  count    : Nat
  seq      : Nat
  nextIdx  : Nat
  tail     : List Byte
  openData : List Byte
  openIdx  : Option Nat
  appends  : List HemAppend
  passedTo : Nat
  passed   : List Nat
  migWm    : Nat
  sealedAt : Tbl Nat
  migrating : Bool
  migStop  : Bool
  /-- The migration mark at the last durable checkpoint: flash copies below it are released (R101 step 5). -/
  freedTo  : Nat
deriving DecidableEq, Repr

/-- A checkpoint root as it stands durable on the media (R52): SEQ_CUT, the map and fine groups at the cut, the record ranges,
the open-row write pointers, the next-open lists, the Unpicks past their commit, and the Hem regions' tails. -/
structure Root where
  seqCut  : Nat
  number  : Nat
  map     : Tbl MapWord
  fine    : Tbl FineGroup
  ranges  : List RecRange
  ptrs    : Tbl Nat
  lists   : Tbl (List Nat)
  unpicks : List (Nat × Nat × Nat × List Nat × List Nat)
  hem     : Tbl HemRegion
  archive : Tbl Nat
deriving DecidableEq, Repr

/-- A COMPAT flush record (R61, R63): its SEQ_CUT, the map it leads to, the fine groups, and which of its two copies pass. -/
structure FlushRec where
  seqCut  : Nat
  map     : Tbl MapWord
  fine    : Tbl FineGroup
  ms      : Nat
  okA     : Bool
  okB     : Bool
  unpicks : List (Nat × Nat × Nat × List Nat × List Nat)
deriving DecidableEq, Repr

/-- A checkpoint being written: the root it will make durable, whether the next one is already due, the Unpicks it commits. -/
structure CkptRun where
  root    : Root
  due     : Bool
  unpicks : List (Nat × Nat)
deriving DecidableEq, Repr

/-- What a unit has produced so far: records evaluated, survivors, rejected, the first rejected index, the output, and for each
accumulator its value, OVF and whether it has met a record. -/
structure FilterOut where
  records   : Nat
  survivors : Nat
  baddec    : Nat
  badFirst  : Nat
  out       : List Byte
  aggs      : List (Int × Bool × Bool)
deriving DecidableEq, Repr

/-- The filter streams (07_pinking.md R189): owner item, parameters, per-unit states, counts. -/
structure Stream where
  id       : Nat
  item     : Nat
  panel    : Nat
  ns       : Nat
  first    : Nat
  count    : Nat
  slot     : Nat
  strm     : Bool
  firstOff : Nat
  report   : Nat
  unit     : Nat
  /-- Units whose report is written. -/
  done     : List Nat
  failed   : Nat
  aborted  : Bool
  /-- Host filter streams (R362): output base, bytes, position; none for programs. -/
  out      : Option (Nat × Nat × Nat)
  full     : Bool
  /-- Stream mode: the record carried across (bytes so far) and its start unit. -/
  carry    : Option (Nat × List Byte)
  nextOff  : Nat
  /-- The unit whose report waits for its carried record, and what it has produced. -/
  pendRep  : Option (Nat × FilterOut)
deriving DecidableEq, Repr

/-- Seam's own state. -/
structure Seam where
  map      : Tbl MapWord
  fine     : Tbl FineGroup
  ranges   : List RecRange
  seq      : Nat
  order    : Nat
  rot      : Nat
  reclRot  : Nat
  rows     : Tbl Row
  lists    : Tbl (List Nat)
  flight   : List UnitWrite
  /-- Units that found no place, oldest first. -/
  unplaced : List UnitWrite
  held     : List HeldUnit
  copies   : List Copy
  victims  : List Victim
  reads    : List ReadJob
  nextId   : Nat
  ckpt     : Option CkptRun
  ckptAt   : Nat
  rootA    : Option Root
  rootB    : Option Root
  flush    : Option FlushRec
  flushing : Bool
  pfailLow : Bool
  /-- Programs are held since PFAIL was latched (R61, R65, R66). -/
  pfailHold : Bool
  pfailAon : Bool
  pfailWard : Bool
  formatted : Bool
  unpicks  : List Unpick
  residue  : List (List Byte)
  hem      : Tbl HemRegion
  /-- Appends that wait for migration: item, region, data. -/
  hemWait  : List (Nat × Nat × List Byte)
  /-- Channels with background reclaim on. -/
  reclOn   : List Nat
  vfy      : Option Nat
  /-- The archive index: disk places by unit. -/
  archive  : Tbl Nat
  diskNext : Nat
  /-- Units on their way to the disk. -/
  migs     : List Mig
  /-- When a unit's coarse entry last changed by a write. -/
  wroteAt  : Tbl Nat
  /-- Bytes of host writes admitted in this epoch, by panel. -/
  admitted : Tbl Nat
  heldWrites : List Nat
  /-- Disk reads of Hem units for a read job: Selvedge index to job. -/
  archReads : Tbl Nat
  streams  : List Stream
  /-- The slots that the tag scan of a Rebuild has to apply (R56 phase 4). -/
  scan     : List Nat
deriving DecidableEq, Repr

/-- The NAND channels and deep decoders. -/
structure Nand where
  slots : Tbl Slot
  ops   : List NandOp
  soft  : Tbl (List SoftJob)
deriving DecidableEq, Repr

/-! ### Selvedge (05_selvedge_channel.md) and servo (06_selvedge_servo.md) -/

/-- A sector of the archive disk: its 37,150 channel bits (R138) as a number whose bit b is sector bit b, and whether it was written
whole. -/
structure Sector where
  bits  : Nat
  whole : Bool
deriving DecidableEq, Repr

/-- A Selvedge request (R133). -/
structure SlvReq where
  fromHem : Bool
  idx     : Nat
  op      : Nat
  head    : Nat
  retry   : Nat
  track   : Nat
  sector  : Nat
  count   : Nat
  ns      : Nat
  kind    : Nat
  lba     : Nat
  slot    : Nat
  region  : Nat
  hemIdx  : Nat
  buf     : Nat
  bad     : Bool
deriving DecidableEq, Repr

/-- The request in progress: the sector it is at, whether an abort or a preamplifier fault is latched, whether it waits for
its seek, and the sync candidates left for the sector. -/
structure SlvRun where
  req     : SlvReq
  at_     : Nat
  aborted : Bool
  paFault : Bool
  seeking : Bool
  cands   : List (Int × Nat)
  tried   : Nat
deriving DecidableEq, Repr

/-- Selvedge beside its page: the HEM queue (its first 8 entries; the others are held back in the HEM block), the aborted requests
still in the ring, the request in progress, which source was served last, the next index of the HEM queue, the disk, the preamplifier
frames waiting or sent, the level of ARC_FLT_N, whether queued requests still run after CTRL.EN was cleared. -/
structure Selv where
  hemQ     : List SlvReq
  aborts   : List (Bool × Nat)
  run      : Option SlvRun
  lastHem  : Bool
  hemNext  : Nat
  disk     : Tbl Sector
  paFrame  : Option Nat
  paSent   : Bool
  paQ      : List Nat
  fltLow   : Bool
  draining : Bool
deriving DecidableEq, Repr

/-- A seek in progress (06_selvedge_servo.md R173). -/
structure Seek where
  track : Nat
  head  : Nat
  fw    : Bool
  settle : Bool
deriving DecidableEq, Repr

/-- The servo block beside its page: whether wedges are in step, SAMs found in the search, consecutive missed wedges, consecutive
wedges within ON_TRK_PES, the last PES, the two filter sections, the current command, the seek, whether one has completed since the last
head or track change, the track of the wedge before, the last 8 SAM-to-SAM intervals, the cycles since the last index, the revolutions in
range, the spindle mode sent last, whether VCM_CUR frames are off, TRD_ATTN_N, SHOCK of the last response. -/
structure Servo where
  synced   : Bool
  found    : Nat
  missed   : Nat
  good     : Nat
  pesLast  : Int
  /-- Filter delay lines of the two sections: x(n-1), x(n-2), y(n-1), y(n-2). -/
  f0       : Int × Int × Int × Int
  f1       : Int × Int × Int × Int
  u        : Int
  seek     : Option Seek
  seekDone : Bool
  lastTrack : Int
  cycles   : List Nat
  sinceIdx : Option Nat
  inRange  : Nat
  spinMode : Nat
  vcmOff   : Bool
  attn     : Bool
  shock    : Bool
deriving DecidableEq, Repr

/-- The Treadle link (06_selvedge_servo.md R177 to R181). -/
structure Treadle where
  seq     : Nat
  /-- Frames sent and not yet answered, oldest first. -/
  last    : List Nat
  sw      : Option Nat
  swSent  : Bool
  fails   : Nat
deriving DecidableEq, Repr

/-! ### Pinking (07_pinking.md) -/

/-- A loaded filter program: its bytes and the panel that loaded it. -/
structure PnkProg where
  bytes : List Byte
  panel : Nat
deriving DecidableEq, Repr

/-- A unit queued to or in progress in a Pinking unit: the stream, the unit's index, its bytes, how it ends. -/
structure PnkUnit where
  stream   : Nat
  seq      : Nat
  data     : List Byte
  failed   : Bool
  disabled : Bool
  fallback : Bool
deriving DecidableEq, Repr

/-- A load in progress: its slot, address, panel, and the PINK_LOAD item it serves (none for LOAD_GO). -/
structure PnkLoad where
  slot  : Nat
  addr  : Nat
  panel : Nat
  item  : Option Nat
deriving DecidableEq, Repr

/-- The Pinking units. -/
structure Pink where
  slots : Tbl PnkProg
  queue : Tbl (List PnkUnit)
  load  : Tbl PnkLoad
  loadWait : List (Nat × PnkLoad)
  loadRes : Tbl (List (Nat × Nat))
deriving DecidableEq, Repr

/-! ### Pleat (08_pleat.md) -/

/-- Where a Pleat job comes from. -/
inductive PleatFrom where
  | go | item (n : Nat) | inline (held : Nat) | decode (job : Nat)
deriving DecidableEq, Repr

/-- A Pleat job: its source, the job block's address (0 for inline and decode jobs), the panel that submits it, whether an abort is
latched, and for a running explicit job the job block as read at its start and the STATUS its checks gave (0: none). -/
structure PleatJob where
  origin : PleatFrom
  addr   : Nat
  panel  : Nat
  abort  : Bool
  block  : List Byte
  early  : Nat
deriving DecidableEq, Repr

/-- A block in decoding (R217 to R221): its header's fields, payload bytes left, the output so far, literals still to copy, the MCODE
whose match part follows them, and a match in copying. -/
structure PltBlk where
  stored : Bool
  last   : Bool
  win    : Nat
  orig   : Nat
  crc    : Nat
  pay    : Nat
  out    : List Byte
  lit    : Nat
  mcode  : Nat
  mlen   : Nat
  moff   : Nat
deriving DecidableEq, Repr

/-- Where a stream stands: the window code of the block before, the dictionary, the block in progress. -/
structure PltDec where
  win  : Option Nat
  dict : List Byte
  blk  : Option PltBlk
deriving DecidableEq, Repr

/-- A saved context (R229, R230) by its stamp: its operation, where the stream stands, whether a resume has used it. -/
structure PleatCtx where
  op   : Nat
  dec  : PltDec
  used : Bool
deriving DecidableEq, Repr

/-- The Pleat engines: queues and lanes by engine (a lane's key is engine × 4 + lane), and the contexts by stamp. -/
structure Pleat where
  queue : Tbl (List PleatJob)
  lanes : Tbl PleatJob
  ctx   : Tbl PleatCtx
deriving DecidableEq, Repr

/-! ### Gauge (09_gauge.md) -/

/-- A valid entry at a physical position: VALUE, CARE and its panel tag (R237). -/
structure GauRow where
  value : Nat
  care  : Nat
  panel : Nat
deriving DecidableEq, Repr

/-- A batch queued or in progress (R244): its address, panel and item (none for BATCH_GO), its block as read when it was queued, the
keys or records begun and completed, an abort latched, a result with ERR, a result with MULTI. -/
structure Batch where
  addr   : Nat
  panel  : Nat
  item   : Option Nat
  block  : List Byte
  next   : Nat
  done   : Nat
  abort  : Bool
  err    : Bool
  multi  : Bool
deriving DecidableEq, Repr

/-- A block move under way for an INSERT (R248): the free place, the place of the rank, whether the free place is above, the
entry, its rank. -/
structure GauMove where
  free  : Nat
  place : Nat
  entry : GauRow
  rank  : Nat
deriving DecidableEq, Repr

/-- An own frame on the ring (R255, R256): its tag and words, the key it is for, the local result searched at issue (lowest rank, number
of matches), whether it has been sent again. -/
structure GcbOut where
  tag    : Nat
  words  : List Nat
  key    : Nat
  hit    : Option Nat
  count  : Nat
  resent : Bool
deriving DecidableEq, Repr

/-- Gauge and its cascade port: the entries by place (a place is one entry wide), the queue, the update batch and the search or count
batch in progress, the move, MULTI of the last search batch, own frames, the next TAG. -/
structure Gauge where
  rows    : Tbl GauRow
  queue   : List Batch
  upd     : Option Batch
  look    : Option Batch
  move    : Option GauMove
  multi   : Bool
  out     : List GcbOut
  nextTag : Nat
deriving DecidableEq, Repr

/-- Gauge with an empty table and no work (after Fill, Ward, or its domain's loss). -/
def gaugeEmpty : Gauge :=
  { rows := [], queue := [], upd := none, look := none, move := none, multi := false, out := [], nextTag := 0 }

/-! ### Spool, Take-up, Tracing (12_shuttle_spool.md) -/

/-- Who posted an item. -/
inductive Poster where
  | core (c : CoreId) (task : Nat)
  | nvme (cmd : Nat)
  | startList
deriving DecidableEq, Repr

/-- Where an item stands. -/
inductive ItemSt where
  | waiting | dispatched | running | done
deriving DecidableEq, Repr

/-- A Spool item (R330, R331); its addresses are already translated to fabric addresses. -/
structure Item where
  kind     : Nat
  list     : Nat
  cplTo    : Nat
  flow     : Nat
  deadline : Nat
  clusters : Nat
  banks    : Nat
  target   : Nat
  entry    : Nat
  cplAddr  : Nat
  arg0     : Nat
  arg1     : Nat
  arg2     : Nat
  panel    : Nat
  poster   : Poster
  accepted : Nat
  key      : Nat
  order    : Nat
  st       : ItemSt
  core     : Option Nat
  aged     : Bool
  /-- After YIELD: the saved register block (B0 to B7, PC, PSW, RCNT, FP). -/
  saved    : Option (List Nat)
  cancel   : Bool
  /-- The target's code in Tracing records; 0xFF before dispatch. -/
  unit     : Nat
  dmaDone  : Nat
  /-- The result word of a SEAM item. -/
  word     : Nat
  /-- Completions addressed to the task while it waits after YIELD. -/
  heldCpls : List Nat
deriving DecidableEq, Repr

/-- A completion on its way: source of R343, item, STATUS, RESULT; a Selvedge or firmware completion has no item. -/
structure Cpl where
  src    : Nat
  item   : Option Nat
  status : Nat
  result : Nat
  info   : Nat
deriving DecidableEq, Repr

/-- Spool, Take-up and Tracing. -/
structure Spool where
  items   : Tbl Item
  lastCore : Tbl Nat
  coreItem : Tbl Nat
  lastPanel : Tbl Nat
  coreUs  : Tbl Nat
  order   : Nat
  heldCmds : List Nat
  draining : Bool
  cpls    : List Cpl
  granted : List Cpl
  trcBuf  : List (List Byte)
  portBusy : Bool
deriving DecidableEq, Repr

/-! ### Agrek cores (10_agrek_model.md) -/

/-- An address window (R279). -/
structure Win where
  vbase  : Nat
  target : Nat
  size   : Nat
  rd     : Bool
  wr     : Bool
  ex     : Bool
  ca     : Bool
  panel  : Nat
deriving DecidableEq, Repr

/-- What a core is doing: stopped (Bobbin before release or after a halt; Shuttle with no task), executing, waiting in WFI or
HALT, or waiting in WCPL. -/
inductive CoreSt where
  | stopped | run | waitInt | waitCpl
deriving DecidableEq, Repr

/-- The state of an Agrek core: its registers (R263), its local store beyond the register block, the 1 bits of its private bit
space, its windows, its completion queue, the global bit window of its task (base, size), the pending interrupt vectors. -/
structure Core where
  b     : List Long
  pc    : Nat
  psw   : Nat
  rcnt  : Nat
  fp    : Long
  ls    : Memory
  bits  : List Nat
  wins  : Tbl Win
  cplQ  : List Nat
  st    : CoreSt
  halted : Bool
deriving DecidableEq, Repr

/-! ### Host and network (13_host_network.md), panels (14_panels.md) -/

/-- An NVMe submission queue. -/
structure Sq where
  size  : Nat
  cq    : Nat
  panel : Nat
  head  : Nat
  tail  : Nat
deriving DecidableEq, Repr

/-- An NVMe completion queue: entries posted and not yet freed by its head doorbell. -/
structure Cq where
  size  : Nat
  vec   : Nat
  head  : Nat
  tail  : Nat
deriving DecidableEq, Repr

/-- What an outstanding NVMe command still does. -/
inductive CmdOp where
  | read | write | compare | verify | copy | spool | aer | memCopy
deriving DecidableEq, Repr

/-- An outstanding NVMe command: header, operation, panel, data pointer, byte range in its namespace, pieces gathered by
offset, work tokens still open, the first bad status met, the write data received over NVMe/TCP, the Spool item, the LEGACY
profile in force at its fetch, and whether its completion is to be sent. -/
structure Cmd where
  h       : Hdr
  op      : CmdOp
  panel   : Nat
  dp      : DataPtr
  start   : Nat
  len     : Nat
  pieces  : List (Nat × List Byte)
  left    : Nat
  status  : Nat
  rxd     : Tbl Byte
  item    : Option Nat
  /-- The bound profile's bytes at the fetch. -/
  legacy  : Option (List Byte)
  silent  : Bool
  dest    : Nat
  stored  : List Byte
deriving DecidableEq, Repr

/-- A namespace: its size in blocks, LBA format, panel, legacy profile bound. -/
structure Ns where
  blocks : Nat
  lbaf   : Nat
  panel  : Nat
  legacy : Option Nat
deriving DecidableEq, Repr

/-- A downloaded program (R358): its panel, place and length. -/
structure Prog where
  panel : Nat
  addr  : Nat
  len   : Nat
  entry : Nat
deriving DecidableEq, Repr

/-- The NVMe controller and the PCIe endpoint beside their pages. -/
structure Nvme where
  ccEn     : Bool
  csts     : Bool
  cfs      : Bool
  sqs      : Tbl Sq
  cqs      : Tbl Cq
  cqHeld   : List (Nat × Output)
  cmds     : Tbl Cmd
  aers     : List Nat
  events   : List Nat
  features : Tbl Nat
  keepAlive : Nat
  ns       : Tbl Ns
  progs    : Tbl Prog
  ranges   : Tbl (List (Nat × Nat))
  profiles : Tbl (List Byte)
  d3hot    : Bool
  linkUp   : Bool
  perstLow : Bool
  fn1Masked : Bool
  miConfig : Tbl Nat
deriving DecidableEq, Repr

/-- A command whose H2CData is still to come (R372), other than a write: its capsule, the bytes it awaits, those received. -/
structure CapWait where
  cid  : Nat
  nsid : Nat
  rsvd : Nat
  io   : IoCmd
  len  : Nat
  rxd  : Tbl Byte
deriving DecidableEq, Repr

/-- An NVMe/TCP connection (R371): its controller and queue, the panel, the host's NQN, the commands that wait for data. -/
structure Conn where
  ctrl  : Nat
  qid   : Nat
  panel : Nat
  nqn   : List Byte
  waits : List CapWait
deriving DecidableEq, Repr

/-- The network attachment. -/
structure Net where
  conns   : Tbl Conn
  paused  : List (Nat × Nat)
deriving DecidableEq, Repr

/-- The panels beside the PAN page: closed admissions and aperture gates, local memory extent and global bit window extent by
panel (base, size), and the epoch's use of the rate shares. -/
structure Panels where
  closed  : List Nat
  gated   : List Nat
  slm     : Tbl (Nat × Nat)
  gbits   : Tbl (Nat × Nat)
  wins    : Tbl (Tbl Win)
  epochN  : Nat
  hostBytes : Tbl Nat
deriving DecidableEq, Repr

/-! ### The state -/

/-- The data caches of the Shuttle cores (12_shuttle_spool.md R326): by core, the 64-byte lines held, by line number. -/
structure Caches where
  data : Tbl (Tbl (List Byte))
deriving DecidableEq, Repr

/-- The state of the block. -/
structure State where
  part     : Part
  board    : Board
  /-- Register fields by key (page × 4096 + offset) × 32 + low bit; unlisted: the reset value. -/
  regs     : Tbl Nat
  /-- RWT fields as loaded at Boot, by the same key (R463). -/
  loaded   : Tbl Nat
  /-- 64-bit counters by page × 4096 + offset; unlisted: 0. -/
  ctrs     : Tbl Nat
  /-- Counter shadows by agent code × 2^32 + page (R501). -/
  shadow   : Tbl Nat
  /-- Fabric memory: staging, DRAM and the host aperture. -/
  mem      : Memory
  /-- SPI NOR contents; unlisted: 0xFF is held as the stored complement 0x00 (R473). -/
  nor      : Memory
  /-- Global bit space: its 1 bits (R275, R277). -/
  gbit     : List Nat
  rtcUs    : Nat
  splTime  : Nat
  cycFrac  : Nat
  /-- The model's own field: how many free values have been drawn. -/
  free     : Nat
  outbox   : List Output
  power    : Power
  trust    : Trust
  serial   : Serial
  fault    : FaultSt
  stg      : Staging
  integ    : Integrity
  dram     : Dram
  seam     : Seam
  nand     : Nand
  selv     : Selv
  servo    : Servo
  trd      : Treadle
  pink     : Pink
  pleat    : Pleat
  gauge    : Gauge
  spool    : Spool
  cores    : Tbl Core
  caches   : Caches
  nvme     : Nvme
  net      : Net
  panels   : Panels
  uartTx   : List Nat
  uartRx   : List Nat
  /-- The commands that wait, first in, first out. -/
  pending  : List Instr
deriving DecidableEq, Repr

/-! ### The state after reset -/

/-- The block pattern of 19_trust_pattern.md R479, which
has NREC 0, MODE_EN 0x001 and panel 0 alone active; the bytes are MAGIC and LAYOUT (R476), NREC, GENERATION and MODE_EN. -/
def blockPattern : List Byte :=
  [0x4C, 0x50, 0x41, 0x54, 0x01, 0x00, 0x00, 0x00, 0x00, 0x00, 0x00, 0x00, 0x01, 0x00, 0x00, 0x00]
    ++ List.replicate (0x8C3 - 16) 0 ++ [0x80] ++ List.replicate (4096 - 0x8C4) 0

/-- The state held in power-on reset (18_power_clocks.md R460, R462; 22_pins_electrical.md R519): every register field at its
reset value, every table empty, every sequence idle, no command waiting. The part, the board and the values the spec gives no
reset for are this model's choice (log entries 3, 4, 5, 8 and 9). -/
def State.reset : State where
  part := .od7400
  board := ⟨2, 1, 32, 64, 1, false, false, 0⟩
  regs := []
  loaded := []
  ctrs := []
  shadow := []
  mem := []
  nor := []
  gbit := []
  rtcUs := 0
  splTime := 0
  cycFrac := 0
  free := 0
  outbox := []
  power :=
    { seq := .heldInReset, regsDue := [], regEn := [], wakeSrc := 0, latched := 0, partialWake := false,
      faultOnWake := false, dramAwake := [], nandTrained := [], vddCode := 0x32, vidWait := false, dvfs := [],
      underMs := 0, asleepSince := 0, domsWere := [] }
  trust :=
    { pattern := blockPattern, rebuild := 0, keptGen := 0, keptGrain := 4, keptXor := 1, keptModes := 1, bootDigest := [],
      fwRunning := false, keyHashes := [], patternKey := [], rootKey := [], keySlots := [], lastKeys := [], keyFails := [], restarts := [],
      wdogAt := 0 }
  serial := { queue := [], pat := none, mode := none, pan := none }
  fault := { held := false, quiescedAt := 0 }
  stg := { bufs := [], waits := [], lastCls := 3, lastBank := 31 }
  integ := { sramPass := 0, dramPass := 0, watch := [], hard := [], marked := [], bad := [] }
  dram :=
    { trained := [], act := [], raa := [], postponed := [], pulledIn := [], lastAlert := [], pausing := [], zqDue := false,
      powerDown := [], bytes := [], imbRun := false, waits := [], fill := 0, fillUs := 0 }
  seam :=
    { map := [], fine := [], ranges := [], seq := 0, order := 0, rot := 0, reclRot := 0, rows := [], lists := [], flight := [], unplaced := [],
      held := [], copies := [], victims := [], reads := [], nextId := 0, ckpt := none, ckptAt := 0,
      rootA := none, rootB := none, flush := none, flushing := false, pfailLow := false, pfailHold := false, pfailAon := false,
      pfailWard := false, formatted := false, unpicks := [], residue := [], hem := [], hemWait := [], reclOn := [], vfy := none, archive := [],
      diskNext := 0, migs := [], wroteAt := [], admitted := [], heldWrites := [], archReads := [], streams := [], scan := [] }
  nand := { slots := [], ops := [], soft := [] }
  selv :=
    { hemQ := [], aborts := [], run := none, lastHem := false, hemNext := 0, disk := [], paFrame := none, paSent := false,
      paQ := [], fltLow := false, draining := false }
  servo :=
    { synced := false, found := 0, missed := 0, good := 0, pesLast := 0, f0 := (0, 0, 0, 0), f1 := (0, 0, 0, 0), u := 0,
      seek := none, seekDone := false, lastTrack := 0, cycles := [], sinceIdx := none, inRange := 0,
      spinMode := 0, vcmOff := true, attn := false, shock := false }
  trd := { seq := 0, last := [], sw := none, swSent := false, fails := 0 }
  pink := { slots := [], queue := [], load := [], loadWait := [], loadRes := [] }
  pleat := { queue := [], lanes := [], ctx := [] }
  gauge := gaugeEmpty
  spool :=
    { items := [], lastCore := [], coreItem := [], lastPanel := [], coreUs := [], order := 0, heldCmds := [],
      draining := false, cpls := [], granted := [], trcBuf := [], portBusy := false }
  cores := []
  caches := ⟨[]⟩
  nvme :=
    { ccEn := false, csts := false, cfs := false, sqs := [], cqs := [], cqHeld := [], cmds := [], aers := [], events := [],
      features := [], keepAlive := 0, ns := [], progs := [], ranges := [], profiles := [], d3hot := false, linkUp := false,
      perstLow := false, fn1Masked := false, miConfig := [] }
  net := { conns := [], paused := [] }
  panels := { closed := [], gated := [], slm := [], gbits := [], wins := [], epochN := 1, hostBytes := [] }
  uartTx := []
  uartRx := []
  pending := []

end Sys2Proof.Machine
end

