-- ==== Sys2Proof/Machine/RegMap.lean ====
section
/-!
DEFINITION. Sys2Proof/Machine/RegMap.lean: the register pages and every register field of the spec's tables, with its place,
access code, reset value and stated range (21_register_pages.md R499, R503, R513; 00_scope.md R8; the tables of the chapters).
Field values are natural numbers below 2 to the field's width.
-/

namespace Sys2Proof.Machine

/-- The access codes of 00_scope.md R8. -/
inductive Acc where
  | rw | ro | wo | w1c | rc | rwt | to
deriving DecidableEq, Repr

/-- The range a field's description states (21_register_pages.md R534): any value, an interval, a list, or a multiple. -/
inductive Rng where
  | all
  | between (lo hi : Nat)
  | oneOf (l : List Nat)
  | aligned (n : Nat)
deriving DecidableEq, Repr

/-- A register field: byte offset, low bit, width, access, reset value, and for indexed fields the stride and the count. -/
structure Fld where
  off    : Nat
  lo     : Nat
  w      : Nat
  acc    : Acc
  rst    : Nat
  stride : Nat := 0
  count  : Nat := 1
  rng    : Rng := .all
deriving DecidableEq, Repr

/-- The page kinds of 21_register_pages.md R513. -/
inductive PageKind where
  | glb | mode | pwr | clk | rst | pad | pat | thm | flt | nfc | ldd | seam | recl | hem | unpk | drc | drm | slv | svo | trl
  | plt | pnk | gau | gcb | shc | bob | spl | trc | tku | pci | nvm | pan | eth | toe | eic | fil | sbd | dbg | trx | gpio
deriving DecidableEq, Repr


def R.common_LEVEL : Fld := { off := 0x030, lo := 0, w := 8, acc := .ro, rst := 0x0 }
def R.common_CAPACITY : Fld := { off := 0x030, lo := 8, w := 8, acc := .rw, rst := 0x40, rng := .between 1 255 }
def R.common_OVF : Fld := { off := 0x030, lo := 16, w := 1, acc := .w1c, rst := 0x0 }
def R.common_LEAK_PERIOD : Fld := { off := 0x034, lo := 0, w := 16, acc := .rw, rst := 0x64, rng := .between 1 65535 }
def R.common_TYPE : Fld := { off := 0x000, lo := 0, w := 16, acc := .ro, rst := 0x0 }
def R.common_INSTANCE : Fld := { off := 0x000, lo := 16, w := 8, acc := .ro, rst := 0x0 }
def R.common_VERSION : Fld := { off := 0x000, lo := 24, w := 8, acc := .ro, rst := 0x1 }
def R.common_CAPS : Fld := { off := 0x004, lo := 0, w := 32, acc := .ro, rst := 0x0 }
def R.common_EN : Fld := { off := 0x008, lo := 0, w := 1, acc := .rw, rst := 0x0 }
def R.common_SRESET : Fld := { off := 0x008, lo := 1, w := 1, acc := .wo, rst := 0x0 }
def R.common_DRAIN : Fld := { off := 0x008, lo := 2, w := 1, acc := .rw, rst := 0x0 }
def R.common_FREEZE : Fld := { off := 0x008, lo := 3, w := 1, acc := .rw, rst := 0x0 }
def R.common_BUSY : Fld := { off := 0x00C, lo := 0, w := 1, acc := .ro, rst := 0x0 }
def R.common_IDLE : Fld := { off := 0x00C, lo := 1, w := 1, acc := .ro, rst := 0x1 }
def R.common_FAULT : Fld := { off := 0x00C, lo := 2, w := 1, acc := .ro, rst := 0x0 }
def R.common_BLK3 : Fld := { off := 0x00C, lo := 3, w := 1, acc := .ro, rst := 0x0 }
def R.common_INT_RAW : Fld := { off := 0x010, lo := 0, w := 32, acc := .ro, rst := 0x0 }
def R.common_INT_EN : Fld := { off := 0x014, lo := 0, w := 32, acc := .rw, rst := 0x0 }
def R.common_INT_PEND : Fld := { off := 0x018, lo := 0, w := 32, acc := .ro, rst := 0x0 }
def R.common_INT_CLR : Fld := { off := 0x01C, lo := 0, w := 32, acc := .w1c, rst := 0x0 }
def R.common_ERR_CODE : Fld := { off := 0x020, lo := 0, w := 8, acc := .w1c, rst := 0x0 }
def R.common_ERR_MORE : Fld := { off := 0x020, lo := 8, w := 8, acc := .ro, rst := 0x0 }
def R.common_ERR_INFO : Fld := { off := 0x024, lo := 0, w := 32, acc := .ro, rst := 0x0 }
def R.common_ERR_ADDR_LO : Fld := { off := 0x028, lo := 0, w := 32, acc := .ro, rst := 0x0 }
def R.common_ERR_ADDR_HI : Fld := { off := 0x02C, lo := 0, w := 16, acc := .ro, rst := 0x0 }
def R.common_SCRATCH : Fld := { off := 0x03C, lo := 0, w := 32, acc := .rw, rst := 0x0 }
def R.common_OWNER : Fld := { off := 0x038, lo := 0, w := 8, acc := .ro, rst := 0x0 }
def R.common_TAKE : Fld := { off := 0x038, lo := 8, w := 1, acc := .wo, rst := 0x0 }
def R.common_RELEASE : Fld := { off := 0x038, lo := 9, w := 1, acc := .wo, rst := 0x0 }
def R.common_LOCK_REJ : Fld := { off := 0x038, lo := 10, w := 1, acc := .w1c, rst := 0x0 }

def R.glb_STG_MIN_MEDIA : Fld := { off := 0x100, lo := 0, w := 10, acc := .rwt, rst := 0x100 }
def R.glb_STG_MIN_ENGINE : Fld := { off := 0x104, lo := 0, w := 10, acc := .rwt, rst := 0x80 }
def R.glb_STG_MIN_HOST : Fld := { off := 0x108, lo := 0, w := 10, acc := .rwt, rst := 0xC0 }
def R.glb_STG_MIN_PROG : Fld := { off := 0x10C, lo := 0, w := 10, acc := .rwt, rst := 0x100 }
def R.glb_STG_FREE : Fld := { off := 0x110, lo := 0, w := 10, acc := .ro, rst := 0x3E0 }
def R.glb_STG_WAITERS : Fld := { off := 0x110, lo := 16, w := 10, acc := .ro, rst := 0x0 }
def R.glb_STG_CFG_REJ : Fld := { off := 0x110, lo := 31, w := 1, acc := .w1c, rst := 0x0 }
def R.glb_DEVSTATE : Fld := { off := 0x120, lo := 0, w := 4, acc := .ro, rst := 0x1 }
def R.glb_ROUTE_REJ : Fld := { off := 0x124, lo := 0, w := 1, acc := .w1c, rst := 0x0 }
def R.glb_INT_SUM : Fld := { off := 0x140, lo := 0, w := 32, acc := .ro, rst := 0x0, stride := 4, count := 5 }
def R.glb_MSIX_VEC : Fld := { off := 0x200, lo := 0, w := 5, acc := .rw, rst := 0x1, stride := 4, count := 142 }
def R.glb_MSIX_EN : Fld := { off := 0x200, lo := 5, w := 1, acc := .rw, rst := 0x1, stride := 4, count := 142 }
def R.glb_BOB_CORE : Fld := { off := 0x200, lo := 6, w := 3, acc := .rw, rst := 0x0, stride := 4, count := 142 }
def R.glb_BOB_VEC : Fld := { off := 0x200, lo := 9, w := 4, acc := .rw, rst := 0x0, stride := 4, count := 142 }
def R.glb_BOB_EN : Fld := { off := 0x200, lo := 13, w := 1, acc := .rw, rst := 0x1, stride := 4, count := 142 }
def R.glb_THM_VEC : Fld := { off := 0x200, lo := 14, w := 4, acc := .rwt, rst := 0x0, stride := 4, count := 142 }
def R.glb_THM_EN : Fld := { off := 0x200, lo := 18, w := 1, acc := .rwt, rst := 0x0, stride := 4, count := 142 }

def R.mode_MODE_EN : Fld := { off := 0x100, lo := 0, w := 12, acc := .rwt, rst := 0x1 }
def R.mode_MODE_REQ : Fld := { off := 0x104, lo := 0, w := 12, acc := .rw, rst := 0x0 }
def R.mode_REQ_DRAIN : Fld := { off := 0x104, lo := 12, w := 1, acc := .rw, rst := 0x0 }
def R.mode_REQ_GO : Fld := { off := 0x104, lo := 16, w := 1, acc := .wo, rst := 0x0 }
def R.mode_REQ_BUSY : Fld := { off := 0x104, lo := 17, w := 1, acc := .ro, rst := 0x0 }
def R.mode_REQ_RESULT : Fld := { off := 0x104, lo := 24, w := 8, acc := .ro, rst := 0x0 }
def R.mode_MODE_PAT : Fld := { off := 0x108, lo := 0, w := 12, acc := .ro, rst := 0x1 }
def R.mode_MODE_RT_MASK : Fld := { off := 0x108, lo := 16, w := 12, acc := .ro, rst := 0xD3A }

def R.pwr_STATE_REQ : Fld := { off := 0x100, lo := 0, w := 2, acc := .rw, rst := 0x0, rng := .between 1 3 }
def R.pwr_STATE_GO : Fld := { off := 0x100, lo := 2, w := 1, acc := .wo, rst := 0x0 }
def R.pwr_STATE_BUSY : Fld := { off := 0x100, lo := 3, w := 1, acc := .ro, rst := 0x0 }
def R.pwr_LAST_ABORT_ST : Fld := { off := 0x100, lo := 4, w := 2, acc := .ro, rst := 0x0 }
def R.pwr_LAST_ABORT_AP : Fld := { off := 0x100, lo := 6, w := 3, acc := .ro, rst := 0x0 }
def R.pwr_DOZE_AUTO : Fld := { off := 0x100, lo := 9, w := 1, acc := .rw, rst := 0x1 }
def R.pwr_DOZE_IDLE_US : Fld := { off := 0x100, lo := 16, w := 16, acc := .rw, rst := 0x64, rng := .between 10 65535 }
def R.pwr_DOM_ON_LO : Fld := { off := 0x104, lo := 0, w := 32, acc := .ro, rst := 0xFFFFFFFF }
def R.pwr_DOM_ON_HI : Fld := { off := 0x108, lo := 0, w := 6, acc := .ro, rst := 0x3F }
def R.pwr_DOM_SEL_LO : Fld := { off := 0x10C, lo := 0, w := 32, acc := .rw, rst := 0x0 }
def R.pwr_DOM_SEL_HI : Fld := { off := 0x110, lo := 0, w := 6, acc := .rw, rst := 0x0 }
def R.pwr_DOM_OFF_GO : Fld := { off := 0x110, lo := 8, w := 1, acc := .wo, rst := 0x0 }
def R.pwr_DOM_ON_GO : Fld := { off := 0x110, lo := 9, w := 1, acc := .wo, rst := 0x0 }
def R.pwr_DOM_BUSY : Fld := { off := 0x110, lo := 10, w := 1, acc := .ro, rst := 0x0 }
def R.pwr_SLUMBER_BANKS : Fld := { off := 0x114, lo := 0, w := 32, acc := .rwt, rst := 0xFFFFFFFF }
def R.pwr_WAKE_EN : Fld := { off := 0x118, lo := 0, w := 8, acc := .rw, rst := 0xFF }
def R.pwr_WAKE_SRC : Fld := { off := 0x118, lo := 8, w := 8, acc := .ro, rst := 0x0 }
def R.pwr_WAKE_PARTIAL : Fld := { off := 0x118, lo := 16, w := 1, acc := .w1c, rst := 0x0 }
def R.pwr_XTAL_SLUMBER : Fld := { off := 0x118, lo := 17, w := 1, acc := .rwt, rst := 0x0 }
def R.pwr_RETAIN_LOST : Fld := { off := 0x11C, lo := 0, w := 32, acc := .w1c, rst := 0x0 }
def R.pwr_REG_OFF_SLUMBER : Fld := { off := 0x120, lo := 0, w := 8, acc := .rwt, rst := 0x6C }
def R.pwr_REG_OFF_VAULT : Fld := { off := 0x120, lo := 8, w := 8, acc := .rwt, rst := 0xFF }
def R.pwr_REG_PGOOD : Fld := { off := 0x120, lo := 16, w := 8, acc := .ro, rst := 0x0 }
def R.pwr_REG_FAIL : Fld := { off := 0x120, lo := 24, w := 8, acc := .w1c, rst := 0x0 }
def R.pwr_PWR_LIMIT_W : Fld := { off := 0x124, lo := 0, w := 8, acc := .rwt, rst := 0x73 }
def R.pwr_PWR_MEAS_W : Fld := { off := 0x124, lo := 8, w := 8, acc := .ro, rst := 0x0 }
def R.pwr_BB_FBB : Fld := { off := 0x124, lo := 16, w := 8, acc := .rwt, rst := 0x14, rng := .between 0 30 }
def R.pwr_BB_RBB : Fld := { off := 0x124, lo := 24, w := 8, acc := .rwt, rst := 0x1E, rng := .between 0 50 }
def R.pwr_VRET_MV : Fld := { off := 0x128, lo := 0, w := 10, acc := .rwt, rst := 0x1F4, rng := .between 450 600 }
def R.pwr_WAKE_TIMER_S : Fld := { off := 0x12C, lo := 0, w := 32, acc := .rw, rst := 0x0 }
def R.pwr_REF_HEAD : Fld := { off := 0x130, lo := 0, w := 3, acc := .ro, rst := 0x0 }
def R.pwr_REF_DOM : Fld := { off := 0x180, lo := 0, w := 6, acc := .ro, rst := 0x0, stride := 8, count := 8 }
def R.pwr_REF_KIND : Fld := { off := 0x180, lo := 6, w := 2, acc := .ro, rst := 0x0, stride := 8, count := 8 }
def R.pwr_REF_BY : Fld := { off := 0x180, lo := 8, w := 8, acc := .ro, rst := 0x0, stride := 8, count := 8 }
def R.pwr_REF_TIME : Fld := { off := 0x184, lo := 0, w := 32, acc := .ro, rst := 0x0, stride := 8, count := 8 }

def R.clk_SSC_EN : Fld := { off := 0x100, lo := 0, w := 1, acc := .rwt, rst := 0x1 }
def R.clk_SSC_DEPTH : Fld := { off := 0x100, lo := 1, w := 2, acc := .rwt, rst := 0x1, rng := .between 0 1 }
def R.clk_XTAL_OK : Fld := { off := 0x100, lo := 3, w := 1, acc := .ro, rst := 0x0 }
def R.clk_CLK_DEGRADED : Fld := { off := 0x100, lo := 4, w := 1, acc := .ro, rst := 0x0 }
def R.clk_XTAL_RETRY : Fld := { off := 0x100, lo := 5, w := 1, acc := .wo, rst := 0x0 }
def R.clk_PLL_LOCK_LO : Fld := { off := 0x104, lo := 0, w := 32, acc := .ro, rst := 0x0 }
def R.clk_PLL_LOCK_HI : Fld := { off := 0x108, lo := 0, w := 9, acc := .ro, rst := 0x0 }
def R.clk_LOCK_LOST_LO : Fld := { off := 0x10C, lo := 0, w := 32, acc := .w1c, rst := 0x0 }
def R.clk_LOCK_LOST_HI : Fld := { off := 0x110, lo := 0, w := 9, acc := .w1c, rst := 0x0 }

def R.rst_RST_CAUSE : Fld := { off := 0x100, lo := 0, w := 4, acc := .ro, rst := 0x1 }
def R.rst_DEV_RST : Fld := { off := 0x104, lo := 0, w := 8, acc := .wo, rst := 0x0 }
def R.rst_SRESET_REJ : Fld := { off := 0x108, lo := 0, w := 1, acc := .w1c, rst := 0x0 }

def R.pad_PAD_TACK_LO : Fld := { off := 0x100, lo := 0, w := 32, acc := .ro, rst := 0x0 }
def R.pad_PAD_TACK_HI : Fld := { off := 0x104, lo := 0, w := 6, acc := .ro, rst := 0x0 }
def R.pad_PAD_TACK_REL_LO : Fld := { off := 0x108, lo := 0, w := 32, acc := .wo, rst := 0x0 }
def R.pad_PAD_TACK_REL_HI : Fld := { off := 0x10C, lo := 0, w := 6, acc := .wo, rst := 0x0 }
def R.pad_SLEW_GPIO : Fld := { off := 0x110, lo := 0, w := 2, acc := .rwt, rst := 0x0 }
def R.pad_SLEW_UART : Fld := { off := 0x110, lo := 2, w := 2, acc := .rwt, rst := 0x0 }
def R.pad_SLEW_SPI : Fld := { off := 0x110, lo := 4, w := 2, acc := .rwt, rst := 0x1 }
def R.pad_SLEW_SBD : Fld := { off := 0x110, lo := 6, w := 2, acc := .rwt, rst := 0x0 }
def R.pad_SLEW_ARC : Fld := { off := 0x110, lo := 8, w := 2, acc := .rwt, rst := 0x1 }
def R.pad_SLEW_DBG : Fld := { off := 0x110, lo := 10, w := 2, acc := .rwt, rst := 0x1 }

def R.pat_PAT_SRC : Fld := { off := 0x100, lo := 0, w := 2, acc := .ro, rst := 0x2 }
def R.pat_PATTERN_DEFAULTED : Fld := { off := 0x100, lo := 2, w := 1, acc := .ro, rst := 0x1 }
def R.pat_A_OK : Fld := { off := 0x100, lo := 3, w := 1, acc := .ro, rst := 0x0 }
def R.pat_B_OK : Fld := { off := 0x100, lo := 4, w := 1, acc := .ro, rst := 0x0 }
def R.pat_NO_FIRMWARE : Fld := { off := 0x100, lo := 5, w := 1, acc := .ro, rst := 0x0 }
def R.pat_START_FAIL : Fld := { off := 0x100, lo := 6, w := 1, acc := .w1c, rst := 0x0 }
def R.pat_FW_SLOT : Fld := { off := 0x100, lo := 7, w := 1, acc := .ro, rst := 0x0 }
def R.pat_REC_IGNORED : Fld := { off := 0x100, lo := 8, w := 9, acc := .ro, rst := 0x0 }
def R.pat_PAT_PENDING : Fld := { off := 0x100, lo := 17, w := 1, acc := .ro, rst := 0x0 }
def R.pat_GENERATION : Fld := { off := 0x104, lo := 0, w := 32, acc := .ro, rst := 0x0 }
def R.pat_FW_VERSION : Fld := { off := 0x108, lo := 0, w := 32, acc := .ro, rst := 0x0 }
def R.pat_KEY_REVOKE : Fld := { off := 0x10C, lo := 0, w := 4, acc := .to, rst := 0x0 }
def R.pat_MIN_FW_VER : Fld := { off := 0x110, lo := 0, w := 32, acc := .ro, rst := 0x0 }

def R.thm_MB_CMD : Fld := { off := 0x100, lo := 0, w := 8, acc := .rw, rst := 0x0 }
def R.thm_MB_GO : Fld := { off := 0x100, lo := 8, w := 1, acc := .wo, rst := 0x0 }
def R.thm_MB_BUSY : Fld := { off := 0x100, lo := 9, w := 1, acc := .ro, rst := 0x0 }
def R.thm_MB_REJ : Fld := { off := 0x100, lo := 10, w := 1, acc := .w1c, rst := 0x0 }
def R.thm_MB_RESULT : Fld := { off := 0x100, lo := 16, w := 8, acc := .ro, rst := 0x0 }
def R.thm_MB_ARG0 : Fld := { off := 0x104, lo := 0, w := 32, acc := .rw, rst := 0x0 }
def R.thm_MB_ARG1 : Fld := { off := 0x108, lo := 0, w := 32, acc := .rw, rst := 0x0 }
def R.thm_MB_ADDR_LO : Fld := { off := 0x10C, lo := 0, w := 32, acc := .rw, rst := 0x0 }
def R.thm_MB_ADDR_HI : Fld := { off := 0x110, lo := 0, w := 16, acc := .rw, rst := 0x0 }
def R.thm_KEYS_UNLOCKED : Fld := { off := 0x114, lo := 0, w := 11, acc := .ro, rst := 0x0 }

def R.flt_FAULT_PAGE : Fld := { off := 0x100, lo := 0, w := 8, acc := .ro, rst := 0xFF }
def R.flt_FAULT_STATE : Fld := { off := 0x100, lo := 8, w := 4, acc := .ro, rst := 0x0 }
def R.flt_FAULT_VALID : Fld := { off := 0x100, lo := 12, w := 1, acc := .ro, rst := 0x0 }
def R.flt_QUIESCED : Fld := { off := 0x100, lo := 13, w := 1, acc := .ro, rst := 0x0 }
def R.flt_FAULT_TIME_LO : Fld := { off := 0x104, lo := 0, w := 32, acc := .ro, rst := 0x0 }
def R.flt_FAULT_TIME_HI : Fld := { off := 0x108, lo := 0, w := 16, acc := .ro, rst := 0x0 }
def R.flt_FAULT_MORE : Fld := { off := 0x10C, lo := 0, w := 8, acc := .ro, rst := 0x0 }
def R.flt_WDOG_MS : Fld := { off := 0x110, lo := 0, w := 16, acc := .rwt, rst := 0x3E8, rng := .between 100 60000 }
def R.flt_WDOG_KICK : Fld := { off := 0x110, lo := 16, w := 1, acc := .wo, rst := 0x0 }
def R.flt_WARD_RESET_S : Fld := { off := 0x114, lo := 0, w := 16, acc := .rwt, rst := 0x0 }

def R.nfc_CE_PRESENT : Fld := { off := 0x100, lo := 0, w := 16, acc := .ro, rst := 0x0 }
def R.nfc_LUNS_M1 : Fld := { off := 0x100, lo := 16, w := 2, acc := .ro, rst := 0x0 }
def R.nfc_IFACE : Fld := { off := 0x100, lo := 18, w := 2, acc := .ro, rst := 0x0 }
def R.nfc_RATE_MTS : Fld := { off := 0x104, lo := 0, w := 12, acc := .rwt, rst := 0xA, rng := .between 10 3600 }
def R.nfc_SLEW : Fld := { off := 0x104, lo := 12, w := 2, acc := .rw, rst := 0x1 }
def R.nfc_DRIVE : Fld := { off := 0x104, lo := 14, w := 2, acc := .rw, rst := 0x1, rng := .between 0 2 }
def R.nfc_TRAIN_FAIL : Fld := { off := 0x104, lo := 16, w := 1, acc := .ro, rst := 0x0 }
def R.nfc_TRAINED_MTS : Fld := { off := 0x104, lo := 17, w := 12, acc := .ro, rst := 0x0 }
def R.nfc_W_HREAD : Fld := { off := 0x108, lo := 0, w := 4, acc := .rw, rst := 0x8 }
def R.nfc_W_SCAN : Fld := { off := 0x108, lo := 4, w := 4, acc := .rw, rst := 0x4 }
def R.nfc_W_WRITE : Fld := { off := 0x108, lo := 8, w := 4, acc := .rw, rst := 0x4 }
def R.nfc_W_FGRECL : Fld := { off := 0x108, lo := 12, w := 4, acc := .rw, rst := 0x4 }
def R.nfc_SUSPEND_EN : Fld := { off := 0x108, lo := 16, w := 1, acc := .rw, rst := 0x1 }
def R.nfc_RR_HARD : Fld := { off := 0x10C, lo := 0, w := 4, acc := .rw, rst := 0x3 }
def R.nfc_SOFT2_EN : Fld := { off := 0x10C, lo := 4, w := 1, acc := .rw, rst := 0x1 }
def R.nfc_SOFT3_EN : Fld := { off := 0x10C, lo := 5, w := 1, acc := .rw, rst := 0x1 }
def R.nfc_HARD_ITER : Fld := { off := 0x10C, lo := 8, w := 8, acc := .rw, rst := 0x14, rng := .between 4 64 }
def R.nfc_KEY_LOCK_SEEN : Fld := { off := 0x10C, lo := 16, w := 1, acc := .w1c, rst := 0x0 }

def R.ldd_SOFT_ITER : Fld := { off := 0x100, lo := 0, w := 8, acc := .rw, rst := 0x32, rng := .between 8 200 }
def R.ldd_QUEUED : Fld := { off := 0x104, lo := 0, w := 5, acc := .ro, rst := 0x0 }
def R.ldd_LAST_CH : Fld := { off := 0x104, lo := 8, w := 5, acc := .ro, rst := 0x0 }

def R.seam_CKPT_MS : Fld := { off := 0x100, lo := 0, w := 16, acc := .rwt, rst := 0x32, rng := .between 10 1000 }
def R.seam_CKPT_MIB : Fld := { off := 0x100, lo := 16, w := 16, acc := .rwt, rst := 0x40, rng := .between 16 1024 }
def R.seam_PROMOTE_THR : Fld := { off := 0x104, lo := 0, w := 8, acc := .rw, rst := 0x4 }
def R.seam_HEAT_HALVE : Fld := { off := 0x104, lo := 8, w := 8, acc := .rw, rst := 0xA }
def R.seam_POOL_HI : Fld := { off := 0x104, lo := 16, w := 8, acc := .rw, rst := 0x5E }
def R.seam_POOL_LO : Fld := { off := 0x104, lo := 24, w := 8, acc := .rw, rst := 0x58 }
def R.seam_FINE_GROUPS : Fld := { off := 0x108, lo := 0, w := 27, acc := .rwt, rst := 0x4000000, rng := .between 0 67108864 }
def R.seam_DEMOTE_AGE : Fld := { off := 0x10C, lo := 0, w := 16, acc := .rw, rst := 0x3C }
def R.seam_FINE_USED : Fld := { off := 0x110, lo := 0, w := 27, acc := .ro, rst := 0x0 }
def R.seam_SEQ_LO : Fld := { off := 0x118, lo := 0, w := 32, acc := .ro, rst := 0x0 }
def R.seam_SEQ_HI : Fld := { off := 0x11C, lo := 0, w := 16, acc := .ro, rst := 0x0 }
def R.seam_CKPT_SEQ_LO : Fld := { off := 0x120, lo := 0, w := 32, acc := .ro, rst := 0x0 }
def R.seam_CKPT_SEQ_HI : Fld := { off := 0x124, lo := 0, w := 16, acc := .ro, rst := 0x0 }
def R.seam_CKPT_AGE : Fld := { off := 0x128, lo := 0, w := 16, acc := .ro, rst := 0x0 }
def R.seam_CKPT_BUSY : Fld := { off := 0x128, lo := 16, w := 1, acc := .ro, rst := 0x0 }
def R.seam_CKPT_LATE : Fld := { off := 0x128, lo := 17, w := 1, acc := .w1c, rst := 0x0 }
def R.seam_RB_MS : Fld := { off := 0x130, lo := 0, w := 16, acc := .ro, rst := 0x0 }
def R.seam_RB_FLUSH_USED : Fld := { off := 0x130, lo := 16, w := 1, acc := .ro, rst := 0x0 }
def R.seam_RB_ROOT : Fld := { off := 0x130, lo := 17, w := 1, acc := .ro, rst := 0x0 }
def R.seam_RB_OVERRUN : Fld := { off := 0x130, lo := 18, w := 1, acc := .w1c, rst := 0x0 }
def R.seam_RB_FLUSH_BAD : Fld := { off := 0x130, lo := 19, w := 1, acc := .w1c, rst := 0x0 }
def R.seam_RB_SLOTS : Fld := { off := 0x134, lo := 0, w := 32, acc := .ro, rst := 0x0 }
def R.seam_CAP_GIB : Fld := { off := 0x138, lo := 0, w := 20, acc := .ro, rst := 0x0 }
def R.seam_CAP_LIMITED : Fld := { off := 0x138, lo := 20, w := 1, acc := .ro, rst := 0x0 }
def R.seam_RANGES : Fld := { off := 0x13C, lo := 0, w := 13, acc := .ro, rst := 0x0 }
def R.seam_PFAIL_SEEN : Fld := { off := 0x140, lo := 0, w := 1, acc := .w1c, rst := 0x0 }
def R.seam_FLUSH_DONE : Fld := { off := 0x140, lo := 1, w := 1, acc := .ro, rst := 0x0 }
def R.seam_FLUSH_MS : Fld := { off := 0x140, lo := 8, w := 8, acc := .ro, rst := 0x0 }
def R.seam_PFAIL_DEGLITCH_US : Fld := { off := 0x140, lo := 16, w := 8, acc := .rwt, rst := 0x2, rng := .between 1 20 }

def R.recl_BG_FREE : Fld := { off := 0x100, lo := 0, w := 16, acc := .rw, rst := 0x40 }
def R.recl_FG_FREE : Fld := { off := 0x100, lo := 16, w := 16, acc := .rw, rst := 0x18 }
def R.recl_CRIT_FREE : Fld := { off := 0x104, lo := 0, w := 16, acc := .rw, rst := 0x8 }
def R.recl_HOST_FLOOR : Fld := { off := 0x104, lo := 16, w := 8, acc := .rw, rst := 0xA, rng := .between 1 100 }
def R.recl_WL_DELTA : Fld := { off := 0x108, lo := 0, w := 16, acc := .rw, rst := 0xC8 }
def R.recl_RD_LIMIT : Fld := { off := 0x108, lo := 16, w := 16, acc := .rw, rst := 0x64 }
def R.recl_PE_LIMIT : Fld := { off := 0x10C, lo := 0, w := 16, acc := .rwt, rst := 0xBB8 }
def R.recl_RESERVE_ROWS : Fld := { off := 0x10C, lo := 16, w := 16, acc := .rwt, rst := 0x10 }
def R.recl_WR_MAX : Fld := { off := 0x110, lo := 0, w := 32, acc := .rw, rst := 0x4E20 }
def R.recl_THROTTLE : Fld := { off := 0x114, lo := 0, w := 8, acc := .ro, rst := 0x64 }
def R.recl_FG_ACTIVE : Fld := { off := 0x114, lo := 8, w := 1, acc := .ro, rst := 0x0 }
def R.recl_READONLY : Fld := { off := 0x114, lo := 9, w := 1, acc := .ro, rst := 0x0 }
def R.recl_RO_CLEARABLE : Fld := { off := 0x114, lo := 10, w := 1, acc := .ro, rst := 0x0 }
def R.recl_MIN_FREE : Fld := { off := 0x118, lo := 0, w := 16, acc := .ro, rst := 0x0 }
def R.recl_MIN_FREE_CH : Fld := { off := 0x118, lo := 16, w := 5, acc := .ro, rst := 0x0 }

def R.hem_REGIONS : Fld := { off := 0x100, lo := 0, w := 13, acc := .ro, rst := 0x0 }
def R.hem_SEAL_MS : Fld := { off := 0x104, lo := 0, w := 16, acc := .rw, rst := 0xA, rng := .between 1 1000 }
def R.hem_MIG_HI : Fld := { off := 0x104, lo := 16, w := 8, acc := .rw, rst := 0x50 }
def R.hem_MIG_LO : Fld := { off := 0x104, lo := 24, w := 8, acc := .rw, rst := 0x3C }
def R.hem_MIG_AGE_H : Fld := { off := 0x108, lo := 0, w := 16, acc := .rw, rst := 0x18 }
def R.hem_ARCH_STALL : Fld := { off := 0x108, lo := 16, w := 1, acc := .ro, rst := 0x0 }
def R.hem_HEM_BUDGET_GIB : Fld := { off := 0x10C, lo := 0, w := 32, acc := .rwt, rst := 0x400 }
def R.hem_VFY_REGION : Fld := { off := 0x110, lo := 0, w := 12, acc := .rw, rst := 0x0 }
def R.hem_VFY_GO : Fld := { off := 0x110, lo := 12, w := 1, acc := .wo, rst := 0x0 }
def R.hem_VFY_BUSY : Fld := { off := 0x110, lo := 13, w := 1, acc := .ro, rst := 0x0 }
def R.hem_VFY_BREAK : Fld := { off := 0x110, lo := 14, w := 1, acc := .ro, rst := 0x0 }
def R.hem_VFY_INDEX : Fld := { off := 0x114, lo := 0, w := 32, acc := .ro, rst := 0xFFFFFFFF }

def R.unpk_UNPK_ACTIVE : Fld := { off := 0x100, lo := 0, w := 5, acc := .ro, rst := 0x0 }
def R.unpk_ROWS_LEFT : Fld := { off := 0x104, lo := 0, w := 32, acc := .ro, rst := 0x0 }
def R.unpk_RESIDUE_ROWS : Fld := { off := 0x108, lo := 0, w := 16, acc := .ro, rst := 0x0 }

def R.drc_RATE_MTS : Fld := { off := 0x100, lo := 0, w := 13, acc := .rwt, rst := 0x12C0, rng := .oneOf [4800, 5600, 6400] }
def R.drc_RANKS_M1 : Fld := { off := 0x100, lo := 13, w := 1, acc := .ro, rst := 0x0 }
def R.drc_DENSITY : Fld := { off := 0x100, lo := 14, w := 1, acc := .ro, rst := 0x0 }
def R.drc_CFG_REJ : Fld := { off := 0x100, lo := 15, w := 1, acc := .w1c, rst := 0x0 }
def R.drc_REF_MODE : Fld := { off := 0x100, lo := 16, w := 1, acc := .rw, rst := 0x1 }
def R.drc_REF_2X : Fld := { off := 0x100, lo := 17, w := 1, acc := .ro, rst := 0x0 }
def R.drc_SR_STATE : Fld := { off := 0x100, lo := 18, w := 2, acc := .ro, rst := 0x0 }
def R.drc_DARN_THR : Fld := { off := 0x104, lo := 0, w := 16, acc := .rw, rst := 0x800, rng := .between 256 32768 }
def R.drc_DARN_RADIUS : Fld := { off := 0x104, lo := 16, w := 2, acc := .rw, rst := 0x1, rng := .between 1 2 }
def R.drc_RFM_REQ : Fld := { off := 0x104, lo := 18, w := 1, acc := .ro, rst := 0x0 }
def R.drc_RAAIMT : Fld := { off := 0x104, lo := 24, w := 8, acc := .ro, rst := 0x0 }
def R.drc_RETRAIN_MS : Fld := { off := 0x108, lo := 0, w := 16, acc := .rw, rst := 0x64, rng := .between 10 10000 }
def R.drc_RETRAIN_PS : Fld := { off := 0x108, lo := 16, w := 8, acc := .rw, rst := 0xA }

def R.drm_GRAIN : Fld := { off := 0x100, lo := 0, w := 4, acc := .rwt, rst := 0x4, rng := .between 0 8 }
def R.drm_XOR_EN : Fld := { off := 0x100, lo := 4, w := 1, acc := .rwt, rst := 0x1 }
def R.drm_NCH : Fld := { off := 0x100, lo := 5, w := 3, acc := .ro, rst := 0x4 }
def R.drm_SET : Fld := { off := 0x100, lo := 8, w := 4, acc := .ro, rst := 0xF }
def R.drm_IMB_PCT : Fld := { off := 0x104, lo := 0, w := 8, acc := .ro, rst := 0x0 }
def R.drm_IMB_CH : Fld := { off := 0x104, lo := 8, w := 2, acc := .ro, rst := 0x0 }
def R.drm_IMB_THR : Fld := { off := 0x104, lo := 16, w := 8, acc := .rw, rst := 0x32, rng := .between 26 100 }
def R.drm_BASE_LO : Fld := { off := 0x108, lo := 0, w := 32, acc := .ro, rst := 0x0 }
def R.drm_BASE_HI : Fld := { off := 0x10C, lo := 0, w := 16, acc := .ro, rst := 0x100 }

def R.slv_SYNC_THR : Fld := { off := 0x100, lo := 0, w := 6, acc := .rw, rst := 0x28, rng := .between 24 48 }
def R.slv_SYNC_STEP : Fld := { off := 0x100, lo := 8, w := 4, acc := .rw, rst := 0x4 }
def R.slv_KP_ACQ : Fld := { off := 0x104, lo := 0, w := 4, acc := .rw, rst := 0x3 }
def R.slv_KI_ACQ : Fld := { off := 0x104, lo := 4, w := 4, acc := .rw, rst := 0x8 }
def R.slv_KP_TRK : Fld := { off := 0x104, lo := 8, w := 4, acc := .rw, rst := 0x6 }
def R.slv_KI_TRK : Fld := { off := 0x104, lo := 12, w := 4, acc := .rw, rst := 0xD }
def R.slv_ACQ_BITS : Fld := { off := 0x104, lo := 16, w := 8, acc := .rw, rst := 0xA0, rng := .between 16 175 }
def R.slv_T0 : Fld := { off := 0x108, lo := 0, w := 8, acc := .rw, rst := 0x10 }
def R.slv_T1 : Fld := { off := 0x108, lo := 8, w := 8, acc := .rw, rst := 0x20 }
def R.slv_T2 : Fld := { off := 0x108, lo := 16, w := 8, acc := .rw, rst := 0x10 }
def R.slv_T3 : Fld := { off := 0x108, lo := 24, w := 8, acc := .rw, rst := 0x0 }
def R.slv_T4 : Fld := { off := 0x10C, lo := 0, w := 8, acc := .rw, rst := 0x0 }
def R.slv_NTAPS : Fld := { off := 0x10C, lo := 8, w := 3, acc := .rw, rst := 0x3, rng := .between 3 5 }
def R.slv_GLOB_ITER : Fld := { off := 0x110, lo := 0, w := 4, acc := .rw, rst := 0x4, rng := .between 1 8 }
def R.slv_LOC_ITER : Fld := { off := 0x110, lo := 4, w := 4, acc := .rw, rst := 0x5, rng := .between 1 15 }
def R.slv_PC1 : Fld := { off := 0x110, lo := 8, w := 8, acc := .rw, rst := 0x6, rng := .between 0 32 }
def R.slv_PC2 : Fld := { off := 0x110, lo := 16, w := 8, acc := .rw, rst := 0x2, rng := .between 0 32 }
def R.slv_PA_DATA : Fld := { off := 0x114, lo := 0, w := 8, acc := .rw, rst := 0x0 }
def R.slv_PA_ADDR : Fld := { off := 0x114, lo := 8, w := 7, acc := .rw, rst := 0x0 }
def R.slv_PA_RD : Fld := { off := 0x114, lo := 15, w := 1, acc := .rw, rst := 0x0 }
def R.slv_PA_GO : Fld := { off := 0x114, lo := 16, w := 1, acc := .wo, rst := 0x0 }
def R.slv_PA_BUSY : Fld := { off := 0x114, lo := 17, w := 1, acc := .ro, rst := 0x0 }
def R.slv_PA_DIV : Fld := { off := 0x114, lo := 20, w := 4, acc := .rw, rst := 0x4, rng := .between 1 15 }
def R.slv_PA_RDATA : Fld := { off := 0x114, lo := 24, w := 8, acc := .ro, rst := 0x0 }
def R.slv_RING_LO : Fld := { off := 0x118, lo := 0, w := 32, acc := .rw, rst := 0x0, rng := .aligned 32 }
def R.slv_RING_HI : Fld := { off := 0x11C, lo := 0, w := 16, acc := .rw, rst := 0x0 }
def R.slv_RING_LEN : Fld := { off := 0x120, lo := 0, w := 11, acc := .rw, rst := 0x10, rng := .between 16 1024 }
def R.slv_RING_TAIL : Fld := { off := 0x124, lo := 0, w := 10, acc := .rw, rst := 0x0 }
def R.slv_RING_HEAD : Fld := { off := 0x128, lo := 0, w := 10, acc := .ro, rst := 0x0 }
def R.slv_TL_LOCK : Fld := { off := 0x12C, lo := 0, w := 1, acc := .ro, rst := 0x0 }
def R.slv_WG_STATE : Fld := { off := 0x12C, lo := 1, w := 1, acc := .ro, rst := 0x0 }
def R.slv_RG_STATE : Fld := { off := 0x12C, lo := 2, w := 1, acc := .ro, rst := 0x0 }
def R.slv_PA_FAULT : Fld := { off := 0x12C, lo := 3, w := 1, acc := .w1c, rst := 0x0 }
def R.slv_CUR_ZONE : Fld := { off := 0x12C, lo := 4, w := 5, acc := .ro, rst := 0x0 }
def R.slv_ZONE_CFG_REJ : Fld := { off := 0x12C, lo := 9, w := 1, acc := .w1c, rst := 0x0 }
def R.slv_LAST_SCORE : Fld := { off := 0x130, lo := 0, w := 6, acc := .ro, rst := 0x0 }
def R.slv_LAST_OFFSET : Fld := { off := 0x130, lo := 8, w := 6, acc := .ro, rst := 0x0 }
def R.slv_LAST_CAND : Fld := { off := 0x130, lo := 16, w := 2, acc := .ro, rst := 0x0 }
def R.slv_RATE : Fld := { off := 0x200, lo := 0, w := 12, acc := .rwt, rst := 0x0, stride := 8, count := 32 }
def R.slv_SPT : Fld := { off := 0x200, lo := 12, w := 10, acc := .rwt, rst := 0x0, stride := 8, count := 32 }
def R.slv_FIRST_TRACK : Fld := { off := 0x204, lo := 0, w := 24, acc := .rwt, rst := 0x0, stride := 8, count := 32 }

def R.svo_WEDGES : Fld := { off := 0x100, lo := 0, w := 10, acc := .rwt, rst := 0x190, rng := .between 200 600 }
def R.svo_RPM : Fld := { off := 0x100, lo := 10, w := 14, acc := .rwt, rst := 0x1C20, rng := .between 5400 10000 }
def R.svo_SEEK_TRACK : Fld := { off := 0x104, lo := 0, w := 24, acc := .rw, rst := 0x0 }
def R.svo_SEEK_HEAD : Fld := { off := 0x104, lo := 24, w := 4, acc := .rw, rst := 0x0 }
def R.svo_SEEK_GO : Fld := { off := 0x104, lo := 28, w := 1, acc := .wo, rst := 0x0 }
def R.svo_SEEK_BUSY : Fld := { off := 0x104, lo := 29, w := 1, acc := .ro, rst := 0x0 }
def R.svo_WR_INH_PES : Fld := { off := 0x108, lo := 0, w := 8, acc := .rw, rst := 0x20 }
def R.svo_ON_TRK_PES : Fld := { off := 0x108, lo := 8, w := 8, acc := .rw, rst := 0x10 }
def R.svo_ON_TRK_CNT : Fld := { off := 0x108, lo := 16, w := 4, acc := .rw, rst := 0x4, rng := .between 1 15 }
def R.svo_SETTLE_TRK : Fld := { off := 0x108, lo := 20, w := 4, acc := .rw, rst := 0x2 }
def R.svo_SEEK_TMO_MS : Fld := { off := 0x108, lo := 24, w := 8, acc := .rw, rst := 0x32 }
def R.svo_VMAX : Fld := { off := 0x10C, lo := 0, w := 16, acc := .rw, rst := 0x400 }
def R.svo_ADEC : Fld := { off := 0x10C, lo := 16, w := 16, acc := .rw, rst := 0x300 }
def R.svo_KV : Fld := { off := 0x110, lo := 0, w := 16, acc := .rw, rst := 0x100 }
def R.svo_SPN_TMO_S : Fld := { off := 0x114, lo := 0, w := 8, acc := .rw, rst := 0x14 }
def R.svo_SAM_WIN : Fld := { off := 0x114, lo := 8, w := 4, acc := .rw, rst := 0x8 }
def R.svo_SPN_KP : Fld := { off := 0x114, lo := 12, w := 4, acc := .rw, rst := 0x6 }
def R.svo_SPN_KI : Fld := { off := 0x114, lo := 16, w := 4, acc := .rw, rst := 0xA }
def R.svo_SPN_GO : Fld := { off := 0x114, lo := 20, w := 1, acc := .wo, rst := 0x0 }
def R.svo_SPN_STOP : Fld := { off := 0x114, lo := 21, w := 1, acc := .wo, rst := 0x0 }
def R.svo_PARK : Fld := { off := 0x114, lo := 22, w := 1, acc := .wo, rst := 0x0 }
def R.svo_PES : Fld := { off := 0x118, lo := 0, w := 16, acc := .ro, rst := 0x0 }
def R.svo_ON_TRACK : Fld := { off := 0x118, lo := 16, w := 1, acc := .ro, rst := 0x0 }
def R.svo_SPN_AT_SPEED : Fld := { off := 0x118, lo := 17, w := 1, acc := .ro, rst := 0x0 }
def R.svo_WR_INHIBIT : Fld := { off := 0x118, lo := 18, w := 1, acc := .ro, rst := 0x1 }
def R.svo_SERVO_LOST : Fld := { off := 0x118, lo := 19, w := 1, acc := .w1c, rst := 0x0 }
def R.svo_SHOCK_SEEN : Fld := { off := 0x118, lo := 20, w := 1, acc := .w1c, rst := 0x0 }
def R.svo_STATE : Fld := { off := 0x118, lo := 21, w := 2, acc := .ro, rst := 0x0 }
def R.svo_CUR_TRACK : Fld := { off := 0x11C, lo := 0, w := 24, acc := .ro, rst := 0x0 }
def R.svo_CUR_HEAD : Fld := { off := 0x11C, lo := 24, w := 4, acc := .ro, rst := 0x0 }
def R.svo_REV_CYCLES : Fld := { off := 0x120, lo := 0, w := 32, acc := .ro, rst := 0x0 }
def R.svo_TF_COEF : Fld := { off := 0x140, lo := 0, w := 16, acc := .rw, rst := 0x0, stride := 4, count := 10 }

def R.trl_TRL_DIV : Fld := { off := 0x100, lo := 0, w := 4, acc := .rw, rst := 0x1, rng := .between 1 15 }
def R.trl_GAP_CYC : Fld := { off := 0x100, lo := 8, w := 8, acc := .rw, rst := 0x4, rng := .between 4 255 }
def R.trl_SW_ARG : Fld := { off := 0x104, lo := 0, w := 16, acc := .rw, rst := 0x0 }
def R.trl_SW_CMD : Fld := { off := 0x104, lo := 16, w := 4, acc := .rw, rst := 0x0, rng := .oneOf [0, 5, 6, 7] }
def R.trl_SW_GO : Fld := { off := 0x104, lo := 20, w := 1, acc := .wo, rst := 0x0 }
def R.trl_SW_BUSY : Fld := { off := 0x104, lo := 21, w := 1, acc := .ro, rst := 0x0 }
def R.trl_LAST_STATUS : Fld := { off := 0x108, lo := 0, w := 8, acc := .ro, rst := 0x0 }
def R.trl_SW_RDATA : Fld := { off := 0x108, lo := 8, w := 8, acc := .ro, rst := 0x0 }
def R.trl_LAST_SEQ : Fld := { off := 0x108, lo := 16, w := 4, acc := .ro, rst := 0x0 }
def R.trl_LINK_FAULT : Fld := { off := 0x108, lo := 20, w := 1, acc := .w1c, rst := 0x0 }
def R.trl_ATTN : Fld := { off := 0x108, lo := 21, w := 1, acc := .ro, rst := 0x0 }

def R.plt_JOB_LO : Fld := { off := 0x100, lo := 0, w := 32, acc := .rw, rst := 0x0, rng := .aligned 64 }
def R.plt_JOB_HI : Fld := { off := 0x104, lo := 0, w := 16, acc := .rw, rst := 0x0 }
def R.plt_JOB_GO : Fld := { off := 0x108, lo := 0, w := 1, acc := .wo, rst := 0x0 }
def R.plt_QUEUED : Fld := { off := 0x108, lo := 8, w := 6, acc := .ro, rst := 0x0 }
def R.plt_LANE_BUSY : Fld := { off := 0x108, lo := 16, w := 4, acc := .ro, rst := 0x0 }
def R.plt_LEVEL : Fld := { off := 0x108, lo := 20, w := 2, acc := .rw, rst := 0x2 }
def R.plt_INLINE_EN : Fld := { off := 0x108, lo := 22, w := 1, acc := .rw, rst := 0x1 }
def R.plt_QUEUE_REJ : Fld := { off := 0x108, lo := 23, w := 1, acc := .w1c, rst := 0x0 }
def R.plt_LAST_STATUS : Fld := { off := 0x10C, lo := 0, w := 8, acc := .ro, rst := 0x0 }

def R.pnk_LOAD_LO : Fld := { off := 0x100, lo := 0, w := 32, acc := .rw, rst := 0x0, rng := .aligned 64 }
def R.pnk_LOAD_HI : Fld := { off := 0x104, lo := 0, w := 16, acc := .rw, rst := 0x0 }
def R.pnk_LOAD_SLOT : Fld := { off := 0x108, lo := 0, w := 2, acc := .rw, rst := 0x0 }
def R.pnk_LOAD_GO : Fld := { off := 0x108, lo := 2, w := 1, acc := .wo, rst := 0x0 }
def R.pnk_LOAD_BUSY : Fld := { off := 0x108, lo := 3, w := 1, acc := .ro, rst := 0x0 }
def R.pnk_LOAD_REJ : Fld := { off := 0x108, lo := 4, w := 1, acc := .w1c, rst := 0x0 }
def R.pnk_LOAD_RESULT : Fld := { off := 0x108, lo := 8, w := 8, acc := .ro, rst := 0x0 }
def R.pnk_SLOT_VALID : Fld := { off := 0x108, lo := 16, w := 4, acc := .ro, rst := 0x0 }
def R.pnk_SLOT_BUSY : Fld := { off := 0x108, lo := 20, w := 4, acc := .ro, rst := 0x0 }
def R.pnk_SIDE : Fld := { off := 0x108, lo := 24, w := 1, acc := .ro, rst := 0x0 }
def R.pnk_QUEUED : Fld := { off := 0x10C, lo := 0, w := 5, acc := .ro, rst := 0x0 }
def R.pnk_CUR_SLOT : Fld := { off := 0x10C, lo := 5, w := 2, acc := .ro, rst := 0x0 }
def R.pnk_LAST_UNIT_LO : Fld := { off := 0x110, lo := 0, w := 32, acc := .ro, rst := 0x0 }
def R.pnk_LAST_UNIT_HI : Fld := { off := 0x114, lo := 0, w := 8, acc := .ro, rst := 0x0 }

def R.gau_WIDTH : Fld := { off := 0x100, lo := 0, w := 2, acc := .rw, rst := 0x0, rng := .between 0 2 }
def R.gau_SPREAD_EN : Fld := { off := 0x100, lo := 2, w := 1, acc := .rw, rst := 0x1 }
def R.gau_CFG_REJ : Fld := { off := 0x100, lo := 3, w := 1, acc := .w1c, rst := 0x0 }
def R.gau_BATCH_LO : Fld := { off := 0x104, lo := 0, w := 32, acc := .rw, rst := 0x0, rng := .aligned 32 }
def R.gau_BATCH_HI : Fld := { off := 0x108, lo := 0, w := 16, acc := .rw, rst := 0x0 }
def R.gau_BATCH_GO : Fld := { off := 0x10C, lo := 0, w := 1, acc := .wo, rst := 0x0 }
def R.gau_QUEUED : Fld := { off := 0x10C, lo := 1, w := 6, acc := .ro, rst := 0x0 }
def R.gau_QUEUE_REJ : Fld := { off := 0x10C, lo := 7, w := 1, acc := .w1c, rst := 0x0 }
def R.gau_LAST_STATUS : Fld := { off := 0x10C, lo := 8, w := 8, acc := .ro, rst := 0x0 }
def R.gau_ENTRIES : Fld := { off := 0x110, lo := 0, w := 18, acc := .ro, rst := 0x0 }
def R.gau_QUOTA : Fld := { off := 0x114, lo := 0, w := 18, acc := .ro, rst := 0x20000 }
def R.gau_ACTIVE_PANELS : Fld := { off := 0x114, lo := 18, w := 7, acc := .ro, rst := 0x1 }
def R.gau_MOVE_LEFT : Fld := { off := 0x118, lo := 0, w := 18, acc := .ro, rst := 0x0 }
def R.gau_MOVE_BUSY : Fld := { off := 0x118, lo := 18, w := 1, acc := .ro, rst := 0x0 }

def R.gcb_POS : Fld := { off := 0x100, lo := 0, w := 3, acc := .rwt, rst := 0x0 }
def R.gcb_NDEV_M1 : Fld := { off := 0x100, lo := 3, w := 3, acc := .rwt, rst := 0x0 }
def R.gcb_CASC_EN : Fld := { off := 0x100, lo := 6, w := 1, acc := .rwt, rst := 0x0 }
def R.gcb_LINK_UP : Fld := { off := 0x104, lo := 0, w := 1, acc := .ro, rst := 0x0 }
def R.gcb_LINK_ERR : Fld := { off := 0x104, lo := 1, w := 1, acc := .w1c, rst := 0x0 }
def R.gcb_WIDTH_MM : Fld := { off := 0x104, lo := 2, w := 1, acc := .w1c, rst := 0x0 }
def R.gcb_OUTSTANDING : Fld := { off := 0x104, lo := 3, w := 4, acc := .ro, rst := 0x0 }
def R.gcb_TMO : Fld := { off := 0x108, lo := 0, w := 16, acc := .rw, rst := 0xC8 }

def R.shc_DVFS_REQ : Fld := { off := 0x100, lo := 0, w := 2, acc := .rw, rst := 0x1, rng := .between 0 2 }
def R.shc_DVFS_CUR : Fld := { off := 0x100, lo := 2, w := 2, acc := .ro, rst := 0x1 }
def R.shc_DVFS_MAX : Fld := { off := 0x100, lo := 4, w := 2, acc := .rwt, rst := 0x2, rng := .between 0 2 }
def R.shc_DVFS_BUSY : Fld := { off := 0x100, lo := 6, w := 1, acc := .ro, rst := 0x0 }
def R.shc_DVFS_CLAMP : Fld := { off := 0x100, lo := 7, w := 1, acc := .w1c, rst := 0x0 }
def R.shc_CORE_EN : Fld := { off := 0x100, lo := 8, w := 4, acc := .rw, rst := 0xF }
def R.shc_CLR_ALWAYS : Fld := { off := 0x100, lo := 12, w := 1, acc := .rw, rst := 0x0 }
def R.shc_CORE_ITEM : Fld := { off := 0x104, lo := 0, w := 16, acc := .ro, rst := 0x0, stride := 4, count := 4 }
def R.shc_CORE_PANEL : Fld := { off := 0x104, lo := 16, w := 6, acc := .ro, rst := 0x0, stride := 4, count := 4 }
def R.shc_CORE_BUSY : Fld := { off := 0x104, lo := 22, w := 1, acc := .ro, rst := 0x0, stride := 4, count := 4 }

def R.bob_CORE_RUN : Fld := { off := 0x100, lo := 0, w := 8, acc := .ro, rst := 0x0 }
def R.bob_CORE_HALT : Fld := { off := 0x100, lo := 8, w := 8, acc := .ro, rst := 0x0 }
def R.bob_RESTART : Fld := { off := 0x100, lo := 16, w := 8, acc := .rwt, rst := 0x0 }

def R.spl_AFF_WAIT_US : Fld := { off := 0x100, lo := 0, w := 16, acc := .rw, rst := 0x64 }
def R.spl_LIVE : Fld := { off := 0x104, lo := 0, w := 17, acc := .ro, rst := 0x0 }
def R.spl_CANCEL_ITEM : Fld := { off := 0x108, lo := 0, w := 16, acc := .rw, rst := 0x0 }
def R.spl_CANCEL_GO : Fld := { off := 0x108, lo := 16, w := 1, acc := .wo, rst := 0x0 }
def R.spl_CANCEL_RESULT : Fld := { off := 0x108, lo := 17, w := 2, acc := .ro, rst := 0x0 }
def R.spl_CANCEL_BUSY : Fld := { off := 0x108, lo := 19, w := 1, acc := .ro, rst := 0x0 }
def R.spl_TIME_LO : Fld := { off := 0x110, lo := 0, w := 32, acc := .ro, rst := 0x0 }
def R.spl_TIME_HI : Fld := { off := 0x114, lo := 0, w := 24, acc := .ro, rst := 0x0 }
def R.spl_FLOWS_OPEN : Fld := { off := 0x118, lo := 0, w := 13, acc := .ro, rst := 0x0 }
def R.spl_STG_REL_LO : Fld := { off := 0x120, lo := 0, w := 32, acc := .rw, rst := 0x0 }
def R.spl_STG_REL_HI : Fld := { off := 0x124, lo := 0, w := 16, acc := .rw, rst := 0x0 }
def R.spl_STG_REL_GO : Fld := { off := 0x124, lo := 16, w := 1, acc := .wo, rst := 0x0 }
def R.spl_STG_REL_BAD : Fld := { off := 0x124, lo := 17, w := 1, acc := .w1c, rst := 0x0 }
def R.spl_LIST_LEN : Fld := { off := 0x140, lo := 0, w := 17, acc := .ro, rst := 0x0, stride := 4, count := 16 }

def R.trc_TRC_BASE_LO : Fld := { off := 0x100, lo := 0, w := 32, acc := .rw, rst := 0x0, rng := .aligned 4096 }
def R.trc_TRC_BASE_HI : Fld := { off := 0x104, lo := 0, w := 16, acc := .rw, rst := 0x0 }
def R.trc_TRC_LOG2 : Fld := { off := 0x108, lo := 0, w := 5, acc := .rw, rst := 0x8, rng := .between 8 24 }
def R.trc_TRC_ON : Fld := { off := 0x108, lo := 5, w := 1, acc := .rw, rst := 0x0 }
def R.trc_TRC_MASK : Fld := { off := 0x108, lo := 16, w := 9, acc := .rw, rst := 0x1FF }
def R.trc_TRC_WR : Fld := { off := 0x10C, lo := 0, w := 24, acc := .ro, rst := 0x0 }
def R.trc_TRC_RD : Fld := { off := 0x110, lo := 0, w := 24, acc := .rw, rst := 0x0 }

def R.tku_ROT_PTR : Fld := { off := 0x100, lo := 0, w := 7, acc := .ro, rst := 0x0 }
def R.tku_HELD_0 : Fld := { off := 0x104, lo := 0, w := 32, acc := .ro, rst := 0x0 }
def R.tku_HELD_1 : Fld := { off := 0x108, lo := 0, w := 32, acc := .ro, rst := 0x0 }
def R.tku_HELD_2 : Fld := { off := 0x10C, lo := 0, w := 8, acc := .ro, rst := 0x0 }

def R.pci_LINK_SPEED : Fld := { off := 0x100, lo := 0, w := 4, acc := .ro, rst := 0x0 }
def R.pci_LINK_WIDTH : Fld := { off := 0x100, lo := 4, w := 5, acc := .ro, rst := 0x0 }
def R.pci_SRIS_ON : Fld := { off := 0x100, lo := 9, w := 1, acc := .ro, rst := 0x0 }
def R.pci_DMA_TMO_US : Fld := { off := 0x104, lo := 0, w := 16, acc := .rw, rst := 0x2710, rng := .between 100 50000 }
def R.pci_LAST_DMA_CODE : Fld := { off := 0x104, lo := 16, w := 8, acc := .ro, rst := 0x0 }

def R.nvm_IOQ_PAIRS : Fld := { off := 0x100, lo := 0, w := 10, acc := .ro, rst := 0x0 }
def R.nvm_TCP_CTRLS : Fld := { off := 0x100, lo := 10, w := 7, acc := .ro, rst := 0x0 }
def R.nvm_OUTSTANDING : Fld := { off := 0x104, lo := 0, w := 18, acc := .ro, rst := 0x0 }
def R.nvm_FETCH_PAUSED : Fld := { off := 0x104, lo := 18, w := 1, acc := .ro, rst := 0x0 }
def R.nvm_LEGACY_VALID : Fld := { off := 0x108, lo := 0, w := 16, acc := .ro, rst := 0x0 }
def R.nvm_COMPAT_LOG : Fld := { off := 0x108, lo := 16, w := 1, acc := .ro, rst := 0x0 }

def R.pan_ACTIVE_LO : Fld := { off := 0x100, lo := 0, w := 32, acc := .ro, rst := 0x1 }
def R.pan_ACTIVE_HI : Fld := { off := 0x104, lo := 0, w := 32, acc := .ro, rst := 0x0 }
def R.pan_N_ACTIVE : Fld := { off := 0x108, lo := 0, w := 7, acc := .ro, rst := 0x1 }
def R.pan_PAN_ID : Fld := { off := 0x10C, lo := 0, w := 6, acc := .rw, rst := 0x0 }
def R.pan_PAN_OP : Fld := { off := 0x10C, lo := 6, w := 2, acc := .rw, rst := 0x0, rng := .between 0 2 }
def R.pan_PAN_GO : Fld := { off := 0x10C, lo := 8, w := 1, acc := .wo, rst := 0x0 }
def R.pan_PAN_BUSY : Fld := { off := 0x10C, lo := 9, w := 1, acc := .ro, rst := 0x0 }
def R.pan_PAN_RESULT : Fld := { off := 0x10C, lo := 16, w := 8, acc := .ro, rst := 0x0 }
def R.pan_NEW_PASID : Fld := { off := 0x110, lo := 0, w := 20, acc := .rw, rst := 0x0 }
def R.pan_DRAIN_TMO_MS : Fld := { off := 0x114, lo := 0, w := 16, acc := .rw, rst := 0xA }
def R.pan_PASID : Fld := { off := 0x200, lo := 0, w := 20, acc := .ro, rst := 0x0, stride := 4, count := 64 }
def R.pan_RESETTING : Fld := { off := 0x200, lo := 20, w := 1, acc := .ro, rst := 0x0, stride := 4, count := 64 }
def R.pan_SQ_PANEL : Fld := { off := 0x400, lo := 0, w := 6, acc := .rw, rst := 0x0, stride := 4, count := 513 }
def R.pan_CFG_REJ : Fld := { off := 0x118, lo := 0, w := 1, acc := .w1c, rst := 0x0 }

def R.eth_GROUPING : Fld := { off := 0x100, lo := 0, w := 2, acc := .rwt, rst := 0x0, rng := .between 0 2 }
def R.eth_PORT_UP : Fld := { off := 0x100, lo := 2, w := 4, acc := .ro, rst := 0x0 }
def R.eth_PFC_EN : Fld := { off := 0x100, lo := 6, w := 1, acc := .rw, rst := 0x0 }
def R.eth_CFG_REJ : Fld := { off := 0x100, lo := 7, w := 1, acc := .w1c, rst := 0x0 }
def R.eth_MTU : Fld := { off := 0x104, lo := 0, w := 14, acc := .rw, rst := 0x5DC, rng := .between 1500 9000 }
def R.eth_MAC_LO : Fld := { off := 0x108, lo := 0, w := 32, acc := .rwt, rst := 0x0 }
def R.eth_MAC_HI : Fld := { off := 0x10C, lo := 0, w := 16, acc := .rwt, rst := 0x0 }

def R.toe_CONNS : Fld := { off := 0x100, lo := 0, w := 11, acc := .ro, rst := 0x0 }
def R.toe_IO_PORT : Fld := { off := 0x104, lo := 0, w := 16, acc := .rwt, rst := 0x1144 }
def R.toe_DISC_PORT : Fld := { off := 0x104, lo := 16, w := 16, acc := .rwt, rst := 0x1F49 }
def R.toe_ICD_MAX : Fld := { off := 0x108, lo := 0, w := 14, acc := .rw, rst := 0x2000, rng := .between 0 8192 }
def R.toe_HDGST_REQ : Fld := { off := 0x108, lo := 14, w := 1, acc := .rw, rst := 0x0 }
def R.toe_DDGST_REQ : Fld := { off := 0x108, lo := 15, w := 1, acc := .rw, rst := 0x0 }
def R.toe_RTO_MIN_MS : Fld := { off := 0x108, lo := 16, w := 16, acc := .rw, rst := 0xC8, rng := .between 10 1000 }

def R.eic_SCRUB_EN : Fld := { off := 0x100, lo := 0, w := 1, acc := .rw, rst := 0x1 }
def R.eic_SCRUB_LATE : Fld := { off := 0x100, lo := 1, w := 1, acc := .w1c, rst := 0x0 }
def R.eic_SRAM_PASS_MS : Fld := { off := 0x104, lo := 0, w := 16, acc := .rw, rst := 0x3E8, rng := .between 100 60000 }
def R.eic_DRAM_PASS_H : Fld := { off := 0x104, lo := 16, w := 8, acc := .rw, rst := 0xC, rng := .between 1 168 }
def R.eic_OVF_MAP : Fld := { off := 0x110, lo := 0, w := 32, acc := .w1c, rst := 0x0, stride := 4, count := 5 }
def R.eic_HW_SEL : Fld := { off := 0x130, lo := 0, w := 8, acc := .rw, rst := 0x0 }
def R.eic_HW_COUNT : Fld := { off := 0x134, lo := 0, w := 5, acc := .ro, rst := 0x0 }
def R.eic_HW_FULL : Fld := { off := 0x134, lo := 5, w := 1, acc := .ro, rst := 0x0 }
def R.eic_HW_ADDR_LO : Fld := { off := 0x140, lo := 0, w := 32, acc := .ro, rst := 0x0, stride := 8, count := 16 }
def R.eic_HW_ADDR_HI : Fld := { off := 0x144, lo := 0, w := 16, acc := .ro, rst := 0x0, stride := 8, count := 16 }
def R.eic_CE_PAGE : Fld := { off := 0x1C0, lo := 0, w := 8, acc := .ro, rst := 0x0 }
def R.eic_UE_PAGE : Fld := { off := 0x1D0, lo := 0, w := 8, acc := .ro, rst := 0x0 }
def R.eic_CE_VALID : Fld := { off := 0x1C0, lo := 8, w := 1, acc := .ro, rst := 0x0 }
def R.eic_UE_VALID : Fld := { off := 0x1D0, lo := 8, w := 1, acc := .ro, rst := 0x0 }
def R.eic_CE_ADDR_LO : Fld := { off := 0x1C4, lo := 0, w := 32, acc := .ro, rst := 0x0 }
def R.eic_UE_ADDR_LO : Fld := { off := 0x1D4, lo := 0, w := 32, acc := .ro, rst := 0x0 }
def R.eic_CE_ADDR_HI : Fld := { off := 0x1C8, lo := 0, w := 16, acc := .ro, rst := 0x0 }
def R.eic_UE_ADDR_HI : Fld := { off := 0x1D8, lo := 0, w := 16, acc := .ro, rst := 0x0 }
def R.eic_CE_SYN : Fld := { off := 0x1CC, lo := 0, w := 32, acc := .ro, rst := 0x0 }
def R.eic_UE_SYN : Fld := { off := 0x1DC, lo := 0, w := 32, acc := .ro, rst := 0x0 }
def R.eic_CAP_CLR : Fld := { off := 0x1E0, lo := 0, w := 1, acc := .wo, rst := 0x0 }

def R.fil_FILL_SRAM_US : Fld := { off := 0x100, lo := 0, w := 16, acc := .ro, rst := 0x0 }
def R.fil_FILL_DRAM_MS : Fld := { off := 0x100, lo := 16, w := 16, acc := .ro, rst := 0x0 }
def R.fil_FILL_CH_OK : Fld := { off := 0x104, lo := 0, w := 4, acc := .ro, rst := 0x0 }
def R.fil_FILL_CH_FAIL : Fld := { off := 0x104, lo := 4, w := 4, acc := .ro, rst := 0x0 }
def R.fil_FILL_GIB : Fld := { off := 0x104, lo := 8, w := 10, acc := .ro, rst := 0x0 }

def R.sbd_SMB_ADDR : Fld := { off := 0x100, lo := 0, w := 7, acc := .rwt, rst := 0x1D }
def R.sbd_SMB_EN : Fld := { off := 0x100, lo := 7, w := 1, acc := .rwt, rst := 0x1 }
def R.sbd_I3C_EN : Fld := { off := 0x100, lo := 8, w := 1, acc := .rwt, rst := 0x0 }
def R.sbd_I3C_DYN_ADDR : Fld := { off := 0x100, lo := 9, w := 7, acc := .ro, rst := 0x0 }
def R.sbd_I3C_ADDR_VALID : Fld := { off := 0x100, lo := 16, w := 1, acc := .ro, rst := 0x0 }

def R.dbg_UART_DIV : Fld := { off := 0x100, lo := 0, w := 12, acc := .rw, rst := 0x1A }
def R.dbg_UART_THM : Fld := { off := 0x100, lo := 12, w := 1, acc := .rwt, rst := 0x0 }
def R.dbg_JTAG_DBG : Fld := { off := 0x100, lo := 13, w := 1, acc := .rwt, rst := 0x0 }
def R.dbg_TX_DATA : Fld := { off := 0x104, lo := 0, w := 8, acc := .wo, rst := 0x0 }
def R.dbg_TX_FULL : Fld := { off := 0x104, lo := 8, w := 1, acc := .ro, rst := 0x0 }
def R.dbg_RX_DATA : Fld := { off := 0x108, lo := 0, w := 8, acc := .rc, rst := 0x0 }
def R.dbg_RX_VALID : Fld := { off := 0x108, lo := 8, w := 1, acc := .ro, rst := 0x0 }

def R.trx_TRX_EN : Fld := { off := 0x100, lo := 0, w := 1, acc := .rw, rst := 0x0 }
def R.trx_TRX_DIV : Fld := { off := 0x100, lo := 1, w := 3, acc := .rw, rst := 0x3 }

def R.gpio_GPIO_OE : Fld := { off := 0x100, lo := 0, w := 16, acc := .rw, rst := 0x0 }
def R.gpio_GPIO_OUT : Fld := { off := 0x104, lo := 0, w := 16, acc := .rw, rst := 0x0 }
def R.gpio_GPIO_IN : Fld := { off := 0x108, lo := 0, w := 16, acc := .ro, rst := 0x0 }
def R.gpio_GPIO_WAKE : Fld := { off := 0x10C, lo := 0, w := 16, acc := .rw, rst := 0x0 }
def R.gpio_GPIO_WAKE_HI : Fld := { off := 0x10C, lo := 16, w := 16, acc := .rw, rst := 0x0 }

/-- The fields of each page kind beyond the common header, as the register tables of the chapters give them. -/
def ownFields : PageKind → List Fld
  | .glb => [R.glb_STG_MIN_MEDIA, R.glb_STG_MIN_ENGINE, R.glb_STG_MIN_HOST, R.glb_STG_MIN_PROG, R.glb_STG_FREE, 
      R.glb_STG_WAITERS, R.glb_STG_CFG_REJ, R.glb_DEVSTATE, R.glb_ROUTE_REJ, R.glb_INT_SUM, R.glb_MSIX_VEC, 
      R.glb_MSIX_EN, R.glb_BOB_CORE, R.glb_BOB_VEC, R.glb_BOB_EN, R.glb_THM_VEC, R.glb_THM_EN]
  | .mode => [R.mode_MODE_EN, R.mode_MODE_REQ, R.mode_REQ_DRAIN, R.mode_REQ_GO, R.mode_REQ_BUSY, R.mode_REQ_RESULT, 
      R.mode_MODE_PAT, R.mode_MODE_RT_MASK]
  | .pwr => [R.pwr_STATE_REQ, R.pwr_STATE_GO, R.pwr_STATE_BUSY, R.pwr_LAST_ABORT_ST, R.pwr_LAST_ABORT_AP, R.pwr_DOZE_AUTO, 
      R.pwr_DOZE_IDLE_US, R.pwr_DOM_ON_LO, R.pwr_DOM_ON_HI, R.pwr_DOM_SEL_LO, R.pwr_DOM_SEL_HI, R.pwr_DOM_OFF_GO, 
      R.pwr_DOM_ON_GO, R.pwr_DOM_BUSY, R.pwr_SLUMBER_BANKS, R.pwr_WAKE_EN, R.pwr_WAKE_SRC, R.pwr_WAKE_PARTIAL, 
      R.pwr_XTAL_SLUMBER, R.pwr_RETAIN_LOST, R.pwr_REG_OFF_SLUMBER, R.pwr_REG_OFF_VAULT, R.pwr_REG_PGOOD, 
      R.pwr_REG_FAIL, R.pwr_PWR_LIMIT_W, R.pwr_PWR_MEAS_W, R.pwr_BB_FBB, R.pwr_BB_RBB, R.pwr_VRET_MV, 
      R.pwr_WAKE_TIMER_S, R.pwr_REF_HEAD, R.pwr_REF_DOM, R.pwr_REF_KIND, R.pwr_REF_BY, R.pwr_REF_TIME]
  | .clk => [R.clk_SSC_EN, R.clk_SSC_DEPTH, R.clk_XTAL_OK, R.clk_CLK_DEGRADED, R.clk_XTAL_RETRY, R.clk_PLL_LOCK_LO, 
      R.clk_PLL_LOCK_HI, R.clk_LOCK_LOST_LO, R.clk_LOCK_LOST_HI]
  | .rst => [R.rst_RST_CAUSE, R.rst_DEV_RST, R.rst_SRESET_REJ]
  | .pad => [R.pad_PAD_TACK_LO, R.pad_PAD_TACK_HI, R.pad_PAD_TACK_REL_LO, R.pad_PAD_TACK_REL_HI, R.pad_SLEW_GPIO, 
      R.pad_SLEW_UART, R.pad_SLEW_SPI, R.pad_SLEW_SBD, R.pad_SLEW_ARC, R.pad_SLEW_DBG]
  | .pat => [R.pat_PAT_SRC, R.pat_PATTERN_DEFAULTED, R.pat_A_OK, R.pat_B_OK, R.pat_NO_FIRMWARE, R.pat_START_FAIL, 
      R.pat_FW_SLOT, R.pat_REC_IGNORED, R.pat_PAT_PENDING, R.pat_GENERATION, R.pat_FW_VERSION, R.pat_KEY_REVOKE, 
      R.pat_MIN_FW_VER]
  | .thm => [R.thm_MB_CMD, R.thm_MB_GO, R.thm_MB_BUSY, R.thm_MB_REJ, R.thm_MB_RESULT, R.thm_MB_ARG0, R.thm_MB_ARG1, 
      R.thm_MB_ADDR_LO, R.thm_MB_ADDR_HI, R.thm_KEYS_UNLOCKED]
  | .flt => [R.flt_FAULT_PAGE, R.flt_FAULT_STATE, R.flt_FAULT_VALID, R.flt_QUIESCED, R.flt_FAULT_TIME_LO, 
      R.flt_FAULT_TIME_HI, R.flt_FAULT_MORE, R.flt_WDOG_MS, R.flt_WDOG_KICK, R.flt_WARD_RESET_S]
  | .nfc => [R.nfc_CE_PRESENT, R.nfc_LUNS_M1, R.nfc_IFACE, R.nfc_RATE_MTS, R.nfc_SLEW, R.nfc_DRIVE, R.nfc_TRAIN_FAIL, 
      R.nfc_TRAINED_MTS, R.nfc_W_HREAD, R.nfc_W_SCAN, R.nfc_W_WRITE, R.nfc_W_FGRECL, R.nfc_SUSPEND_EN, R.nfc_RR_HARD, 
      R.nfc_SOFT2_EN, R.nfc_SOFT3_EN, R.nfc_HARD_ITER, R.nfc_KEY_LOCK_SEEN]
  | .ldd => [R.ldd_SOFT_ITER, R.ldd_QUEUED, R.ldd_LAST_CH]
  | .seam => [R.seam_CKPT_MS, R.seam_CKPT_MIB, R.seam_PROMOTE_THR, R.seam_HEAT_HALVE, R.seam_POOL_HI, R.seam_POOL_LO, 
      R.seam_FINE_GROUPS, R.seam_DEMOTE_AGE, R.seam_FINE_USED, R.seam_SEQ_LO, R.seam_SEQ_HI, R.seam_CKPT_SEQ_LO, 
      R.seam_CKPT_SEQ_HI, R.seam_CKPT_AGE, R.seam_CKPT_BUSY, R.seam_CKPT_LATE, R.seam_RB_MS, R.seam_RB_FLUSH_USED, 
      R.seam_RB_ROOT, R.seam_RB_OVERRUN, R.seam_RB_FLUSH_BAD, R.seam_RB_SLOTS, R.seam_CAP_GIB, R.seam_CAP_LIMITED, 
      R.seam_RANGES, R.seam_PFAIL_SEEN, R.seam_FLUSH_DONE, R.seam_FLUSH_MS, R.seam_PFAIL_DEGLITCH_US]
  | .recl => [R.recl_BG_FREE, R.recl_FG_FREE, R.recl_CRIT_FREE, R.recl_HOST_FLOOR, R.recl_WL_DELTA, R.recl_RD_LIMIT, 
      R.recl_PE_LIMIT, R.recl_RESERVE_ROWS, R.recl_WR_MAX, R.recl_THROTTLE, R.recl_FG_ACTIVE, R.recl_READONLY, 
      R.recl_RO_CLEARABLE, R.recl_MIN_FREE, R.recl_MIN_FREE_CH]
  | .hem => [R.hem_REGIONS, R.hem_SEAL_MS, R.hem_MIG_HI, R.hem_MIG_LO, R.hem_MIG_AGE_H, R.hem_ARCH_STALL, 
      R.hem_HEM_BUDGET_GIB, R.hem_VFY_REGION, R.hem_VFY_GO, R.hem_VFY_BUSY, R.hem_VFY_BREAK, R.hem_VFY_INDEX]
  | .unpk => [R.unpk_UNPK_ACTIVE, R.unpk_ROWS_LEFT, R.unpk_RESIDUE_ROWS]
  | .drc => [R.drc_RATE_MTS, R.drc_RANKS_M1, R.drc_DENSITY, R.drc_CFG_REJ, R.drc_REF_MODE, R.drc_REF_2X, R.drc_SR_STATE, 
      R.drc_DARN_THR, R.drc_DARN_RADIUS, R.drc_RFM_REQ, R.drc_RAAIMT, R.drc_RETRAIN_MS, R.drc_RETRAIN_PS]
  | .drm => [R.drm_GRAIN, R.drm_XOR_EN, R.drm_NCH, R.drm_SET, R.drm_IMB_PCT, R.drm_IMB_CH, R.drm_IMB_THR, R.drm_BASE_LO, 
      R.drm_BASE_HI]
  | .slv => [R.slv_SYNC_THR, R.slv_SYNC_STEP, R.slv_KP_ACQ, R.slv_KI_ACQ, R.slv_KP_TRK, R.slv_KI_TRK, R.slv_ACQ_BITS, 
      R.slv_T0, R.slv_T1, R.slv_T2, R.slv_T3, R.slv_T4, R.slv_NTAPS, R.slv_GLOB_ITER, R.slv_LOC_ITER, R.slv_PC1, 
      R.slv_PC2, R.slv_PA_DATA, R.slv_PA_ADDR, R.slv_PA_RD, R.slv_PA_GO, R.slv_PA_BUSY, R.slv_PA_DIV, R.slv_PA_RDATA, 
      R.slv_RING_LO, R.slv_RING_HI, R.slv_RING_LEN, R.slv_RING_TAIL, R.slv_RING_HEAD, R.slv_TL_LOCK, R.slv_WG_STATE, 
      R.slv_RG_STATE, R.slv_PA_FAULT, R.slv_CUR_ZONE, R.slv_ZONE_CFG_REJ, R.slv_LAST_SCORE, R.slv_LAST_OFFSET, 
      R.slv_LAST_CAND, R.slv_RATE, R.slv_SPT, R.slv_FIRST_TRACK]
  | .svo => [R.svo_WEDGES, R.svo_RPM, R.svo_SEEK_TRACK, R.svo_SEEK_HEAD, R.svo_SEEK_GO, R.svo_SEEK_BUSY, R.svo_WR_INH_PES, 
      R.svo_ON_TRK_PES, R.svo_ON_TRK_CNT, R.svo_SETTLE_TRK, R.svo_SEEK_TMO_MS, R.svo_VMAX, R.svo_ADEC, R.svo_KV, 
      R.svo_SPN_TMO_S, R.svo_SAM_WIN, R.svo_SPN_KP, R.svo_SPN_KI, R.svo_SPN_GO, R.svo_SPN_STOP, R.svo_PARK, 
      R.svo_PES, R.svo_ON_TRACK, R.svo_SPN_AT_SPEED, R.svo_WR_INHIBIT, R.svo_SERVO_LOST, R.svo_SHOCK_SEEN, 
      R.svo_STATE, R.svo_CUR_TRACK, R.svo_CUR_HEAD, R.svo_REV_CYCLES, R.svo_TF_COEF]
  | .trl => [R.trl_TRL_DIV, R.trl_GAP_CYC, R.trl_SW_ARG, R.trl_SW_CMD, R.trl_SW_GO, R.trl_SW_BUSY, R.trl_LAST_STATUS, 
      R.trl_SW_RDATA, R.trl_LAST_SEQ, R.trl_LINK_FAULT, R.trl_ATTN]
  | .plt => [R.plt_JOB_LO, R.plt_JOB_HI, R.plt_JOB_GO, R.plt_QUEUED, R.plt_LANE_BUSY, R.plt_LEVEL, R.plt_INLINE_EN, 
      R.plt_QUEUE_REJ, R.plt_LAST_STATUS]
  | .pnk => [R.pnk_LOAD_LO, R.pnk_LOAD_HI, R.pnk_LOAD_SLOT, R.pnk_LOAD_GO, R.pnk_LOAD_BUSY, R.pnk_LOAD_REJ, 
      R.pnk_LOAD_RESULT, R.pnk_SLOT_VALID, R.pnk_SLOT_BUSY, R.pnk_SIDE, R.pnk_QUEUED, R.pnk_CUR_SLOT, 
      R.pnk_LAST_UNIT_LO, R.pnk_LAST_UNIT_HI]
  | .gau => [R.gau_WIDTH, R.gau_SPREAD_EN, R.gau_CFG_REJ, R.gau_BATCH_LO, R.gau_BATCH_HI, R.gau_BATCH_GO, R.gau_QUEUED, 
      R.gau_QUEUE_REJ, R.gau_LAST_STATUS, R.gau_ENTRIES, R.gau_QUOTA, R.gau_ACTIVE_PANELS, R.gau_MOVE_LEFT, 
      R.gau_MOVE_BUSY]
  | .gcb => [R.gcb_POS, R.gcb_NDEV_M1, R.gcb_CASC_EN, R.gcb_LINK_UP, R.gcb_LINK_ERR, R.gcb_WIDTH_MM, R.gcb_OUTSTANDING, 
      R.gcb_TMO]
  | .shc => [R.shc_DVFS_REQ, R.shc_DVFS_CUR, R.shc_DVFS_MAX, R.shc_DVFS_BUSY, R.shc_DVFS_CLAMP, R.shc_CORE_EN, 
      R.shc_CLR_ALWAYS, R.shc_CORE_ITEM, R.shc_CORE_PANEL, R.shc_CORE_BUSY]
  | .bob => [R.bob_CORE_RUN, R.bob_CORE_HALT, R.bob_RESTART]
  | .spl => [R.spl_AFF_WAIT_US, R.spl_LIVE, R.spl_CANCEL_ITEM, R.spl_CANCEL_GO, R.spl_CANCEL_RESULT, R.spl_CANCEL_BUSY, 
      R.spl_TIME_LO, R.spl_TIME_HI, R.spl_FLOWS_OPEN, R.spl_STG_REL_LO, R.spl_STG_REL_HI, R.spl_STG_REL_GO, 
      R.spl_STG_REL_BAD, R.spl_LIST_LEN]
  | .trc => [R.trc_TRC_BASE_LO, R.trc_TRC_BASE_HI, R.trc_TRC_LOG2, R.trc_TRC_ON, R.trc_TRC_MASK, R.trc_TRC_WR, R.trc_TRC_RD]
  | .tku => [R.tku_ROT_PTR, R.tku_HELD_0, R.tku_HELD_1, R.tku_HELD_2]
  | .pci => [R.pci_LINK_SPEED, R.pci_LINK_WIDTH, R.pci_SRIS_ON, R.pci_DMA_TMO_US, R.pci_LAST_DMA_CODE]
  | .nvm => [R.nvm_IOQ_PAIRS, R.nvm_TCP_CTRLS, R.nvm_OUTSTANDING, R.nvm_FETCH_PAUSED, R.nvm_LEGACY_VALID, R.nvm_COMPAT_LOG]
  | .pan => [R.pan_ACTIVE_LO, R.pan_ACTIVE_HI, R.pan_N_ACTIVE, R.pan_PAN_ID, R.pan_PAN_OP, R.pan_PAN_GO, R.pan_PAN_BUSY, 
      R.pan_PAN_RESULT, R.pan_NEW_PASID, R.pan_DRAIN_TMO_MS, R.pan_PASID, R.pan_RESETTING, R.pan_SQ_PANEL, 
      R.pan_CFG_REJ]
  | .eth => [R.eth_GROUPING, R.eth_PORT_UP, R.eth_PFC_EN, R.eth_CFG_REJ, R.eth_MTU, R.eth_MAC_LO, R.eth_MAC_HI]
  | .toe => [R.toe_CONNS, R.toe_IO_PORT, R.toe_DISC_PORT, R.toe_ICD_MAX, R.toe_HDGST_REQ, R.toe_DDGST_REQ, R.toe_RTO_MIN_MS]
  | .eic => [R.eic_SCRUB_EN, R.eic_SCRUB_LATE, R.eic_SRAM_PASS_MS, R.eic_DRAM_PASS_H, R.eic_OVF_MAP, R.eic_HW_SEL, 
      R.eic_HW_COUNT, R.eic_HW_FULL, R.eic_HW_ADDR_LO, R.eic_HW_ADDR_HI, R.eic_CE_PAGE, R.eic_UE_PAGE, 
      R.eic_CE_VALID, R.eic_UE_VALID, R.eic_CE_ADDR_LO, R.eic_UE_ADDR_LO, R.eic_CE_ADDR_HI, R.eic_UE_ADDR_HI, 
      R.eic_CE_SYN, R.eic_UE_SYN, R.eic_CAP_CLR]
  | .fil => [R.fil_FILL_SRAM_US, R.fil_FILL_DRAM_MS, R.fil_FILL_CH_OK, R.fil_FILL_CH_FAIL, R.fil_FILL_GIB]
  | .sbd => [R.sbd_SMB_ADDR, R.sbd_SMB_EN, R.sbd_I3C_EN, R.sbd_I3C_DYN_ADDR, R.sbd_I3C_ADDR_VALID]
  | .dbg => [R.dbg_UART_DIV, R.dbg_UART_THM, R.dbg_JTAG_DBG, R.dbg_TX_DATA, R.dbg_TX_FULL, R.dbg_RX_DATA, R.dbg_RX_VALID]
  | .trx => [R.trx_TRX_EN, R.trx_TRX_DIV]
  | .gpio => [R.gpio_GPIO_OE, R.gpio_GPIO_OUT, R.gpio_GPIO_IN, R.gpio_GPIO_WAKE, R.gpio_GPIO_WAKE_HI]

/-- The common page header (21_register_pages.md R503, R507; 16_memory_integrity.md R412). -/
def commonFields : List Fld :=
  [R.common_LEVEL, R.common_CAPACITY, R.common_OVF, R.common_LEAK_PERIOD, R.common_TYPE, R.common_INSTANCE, 
   R.common_VERSION, R.common_CAPS, R.common_EN, R.common_SRESET, R.common_DRAIN, R.common_FREEZE, R.common_BUSY, 
   R.common_IDLE, R.common_FAULT, R.common_BLK3, R.common_INT_RAW, R.common_INT_EN, R.common_INT_PEND, 
   R.common_INT_CLR, R.common_ERR_CODE, R.common_ERR_MORE, R.common_ERR_INFO, R.common_ERR_ADDR_LO, 
   R.common_ERR_ADDR_HI, R.common_SCRATCH, R.common_OWNER, R.common_TAKE, R.common_RELEASE, R.common_LOCK_REJ]

/-! ### Pages -/

/-- The kind, TYPE code and INSTANCE of an assigned page (21_register_pages.md R513). -/
def pageInfo (p : Nat) : Option (PageKind × Nat × Nat) :=
  if p ≤ 0x008 then
    ([(.glb, 1, 0), (.mode, 2, 0), (.pwr, 3, 0), (.clk, 4, 0), (.rst, 5, 0), (.pad, 6, 0), (.pat, 7, 0), (.thm, 8, 0),
      (.flt, 9, 0)] : List (PageKind × Nat × Nat))[p]?
  else if 0x010 ≤ p ∧ p ≤ 0x027 then some (.nfc, 0x10, p - 0x010)
  else if 0x028 ≤ p ∧ p ≤ 0x02F then some (.ldd, 0x11, p - 0x028)
  else if 0x030 ≤ p ∧ p ≤ 0x033 then
    ([(.seam, 0x20, 0), (.recl, 0x21, 0), (.hem, 0x22, 0), (.unpk, 0x23, 0)] : List (PageKind × Nat × Nat))[p - 0x030]?
  else if 0x038 ≤ p ∧ p ≤ 0x03B then some (.drc, 0x28, p - 0x038)
  else if p = 0x03C then some (.drm, 0x29, 0)
  else if 0x040 ≤ p ∧ p ≤ 0x042 then
    ([(.slv, 0x30, 0), (.svo, 0x31, 0), (.trl, 0x32, 0)] : List (PageKind × Nat × Nat))[p - 0x040]?
  else if 0x048 ≤ p ∧ p ≤ 0x04F then some (.plt, 0x38, p - 0x048)
  else if 0x050 ≤ p ∧ p ≤ 0x06B then some (.pnk, 0x40, p - 0x050)
  else if p = 0x06C then some (.gau, 0x48, 0)
  else if p = 0x06D then some (.gcb, 0x49, 0)
  else if 0x070 ≤ p ∧ p ≤ 0x077 then some (.shc, 0x50, p - 0x070)
  else if 0x078 ≤ p ∧ p ≤ 0x07B then
    ([(.bob, 0x51, 0), (.spl, 0x52, 0), (.trc, 0x53, 0), (.tku, 0x54, 0)] : List (PageKind × Nat × Nat))[p - 0x078]?
  else if 0x080 ≤ p ∧ p ≤ 0x084 then
    ([(.pci, 0x60, 0), (.nvm, 0x61, 0), (.pan, 0x62, 0), (.eth, 0x63, 0), (.toe, 0x64, 0)]
      : List (PageKind × Nat × Nat))[p - 0x080]?
  else if 0x088 ≤ p ∧ p ≤ 0x08D then
    ([(.eic, 0x68, 0), (.fil, 0x69, 0), (.sbd, 0x6A, 0), (.dbg, 0x70, 0), (.trx, 0x71, 0), (.gpio, 0x72, 0)]
      : List (PageKind × Nat × Nat))[p - 0x088]?
  else none

/-- Page numbers by name. -/
def P.glb : Nat := 0x000
def P.mode : Nat := 0x001
def P.pwr : Nat := 0x002
def P.clk : Nat := 0x003
def P.rst : Nat := 0x004
def P.pad : Nat := 0x005
def P.pat : Nat := 0x006
def P.thm : Nat := 0x007
def P.flt : Nat := 0x008
def P.nfc (c : Nat) : Nat := 0x010 + c
def P.ldd (d : Nat) : Nat := 0x028 + d
def P.seam : Nat := 0x030
def P.recl : Nat := 0x031
def P.hem : Nat := 0x032
def P.unpk : Nat := 0x033
def P.drc (c : Nat) : Nat := 0x038 + c
def P.drm : Nat := 0x03C
def P.slv : Nat := 0x040
def P.svo : Nat := 0x041
def P.trl : Nat := 0x042
def P.plt (e : Nat) : Nat := 0x048 + e
def P.pnk (u : Nat) : Nat := 0x050 + u
def P.gau : Nat := 0x06C
def P.gcb : Nat := 0x06D
def P.shc (c : Nat) : Nat := 0x070 + c
def P.bob : Nat := 0x078
def P.spl : Nat := 0x079
def P.trc : Nat := 0x07A
def P.tku : Nat := 0x07B
def P.pci : Nat := 0x080
def P.nvm : Nat := 0x081
def P.pan : Nat := 0x082
def P.eth : Nat := 0x083
def P.toe : Nat := 0x084
def P.eic : Nat := 0x088
def P.fil : Nat := 0x089
def P.sbd : Nat := 0x08A
def P.dbg : Nat := 0x08B
def P.trx : Nat := 0x08C
def P.gpio : Nat := 0x08D

/-- The INT_RAW bits each page kind defines: the reset value of INT_EN (R503) and the bits that may be raised. -/
def intBits : PageKind → Nat
  | .glb => 0 | .mode => 0x3 | .pwr => 0x7F | .clk => 0x7 | .rst => 0x1 | .pad => 0x1 | .pat => 0x7 | .thm => 0x7
  | .flt => 0x7 | .nfc => 0x3F | .ldd => 0x1 | .seam => 0x3F | .recl => 0x7 | .hem => 0x7 | .unpk => 0x3 | .drc => 0xF
  | .drm => 0x1 | .slv => 0x1F | .svo => 0x1F | .trl => 0x7 | .plt => 0x1F | .pnk => 0x1F | .gau => 0xF | .gcb => 0xF
  | .shc => 0x7 | .bob => 0x1 | .spl => 0xF | .trc => 0x1 | .tku => 0 | .pci => 0x7 | .nvm => 0x3 | .pan => 0x7 | .eth => 0x7
  | .toe => 0x3 | .eic => 0x1F | .fil => 0x1 | .sbd => 0x1 | .dbg => 0x3 | .trx => 0 | .gpio => 0xFFFF

/-- How many counters each page kind lists, from offset 0x040 in steps of 8 (R501 and the chapters' lists). -/
def counterCount : PageKind → Nat
  | .glb => 1 | .mode => 2 | .pwr => 12 | .clk => 3 | .rst => 5 | .pad => 2 | .pat => 4 | .thm => 4 | .flt => 5 | .nfc => 10
  | .ldd => 4 | .seam => 10 | .recl => 4 | .hem => 4 | .unpk => 4 | .drc => 10 | .drm => 5 | .slv => 8 | .svo => 4 | .trl => 4
  | .plt => 10 | .pnk => 8 | .gau => 8 | .gcb => 5 | .shc => 8 | .bob => 2 | .spl => 8 | .trc => 2 | .tku => 4 | .pci => 4
  | .nvm => 4 | .pan => 6 | .eth => 4 | .toe => 4 | .eic => 10 | .fil => 1 | .sbd => 3 | .dbg => 0 | .trx => 1 | .gpio => 0

/-- The control pages, whose EN reads 1 and ignores writes (R504). -/
def isControl : PageKind → Bool
  | .glb | .mode | .pwr | .clk | .rst | .pad | .pat | .thm | .flt | .drm | .bob | .trc | .tku | .pan | .eic | .fil | .sbd
  | .dbg | .trx | .gpio => true
  | _ => false

/-- The power domain whose pages go dark with it (18_power_clocks.md R441, R443); 2 (FAB) for pages with no domain of their
own, 0 (AON) for GPIO. -/
def pageDomain (p : Nat) : Nat :=
  match pageInfo p with
  | some (.thm, _, _) => 1
  | some (.nfc, _, i) => 16 + i / 3
  | some (.pnk, _, i) => if i < 24 then 16 + i / 3 else 33
  | some (.ldd, _, _) => 24
  | some (.drc, _, i) => 25 + i
  | some (.slv, _, _) | some (.svo, _, _) | some (.trl, _, _) => 35
  | some (.plt, _, i) => 29 + i / 2
  | some (.gau, _, _) | some (.gcb, _, _) => 34
  | some (.shc, _, i) => 8 + i
  | some (.bob, _, _) => 7
  | some (.pci, _, _) => 36
  | some (.eth, _, _) | some (.toe, _, _) => 37
  | some (.gpio, _, _) => 0
  | _ => 2

/-- Whether the page's unit is present on the part (00_scope.md R2, R4). -/
def pagePresent (part : Part) (p : Nat) : Bool :=
  match part with
  | .od7400 => (pageInfo p).isSome
  | .od7420 =>
    match pageInfo p with
    | some (.nfc, _, i) => i < 12
    | some (.drc, _, i) => i < 2
    | some (.plt, _, i) => i < 4
    | some (.pnk, _, i) => i < 12 ∨ i = 24 ∨ i = 25
    | some (.shc, _, i) => i < 4
    | some _ => true
    | none => false

/-- The power domains present (R441): all 38, or the 26 of the OD-7420. -/
def domainPresent (part : Part) (d : Nat) : Bool :=
  match part with
  | .od7400 => d < 38
  | .od7420 => d < 12 || (16 ≤ d && d ≤ 19) || (24 ≤ d && d ≤ 26) || d = 29 || d = 30 || (33 ≤ d && d ≤ 37)

/-- How many of each unit the part has (00_scope.md R2). -/
def nChannels : Part → Nat | .od7400 => 24 | .od7420 => 12
def nClusters : Part → Nat | .od7400 => 8 | .od7420 => 4
def nDram : Part → Nat | .od7400 => 4 | .od7420 => 2
def nPleat : Part → Nat | .od7400 => 8 | .od7420 => 4
def nEthLanes : Part → Nat | .od7400 => 4 | .od7420 => 2
def nGaugeRows : Part → Nat | .od7400 => 131072 | .od7420 => 65536
/-- The part's power limit in W (18_power_clocks.md R457). -/
def partLimitW : Part → Nat | .od7400 => 0x73 | .od7420 => 0x37
/-- The present Pinking units, channel-side and DRAM-side (07_pinking.md R188). -/
def pnkChan (part : Part) : List Nat := List.range (nChannels part)
def pnkDram : Part → List Nat | .od7400 => [24, 25, 26, 27] | .od7420 => [24, 25]

/-- The fields of a page: the common header and its own. -/
def fieldsOf (k : PageKind) : List Fld := commonFields ++ ownFields k

/-- The place of index `i` of a field in `State.regs`. -/
def fkey (p : Nat) (f : Fld) (i : Nat) : Nat := (p * 4096 + f.off + f.stride * i) * 32 + f.lo

/-- The reset value of a field on a page, with the values that depend on the part or the page (R4, R459 of the tables:
GLB CAPS R512, GAU QUOTA R259, PWR_LIMIT_W R465; TYPE, INSTANCE, EN and INT_EN R503, R504; SIDE R211; FLT ROUTE R508). -/
def fieldReset (part : Part) (p : Nat) (f : Fld) (i : Nat) : Nat :=
  match pageInfo p with
  | none => 0
  | some (k, ty, inst) =>
    if f.off = 0x000 ∧ f.lo = 0 then ty
    else if f.off = 0x000 ∧ f.lo = 16 then inst
    else if f.off = 0x004 then (if k = .glb then (match part with | .od7400 => 0x00191230 | .od7420 => 0x00148919) else 0)
    else if f.off = 0x008 ∧ f.lo = 0 then (if isControl k then 1 else 0)
    else if f.off = 0x014 then intBits k
    else if k = .gau ∧ f.off = 0x114 ∧ f.lo = 0 then nGaugeRows part
    else if k = .pwr ∧ f.off = 0x124 ∧ f.lo = 0 then partLimitW part
    else if k = .pwr ∧ f.off = 0x104 then (match part with | .od7400 => 0xFFFFFFFF | .od7420 => 0x670F0FFF)
    else if k = .pwr ∧ f.off = 0x108 then (match part with | .od7400 => 0x3F | .od7420 => 0x3E)
    else if k = .pnk ∧ f.off = 0x108 ∧ f.lo = 24 then (if 24 ≤ inst then 1 else 0)
    else if k = .glb ∧ f.off = 0x200 ∧ i = 0x008 ∧ f.lo = 0 then 0
    else if k = .glb ∧ f.off = 0x200 ∧ (pageInfo i).isNone then 0
    else f.rst

end Sys2Proof.Machine
end

