-- ==== Sys2Proof/Machine/Ops.lean ====
section
/-!
DEFINITION. Sys2Proof/Machine/Ops.lean: the named operations over tables, memory, registers, interrupts, counters, domains,
staging buffers and completions that the meanings of the commands share.
-/

namespace Sys2Proof.Machine

/-! ### Tables and memory -/

/-- The value at a key. -/
def Tbl.at? {β : Type} : Tbl β → Nat → Option β
  | [], _ => none
  | (a, v) :: r, k => if a = k then some v else Tbl.at? r k

/-- A table with the value at a key replaced; keys stay rising. -/
def Tbl.put {β : Type} : Tbl β → Nat → β → Tbl β
  | [], k, v => [(k, v)]
  | (a, w) :: r, k, v => if k < a then (k, v) :: (a, w) :: r else if k = a then (k, v) :: r else (a, w) :: Tbl.put r k v

/-- A table without a key. -/
def Tbl.del {β : Type} (t : Tbl β) (k : Nat) : Tbl β := List.filter (fun e => e.1 ≠ k) t

/-- A table with the value at a key changed by a function, where there is one. -/
def Tbl.upd {β : Type} (t : Tbl β) (k : Nat) (f : β → β) : Tbl β :=
  List.map (fun e => if e.1 = k then (k, f e.2) else e) t

/-- Whether a table holds a key. -/
def Tbl.has {β : Type} (t : Tbl β) (k : Nat) : Bool := (Tbl.at? t k).isSome

/-- The lowest number from `n` on that a table does not hold, looking at most `fuel` further. -/
def Tbl.freeKey {β : Type} (t : Tbl β) : Nat → Nat → Nat
  | 0, n => n
  | fuel + 1, n => if Tbl.has t n then Tbl.freeKey t fuel (n + 1) else n

/-- An element placed before the first element of a list that it may stand before. -/
def insertBy {β : Type} (le : β → β → Bool) (a : β) : List β → List β
  | [] => [a]
  | b :: r => if le a b then a :: b :: r else b :: insertBy le a r

/-- A list in order; elements that tie keep their order. -/
def sortBy {β : Type} (le : β → β → Bool) (l : List β) : List β := l.foldr (insertBy le) []

/-- The byte at an address; 0 where nothing is listed. -/
def memAt (m : Memory) (a : Nat) : Byte := (Tbl.at? (β := Byte) m a).getD 0

/-- A byte written; writing 0 removes the entry, so that the list stays canonical. -/
def memSet (m : Memory) (a : Nat) (v : Byte) : Memory := if v = 0 then Tbl.del (β := Byte) m a else Tbl.put (β := Byte) m a v

/-- `n` bytes read from an address upward. -/
def memRead (m : Memory) (a n : Nat) : List Byte := (List.range n).map fun i => memAt m (a + i)

/-- Bytes written from an address upward. -/
def memWrite : Memory → Nat → List Byte → Memory
  | m, _, [] => m
  | m, a, v :: r => memWrite (memSet m a v) (a + 1) r

/-- Whether a memory is in canonical form: addresses strictly rising, no byte zero. -/
def Memory.wf (m : Memory) : Bool :=
  decide (List.Pairwise (fun a b : Host.Cell => a.1 < b.1) m) && m.all fun e => e.2 != 0

/-! ### Numbers -/

/-- `w` bits of a number from bit `lo`. -/
def bitsAt (v lo w : Nat) : Nat := v / 2 ^ lo % 2 ^ w
/-- A number with `w` bits from bit `lo` replaced. -/
def bitsPut (v lo w x : Nat) : Nat := v - bitsAt v lo w * 2 ^ lo + x % 2 ^ w * 2 ^ lo
/-- A number with one bit set or cleared. -/
def bitPut (v b : Nat) (on : Bool) : Nat := bitsPut v b 1 (if on then 1 else 0)
/-- The bits of the first number that the second does not have. -/
def andNot (a b : Nat) : Nat := Nat.xor a (Nat.land a b)
/-- Exclusive or of the list's numbers. -/
def xorAll (l : List Nat) : Nat := l.foldl Nat.xor 0
/-- How many bits of the low `n` are 1. -/
def popcount (n v : Nat) : Nat := ((List.range n).filter fun i => v.testBit i).length
/-- The number with the listed bits set. -/
def maskOf (l : List Nat) : Nat := l.foldl (fun v b => bitPut v b true) 0
/-- The first element, lowest by a measure; the earlier on a tie. -/
def leastBy {α : Type} (f : α → Nat) : List α → Option α
  | [] => none
  | a :: r =>
    match leastBy f r with
    | none => some a
    | some b => if f a ≤ f b then some a else some b
/-- A two's complement reading of `w` bits. -/
def toSigned (w v : Nat) : Int := if 2 * v < 2 ^ w then v else (v : Int) - 2 ^ w
/-- The `w` low bits of an integer. -/
def ofSigned (w : Nat) (v : Int) : Nat := (v % 2 ^ w).toNat

/-! ### Address map -/

/-- STG_BASE (01_ledger_path.md R530). -/
def stgBase : Nat := 0x00E000000000
/-- REG_BASE (21_register_pages.md R498). -/
def regBase : Nat := 0x00F000000000
/-- DRAM_BASE (17_dram.md R423). -/
def dramBase : Nat := 0x010000000000
/-- The host aperture (13_host_network.md R350). -/
def hostBase : Nat := 0x800000000000

/-! ### Registers (21_register_pages.md) -/

/-- The value of an indexed field. -/
def State.rdI (s : State) (p : Nat) (f : Fld) (i : Nat) : Nat :=
  (Tbl.at? s.regs (fkey p f i)).getD (fieldReset s.part p f i)
/-- The value of a field. -/
def State.rd (s : State) (p : Nat) (f : Fld) : Nat := s.rdI p f 0
/-- An indexed field set, to the field's width. -/
def State.wrI (s : State) (p : Nat) (f : Fld) (i v : Nat) : State :=
  { s with regs := Tbl.put s.regs (fkey p f i) (v % 2 ^ f.w) }
/-- A field set. -/
def State.wr (s : State) (p : Nat) (f : Fld) (v : Nat) : State := s.wrI p f 0 v
/-- A field of one bit set to 1. -/
def State.flag (s : State) (p : Nat) (f : Fld) : State := s.wr p f 1
/-- Whether a field is not zero. -/
def State.on (s : State) (p : Nat) (f : Fld) : Bool := s.rd p f != 0
/-- The state where a condition holds, unchanged otherwise. -/
def State.whenB (s : State) (c : Bool) (f : State → State) : State := if c then f s else s

/-- DEVSTATE (01_ledger_path.md R27). -/
def State.dev (s : State) : Nat := s.rd P.glb R.glb_DEVSTATE
/-- DEVSTATE set. -/
def State.setDev (s : State) (d : Nat) : State := s.wr P.glb R.glb_DEVSTATE d
def Dev.fill : Nat := 1
def Dev.boot : Nat := 2
def Dev.rebuild : Nat := 3
def Dev.ready : Nat := 4
def Dev.readOnly : Nat := 5
def Dev.ward : Nat := 6
def Dev.doze : Nat := 7
def Dev.slumber : Nat := 8
def Dev.vault : Nat := 9
/-- Ready or Read-only. -/
def State.upState (s : State) : Bool := s.dev == Dev.ready || s.dev == Dev.readOnly

/-- A bit of MODE_EN (15_modes.md R388). -/
def State.mode (s : State) (b : Nat) : Bool := (s.rd P.mode R.mode_MODE_EN).testBit b
def M.host : Nat := 0
def M.net : Nat := 1
def M.arch : Nat := 2
def M.pleat : Nat := 3
def M.pink : Nat := 4
def M.gauge : Nat := 5
def M.panel : Nat := 6
def M.hem : Nat := 7
def M.unpick : Nat := 8
def M.compat : Nat := 9
def M.deadline : Nat := 10
def M.legacy : Nat := 11

/-- Something sent outward. -/
def State.send (s : State) (o : Output) : State := { s with outbox := s.outbox ++ [o] }

/-- A value the spec leaves open: the next of the free sequence (log entry 7). -/
def State.drawFree (s : State) (w : Nat) : Nat × State := ((Config.freeValue w s.free).toNat, { s with free := s.free + 1 })

/-! ### Power domains (18_power_clocks.md) -/

/-- Whether a domain is powered: its bit of DOM_ON. -/
def State.domOn (s : State) (d : Nat) : Bool :=
  if d < 32 then (s.rd P.pwr R.pwr_DOM_ON_LO).testBit d else (s.rd P.pwr R.pwr_DOM_ON_HI).testBit (d - 32)
/-- A domain's bit of DOM_ON set. -/
def State.setDom (s : State) (d : Nat) (on : Bool) : State :=
  if d < 32 then s.wr P.pwr R.pwr_DOM_ON_LO (bitPut (s.rd P.pwr R.pwr_DOM_ON_LO) d on)
  else s.wr P.pwr R.pwr_DOM_ON_HI (bitPut (s.rd P.pwr R.pwr_DOM_ON_HI) (d - 32) on)
/-- Whether a page exists on the part and its domain is powered. -/
def State.pageUp (s : State) (p : Nat) : Bool := pagePresent s.part p && s.domOn (pageDomain p)
/-- CTRL.EN of a page. -/
def State.en (s : State) (p : Nat) : Bool := s.on p R.common_EN

/-! ### Counters (21_register_pages.md R501, R506) -/

/-- A counter of a page. -/
def State.ctr (s : State) (p off : Nat) : Nat := (Tbl.at? s.ctrs (p * 4096 + off)).getD 0
/-- Whether the counters of a page hold: FREEZE of the page or of GLB. -/
def State.frozen (s : State) (p : Nat) : Bool := s.on p R.common_FREEZE || s.on P.glb R.common_FREEZE
/-- A counter advanced by `n`, modulo 2^64, unless frozen. -/
def State.countN (s : State) (p off n : Nat) : State :=
  if s.frozen p then s else { s with ctrs := Tbl.put s.ctrs (p * 4096 + off) ((s.ctr p off + n) % 2 ^ 64) }
/-- A counter advanced by 1. -/
def State.count (s : State) (p off : Nat) : State := s.countN p off 1

/-! ### Interrupts (21_register_pages.md R504, R508, R509) -/

/-- INT_PEND of a page. -/
def State.intPend (s : State) (p : Nat) : Nat := Nat.land (s.rd p R.common_INT_RAW) (s.rd p R.common_INT_EN)
/-- Whether a page interrupts. -/
def State.interrupts (s : State) (p : Nat) : Bool := s.pageUp p && s.intPend p != 0
/-- Whether a page is routed to an MSI-X vector of function 1. -/
def State.routedTo (s : State) (p v : Nat) : Bool :=
  s.rdI P.glb R.glb_MSIX_EN p == 1 && s.rdI P.glb R.glb_MSIX_VEC p == v
/-- The OR of the interrupts of the pages routed to a vector. -/
def State.vecOr (s : State) (v : Nat) : Bool := (List.range 0x8E).any fun p => s.routedTo p v && s.interrupts p
/-- Whether messages of function 1 go out: not in Fill (R509), and not masked by a function level reset (R352). -/
def State.msiOpen (s : State) : Bool := s.dev != Dev.fill && !s.nvme.fn1Masked
/-- A message of function 1 where it may go out. -/
def State.msix1 (s : State) (v : Nat) : State := s.whenB s.msiOpen fun s => s.send (.msix 1 v)
/-- A change of the interrupt sources of page `p`, with a message where its vector's OR rises. -/
def State.announce (s : State) (p : Nat) (f : State → State) : State :=
  let t := f s
  let v := t.rdI P.glb R.glb_MSIX_VEC p
  t.whenB (t.rdI P.glb R.glb_MSIX_EN p == 1 && !s.vecOr v && t.vecOr v) fun t => t.msix1 v
/-- An INT_RAW bit set by its event. -/
def State.raise (s : State) (p b : Nat) : State :=
  s.announce p fun s => s.wr p R.common_INT_RAW (bitPut (s.rd p R.common_INT_RAW) b true)

/-! ### Errors (21_register_pages.md R505) -/

/-- The first error of a page captured; a later one only adds to ERR_MORE. -/
def State.err (s : State) (p code info addr : Nat) : State :=
  if s.rd p R.common_ERR_CODE = 0 then
    (((s.wr p R.common_ERR_CODE code).wr p R.common_ERR_INFO info).wr p R.common_ERR_ADDR_LO (addr % 2 ^ 32)).wr p
      R.common_ERR_ADDR_HI (addr / 2 ^ 32)
  else s.wr p R.common_ERR_MORE (min 255 (s.rd p R.common_ERR_MORE + 1))

/-! ### Staging buffers (01_ledger_path.md R15 to R20, R530; 14_panels.md R380) -/

/-- The number of active panels. -/
def State.nActive (s : State) : Nat :=
  popcount 32 (s.rd P.pan R.pan_ACTIVE_LO) + popcount 32 (s.rd P.pan R.pan_ACTIVE_HI)
/-- Whether a panel is active. -/
def State.panelActive (s : State) (p : Nat) : Bool :=
  if p < 32 then (s.rd P.pan R.pan_ACTIVE_LO).testBit p else (s.rd P.pan R.pan_ACTIVE_HI).testBit (p - 32)
/-- The panel in force for work of panel `p`: 0 with PANEL = 0. -/
def State.panelOf (s : State) (p : Nat) : Nat := if s.mode M.panel then p else 0
/-- A share of a resource: the whole device with PANEL = 0. -/
def State.share (s : State) (n : Nat) : Nat := if s.mode M.panel then n / s.nActive else n

/-- A class's place in the rotation. -/
def clsCode : StgClass → Nat | .media => 0 | .engine => 1 | .host => 2 | .program => 3
/-- The field of a class's minimum. -/
def clsMin : StgClass → Fld
  | .media => R.glb_STG_MIN_MEDIA | .engine => R.glb_STG_MIN_ENGINE | .host => R.glb_STG_MIN_HOST | .program => R.glb_STG_MIN_PROG
def stgClasses : List StgClass := [.media, .engine, .host, .program]
/-- The guaranteed minimum of a class. -/
def State.stgMin (s : State) (c : StgClass) : Nat := s.rd P.glb (clsMin c)
/-- The buffers beyond the sum of the minimums. -/
def State.stgShared (s : State) : Nat := 992 - (stgClasses.map s.stgMin).sum
/-- Free buffers in banks 1 to 31. -/
def State.stgFree (s : State) : Nat := 992 - s.stg.bufs.length
/-- The buffers a class holds, of one panel where one is given. -/
def State.stgHeld (s : State) (c : StgClass) (panel : Option Nat) : Nat :=
  (s.stg.bufs.filter fun e => e.2.cls = c ∧ (panel.all fun p => e.2.panel = p)).length
/-- Whether a class is divided among the active panels (R380). -/
def State.stgDivided (s : State) (c : StgClass) : Bool := s.mode M.panel && (c == .program || c == .host)
/-- The buffers of a class beyond its guarantee; of a divided class, beyond each panel's (R16, R380). -/
def State.stgBeyond (s : State) (c : StgClass) : Nat :=
  if s.stgDivided c then ((List.range 64).map fun p => s.stgHeld c (some p) - s.stgMin c / s.nActive).sum
  else s.stgHeld c none - s.stgMin c
/-- How much of the shared remainder is taken. -/
def State.stgSharedUsed (s : State) : Nat := (stgClasses.map s.stgBeyond).sum
/-- Whether a request of a class and panel may take a free buffer (R16; the panel share of R380 for the program and host
classes). -/
def State.stgMay (s : State) (c : StgClass) (panel : Nat) : Bool :=
  s.stgFree != 0 &&
    if s.stgDivided c then
      let held := s.stgHeld c (some panel)
      decide (held < s.stgMin c / s.nActive) ||
        (decide (held < (s.stgMin c + s.stgShared) / s.nActive) && decide (s.stgSharedUsed < s.stgShared))
    else decide (s.stgHeld c none < s.stgMin c) || decide (s.stgSharedUsed < s.stgShared)
/-- The number of bank `b`'s buffer `i`. -/
def stgNo (b i : Nat) : Nat := b * 32 + i
/-- The fabric address of a buffer. -/
def stgAddr (n : Nat) : Nat := stgBase + n * 0x10000
/-- The buffer that an address begins, in banks 1 to 31. -/
def stgOfAddr (a : Nat) : Option Nat :=
  if stgBase ≤ a ∧ (a - stgBase) % 0x10000 = 0 ∧ 32 ≤ (a - stgBase) / 0x10000 ∧ (a - stgBase) / 0x10000 < 1024 then
    some ((a - stgBase) / 0x10000)
  else none
/-- The lowest free buffer of a bank. -/
def State.stgFreeIn (s : State) (b : Nat) : Option Nat :=
  ((List.range 32).map (stgNo b)).find? fun n => !Tbl.has s.stg.bufs n
/-- The buffer that the next allocation takes: the lowest free one of the next bank that has one (R530). -/
def State.stgPick (s : State) : Option Nat :=
  ((List.range 31).map fun k => (s.stg.lastBank - 1 + 1 + k) % 31 + 1).findSome? s.stgFreeIn
/-- A buffer given to a request. -/
def State.stgGive (s : State) (r : StgReq) : State :=
  match s.stgPick with
  | none => s
  | some n => { s with stg := { s.stg with bufs := Tbl.put s.stg.bufs n r, lastBank := n / 32 } }
/-- A request that takes a buffer at once, or waits behind its class (R16, R17). -/
def State.stgRequest (s : State) (r : StgReq) : State :=
  if s.stgMay r.cls r.panel && !(s.stg.waits.any fun w => w.cls = r.cls) then s.stgGive r
  else { s with stg := { s.stg with waits := s.stg.waits ++ [r] } }
/-- The oldest waiting request of a class that may take a buffer. -/
def State.stgOldest (s : State) (c : StgClass) : Option StgReq :=
  s.stg.waits.find? fun w => w.cls == c && s.stgMay w.cls w.panel
/-- The request that the rotation of R17 serves next: from the class after the one served last. -/
def State.stgNext (s : State) : Option StgReq :=
  ((List.range 4).map fun k => stgClasses.getD ((s.stg.lastCls + 1 + k) % 4) .media).findSome? s.stgOldest
/-- A waiting request served where one may be. -/
def State.stgServe (s : State) : State :=
  match s.stgNext with
  | none => s
  | some w => { s with stg := { s.stg with waits := s.stg.waits.erase w, lastCls := clsCode w.cls } }.stgGive w
/-- A buffer freed, and given to a waiting request that may take it (R17). -/
def State.stgRelease (s : State) (n : Nat) : State :=
  if Tbl.has s.stg.bufs n then { s with stg := { s.stg with bufs := Tbl.del s.stg.bufs n } }.stgServe else s
/-- Waiting requests served while one may be, at most `fuel` of them. -/
def State.stgServeAll : Nat → State → State
  | 0, s => s
  | fuel + 1, s => if s.stgNext.isSome then State.stgServeAll fuel s.stgServe else s
/-- The buffer held for a purpose. -/
def State.stgFor (s : State) (t : StgTag) : Option Nat := (s.stg.bufs.find? fun e => e.2.tag = t).map (·.1)
/-- The buffers and waits of a purpose given up. -/
def State.stgDrop (s : State) (t : StgTag) : State :=
  let s := { s with stg := { s.stg with waits := s.stg.waits.filter fun w => w.tag ≠ t } }
  ((s.stg.bufs.filter fun e => e.2.tag = t).map (·.1)).foldl State.stgRelease s

/-! ### NVMe completions (13_host_network.md) -/

/-- Status values: status code type × 256 + status code. -/
def St.ok : Nat := 0x000
def St.badOpcode : Nat := 0x001
def St.badField : Nat := 0x002
def St.internal : Nat := 0x006
def St.aborted : Nat := 0x007
def St.sqDeleted : Nat := 0x008
def St.badNs : Nat := 0x00B
def St.lbaRange : Nat := 0x080
def St.capacity : Nat := 0x081
def St.nsNotReady : Nat := 0x082
def St.writeProtected : Nat := 0x020
def St.badQid : Nat := 0x101
def St.cqInvalid : Nat := 0x100
def St.badFirmware : Nat := 0x107
def St.badLogPage : Nat := 0x109
def St.badFormat : Nat := 0x10A
def St.nsIdUnavailable : Nat := 0x116
def St.readOnlyRange : Nat := 0x182
def St.unrecovered : Nat := 0x281
def St.compareFail : Nat := 0x285
def St.accessDenied : Nat := 0x286
/-- A vendor status code (13_host_network.md R363). -/
def St.vendor (c : Nat) : Nat := 0x700 + c

/-- The place of a command in the table of outstanding commands. -/
def cmdKey (h : Hdr) : Nat :=
  (match h.src with | .pcie => 0 | .tcp c => (c + 1) * 2 ^ 32) + h.q * 65536 + h.cid

/-- Whether a completion queue has room for one more entry. -/
def Cq.room (c : Cq) : Bool := (c.tail + 1) % c.size != c.head

/-- A completion queue entry posted with its MSI-X, or held until the head doorbell frees an entry. -/
def State.postCqe (s : State) (cq : Nat) (o : Output) : State :=
  match Tbl.at? s.nvme.cqs cq with
  | none => s
  | some c =>
    if c.room && !(s.nvme.cqHeld.any fun e => e.1 = cq) then
      ({ s with nvme := { s.nvme with cqs := Tbl.put s.nvme.cqs cq { c with tail := (c.tail + 1) % c.size } } }.send o).send
        (.msix 0 c.vec)
    else { s with nvme := { s.nvme with cqHeld := s.nvme.cqHeld ++ [(cq, o)] } }

/-- The completion queue of a submission queue. -/
def State.cqOf (s : State) (q : Nat) : Nat := ((Tbl.at? s.nvme.sqs q).map (·.cq)).getD 0

/-- The completion of a command, to its queue or connection. -/
def State.reply (s : State) (h : Hdr) (status dw0 dw1 : Nat) : State :=
  let s := s.count P.nvm 0x040
  match h.src with
  | .pcie => s.postCqe (s.cqOf h.q) (.nvmeCqe (s.cqOf h.q) h.cid status dw0 dw1)
  | .tcp c => s.whenB (Tbl.has s.net.conns c) fun s => s.send (.tcpResp c h.cid status dw0 dw1)

/-- A command number that no command has. -/
def noCmd : Nat := 2 ^ 60
/-- The parts of Seam's work that a command ended early leaves behind go on for no command. -/
def State.orphan (s : State) (key : Nat) : State :=
  let w : WriteFor → WriteFor := fun u => if u = .host key then .host noCmd else u
  let r : ReadFor → ReadFor := fun u => match u with
    | .host k a b c => if k = key then .host noCmd a b c else u
    | u => u
  { s with seam := { s.seam with
      flight := s.seam.flight.map fun u => { u with use := w u.use }
      unplaced := s.seam.unplaced.map fun u => { u with use := w u.use }
      held := s.seam.held.map fun u => { u with use := w u.use }
      reads := s.seam.reads.map fun j => { j with use := r j.use }
      heldWrites := s.seam.heldWrites.filter (· ≠ key) } }
/-- An outstanding command ended: its buffer given up and, unless its connection was lost, its completion sent. -/
def State.finish (s : State) (key status dw0 dw1 : Nat) : State :=
  match Tbl.at? s.nvme.cmds key with
  | none => s
  | some c =>
    let s := { s with nvme := { s.nvme with cmds := Tbl.del s.nvme.cmds key, aers := s.nvme.aers.filter (· ≠ key) } }
    let s := s.stgDrop (.write key)
    if c.silent then s else s.reply c.h status dw0 dw1

/-- A change to an outstanding command. -/
def State.updCmd (s : State) (key : Nat) (f : Cmd → Cmd) : State :=
  { s with nvme := { s.nvme with cmds := Tbl.upd s.nvme.cmds key f } }

/-! ### Host memory and the aperture (13_host_network.md R350; 14_panels.md R377, R383) -/

/-- The PASID that a panel's host requests carry; none with PANEL = 0. -/
def State.pasidOf (s : State) (panel : Nat) : Option Nat :=
  if s.mode M.panel then some (s.rdI P.pan R.pan_PASID panel) else none
/-- Whether host requests of a panel may leave: its gate is open. -/
def State.gateOpen (s : State) (panel : Nat) : Bool := !s.panels.gated.contains panel
/-- Host bytes written for a panel; dropped and counted at a closed gate. -/
def State.hostWrite (s : State) (panel a : Nat) (l : List Byte) : State :=
  if s.gateOpen panel then
    let used := (Tbl.at? s.panels.hostBytes panel).getD 0 + l.length
    let s := { s with mem := memWrite s.mem (hostBase + a) l,
                      panels := { s.panels with hostBytes := Tbl.put s.panels.hostBytes panel used } }
    s.send (.pcieWrite (s.pasidOf panel) a l.length)
  else s.count P.pan 0x068
/-- Host bytes read for a panel. -/
def State.hostRead (s : State) (panel a n : Nat) : List Byte × State :=
  if s.gateOpen panel then (memRead s.mem (hostBase + a) n, s.send (.pcieRead (s.pasidOf panel) a n))
  else (List.replicate n 0, s.count P.pan 0x068)

/-! ### Take-up (12_shuttle_spool.md R343) -/

/-- A completion presented at its Take-up source. -/
def State.postCpl (s : State) (c : Cpl) : State := { s with spool := { s.spool with cpls := s.spool.cpls ++ [c] } }
/-- A completion of a Spool item. -/
def State.cplItem (s : State) (src item status result : Nat) : State := s.postCpl ⟨src, some item, status, result, 0⟩
/-- Completion STATUS values (12_shuttle_spool.md R338). -/
def Cs.ok : Nat := 0
def Cs.unit : Nat := 1
def Cs.faulted : Nat := 2
def Cs.cancelled : Nat := 3
def Cs.disabled : Nat := 4
def Cs.memLost : Nat := 5
def Cs.badBuffer : Nat := 6
def Cs.squashed : Nat := 7
/-- An item of a kind whose unit answers with a code: OK for 0, UNIT_STATUS otherwise. -/
def State.cplUnit (s : State) (src item code extra : Nat) : State :=
  if code = 0 then s.cplItem src item Cs.ok 0 else s.cplItem src item Cs.unit (code + extra * 256)
/-- A change to an item. -/
def State.updItem (s : State) (n : Nat) (f : Item → Item) : State :=
  { s with spool := { s.spool with items := Tbl.upd s.spool.items n f } }
/-- An item of the table. -/
def State.item? (s : State) (n : Nat) : Option Item := Tbl.at? s.spool.items n

/-! ### Media places (02_seam_map.md R34, R36; 03_seam_reclaim.md R71) -/

/-- A slot's place: bits [47:7] of a map entry, which are CHANNEL, CE, LUN, PLANE, BLOCK, PAGE and SLOT. -/
def mkLoc (ch ce lun plane block page slot : Nat) : Nat :=
  (((((ch * 16 + ce) * 4 + lun) * 4 + plane) * 16384 + block) * 4096 + page) * 4 + slot
def locCh (l : Nat) : Nat := bitsAt l 36 5
def locCe (l : Nat) : Nat := bitsAt l 32 4
def locLun (l : Nat) : Nat := bitsAt l 30 2
def locPlane (l : Nat) : Nat := bitsAt l 28 2
def locBlock (l : Nat) : Nat := bitsAt l 14 14
def locPage (l : Nat) : Nat := bitsAt l 2 12
def locSlot (l : Nat) : Nat := bitsAt l 0 2
/-- The block row of a place: CHANNEL, CE, LUN and BLOCK. -/
def locRow (l : Nat) : Nat := ((locCh l * 16 + locCe l) * 4 + locLun l) * 16384 + locBlock l
def rowCh (r : Nat) : Nat := r / 2 ^ 20
def rowCe (r : Nat) : Nat := bitsAt r 16 4
def rowLun (r : Nat) : Nat := bitsAt r 14 2
def rowBlock (r : Nat) : Nat := bitsAt r 0 14

/-! ### Keys (19_trust_pattern.md R481) -/

/-- Whether a key slot is unlocked. -/
def State.keyOpen (s : State) (n : Nat) : Bool := Tbl.has s.trust.keySlots n

/-! ### What runs (21_register_pages.md R503 BUSY, IDLE; 18_power_clocks.md R443) -/

/-- Whether a job runs on the block of a page. -/
def State.running (s : State) (p : Nat) : Bool :=
  match pageInfo p with
  | some (.mode, _, _) => s.serial.mode.isSome
  | some (.thm, _, _) => s.serial.pat.isSome
  | some (.pan, _, _) => s.serial.pan.isSome
  | some (.nfc, _, c) =>
    (s.nand.ops.any fun o => o.ch = c ∧ o.started = true) ||
      (s.seam.reads.any fun r => r.issued && r.slots.any fun x => locCh x.loc = c ∧ x.st ≠ .done ∧ x.st ≠ .bad)
  | some (.ldd, _, d) => ((Tbl.at? s.nand.soft d).getD []) ≠ []
  | some (.seam, _, _) => s.seam.ckpt.isSome || s.seam.flushing || s.seam.flight ≠ [] || s.seam.held ≠ []
  | some (.recl, _, _) => s.seam.victims ≠ []
  | some (.hem, _, _) => s.seam.vfy.isSome || s.seam.hem.any fun e => e.2.migrating || e.2.appends ≠ []
  | some (.unpk, _, _) => s.seam.unpicks.any fun u => u.step ≠ 0
  | some (.slv, _, _) => s.selv.run.isSome
  | some (.svo, _, _) => s.servo.seek.isSome
  | some (.trl, _, _) => s.trd.last ≠ [] || s.trd.sw.isSome
  | some (.plt, _, e) => s.pleat.lanes.any fun l => l.1 / 4 = e
  | some (.pnk, _, u) => ((Tbl.at? s.pink.queue u).getD []) ≠ [] || Tbl.has s.pink.load u
  | some (.gau, _, _) => s.gauge.upd.isSome || s.gauge.look.isSome
  | some (.gcb, _, _) => s.gauge.out ≠ []
  | some (.shc, _, c) => s.spool.coreItem.any fun e => e.1 / 4 = c
  | some (.spl, _, _) => s.spool.items.any fun e => e.2.st = .running
  | some (.pci, _, _) => s.spool.items.any fun e => e.2.kind = 6 ∧ e.2.st = .running
  | _ => false

/-- Whether a job is queued at the block of a page. -/
def State.queued (s : State) (p : Nat) : Bool :=
  match pageInfo p with
  | some (.thm, _, _) => s.serial.queue ≠ []
  | some (.nfc, _, c) => s.nand.ops.any fun o => o.ch = c ∧ o.started = false
  | some (.unpk, _, _) => s.seam.unpicks.any fun u => u.step = 0
  | some (.slv, _, _) => s.selv.hemQ ≠ [] || s.rd P.slv R.slv_RING_HEAD != s.rd P.slv R.slv_RING_TAIL
  | some (.plt, _, e) => ((Tbl.at? s.pleat.queue e).getD []) ≠ []
  | some (.pnk, _, u) => ((Tbl.at? s.pink.queue u).getD []).length ≥ 2
  | some (.gau, _, _) => s.gauge.queue ≠ []
  | some (.spl, _, _) => s.spool.items.any fun e => e.2.st = .waiting
  | _ => false

/-! ### The data cache of a Shuttle core (12_shuttle_spool.md R326) -/

/-- The Shuttle core whose data cache serves a core; Bobbin and Thimble have none (log entry 12). -/
def cacheOf : CoreId → Option Nat | .shuttle k => some k | _ => none
/-- A 64-byte line that a data cache holds. -/
def State.heldLine (s : State) (k line : Nat) : Option (List Byte) := (Tbl.at? s.caches.data k).bind fun t => Tbl.at? t line
/-- A line put into a data cache. A set holds 4 lines; of a full one a line gives way, which one the spec leaves open. -/
def State.cacheLine (s : State) (k line : Nat) (b : List Byte) : State :=
  let t := (Tbl.at? s.caches.data k).getD []
  let set := t.filter fun e => e.1 % 256 = line % 256
  let r : Tbl (List Byte) × State :=
    if set.length < 4 then (t, s) else let (v, s) := s.drawFree 2; (Tbl.del t (set.getD v (0, [])).1, s)
  { r.2 with caches := { r.2.caches with data := Tbl.put r.2.caches.data k (Tbl.put r.1 line b) } }
/-- A data cache invalidated. -/
def State.dropLines (s : State) (id : CoreId) : State :=
  match cacheOf id with
  | some k => { s with caches := { s.caches with data := Tbl.del s.caches.data k } }
  | none => s

end Sys2Proof.Machine
end

