-- ==== Sys2Proof/Machine/Decimal.lean ====
section
/-!
DEFINITION. Sys2Proof/Machine/Decimal.lean: packed and zoned decimals (10_agrek_model.md R270 to R274).
-/

namespace Sys2Proof.Machine

/-- The nibbles of bytes, high nibble first. -/
def nibbles (l : List Byte) : List Nat := l.flatMap fun b => [b.toNat / 16, b.toNat % 16]
/-- The number that decimal digits spell. -/
def digitsVal (ds : List Nat) : Nat := ds.foldl (fun a d => 10 * a + d) 0
/-- Whether every nibble is a digit. -/
def digitsOk (ds : List Nat) : Bool := ds.all fun d => decide (d ≤ 9)
/-- The sign of a sign nibble (R272): true is negative; 0x3 is a sign of zoned decimals only. -/
def signOf (zoned : Bool) (n : Nat) : Option Bool :=
  if n = 0xA ∨ n = 0xC ∨ n = 0xE ∨ n = 0xF ∨ (zoned = true ∧ n = 3) then some false
  else if n = 0xB ∨ n = 0xD then some true else none
/-- A magnitude with a sign. -/
def signed (neg : Bool) (m : Nat) : Int := if neg then -(m : Int) else m

/-- The value of a packed decimal; none where a digit or the sign is invalid. -/
def packedVal (l : List Byte) : Option Int :=
  let n := nibbles l
  let ds := n.dropLast
  match signOf false (n.getLastD 0) with
  | none => none
  | some neg => if digitsOk ds then some (signed neg (digitsVal ds)) else none

/-- The value of a zoned decimal; zones are not checked. -/
def zonedVal (l : List Byte) : Option Int :=
  let ds := l.map fun b => b.toNat % 16
  match signOf true ((l.getLastD 0).toNat / 16) with
  | none => none
  | some neg => if digitsOk ds then some (signed neg (digitsVal ds)) else none

/-- The low `n` decimal digits of a magnitude, most significant first. -/
def lowDigits (n m : Nat) : List Nat := ((List.range n).map fun i => m / 10 ^ i % 10).reverse

/-- Bytes of nibble pairs. -/
def ofNibbles : List Nat → List Byte
  | a :: b :: r => BitVec.ofNat 8 (a * 16 + b) :: ofNibbles r
  | _ => []

/-- A packed decimal of `n` bytes with the low digits of a magnitude and a sign nibble. -/
def packedOf (n m sign : Nat) : List Byte := ofNibbles (lowDigits (2 * n - 1) m ++ [sign])

/-- A zoned decimal of `n` bytes with a zone and a sign nibble. -/
def zonedOf (n m zone sign : Nat) : List Byte :=
  let ds := lowDigits n m
  (ds.dropLast.map fun d => BitVec.ofNat 8 (zone * 16 + d)) ++ [BitVec.ofNat 8 (sign * 16 + ds.getLastD 0)]

end Sys2Proof.Machine
end

