-- ==== Sys2Proof/Machine/Filter.lean ====
section
/-!
DEFINITION. Sys2Proof/Machine/Filter.lean: the filter programs of the Pinking units, their checks and what they do to records
(07_pinking.md R191 to R200, R202).
-/

namespace Sys2Proof.Machine

/-- Little-endian fields of a program or record. -/
def leAt (l : List Byte) (a n : Nat) : Nat := leNat ((l.drop a).take n)
/-- A part of a byte list. -/
def sliceOf (l : List Byte) (a n : Nat) : List Byte := (l.drop a).take n
def allZero (l : List Byte) : Bool := l.all fun b => b == 0

/-! ### The program's fields (R193 to R196, R199) -/

def pgNterms (p : List Byte) : Nat := leAt p 1 1
def pgNproj (p : List Byte) : Nat := leAt p 2 1
def pgNagg (p : List Byte) : Nat := leAt p 3 1
def pgRecLen (p : List Byte) : Nat := leAt p 4 2
def pgId (p : List Byte) : Nat := leAt p 8 4
def pgTerm (p : List Byte) (t : Nat) : List Byte := sliceOf p (64 + 48 * t) 48
def pgProj (p : List Byte) (i : Nat) : Nat := leAt p (832 + 4 * i) 4
def pgAgg (p : List Byte) (a : Nat) : List Byte := sliceOf p (864 + 8 * a) 8
def pgTruth (p : List Byte) (v : Nat) : Bool := (leAt p (1024 + v / 8) 1).testBit (v % 8)

/-- Field descriptor parts (R194). -/
def fOff (d : Nat) : Nat := bitsAt d 0 12
def fLen (d : Nat) : Nat := bitsAt d 12 8
def fType (d : Nat) : Nat := bitsAt d 20 4

/-- Whether a descriptor is valid for a record length. -/
def fdOk (recLen d : Nat) : Bool :=
  let n := fLen d
  let t := fType d
  decide (d < 2 ^ 24 ∧ fOff d + n ≤ recLen) &&
    (if t = 1 ∨ t = 2 ∨ t = 3 then [1, 2, 4, 8].contains n
     else if t = 4 ∨ t = 6 then decide (1 ≤ n ∧ n ≤ 16)
     else if t = 5 then decide (1 ≤ n ∧ n ≤ 31) else false)

/-- OP valid for its type (R195). -/
def opOk (op ty : Nat) : Bool := decide (op ≤ 9) && (decide (op ≤ 6) || ty == 1 || ty == 2 || ty == 3 || ty == 6)

/-- A constant valid for a descriptor (R200 code 0x08). -/
def constOk (d : Nat) (c : List Byte) : Bool :=
  if fType d = 4 ∨ fType d = 5 then (packedVal c).isSome
  else if fType d = 6 then allZero (c.drop (fLen d))
  else allZero (c.drop 8)

/-- Whether an OP uses CONST2. -/
def usesC2 (op : Nat) : Bool := op == 6 || op == 9

/-- LOAD_RESULT of a program's checks (R200): the lowest code that applies (log entry 22). -/
def loadCheck (p : List Byte) : Nat :=
  let nt := pgNterms p
  let np := pgNproj p
  let na := pgNagg p
  let l := pgRecLen p
  let terms := (List.range nt).map (pgTerm p)
  let aggs := (List.range na).map (pgAgg p)
  let projs := (List.range np).map (pgProj p)
  let descs := (terms.map fun t => leAt t 0 4) ++ projs ++ aggs.map fun a => leAt a 0 4
  let rsvd := (descs.all fun d => decide (d < 2 ^ 24)) && allZero (sliceOf p 6 2) && allZero (sliceOf p 12 52) && allZero (sliceOf p 896 128) &&
    ((List.range 16).all fun t => allZero (sliceOf (pgTerm p t) 5 11) && (decide (t < nt) || allZero (pgTerm p t))) &&
    ((List.range 8).all fun i => decide (i < np) || pgProj p i == 0) &&
    ((List.range 4).all fun a => allZero (sliceOf (pgAgg p a) 5 3) && (decide (a < na) || allZero (pgAgg p a)))
  if leAt p 0 1 ≠ 1 || !rsvd then 0x01
  else if !(decide (1 ≤ nt ∧ nt ≤ 16 ∧ np ≤ 8 ∧ na ≤ 4 ∧ 16 ≤ l ∧ l ≤ 4096)) then 0x02
  else if !((terms.all fun t => fdOk l (leAt t 0 4)) && (projs.all (fdOk l)) &&
      aggs.all fun a => leAt a 4 1 == 0 || fdOk l (leAt a 0 4)) then 0x03
  else if !((terms.all fun t => opOk (leAt t 4 1) (fType (leAt t 0 4))) &&
      aggs.all fun a => decide (leAt a 4 1 ≤ 3) &&
        (if leAt a 4 1 = 0 then leAt a 0 4 == 0 else decide (fType (leAt a 0 4) ≤ 5))) then 0x04
  else if l < (projs.map fLen).sum then 0x05
  else if !(terms.all fun t =>
      constOk (leAt t 0 4) (sliceOf t 16 16) &&
        (if usesC2 (leAt t 4 1) then constOk (leAt t 0 4) (sliceOf t 32 16) else allZero (sliceOf t 32 16))) then 0x08
  else 0

/-! ### Evaluating a record (R194 to R199) -/

/-- A field's value; none for an invalid decimal. Byte strings compare as big-endian numbers of their length. -/
def fieldVal (d : Nat) (r : List Byte) : Option Int :=
  let b := sliceOf r (fOff d) (fLen d)
  if fType d = 1 then some (leNat b)
  else if fType d = 2 then some (toSigned (8 * fLen d) (leNat b))
  else if fType d = 4 then packedVal b
  else if fType d = 5 then zonedVal b
  else some (beNat b)

/-- A constant's value for a descriptor. -/
def constVal (d : Nat) (c : List Byte) : Int :=
  if fType d = 4 ∨ fType d = 5 then (packedVal c).getD 0
  else if fType d = 6 then (beNat (c.take (fLen d)) : Nat)
  else if fType d = 2 then toSigned 64 (leNat (c.take 8))
  else (leNat (c.take 8) : Nat)

/-- A term's result on a value; none where the field is an invalid decimal. -/
def termVal (t : List Byte) (r : List Byte) : Option Bool :=
  let d := leAt t 0 4
  let c1 := constVal d (sliceOf t 16 16)
  let c2 := constVal d (sliceOf t 32 16)
  (fieldVal d r).map fun x =>
    let w := if fType d = 6 then 8 * fLen d else 64
    let land (a b : Int) : Nat := Nat.land (ofSigned w a) (ofSigned w b)
    match leAt t 4 1 with
    | 0 => decide (x = c1)
    | 1 => decide (x ≠ c1)
    | 2 => decide (x < c1)
    | 3 => decide (x ≤ c1)
    | 4 => decide (c1 < x)
    | 5 => decide (c1 ≤ x)
    | 6 => decide (c1 ≤ x ∧ x ≤ c2)
    | 7 => land x c1 == ofSigned w c1
    | 8 => land x c1 != 0
    | _ => land x c2 == ofSigned w c1

/-- The start of a unit for a program of `n` accumulators. -/
def FilterOut.start (n : Nat) : FilterOut := ⟨0, 0, 0, 0xFFFF, [], List.replicate n (0, false, false)⟩

/-- A sum kept to its low 38 digits, with OVF where its magnitude reaches 10^38 (R199). -/
def sum38 (a x : Int) (ovf : Bool) : Int × Bool :=
  let v := a + x
  if v.natAbs < 10 ^ 38 then (v, ovf) else (signed (decide (v < 0)) (v.natAbs % 10 ^ 38), true)

/-- An accumulator advanced by a passing record. -/
def aggStep (p : List Byte) (r : List Byte) (k : Nat) (a : Int × Bool × Bool) : Int × Bool × Bool :=
  let g := pgAgg p k
  let x := (fieldVal (leAt g 0 4) r).getD 0
  let (v, ovf, seen) := a
  match leAt g 4 1 with
  | 0 => let (v, o) := sum38 v 1 ovf; (v, o, true)
  | 1 => let (v, o) := sum38 v x ovf; (v, o, true)
  | 2 => (if seen then min v x else x, ovf, true)
  | _ => (if seen then max v x else x, ovf, true)

/-- One record evaluated (R195 to R199). -/
def filterRecord (p : List Byte) (st : FilterOut) (r : List Byte) : FilterOut :=
  let idx := st.records
  let st := { st with records := st.records + 1 }
  let terms := (List.range (pgNterms p)).map fun t => termVal (pgTerm p t) r
  let aggBad := (List.range (pgNagg p)).any fun k =>
    leAt (pgAgg p k) 4 1 != 0 && (fieldVal (leAt (pgAgg p k) 0 4) r).isNone
  if (terms.any fun t => t.isNone) || aggBad then
    { st with baddec := st.baddec + 1, badFirst := if st.badFirst = 0xFFFF then idx else st.badFirst }
  else
    let v := maskOf ((List.range 16).filter fun t => (terms.getD t none) == some true)
    if pgTruth p v then
      { st with survivors := st.survivors + 1,
                out := st.out ++ (List.range (pgNproj p)).flatMap fun i => sliceOf r (fOff (pgProj p i)) (fLen (pgProj p i)),
                aggs := st.aggs.mapIdx fun k a => aggStep p r k a }
    else st

/-- Whole records at offsets within a byte sequence. -/
def recordsOf (l first : Nat) (data : List Byte) : List (List Byte) :=
  (List.range ((data.length - first) / l)).map fun k => sliceOf data (first + k * l) l

/-! ### The report (R202, R205) -/

/-- The pair of packed decimals of an accumulator: the value's sign in both parts. -/
def aggBytes (v : Int) : List Byte :=
  let sign := if v < 0 then 0xD else 0xC
  packedOf 4 (v.natAbs / 10 ^ 31) sign ++ packedOf 16 v.natAbs sign

/-- The 128 bytes of a report. -/
def reportBytes (p : List Byte) (lba status source flags seq outAddr : Nat) (o : FilterOut) : List Byte :=
  let aggs := (List.range 4).flatMap fun k =>
    match o.aggs[k]? with
    | some a => aggBytes a.1
    | none => zeros20
  let isMm (k : Nat) : Bool := decide (2 ≤ leAt (pgAgg p k) 4 1)
  let aflags := maskOf ((List.range 4).flatMap fun k =>
    match o.aggs[k]? with
    | some a => (if a.2.1 then [2 * k] else []) ++ (if isMm k && !a.2.2 then [2 * k + 1] else [])
    | none => [])
  natLE 5 lba ++ natLE 1 status ++ natLE 1 source ++ natLE 1 flags ++ natLE 4 seq ++ natLE 2 o.records ++ natLE 2 o.survivors ++
    natLE 6 outAddr ++ natLE 2 o.baddec ++ natLE 2 o.badFirst ++ natLE 6 0 ++ aggs ++ natLE 1 aflags ++ natLE 14 0 ++
    natLE 1 0xA5
where
  /-- An unused accumulator's bytes. -/
  zeros20 : List Byte := aggBytes 0

/-- The report of a unit that evaluated no record because it failed or was disabled (R205): AGG_FLAGS 0x00. -/
def failedReport (lba status source flags seq : Nat) : List Byte :=
  reportBytes [] lba status source flags seq 0 (FilterOut.start 0)

end Sys2Proof.Machine
end

