-- ==== Sys2Proof/Machine/Treadle.lean ====
section
/-!
DEFINITION. Sys2Proof/Machine/Treadle.lean: frames of the Treadle link and of the preamplifier port, and the spindle and park
orders that send them (06_selvedge_servo.md R175, R177 to R180; 05_selvedge_channel.md R130, R131).
-/

namespace Sys2Proof.Machine

/-- The CRC-8 of R178 over the three bytes of bits [31:8]. -/
def crc8 (v24 : Nat) : Nat := crcBits 8 0x07 0 (bitsBE 24 v24)

/-- The command frame of R178. -/
def trlFrame (cmd seq arg : Nat) : Nat :=
  let v := (cmd * 16 + seq) * 65536 + arg
  v * 256 + crc8 v

/-- Whether the link sends: its page enabled and its domain on (a controller reset stops Treadle, R183). -/
def State.trlUp (s : State) : Bool := s.pageUp P.trl && s.en P.trl

/-- One frame sent: the next SEQ, counted, and kept until its response is checked. -/
def State.trlSend1 (s : State) (cmd arg : Nat) : State :=
  if s.trlUp then
    let f := trlFrame cmd s.trd.seq arg
    let s := { s with trd := { s.trd with seq := (s.trd.seq + 1) % 16, last := s.trd.last ++ [f] } }
    let s := (s.send (.treadle f)).count P.trl 0x040
    s.whenB (cmd == 4) fun s => s.count P.trl 0x058
  else s

/-- A hardware frame, followed by the software frame that waits for it (R186 SW_GO). -/
def State.trlSend (s : State) (cmd arg : Nat) : State :=
  let s := s.trlSend1 cmd arg
  match s.trd.sw with
  | some f => if s.trd.swSent || !s.trlUp then s else
      { s with trd := { s.trd with swSent := true } }.trlSend1 (f / 65536) (f % 65536)
  | none => s

/-- SPN_MODE frames (R179): 0 coast, 1 start, 2 run, 3 brake. -/
def State.spnMode (s : State) (m : Nat) : State :=
  { s with servo := { s.servo with spinMode := m } }.trlSend 3 m
/-- RETRACT (R179). -/
def State.svoRetract (s : State) : State := s.trlSend 4 0x5A5A
/-- STATE of the SVO page set. -/
def State.svoState (s : State) (st : Nat) : State := s.wr P.svo R.svo_STATE st

/-- SPN_GO (R175): SPN_MODE start, and the wedge search begins without a window (R168). -/
def State.svoStart (s : State) : State :=
  let s := { s with servo := { s.servo with synced := false, found := 0, missed := 0, inRange := 0, sinceIdx := none,
                                            vcmOff := false } }
  (s.wr P.svo R.svo_SPN_AT_SPEED 0).spnMode 1

/-- PARK (R185): RETRACT is sent and the heads leave the track. -/
def State.svoPark (s : State) : State :=
  let s := { s with servo := { s.servo with seekDone := false, good := 0 } }
  (((s.svoState 0).wr P.svo R.svo_ON_TRACK 0).wr P.svo R.svo_WR_INHIBIT 1).svoRetract
/-- SPN_STOP (R175): the heads parked, then SPN_MODE brake. -/
def State.svoStop (s : State) : State := (s.svoPark.wr P.svo R.svo_SPN_AT_SPEED 0).spnMode 3
/-- The retraction of R183: RETRACT and SPN_MODE coast. -/
def State.svoEmergency (s : State) : State := (s.svoPark.wr P.svo R.svo_SPN_AT_SPEED 0).spnMode 0

/-- A preamplifier frame started (R130): with ARC_WG asserted it waits (R131), and it follows a frame in progress. -/
def State.paStart (s : State) (f : Nat) : State :=
  if s.selv.paFrame.isSome then { s with selv := { s.selv with paQ := s.selv.paQ ++ [f] } }
  else
    let s := (s.wr P.slv R.slv_PA_BUSY 1)
    let wg := s.on P.slv R.slv_WG_STATE
    let s := { s with selv := { s.selv with paFrame := some f, paSent := !wg } }
    if wg then s else s.send (.preamp f)
/-- ARC_WG deasserted; a frame that waited goes out. -/
def State.wgOff (s : State) : State :=
  let s := s.wr P.slv R.slv_WG_STATE 0
  match s.selv.paFrame with
  | some f => if s.selv.paSent then s else { s with selv := { s.selv with paSent := true } }.send (.preamp f)
  | none => s

end Sys2Proof.Machine
end

