-- ==== Sys2Proof/Machine/Fault.lean ====
section
/-!
DEFINITION. Sys2Proof/Machine/Fault.lean: declaring a device fault and entering Ward (20_faults.md R487 to R493), and the
commands of the fault family.
-/

namespace Sys2Proof.Machine

/-- The place of a core in `State.cores`: Shuttle n, 32 + Bobbin n, 40 for Thimble. -/
def coreKey : CoreId → Nat | .shuttle n => n | .bobbin n => 32 + n | .thimble => 40

/-- The requests to Thimble that Ward abandons (15_modes.md R392; 14_panels.md R385): a pattern write keeps the copy being
programmed (19_trust_pattern.md R483). -/
def State.abandonSerial (s : State) : State :=
  let modeBusy := s.on P.mode R.mode_REQ_BUSY
  let s := s.whenB modeBusy fun s =>
    ((((s.wr P.mode R.mode_REQ_BUSY 0).wr P.mode R.mode_REQ_RESULT 0x04)).raise P.mode 1).count P.mode 0x048
  let s := (s.wr P.thm R.thm_MB_BUSY 0).wr P.pan R.pan_PAN_BUSY 0
  { s with serial := { s.serial with queue := [], mode := none, pan := none } }

/-- Every outstanding NVMe command ended with Internal Error, where the link is up (13_host_network.md R356). -/
def State.endCommands (s : State) (status : Nat) : State :=
  s.nvme.cmds.foldl (fun s e =>
    let s := ((s.count P.nvm 0x050).count P.flt 0x048).orphan e.1
    if s.nvme.linkUp then s.finish e.1 status 0 0
    else { s with nvme := { s.nvme with cmds := Tbl.del s.nvme.cmds e.1, aers := s.nvme.aers.filter (· ≠ e.1) } }) s

/-- Every NVMe/TCP connection reset (13_host_network.md R372), its commands gone. -/
def State.resetConns (s : State) : State :=
  let s := s.net.conns.foldl (fun s c => s.send (.tcpReset c.1)) s
  { s with net := { s.net with conns := [] },
           nvme := { s.nvme with cmds := s.nvme.cmds.filter fun e => e.1 < 2 ^ 32 } }

/-- Engines, Gauge, Pinking, Spool and the streams discard their work (R492 step 4; 09_gauge.md R257, 08_pleat.md R233,
07_pinking.md R209, 12_shuttle_spool.md R342), counted on the FLT page. -/
def State.discardWork (s : State) : State :=
  let jobs := (s.pleat.queue.map fun e => e.2.length).sum + s.pleat.lanes.length + s.gauge.queue.length +
    (if s.gauge.upd.isSome then 1 else 0) + (if s.gauge.look.isSome then 1 else 0)
  let s := (s.countN P.flt 0x050 s.spool.items.length).countN P.flt 0x058 jobs
  { s with
    gauge := gaugeEmpty
    pleat := { s.pleat with queue := [], lanes := [] }
    pink := { s.pink with queue := [], load := [], loadWait := [], loadRes := [] }
    spool := { s.spool with items := [], coreItem := [], heldCmds := [], cpls := [], granted := [],
                            draining := false }
    stg := { s.stg with waits := [] }
    dram := { s.dram with waits := [] }
    nand := { s.nand with ops := s.nand.ops.filter fun o => o.started, soft := [] }
    seam := { s.seam with streams := [], held := [], reads := [], copies := [], victims := [], ckpt := none, vfy := none,
                          heldWrites := [],
                          unpicks := s.seam.unpicks.filter fun u => 4 ≤ u.step,
                          hem := s.seam.hem.map (fun e => (e.1, { e.2 with appends := [], migrating := false })),
                          migs := [], archReads := [], hemWait := [] } }

/-- Selvedge finishes the sector in progress (05_selvedge_channel.md R161) and the servo then retracts (06_selvedge_servo.md
R183); with no sector being written both act at once. -/
def State.stopDisk (s : State) : State :=
  let s := { s with selv := { s.selv with hemQ := [], aborts := [], draining := false },
                    servo := { s.servo with seek := none } }
  let s := (s.wr P.svo R.svo_SEEK_BUSY 0).wr P.slv R.slv_RING_HEAD (s.rd P.slv R.slv_RING_TAIL)
  match s.selv.run with
  | some r =>
    if s.on P.slv R.slv_WG_STATE then { s with selv := { s.selv with run := some { r with aborted := true } } }
    else ({ s with selv := { s.selv with run := none } }.wr P.slv R.slv_RG_STATE 0).svoEmergency
  | none => if s.pageUp P.svo && s.en P.svo then s.svoEmergency else s

/-- Cores stopped at the next instruction boundary (R492 step 3); Thimble as well for codes 0x01 to 0x03. -/
def State.stopCores (s : State) (code : Nat) : State :=
  { s with cores := s.cores.map fun e => if e.1 < 40 ∨ code ≤ 3 then (e.1, { e.2 with st := .stopped }) else e }

/-- Entry to Ward (R492 steps 1 to 5); a low-power entry is discarded with the other work (18_power_clocks.md R449). -/
def State.enterWard (s : State) (code : Nat) : State :=
  let s := (s.setDev Dev.ward).raise P.flt 0
  let s := s.resetConns
  let s := s.stopCores code
  let s := s.abandonSerial
  let s := s.discardWork
  let s := s.stopDisk
  let s := s.endCommands St.internal
  let s := { s with nvme := { s.nvme with cfs := true, csts := false }, power := { s.power with seq := .run } }
  s.wr P.pwr R.pwr_STATE_BUSY 0

/-- The capture of the first fault (R488, R496): the state and the time are those of the request. -/
def State.captureFault (s : State) (code page info addr : Nat) : State :=
  let s := ((s.wr P.flt R.common_ERR_CODE code).wr P.flt R.common_ERR_INFO info).wr P.flt R.common_ERR_ADDR_LO (addr % 2 ^ 32)
  let s := (s.wr P.flt R.common_ERR_ADDR_HI (addr / 2 ^ 32)).wr P.flt R.flt_FAULT_PAGE page
  let s := (s.wr P.flt R.flt_FAULT_STATE s.dev).wr P.flt R.flt_FAULT_VALID 1
  ((s.wr P.flt R.flt_FAULT_TIME_LO (s.rtcUs % 2 ^ 32)).wr P.flt R.flt_FAULT_TIME_HI (s.rtcUs / 2 ^ 32)).count P.flt 0x040

/-- Whether the device is out of power-on reset, with its regulators and crystal up (22_pins_electrical.md R519). -/
def State.powered (s : State) : Bool :=
  match s.power.seq with
  | .heldInReset | .upRegulator _ | .upCrystal => false
  | _ => true

/-- A device fault (R487, R488): a later one only counts; one in Fill is held to its end (R28); one in Slumber or Vault, or
during the wake from them, enters Ward after the wake. -/
def State.fault' (s : State) (code page info addr : Nat) : State :=
  if s.on P.flt R.flt_FAULT_VALID then s.wr P.flt R.flt_FAULT_MORE (min 255 (s.rd P.flt R.flt_FAULT_MORE + 1))
  else
    let t := s.captureFault code page info addr
    if s.dev = Dev.fill then { t with fault := { t.fault with held := true } }
    else if s.dev = Dev.slumber ∨ s.dev = Dev.vault then { t with power := { t.power with faultOnWake := true } }
    else t.enterWard code

/-- FAULT_REQUEST (20_faults.md R487): a fault with one of the codes 0x01 to 0x0E; other codes are reserved. -/
def execFaultRequest (code page info addr : Nat) (s : State) : Host.Outcome State Fault Refusal :=
  .next (s.whenB (s.powered && decide (1 ≤ code ∧ code ≤ 0x0E)) fun s => s.fault' code page info addr)

/-- WARD_QUIESCED (R492 steps 6 and 7): QUIESCED is set once no started NAND operation is left. -/
def execWardQuiesced (s : State) : Host.Outcome State Fault Refusal :=
  .next (s.whenB (s.dev == Dev.ward && !s.on P.flt R.flt_QUIESCED && !(s.nand.ops.any fun o => o.started) &&
      !s.on P.slv R.slv_WG_STATE) fun s =>
    let s := { s with fault := { s.fault with quiescedAt := s.rtcUs } }
    (s.flag P.flt R.flt_QUIESCED).raise P.flt 1)

/-- Whether the Bobbin watchdog runs (R489): not in Fill, Boot, Slumber or Vault. -/
def State.wdogRuns (s : State) : Bool :=
  s.dev == Dev.rebuild || s.dev == Dev.ready || s.dev == Dev.readOnly || s.dev == Dev.doze

/-- The watchdog period restarted by a write of WDOG_KICK (R489, R496). -/
def State.kick (s : State) : State := { s with trust := { s.trust with wdogAt := s.rtcUs } }

/-- WDOG_HALF_PERIOD (R489): half of WDOG_MS without a kick raises FLT INT_RAW bit 2. -/
def execWdogHalfPeriod (s : State) : Host.Outcome State Fault Refusal :=
  .next (s.whenB s.wdogRuns fun s => (s.raise P.flt 2).count P.flt 0x060)

/-- WDOG_EXPIRY (R489): the full period without a kick is fault 0x04, requested by Thimble. -/
def execWdogExpiry (s : State) : Host.Outcome State Fault Refusal :=
  .next (s.whenB s.wdogRuns fun s => s.fault' 0x04 P.thm 0 0)

/-- THIMBLE_HEARTBEAT_TIMEOUT (R489): fault 0x03, declared by the fault controller itself; Thimble runs from Boot on, and its
clock is stopped in the low-power states (18_power_clocks.md R441; DEDUCED, log entry 20). -/
def execThimbleHeartbeatTimeout (s : State) : Host.Outcome State Fault Refusal :=
  .next (s.whenB (decide (Dev.boot ≤ s.dev ∧ s.dev ≤ Dev.ward)) fun s => s.fault' 0x03 0xFF 0 0)

/-- LOCKSTEP_MISMATCH (19_trust_pattern.md R469, R486): fault 0x01 and the THM page's error. -/
def execLockstepMismatch (s : State) : Host.Outcome State Fault Refusal :=
  .next ((s.err P.thm 0x01 0 0).fault' 0x01 P.thm 0 0)

end Sys2Proof.Machine
end

