-- ==== Sys2Proof/Machine/PowerOps.lean ====
section
/-!
DEFINITION. Sys2Proof/Machine/PowerOps.lean: switching domains, the refusal log, the entry conditions, and starting a wake
(18_power_clocks.md R441 to R455).
-/

namespace Sys2Proof.Machine

/-! ### Domains -/

/-- Whether a domain is essential (R441, R442): AON, THM, FAB, STG0, and the DRC domains of the interleave set. -/
def State.essential (s : State) (d : Nat) : Bool :=
  d < 4 || (decide (25 ≤ d ∧ d ≤ 28) && (s.rd P.drm R.drm_SET).testBit (d - 25))

/-- The pages of a domain. -/
def domPages (d : Nat) : List Nat := (List.range 0x8E).filter fun p => (pageInfo p).isSome && pageDomain p == d

/-- The page of a stored field. -/
def keyPage (k : Nat) : Nat := k / 131072

/-- The pages' fields back at their reset values, their RWT fields at the loaded values (R442). Counters stay: only power-on and
device controller resets clear them (21_register_pages.md R501). -/
def State.reloadPages (s : State) (ps : List Nat) : State :=
  let gone : Tbl Nat := s.regs.filter fun e => !ps.contains (keyPage e.1)
  let back : Tbl Nat := s.loaded.filter fun e => ps.contains (keyPage e.1)
  { s with regs := back.foldl (fun r e => Tbl.put r e.1 e.2) gone }

/-- Memory of an address range lost: it reads 0, with valid check bits, after the fill of R410. -/
def State.zeroMem (s : State) (lo hi : Nat) : State :=
  let keep : Nat × Nat → Bool := fun e => !(decide ((e.1 = P.glb ∨ (P.drc 0 ≤ e.1 ∧ e.1 ≤ P.drc 3)) ∧ lo ≤ e.2 ∧ e.2 < hi))
  { s with mem := s.mem.filter fun e => e.1 < lo ∨ hi ≤ e.1
           integ := { s.integ with bad := s.integ.bad.filter keep, marked := s.integ.marked.filter keep } }

/-- What a domain's blocks hold beside their registers, lost with the domain (R442). -/
def State.loseBlocks (s : State) (d : Nat) : State :=
  if 4 ≤ d ∧ d ≤ 6 then
    s.zeroMem (stgBase + (if d = 4 then 1 else if d = 5 then 11 else 21) * 0x200000)
      (stgBase + (if d = 4 then 11 else if d = 5 then 21 else 32) * 0x200000)
  else if d = 7 then { s with cores := s.cores.filter fun e => !(decide (32 ≤ e.1 ∧ e.1 < 40)) }
  else if 8 ≤ d ∧ d ≤ 15 then
    { s with cores := s.cores.filter fun e => !(decide (e.1 / 4 = d - 8 ∧ e.1 < 32)),
             caches := ⟨s.caches.data.filter fun e => e.1 / 4 ≠ d - 8⟩,
             spool := { s.spool with lastPanel := s.spool.lastPanel.filter fun e => e.1 / 4 ≠ d - 8 } }
  else if (16 ≤ d ∧ d ≤ 23) ∨ d = 33 then
    let mine : Nat → Bool := fun u => if d = 33 then 24 ≤ u else u / 3 == d - 16
    { s with pink := { s.pink with slots := s.pink.slots.filter fun e => !mine (e.1 / 4),
                                   queue := s.pink.queue.filter fun e => !mine e.1,
                                   load := s.pink.load.filter fun e => !mine e.1 } }
  else if d = 24 then { s with nand := { s.nand with soft := [] } }
  else if 29 ≤ d ∧ d ≤ 32 then
    { s with pleat := { s.pleat with queue := s.pleat.queue.filter fun e => e.1 / 2 ≠ d - 29,
                                     lanes := s.pleat.lanes.filter fun e => e.1 / 8 ≠ d - 29 } }
  else if d = 34 then
    { s with gauge := gaugeEmpty }
  else if d = 35 then
    { s with selv := { s.selv with hemQ := [], run := none, paFrame := none, paSent := false, paQ := [], draining := false },
             servo := { State.reset.servo with attn := s.servo.attn }, trd := State.reset.trd }
  else if d = 36 then { s with nvme := { s.nvme with linkUp := false } }
  else if d = 37 then s.resetConns
  else s

/-- A domain switched off: its pads latched on the OD-7420 (R458), its registers and memories lost (R442). -/
def State.domOff (s : State) (d : Nat) : State :=
  if s.domOn d then
    let s := (s.loseBlocks d).reloadPages (domPages d)
    let s := s.setDom d false
    if s.part = .od7420 then
      let lo := s.rd P.pad R.pad_PAD_TACK_LO
      let hi := s.rd P.pad R.pad_PAD_TACK_HI
      ((if d < 32 then s.wr P.pad R.pad_PAD_TACK_LO (bitPut lo d true)
        else s.wr P.pad R.pad_PAD_TACK_HI (bitPut hi (d - 32) true))).count P.pad 0x040
    else s
  else s
/-- A domain switched on: filled, its RWT fields reloaded, its blocks disabled (R442). -/
def State.domPower (s : State) (d : Nat) : State :=
  if domainPresent s.part d && !s.domOn d then (s.setDom d true).reloadPages (domPages d) else s

/-! ### The refusal log (R443, R445, R452, R465) -/

/-- An entry written at REF_HEAD. -/
def State.logRef (s : State) (dom kind by_ : Nat) : State :=
  let e := s.rd P.pwr R.pwr_REF_HEAD
  let s := ((s.wrI P.pwr R.pwr_REF_DOM e dom).wrI P.pwr R.pwr_REF_KIND e kind).wrI P.pwr R.pwr_REF_BY e by_
  (s.wrI P.pwr R.pwr_REF_TIME e (s.rtcUs % 2 ^ 32)).wr P.pwr R.pwr_REF_HEAD ((e + 1) % 8)
/-- A refusal: logged, counted and signalled. -/
def State.refuse (s : State) (dom kind by_ : Nat) : State := ((s.logRef dom kind by_).count P.pwr 0x080).raise P.pwr 3

/-! ### Entry conditions (R445) -/

/-- Whether a host command is outstanding; Asynchronous Event Requests wait by design and do not count (log entry 20). -/
def State.hostBusy (s : State) : Bool := s.nvme.cmds.any fun e => e.2.op ≠ .aer

/-- Whether a page blocks the entry of a state. -/
def State.blocks (s : State) (t : LowPower) (p : Nat) : Bool :=
  let ring := s.rd P.slv R.slv_RING_HEAD != s.rd P.slv R.slv_RING_TAIL || s.selv.hemQ ≠ [] || s.selv.run.isSome
  match t, pageInfo p with
  | _, none => false
  | .doze, some (.spl, _, _) => s.spool.items ≠ []
  | .doze, some (.nvm, _, _) => s.hostBusy
  | .doze, some (.seam, _, _) => s.running p || s.seam.ckpt.isSome || s.seam.streams ≠ [] || s.seam.reads ≠ []
  | .doze, some (.slv, _, _) => ring
  | .doze, some _ => s.running p || s.queued p
  | t, some (k, _, _) =>
    match k with
    | .nvm => s.hostBusy
    | .shc | .plt | .pnk | .gau => s.running p || s.queued p
    | .seam => s.seam.streams ≠ []
    | .unpk => s.seam.unpicks ≠ []
    | .hem => s.seam.hem.any fun e => e.2.appends ≠ []
    | .slv => ring
    | .spl => t == .vault && s.spool.items ≠ []
    | .pci => t == .vault && !(s.nvme.d3hot || !s.mode M.host)
    | _ => false

/-- The first page that blocks entry. -/
def State.blocker (s : State) (t : LowPower) : Option Nat := (List.range 0x8E).find? fun p => s.blocks t p

/-- STATE_REQ's code of a state. -/
def lpCode : LowPower → Nat | .doze => 1 | .slumber => 2 | .vault => 3

/-- The state to return to: Read-only where Seam found it so, else Ready. -/
def State.upDev (s : State) : Nat := if s.on P.recl R.recl_READONLY then Dev.readOnly else Dev.ready

/-! ### Abandoning an entry, waking (R449 to R453) -/

/-- An entry abandoned at an abort point: the device goes on as if entry had never begun. -/
def State.abandon (s : State) (t : LowPower) (ap : Nat) : State :=
  let s := { s with power := { s.power with seq := .run, latched := 0 } }
  let s := (s.wr P.pwr R.pwr_LAST_ABORT_ST (lpCode t)).wr P.pwr R.pwr_LAST_ABORT_AP ap
  ((s.wr P.pwr R.pwr_STATE_BUSY 0).count P.pwr 0x078).raise P.pwr 2

/-- The regulators a state switches off (R447, R452); in Slumber indices 0, 1 and 7 stay on (R465). -/
def State.regsOff (s : State) (t : LowPower) : List Nat :=
  match t with
  | .doze => []
  | .slumber => (List.range 8).filter fun r => (s.rd P.pwr R.pwr_REG_OFF_SLUMBER).testBit r && !([0, 1, 7].contains r)
  | .vault => (List.range 8).filter fun r => (s.rd P.pwr R.pwr_REG_OFF_VAULT).testBit r

/-- A regulator's enable changed. -/
def State.regEnable (s : State) (r : Nat) (on : Bool) : State :=
  let l := s.power.regEn.filter (· ≠ r)
  { s with power := { s.power with regEn := if on then l ++ [r] else l } }.send (.pwrEn r on)

/-- Wake step 3: the PLLs relock. A wake from Slumber first raises VDD_CORE to 0.75 V (R457), with its VID frame (R518). -/
def State.wakePlls (s : State) (t : LowPower) : State :=
  let s := { s with power := { s.power with seq := .wake t 3 } }
  if s.power.vddCode = 0x1E then
    { s with power := { s.power with vddCode := 0x32, vidWait := true } }.send (.vid 0x4032)
  else s
/-- Wake step 2: the crystal restarted where it stopped. -/
def State.wakeCrystal (s : State) (t : LowPower) : State :=
  if s.on P.clk R.clk_XTAL_OK then s.wakePlls t
  else { s with power := { s.power with seq := .wake t 2 } }.count P.clk 0x040
/-- Wake step 1: the next regulator enabled, or the step left. -/
def State.wakeRegs (s : State) (t : LowPower) : State :=
  match s.power.regsDue with
  | [] => s.wakeCrystal t
  | r :: _ => { s with power := { s.power with seq := .wake t 1 } }.regEnable r true

/-- The end of a Doze (R451): its steps reversed. -/
def State.dozeWake (s : State) (src : Nat) : State :=
  let s := { s with power := { s.power with seq := .run, latched := 0 }, dram := { s.dram with powerDown := [] } }
  ((s.setDev s.upDev).wr P.pwr R.pwr_WAKE_SRC src).raise P.pwr 1

/-- A wake from a low-power state begins with its sources recorded. -/
def State.startWake (s : State) (t : LowPower) (src : Nat) : State :=
  match t with
  | .doze => s.dozeWake src
  | _ =>
    let due := (List.range 8).filter fun r => !s.power.regEn.contains r
    let s := { s with power := { s.power with wakeSrc := src, latched := 0, regsDue := due, partialWake := false,
                                              dramAwake := [], nandTrained := [] } }
    ((s.wr P.pwr R.pwr_STATE_BUSY 1).wr P.pwr R.pwr_WAKE_SRC src).wakeRegs t

/-! ### The last step of an entry (R447 step 5) -/

/-- The domains that Slumber switches off (R441): from Bobbin on all but PCI, and a staging domain with no retained bank. -/
def State.slumberOff (s : State) : List Nat :=
  let bare (lo hi : Nat) : Bool := (List.range 32).all fun b => decide (b < lo ∨ hi ≤ b) || !(s.rd P.pwr R.pwr_SLUMBER_BANKS).testBit b
  (List.range 38).filter fun d => s.domOn d &&
    (decide (7 ≤ d ∧ d ≠ 36) || (d == 4 && bare 1 11) || (d == 5 && bare 11 21) || (d == 6 && bare 21 32))
/-- The staging banks that SLUMBER_BANKS does not retain lose their contents; bank 0 is always retained. -/
def State.dropBanks (s : State) : State :=
  ((List.range 32).filter fun b => b ≠ 0 ∧ (s.rd P.pwr R.pwr_SLUMBER_BANKS).testBit b = false).foldl (fun s b =>
    s.zeroMem (stgBase + b * 0x200000) (stgBase + (b + 1) * 0x200000)) s
/-- What lies in domains that Vault switches off, beside DRAM and the media: staging, bit spaces, key slots, programs, profiles,
queues (R455). -/
def State.loseAll (s : State) : State :=
  let s := ((List.range 38).filter fun d => 4 ≤ d).foldl State.domOff s
  let s := s.zeroMem stgBase (stgBase + 0x4000000)
  let kept := [P.pwr, P.clk, P.rst, P.drm, P.pad]
  let dev := s.dev
  let s := (s.reloadPages ((domPages 1 ++ domPages 2).filter fun p => !kept.contains p)).setDev dev
  let s := ((s.setDom 1 false).setDom 2 false).setDom 3 false
  { s with
    gbit := []
    cores := []
    caches := ⟨[]⟩
    stg := State.reset.stg
    serial := State.reset.serial
    spool := State.reset.spool
    shadow := []
    trust := { s.trust with keySlots := [], lastKeys := [], keyFails := [], fwRunning := false }
    panels := { s.panels with wins := [] }
    nvme := { s.nvme with ccEn := false, csts := false, sqs := [], cqs := [], cqHeld := [], cmds := [], aers := [], events := [],
                          features := [], progs := [], ranges := [], profiles := [] } }
/-- PLLs unlocked and regulators switched off, the crystal with them where asked. -/
def State.clocksOff (s : State) (t : LowPower) (xtal : Bool) : State :=
  let s := (s.wr P.clk R.clk_PLL_LOCK_LO 0).wr P.clk R.clk_PLL_LOCK_HI 0
  let s := (s.regsOff t).foldl (fun s r => (s.regEnable r false).wr P.pwr R.pwr_REG_PGOOD
    (bitPut (s.rd P.pwr R.pwr_REG_PGOOD) r false)) s
  s.whenB xtal fun s => s.wr P.clk R.clk_XTAL_OK 0
/-- Step 5: domains, VDD_CORE at its retention value in Slumber with its VID frame (R457, R518), regulators, crystal, DEVSTATE; a wake
latched after AP3 is then served (R449). -/
def State.enterLowPower (s : State) (t : LowPower) : State :=
  let s := { s with power := { s.power with seq := .asleep t, asleepSince := s.rtcUs, dvfs := [], vidWait := false } }
  let s := s.wr P.pwr R.pwr_STATE_BUSY 0
  let s := match t with
    | .doze => s
    | .slumber =>
      let off := s.slumberOff
      let s := { s with power := { s.power with domsWere := off, vddCode := 0x1E } }
      let s := off.foldl State.domOff s.dropBanks
      (((s.send (.vid 0x401E)).clocksOff t (s.on P.pwr R.pwr_XTAL_SLUMBER)).setDev Dev.slumber).count P.pwr 0x068
    | .vault =>
      let s := { s with power := { s.power with domsWere := [], vddCode := 0x32 } }
      ((s.loseAll.clocksOff t true).setDev Dev.vault).count P.pwr 0x070
  let s := s.raise P.pwr 0
  if s.power.latched = 0 then s else s.startWake t s.power.latched
/-- Step 4: the heads parked and the spindle stopped, waiting for RETRACTED; with the archive domain off, the next step at once. -/
def State.entryPark (s : State) (t : LowPower) : State :=
  if s.trlUp then { s with power := { s.power with seq := .entry t 4 } }.svoStop else s.enterLowPower t
/-- RETRACTED reported during step 4. -/
def State.parked (s : State) : State :=
  match s.power.seq with
  | .entry t 4 => if (s.rd P.trl R.trl_LAST_STATUS).testBit 2 then s.enterLowPower t else s
  | _ => s

/-! ### Wake sources (R450) -/

/-- Whether a wake source acts in a state (R450). -/
def wakeApplies (src : Nat) (t : LowPower) : Bool :=
  match src, t with
  | 0, .doze => true | 0, .slumber => true
  | 1, .vault => true
  | 2, _ => true | 3, _ => true | 4, _ => true
  | 5, .doze => true | 6, .doze => true | 7, .doze => true
  | 1, .doze => true
  | _, _ => false

/-- An event of a wake source (R449, R450): ignored where disabled, latched during an entry, a wake in the state. -/
def State.wakeBy (s : State) (src : Nat) : State :=
  if (s.rd P.pwr R.pwr_WAKE_EN).testBit src then
    match s.power.seq with
    | .entry t _ => if wakeApplies src t then
        { s with power := { s.power with latched := bitPut s.power.latched src true } } else s
    | .asleep t => if wakeApplies src t then s.startWake t (2 ^ src) else s
    | _ => s
  else s

end Sys2Proof.Machine
end

