-- ==== Sys2Proof/Machine/RegCmd.lean ====
section
/-!
DEFINITION. Sys2Proof/Machine/RegCmd.lean: who may write a register page and when (21_register_pages.md R499, R507;
01_ledger_path.md R27; 20_faults.md R493), and the commands of the register family that need no other block: LOCK, interrupts,
ERR_CODE, ROUTE, counters, UART, GPIO, the staging minimums and the EIC capture.
-/

namespace Sys2Proof.Machine

/-- The OWNER code of an agent (R507). -/
def agCode : Agent → Nat | .host => 0x01 | .bobbin n => 0x10 + n | .thimble => 0x20

/-- Whether an agent can reach the register space: the host through an enabled PCIe controller (13_host_network.md R348), a Bobbin
core that exists and whose domain is on. -/
def State.agentUp (s : State) : Agent → Bool
  | .host => s.mode M.host && s.domOn 36
  | .bobbin n => decide (n < 8) && (s.domOn 7 || s.on P.clk R.clk_CLK_DEGRADED)
  | .thimble => true

/-- The wake that an agent's access makes in a low-power state (18_power_clocks.md R450). -/
def State.accessWake (s : State) (ag : Agent) : State := s.wakeBy (if ag = .host then 0 else 7)

/-- Whether the register pages answer: powered, and not in Slumber or Vault. -/
def State.pagesAwake (s : State) : Bool :=
  match s.power.seq with
  | .asleep _ => false
  | .wake _ _ => s.dev == Dev.boot || s.dev == Dev.ward || s.on P.clk R.clk_CLK_DEGRADED
  | _ => s.powered

/-- Whether a page answers now: in Fill only GLB does (R27); absent, reserved and dark pages do not. -/
def State.pageOpen (s : State) (p : Nat) : Bool :=
  s.pagesAwake && s.pageUp p && (s.dev != Dev.fill || p == P.glb)

/-- Whether another agent's lock shuts an agent out (R507). -/
def State.lockedOut (s : State) (ag : Agent) (p : Nat) : Bool :=
  s.rd p R.common_OWNER != 0 && s.rd p R.common_OWNER != agCode ag && ag != .thimble

/-- A register write by an agent at page and offset: nothing where the page does not answer; in Ward only where the field stays
writable (R493); LOCK_REJ where another agent holds the lock and the offset is CTRL or 0x100 upward (R507). -/
def State.gated (s : State) (ag : Agent) (p off : Nat) (wardOk : Bool) (f : State → State) : State :=
  let s := s.accessWake ag
  if !(s.agentUp ag && s.pageOpen p) then s
  else if s.dev == Dev.ward && !(wardOk || p == P.flt) then s
  else if s.lockedOut ag p && (off == 0x008 || decide (0x100 ≤ off)) then s.flag p R.common_LOCK_REJ
  else f s

/-! ### LOCK (R507) -/

/-- LOCK_TAKE: the free lock goes to the writer with the lowest OWNER code. -/
def execLockTake (page : Nat) (takers : List Agent) (s : State) : Host.Outcome State Fault Refusal :=
  .next (match leastBy agCode (takers.filter s.agentUp) with
    | none => s
    | some ag => s.gated ag page 0x038 false fun s =>
        s.whenB (s.rd page R.common_OWNER == 0) fun s => s.wr page R.common_OWNER (agCode ag))

/-- LOCK_RELEASE: by the holder or Thimble. -/
def execLockRelease (ag : Agent) (page : Nat) (s : State) : Host.Outcome State Fault Refusal :=
  .next (s.gated ag page 0x038 false fun s =>
    s.whenB (s.rd page R.common_OWNER == agCode ag || ag == .thimble) fun s => s.wr page R.common_OWNER 0)

/-! ### Interrupts and errors (R504, R505, R509) -/

/-- The INT_RAW bits a page defines. -/
def pageIntBits (p : Nat) : Nat := match pageInfo p with | some (k, _, _) => intBits k | none => 0

/-- The message sent after a write to INT_CLR or INT_EN that leaves the vector's OR at 1 (R509). -/
def State.reannounce (s : State) (p : Nat) : State :=
  let v := s.rdI P.glb R.glb_MSIX_VEC p
  s.whenB (s.rdI P.glb R.glb_MSIX_EN p == 1 && s.vecOr v) fun s => s.msix1 v

/-- INT_CLR (R504, R509): the written bits clear, an event of the same cycle stays. -/
def execIntClr (ag : Agent) (page bits events : Nat) (s : State) : Host.Outcome State Fault Refusal :=
  .next (s.gated ag page 0x01C true fun s =>
    (s.wr page R.common_INT_RAW
      (Nat.lor (andNot (s.rd page R.common_INT_RAW) bits) (Nat.land events (pageIntBits page)))).reannounce page)

/-- INT_EN (R503, R509): the page mask; undefined bits are reserved and stay 0. -/
def execIntEn (ag : Agent) (page val : Nat) (s : State) : Host.Outcome State Fault Refusal :=
  .next (s.gated ag page 0x014 false fun s => (s.wr page R.common_INT_EN (Nat.land val (pageIntBits page))).reannounce page)

/-- ERR_CODE_CLEAR (R505): 0xFF clears the capture; any other value, and the FLT page, ignore the write. -/
def execErrCodeClear (ag : Agent) (page val : Nat) (s : State) : Host.Outcome State Fault Refusal :=
  .next (s.gated ag page 0x020 true fun s =>
    s.whenB (val % 256 == 0xFF && page != P.flt) fun s =>
      ((((s.wr page R.common_ERR_CODE 0).wr page R.common_ERR_MORE 0).wr page R.common_ERR_INFO 0).wr page
        R.common_ERR_ADDR_LO 0).wr page R.common_ERR_ADDR_HI 0)

/-- The routing fields of a ROUTE write; FLT keeps its MSI-X fields, and the Thimble fields take only Thimble's writes (R508). -/
def State.setRoute (s : State) (ag : Agent) (n val : Nat) : State :=
  let s := s.whenB (n != P.flt) fun s =>
    (s.wrI P.glb R.glb_MSIX_VEC n (bitsAt val 0 5)).wrI P.glb R.glb_MSIX_EN n (bitsAt val 5 1)
  let s := ((s.wrI P.glb R.glb_BOB_CORE n (bitsAt val 6 3)).wrI P.glb R.glb_BOB_VEC n (bitsAt val 9 4)).wrI P.glb R.glb_BOB_EN n
    (bitsAt val 13 1)
  s.whenB (ag == .thimble) fun s =>
    (s.wrI P.glb R.glb_THM_VEC n (bitsAt val 14 4)).wrI P.glb R.glb_THM_EN n (bitsAt val 18 1)

/-- ROUTE of a page written (R509): vector 0 belongs to FLT alone; an unassigned page number ignores the write. -/
def State.routeWrite (s : State) (ag : Agent) (page val : Nat) : State :=
  if (pageInfo page).isNone then s
  else if page ≠ P.flt ∧ bitsAt val 0 5 = 0 then s.flag P.glb R.glb_ROUTE_REJ
  else s.announce page fun s => s.setRoute ag page val
/-- ROUTE_WRITE. -/
def execRouteWrite (ag : Agent) (page val : Nat) (s : State) : Host.Outcome State Fault Refusal :=
  .next (s.gated ag P.glb (0x200 + 4 * page) false fun s => s.routeWrite ag page val)

/-! ### Accesses (R500, R501) -/

/-- MISALIGNED_REGISTER_ACCESS (R500): counted; a read ends with Completer Abort, a write is dropped. -/
def execMisalignedRegisterAccess (ag : Agent) (addr size : Nat) (isRead : Bool) (s : State) :
    Host.Outcome State Fault Refusal :=
  let s := s.accessWake ag
  .next (s.whenB (s.agentUp ag && s.pagesAwake && (!([1, 2, 4, 8].contains size) || addr % size != 0)) fun s =>
    let s := s.count P.glb 0x040
    s.whenB isRead fun s => s.send (.completerAbort (addr / 4096)))

/-- The place of an agent's shadow of a page. -/
def shadowKey (ag : Agent) (p : Nat) : Nat := agCode ag * 2 ^ 32 + p

/-- COUNTER_LOW_READ (R501): the low word is returned; the high word is latched, with the counter's offset, into the agent's shadow of the page. -/
def execCounterLowRead (ag : Agent) (addr : Nat) (s : State) : Host.Outcome State Fault Refusal :=
  let s := s.accessWake ag
  let p := addr / 4096
  let off := addr % 4096
  let listed := match pageInfo p with
    | some (k, _, _) => decide (0x040 ≤ off ∧ off % 8 = 0 ∧ (off - 0x040) / 8 < counterCount k)
    | none => false
  .next (s.whenB (s.agentUp ag) fun s =>
    if s.pageOpen p && listed then
      { s with shadow := Tbl.put s.shadow (shadowKey ag p) (off * 2 ^ 32 + s.ctr p off / 2 ^ 32) }.send (.regData p off (s.ctr p off % 2 ^ 32))
    else s.send (.regData p off 0))

/-! ### UART and GPIO (R511) -/

/-- A byte queued for the UART, unless its FIFO is full, or Thimble owns it and another agent writes. -/
def State.txByte (s : State) (ag : Agent) (b : Nat) : State :=
  s.whenB (decide (s.uartTx.length < 16) && (ag == .thimble || !s.on P.dbg R.dbg_UART_THM)) fun s =>
    { s with uartTx := s.uartTx ++ [b % 256] }
/-- TX_DATA: queued for the UART. -/
def execTxData (ag : Agent) (byte : Nat) (s : State) : Host.Outcome State Fault Refusal :=
  .next (s.gated ag P.dbg 0x104 false fun s => s.txByte ag byte)

/-- UART_RX_BYTE: the byte is held with RX_VALID; over an unread byte it is an overrun, and which byte then stands is left open
(log entry 7). -/
def execUartRxByte (byte : Nat) (s : State) : Host.Outcome State Fault Refusal :=
  .next (s.whenB (s.pagesAwake && s.dev != Dev.fill) fun s =>
    if s.uartRx = [] then { s with uartRx := [byte % 256] }.raise P.dbg 0
    else
      let (b, s) := s.drawFree 8
      (({ s with uartRx := [b] }.err P.dbg 0x01 0 0).raise P.dbg 0).raise P.dbg 1)

/-- RX_DATA_READ: the received byte with RX_VALID in bit 8, consumed by the read (RC). -/
def execRxDataRead (ag : Agent) (s : State) : Host.Outcome State Fault Refusal :=
  let s := s.accessWake ag
  .next (s.whenB (s.agentUp ag) fun s =>
    if s.pageOpen P.dbg then
      match s.uartRx with
      | b :: _ => { s with uartRx := [] }.send (.regData P.dbg 0x108 (b + 256))
      | [] => s.send (.regData P.dbg 0x108 0)
    else s.send (.regData P.dbg 0x108 0))

/-- GPIO_EDGE: GPIO_IN follows the pin; a wake-enabled pin sets its INT_RAW bit, and at its wake level it is a wake event
(18_power_clocks.md R450 bit 3). -/
def execGpioEdge (pin : Nat) (level : Bool) (s : State) : Host.Outcome State Fault Refusal :=
  .next (s.whenB (s.powered && decide (pin < 16) && (s.rd P.gpio R.gpio_GPIO_IN).testBit pin != level) fun s =>
    let s := s.wr P.gpio R.gpio_GPIO_IN (bitPut (s.rd P.gpio R.gpio_GPIO_IN) pin level)
    s.whenB ((s.rd P.gpio R.gpio_GPIO_WAKE).testBit pin) fun s =>
      let s := s.raise P.gpio pin
      s.whenB ((s.rd P.gpio R.gpio_GPIO_WAKE_HI).testBit pin == level) fun s => s.wakeBy 3)

/-! ### Staging minimums and requests (01_ledger_path.md R16, R17, R20) -/

/-- STG_MIN_WRITE: Thimble's write takes effect unless the four minimums would exceed 992. -/
def State.setStgMin (s : State) (c : StgClass) (v : Nat) : State :=
  let others := ((stgClasses.filter (· ≠ c)).map s.stgMin).sum
  if 992 < others + v % 1024 then s.flag P.glb R.glb_STG_CFG_REJ
  else State.stgServeAll s.stg.waits.length (s.wr P.glb (clsMin c) v)

/-- STG_MIN_WRITE (R20): an RWT field, so only Thimble's write acts. -/
def execStgMinWrite (ag : Agent) (cls : StgClass) (val : Nat) (s : State) : Host.Outcome State Fault Refusal :=
  .next (s.gated ag P.glb 0x100 false fun s => s.whenB (ag == .thimble) fun s => s.setStgMin cls val)

/-- STAGING_ALLOC_REQUEST (R16, R17): served at once or waiting. -/
def execStagingAllocRequest (cls : StgClass) (panel tag : Nat) (s : State) : Host.Outcome State Fault Refusal :=
  .next (s.whenB s.upState fun s => s.stgRequest ⟨cls, s.panelOf panel, .request tag⟩)

/-- CAP_CLR (16_memory_integrity.md R414): both captures invalidated. -/
def execCapClr (ag : Agent) (s : State) : Host.Outcome State Fault Refusal :=
  .next (s.gated ag P.eic 0x1E0 false fun s => (s.wr P.eic R.eic_CE_VALID 0).wr P.eic R.eic_UE_VALID 0)

/-- WDOG_KICK (20_faults.md R489): the period restarts. -/
def execWdogKick (ag : Agent) (s : State) : Host.Outcome State Fault Refusal :=
  .next (s.gated ag P.flt 0x110 true fun s => s.kick)

end Sys2Proof.Machine
end

