-- ==== Sys2Proof/Machine/Integrity.lean ====
section
/-!
DEFINITION. Sys2Proof/Machine/Integrity.lean: corrections, uncorrectable words, hard words and patrol scrub
(16_memory_integrity.md R407 to R421), and reads and writes of fabric memory that respect uncorrectable words.
-/

namespace Sys2Proof.Machine

/-! ### Captures and buckets (R412 to R414) -/

/-- The first correction since the last CAP_CLR captured. -/
def State.captureCe (s : State) (p addr syn : Nat) : State :=
  if s.on P.eic R.eic_CE_VALID then s
  else ((((s.wr P.eic R.eic_CE_PAGE p).wr P.eic R.eic_CE_ADDR_LO addr).wr P.eic R.eic_CE_ADDR_HI (addr / 2 ^ 32)).wr P.eic
    R.eic_CE_SYN syn).wr P.eic R.eic_CE_VALID 1

/-- The first uncorrectable error captured, which raises INT_RAW bit 3. -/
def State.captureUe (s : State) (p addr syn : Nat) : State :=
  if s.on P.eic R.eic_UE_VALID then s
  else (((((s.wr P.eic R.eic_UE_PAGE p).wr P.eic R.eic_UE_ADDR_LO addr).wr P.eic R.eic_UE_ADDR_HI (addr / 2 ^ 32)).wr P.eic
    R.eic_UE_SYN syn).wr P.eic R.eic_UE_VALID 1).raise P.eic 3

/-- A page's bit of OVF_MAP set. -/
def State.setOvfMap (s : State) (p : Nat) : State :=
  s.wrI P.eic R.eic_OVF_MAP (p / 32) (bitPut (s.rdI P.eic R.eic_OVF_MAP (p / 32)) (p % 32) true)

/-- One correction poured into the page's bucket (R413). -/
def State.bucket (s : State) (p : Nat) : State :=
  if s.rd p R.common_LEVEL < s.rd p R.common_CAPACITY then s.wr p R.common_LEVEL (s.rd p R.common_LEVEL + 1)
  else
    let s := s.count P.eic 0x050
    if s.on p R.common_OVF then s else ((s.flag p R.common_OVF).setOvfMap p).raise P.eic 0

/-! ### Hard words (R416, R417) -/

/-- The pass number of the scrub that visits a page's memory. -/
def State.passOf (s : State) (p : Nat) : Nat :=
  match pageInfo p with
  | some (.drc, _, _) => s.integ.dramPass
  | _ => s.integ.sramPass

/-- Whether a word is on its block's hard-word list. -/
def State.isHard (s : State) (p addr : Nat) : Bool := ((Tbl.at? s.integ.hard p).getD []).contains addr

/-- Whether a word was written back by scrub within the last 4 passes. -/
def State.watched (s : State) (p addr : Nat) : Bool :=
  ((Tbl.at? s.integ.watch p).getD []).any fun e => e.1 = addr ∧ s.passOf p - e.2 ≤ 4

/-- A word declared hard: listed, or with the list full marked so that its next read is uncorrectable. -/
def State.declareHard (s : State) (p addr : Nat) : State :=
  let l := (Tbl.at? s.integ.hard p).getD []
  if l.length < 16 then
    (({ s with integ := { s.integ with hard := Tbl.put s.integ.hard p (l ++ [addr]) } }.count P.eic 0x058)).raise P.eic 1
  else ({ s with integ := { s.integ with marked := s.integ.marked ++ [(p, addr)] } }.err P.eic 0x02 p addr).raise P.eic 2

/-- A corrected word placed on the watch list with the pass number; a word stands there once, and the oldest entry of a full
list is dropped (log entry 13). -/
def State.watch (s : State) (p addr : Nat) : State :=
  let l := ((Tbl.at? s.integ.watch p).getD []).filter fun e => e.1 ≠ addr
  let full := decide (32 ≤ l.length)
  let l := (if full then l.drop 1 else l) ++ [(addr, s.passOf p)]
  { s with integ := { s.integ with watch := Tbl.put s.integ.watch p l } }.whenB full fun s => s.count P.eic 0x088

/-- A correction of a word (R413, R414, R417). -/
def State.correction (s : State) (p addr syn : Nat) : State :=
  let s := (s.count P.eic 0x040).captureCe p addr syn
  if s.isHard p addr then s.count P.eic 0x070
  else
    let s := s.bucket p
    s.whenB (s.watched p addr && !s.integ.marked.contains (p, addr)) fun s => s.declareHard p addr

/-! ### Uncorrectable words (R407 to R409) -/

/-- What every uncorrectable read does first: counted and captured. -/
def State.noteUe (s : State) (p addr syn : Nat) : State := (s.count P.eic 0x048).captureUe p addr syn

/-- An uncorrectable word of control memory, or met by a block that is no core: a device fault (R407). A word of the Seam map or
its fine groups is fault 0x07 (02_seam_map.md R70), any other 0x06. -/
def State.ueFault (s : State) (p addr : Nat) : State :=
  if p = P.seam then (s.err P.seam 0x01 0 addr).fault' 0x07 P.seam 0 addr
  else ((s.err P.eic 0x01 p addr)).fault' 0x06 P.eic p addr

/-- A word is known to be uncorrectable: found so and not rewritten, or marked under R417. -/
def State.knownBad (s : State) (p addr : Nat) : Bool :=
  s.integ.bad.contains (p, addr) || s.integ.marked.contains (p, addr)

/-- What a read of the word shows: a known bad word is uncorrectable, with a syndrome that the spec leaves open unless the
command tells it. -/
def State.showsAs (s : State) (p addr : Nat) (o : CodeOutcome) : CodeOutcome × State :=
  match o with
  | .uncorrectable x => (.uncorrectable x, s)
  | o => if s.knownBad p addr then let (x, s) := s.drawFree 32; (.uncorrectable x, s) else (o, s)

/-- A whole-word write: valid check bits again (R409, R417). -/
def State.cleared (s : State) (keep : Nat × Nat → Bool) : State :=
  { s with integ := { s.integ with bad := s.integ.bad.filter keep, marked := s.integ.marked.filter keep } }

/-! ### Fabric memory with its check codes -/

/-- Whether a word entry is a staging word (page GLB) or a DRAM line (pages DRC) and how long it is: their addresses are fabric
addresses. -/
def wordSpan (e : Nat × Nat) : Nat :=
  if e.1 = P.glb then 8 else if P.drc 0 ≤ e.1 ∧ e.1 ≤ P.drc 3 then 64 else 0

/-- The first known bad staging word or DRAM line that a range of fabric addresses touches. -/
def State.poison (s : State) (a n : Nat) : Option (Nat × Nat) :=
  (s.integ.bad ++ s.integ.marked).find? fun e => decide (wordSpan e ≠ 0 ∧ e.2 < a + n ∧ a < e.2 + wordSpan e)

/-- Bytes written to fabric memory; the words the write covers whole hold valid check bits again. -/
def State.fabWrite (s : State) (a : Nat) (l : List Byte) : State :=
  { s with mem := memWrite s.mem a l }.cleared fun e => !(decide (wordSpan e ≠ 0 ∧ a ≤ e.2 ∧ e.2 + wordSpan e ≤ a + l.length))

/-- A block's read of fabric memory: the bytes handed on, or the fault of R407 where a word of the range is bad. -/
def State.blockRead (s : State) (a n : Nat) (f : List Byte → State → State) : State :=
  match s.poison a n with
  | some e => let (x, s) := s.drawFree 32; (s.noteUe e.1 e.2 x).ueFault e.1 e.2
  | none => f (memRead s.mem a n) s

/-- A core's read of fabric memory: the bad word that makes it a Machine Check (R408), noted. -/
def State.noteBadRead (s : State) (e : Nat × Nat) : State :=
  let (x, s) := s.drawFree 32
  ((s.noteUe e.1 e.2 x).err P.eic 0x03 e.1 e.2)

/-! ### Commands -/

/-- Whether patrol scrub runs (R415): enabled, and out of Fill, Slumber and Vault. -/
def State.scrubs (s : State) : Bool := s.on P.eic R.eic_SCRUB_EN && s.pagesAwake && s.dev != Dev.fill

/-- SCRUB_READ (R415 to R417, R409): a corrected word is written back and watched unless a write reached it; an uncorrectable
word outside control memory is recorded and left. -/
def execScrubRead (w : MemWord) (outcome : CodeOutcome) (writeReached : Bool) (s : State) :
    Host.Outcome State Fault Refusal :=
  .next (s.whenB s.scrubs fun s =>
    let (o, s) := s.showsAs w.page w.addr outcome
    match o with
    | .correct => s
    | .corrected x =>
      let s := s.correction w.page w.addr x
      if writeReached then s.count P.eic 0x068 else (s.count P.eic 0x060).watch w.page w.addr
    | .uncorrectable x =>
      let s := s.noteUe w.page w.addr x
      if w.control then s.ueFault w.page w.addr
      else
        let s := s.err P.eic 0x03 w.page w.addr
        s.whenB (!s.integ.bad.contains (w.page, w.addr)) fun s =>
          { s with integ := { s.integ with bad := s.integ.bad ++ [(w.page, w.addr)] } })

/-- SCRUB_PASS_TIMER (R415, R420): a pass ends; an unfinished one sets SCRUB_LATE. -/
def execScrubPassTimer (dram finished : Bool) (s : State) : Host.Outcome State Fault Refusal :=
  .next (s.whenB s.scrubs fun s =>
    let s := if dram then { s with integ := { s.integ with dramPass := s.integ.dramPass + 1 } }.count P.eic 0x080
      else { s with integ := { s.integ with sramPass := s.integ.sramPass + 1 } }.count P.eic 0x078
    if finished then s else (s.flag P.eic R.eic_SCRUB_LATE).raise P.eic 4)

/-- CE_LEAK_PERIOD (R413): LEVEL falls by 1. A correction in the same cycle that would add to the bucket cancels the leak; it is
counted and captured and may still declare its word hard. -/
def execCeLeakPeriod (page : Nat) (corr : Option (Nat × Nat)) (s : State) : Host.Outcome State Fault Refusal :=
  .next (s.whenB (s.pagesAwake && s.pageUp page) fun s =>
    let leak : State → State := fun s => s.wr page R.common_LEVEL (s.rd page R.common_LEVEL - 1)
    match corr with
    | none => leak s
    | some (addr, syn) =>
      let s := (s.count P.eic 0x040).captureCe page addr syn
      if s.isHard page addr then leak (s.count P.eic 0x070)
      else s.whenB (s.watched page addr && !s.integ.marked.contains (page, addr)) fun s => s.declareHard page addr)

end Sys2Proof.Machine
end

