-- ==== Sys2Proof/Machine/Spool.lean ====
section
/-!
DEFINITION. Sys2Proof/Machine/Spool.lean: Spool items from descriptor to completion, flows, Tracing, and who may post
(12_shuttle_spool.md R330 to R334, R338, R344, R345; 13_host_network.md R364; 14_panels.md R380).
-/

namespace Sys2Proof.Machine

/-! ### Tracing (R344, R345) -/

/-- The CORE code of a poster. -/
def posterCode : Poster → Nat
  | .core (.shuttle n) _ => n
  | .core (.bobbin n) _ => 0x20 + n
  | .core .thimble _ => 0x28
  | .nvme _ => 0x3C
  | .startList => 0x20

/-- Records a ring of 2^n holds before TRC_WR would meet TRC_RD. -/
def State.trcFull (s : State) : Bool :=
  let n := 2 ^ s.rd P.trc R.trc_TRC_LOG2
  (s.rd P.trc R.trc_TRC_WR + s.spool.trcBuf.length + 1) % n == s.rd P.trc R.trc_TRC_RD % n

/-- A record written to Tracing's buffer, or dropped and counted. -/
def State.trcPut (s : State) (r : List Byte) : State :=
  if s.trcFull || decide (256 ≤ s.spool.trcBuf.length) then ((s.count P.trc 0x048).err P.trc 0x01 0 0).raise P.trc 0
  else { s with spool := { s.spool with trcBuf := s.spool.trcBuf ++ [r] } }

/-- A Tracing record of one decision on an item. -/
def State.trace (s : State) (dec n : Nat) (i : Item) (core info : Nat) : State :=
  s.whenB (s.on P.trc R.trc_TRC_ON && (s.rd P.trc R.trc_TRC_MASK).testBit (dec - 1)) fun s =>
    s.trcPut (natLE 7 s.splTime ++ natLE 1 dec ++ natLE 2 n ++ natLE 2 (i.flow + i.list * 4096) ++ natLE 1 core ++
      natLE 1 i.panel ++ natLE 2 (min info 65535))

/-! ### Descriptors (R331, R332) -/

/-- A little-endian field of a descriptor. -/
def dField (l : List Byte) (a n : Nat) : Nat := leNat ((l.drop a).take n)

/-- The item that a descriptor describes, addresses as written. -/
def descItem (l : List Byte) (panel : Nat) (p : Poster) : Item where
  kind := dField l 0 1 % 16
  list := dField l 0 1 / 16
  cplTo := dField l 1 1 % 4
  flow := dField l 2 2 % 4096
  deadline := dField l 4 4
  clusters := dField l 8 1
  banks := dField l 12 4
  target := dField l 16 6
  entry := dField l 16 6
  cplAddr := dField l 24 6
  arg0 := dField l 32 8
  arg1 := dField l 40 8
  arg2 := dField l 48 8
  panel := panel
  poster := p
  accepted := 0
  key := 0
  order := 0
  st := .waiting
  core := none
  aged := false
  saved := none
  cancel := false
  unit := 0xFF
  dmaDone := 0
  word := 0
  heldCpls := []

/-- The SEAM operation of an item. -/
def Item.op (i : Item) : Nat := bitsAt i.arg0 0 8
/-- NS_IDX of a SEAM item. -/
def Item.ns (i : Item) : Nat := bitsAt i.arg0 8 10
/-- The first LBA unit of a SEAM item. -/
def Item.first (i : Item) : Nat := bitsAt i.arg0 18 40
/-- The unit count of a SEAM item, or its bytes for HEM_APPEND. -/
def Item.units (i : Item) : Nat := bitsAt i.arg1 0 32
/-- The host or fabric address in ARG2. -/
def Item.addr2 (i : Item) : Nat := bitsAt i.arg2 0 48

/-- The reserved bits of a descriptor outside the argument fields. -/
def descReserved (l : List Byte) : Bool :=
  dField l 1 1 / 4 != 0 || dField l 2 2 / 4096 != 0 || dField l 9 3 != 0 || dField l 22 2 != 0 || dField l 30 2 != 0 ||
    dField l 56 8 != 0

/-- The argument fields that an item's KIND leaves reserved, or that name what does not exist (R331, R332). -/
def Item.argsBad (part : Part) (i : Item) : Bool :=
  if i.kind = 1 then false
  else if i.kind = 2 then
    let reg := i.op == 2
    let stream := i.op == 1
    let app := i.op == 5
    i.op == 0 || decide (5 < i.op) || bitsAt i.arg0 58 6 != 0 || (app && (bitsAt i.arg0 18 12 != bitsAt i.arg0 18 40)) ||
      bitsAt i.arg1 47 1 != 0 || (!reg && bitsAt i.arg1 32 12 != 0) || (!stream && bitsAt i.arg1 44 2 != 0) ||
      (!(stream || reg) && bitsAt i.arg1 46 1 != 0) || (!stream && bitsAt i.arg1 48 16 != 0) || bitsAt i.arg2 48 16 != 0 ||
      (!(stream || app) && i.arg2 != 0) || (app && (i.units == 0 || decide (65472 < i.units))) ||
      (reg && (i.units == 0 || decide (bitsAt i.arg1 32 12 < 15)))
  else if i.kind = 3 then bitsAt i.arg0 2 6 != 0 || decide (2 ^ 36 ≤ i.arg0) || i.arg1 != 0 || i.arg2 != 0
  else if i.kind = 4 then
    !(i.arg0 == 0xF || decide (i.arg0 < nPleat part)) || i.arg1 != 0 || i.arg2 != 0
  else if i.kind = 5 then i.arg0 != 0 || i.arg1 != 0 || i.arg2 != 0
  else if i.kind = 6 then
    decide (2 ^ 48 ≤ i.arg0) || decide (2 ^ 48 ≤ i.arg1) || i.arg2 == 0 || decide (2 ^ 24 ≤ i.arg2)
  else decide (2 ^ 48 ≤ i.arg0) || i.arg1 != 0 || i.arg2 != 0

/-- BAD_DESC of R332. -/
def Item.bad (part : Part) (l : List Byte) (i : Item) : Bool :=
  i.kind == 0 || decide (7 < i.kind) || i.cplTo == 3 || descReserved l || i.banks.testBit 0 ||
    (i.kind != 1 && i.clusters != 0) ||
    (if i.kind = 6 ∨ i.kind = 7 then i.target != 0 else i.target == 0) ||
    (if i.cplTo = 2 then i.cplAddr == 0 || i.cplAddr % 8 != 0 else i.cplAddr != 0) || i.argsBad part

/-- The permission a range of a descriptor needs. -/
inductive Need where
  | rd | wr | ex
deriving DecidableEq, Repr

/-- The ranges of a descriptor that must lie in one window (R332): virtual address, length, permission. The job block, batch block
and result word are written by their unit (08_pleat.md R222, 09_gauge.md R244). -/
def Item.ranges (i : Item) : List (Nat × Nat × Need) :=
  (if i.kind = 1 then [(i.target, 1, Need.ex)]
   else if i.kind = 2 then [(i.target, 8, Need.wr)]
   else if i.kind = 3 then [(i.target, 9216, Need.rd)]
   else if i.kind = 4 then [(i.target, 64, Need.wr)]
   else if i.kind = 5 then [(i.target, 32, Need.wr)]
   else if i.kind = 6 then [(i.arg0, i.arg2, Need.rd), (i.arg1, i.arg2, Need.wr)]
   else []) ++
  (if i.kind = 2 ∧ i.op = 1 then [(i.addr2, i.units * 128, Need.wr)]
   else if i.kind = 2 ∧ i.op = 5 then [(i.addr2, i.units, Need.rd)] else []) ++
  (if i.cplTo = 2 then [(i.cplAddr, 8, Need.wr)] else [])

/-- An item with its addresses translated to the fabric; a PROGRAM's entry stays the virtual address its task starts at. -/
def Item.translated (tr : Nat → Nat) (i : Item) : Item :=
  let t := if i.cplTo = 2 then { i with cplAddr := tr i.cplAddr } else i
  if i.kind = 1 then t
  else if i.kind = 2 then
    { t with target := tr i.target, arg2 := if i.op = 1 ∨ i.op = 5 then tr i.addr2 else i.arg2 }
  else if i.kind = 6 then { t with arg0 := tr i.arg0, arg1 := tr i.arg1 }
  else if i.kind = 7 then t
  else { t with target := tr i.target }

/-! ### Flows and shares (R333, R380) -/

/-- The name of a flow. -/
def Item.flowKey (i : Item) : Nat := i.panel * 4096 + i.flow
/-- The live items of a flow. -/
def State.ofFlow (s : State) (k : Nat) : List (Nat × Item) := s.spool.items.filter fun e => e.2.flowKey = k
/-- The open flows of a panel. -/
def State.openFlows (s : State) (panel : Nat) : List Nat :=
  ((s.spool.items.filter fun e => e.2.panel = panel ∧ e.2.flow ≠ 0).map fun e => e.2.flow).dedup
/-- The open flows of all panels (SPL FLOWS_OPEN). -/
def State.flowsOpen (s : State) : Nat :=
  ((s.spool.items.filter fun e => e.2.flow ≠ 0).map fun e => e.2.flowKey).dedup.length
/-- The head of a serial flow: its oldest item. -/
def State.head? (s : State) (k : Nat) : Option (Nat × Item) := leastBy (fun e => e.2.order) (s.ofFlow k)
/-- Whether an item may be dispatched as far as its flow goes. -/
def State.eligible (s : State) (e : Nat × Item) : Bool :=
  e.2.st == .waiting && (e.2.flow == 0 || (s.head? e.2.flowKey).map (·.1) == some e.1)
/-- Whether a panel has used its share of live items or, for an item of a new flow, of open flows. -/
def State.panelFull (s : State) (i : Item) : Bool :=
  let mine := s.spool.items.filter fun e => e.2.panel = i.panel
  decide (s.share 65536 ≤ mine.length) ||
    (i.flow != 0 && !(s.openFlows i.panel).contains i.flow && decide (s.share 4096 ≤ (s.openFlows i.panel).length))

/-! ### Completion (R337, R338, R364) -/

/-- NVMe status and dword 0 of a Spool completion (13_host_network.md R363, R364). -/
def itemNvme (i : Item) (status result : Nat) : Nat × Nat × Nat :=
  if status = Cs.ok then (St.ok, (if i.kind = 1 then result % 65536 else i.word % 2 ^ 32), i.word / 2 ^ 32)
  else if status = Cs.unit then
    if i.kind = 4 then (St.vendor 0x21, result % 256, 0)
    else if result % 256 = 0x0A then (St.accessDenied, 0, 0)
    else if result % 256 = 0x0B then (St.writeProtected, 0, 0)
    else (St.vendor (result % 256), result / 256 % 2 ^ 32, 0)
  else if status = Cs.faulted then (St.vendor 0x22, result % 32, 0)
  else if status = Cs.cancelled then (St.aborted, 0, 0)
  else if status = Cs.disabled then (St.vendor 0x23, 0, 0)
  else if status = Cs.memLost then (St.vendor 0x24, result % 32, 0)
  else (St.sqDeleted, 0, 0)

/-- A completion word put into a core's queue; a core that waits in WCPL goes on (R317). -/
def State.cplToCore (s : State) (k w : Nat) : State :=
  let s := s.whenB (decide (k < 32) && decide (64 ≤ (((Tbl.at? s.cores k).map (·.cplQ)).getD []).length)) fun s =>
    s.count P.spl 0x078
  { s with cores := Tbl.upd s.cores k fun c =>
      { c with cplQ := c.cplQ ++ [w], st := if c.st = .waitCpl then .run else c.st } }

/-- A completion word to the task that posted the item: to its core, to its saved state after YIELD, or dropped once it has
ended (R337). -/
def State.cplToTask (s : State) (task w : Nat) : State :=
  match s.spool.items.find? fun e => e.2.order = task ∧ e.2.st ≠ .done with
  | none => s.count P.spl 0x070
  | some (n, i) =>
    match i.core with
    | some k => s.cplToCore k w
    | none => s.updItem n fun i => { i with heldCpls := i.heldCpls ++ [w] }

/-- The word of an item's completion delivered where CPL_TO says. -/
def State.cplSend (s : State) (i : Item) (status result w : Nat) : State :=
  if i.cplTo = 2 then s.fabWrite i.cplAddr (natLE 8 w)
  else if i.cplTo = 1 then s
  else
    match i.poster with
    | .core (.shuttle _) task => s.cplToTask task w
    | .core (.bobbin n) _ => s.cplToCore (32 + n) w
    | .core .thimble _ => s.cplToCore 40 w
    | .nvme key => let (st, d0, d1) := itemNvme i status result; s.finish key st d0 d1
    | .startList => s

/-- An item's end: its completion delivered, its number and core free, the next item of its flow ready (R333, R343). -/
def State.completeItem (s : State) (n status result : Nat) : State :=
  match s.item? n with
  | none => s
  | some i =>
    let w := n + status * 2 ^ 16 + result % 2 ^ 40 * 2 ^ 24
    let s := { s with spool := { s.spool with items := Tbl.del s.spool.items n,
                                              coreItem := s.spool.coreItem.filter fun e => e.2 ≠ n } }
    let s := match i.core with
      | some k => { s with cores := Tbl.upd s.cores k fun c => { c with st := .stopped, cplQ := [] } }
      | none => s
    let s := s.cplSend i status result w
    let s := s.whenB (i.flow != 0) fun s =>
      match s.head? i.flowKey with
      | some (m, j) => s.whenB (j.st == .waiting) fun s => s.trace 0x02 m j 0xFF 0
      | none => s
    s.trace 0x07 n i i.unit status

/-! ### Acceptance (R316, R330, R332, R342) -/

/-- Whether a PROGRAM item names no enabled core, and no SHC page it names holds its items under DRAIN (R342). -/
def State.noCore (s : State) (i : Item) : Bool :=
  let cl := (List.range (nClusters s.part)).filter fun c => i.clusters == 0 || i.clusters.testBit c
  i.kind == 1 && (cl.all fun c => s.rd (P.shc c) R.shc_CORE_EN == 0 || !s.pageUp (P.shc c) || !s.en (P.shc c)) && !(cl.any fun c => s.on (P.shc c) R.common_DRAIN)

/-- Whether Spool dispatches and accepts: CTRL.EN. -/
def State.splOn (s : State) : Bool := s.en P.spl

/-- A checked item made live: numbered, stamped with its key (R334), traced; it ends UNIT_DISABLED at once where Spool or
every core it names is disabled. -/
def State.acceptItem (s : State) (i : Item) : Nat × State :=
  let n := Tbl.freeKey s.spool.items 65536 0
  let key := if i.deadline = 0 then 2 ^ 64 - 1 else s.splTime + i.deadline * 1500
  let i := { i with accepted := s.splTime, key := key, order := s.spool.order + 1 }
  let s := { s with spool := { s.spool with items := Tbl.put s.spool.items n i, order := s.spool.order + 1 } }
  let s := s.count P.spl 0x040
  let s := s.trace 0x01 n i (posterCode i.poster) 0
  let s := s.whenB (s.eligible (n, i)) fun s => s.trace 0x02 n i 0xFF 0
  let s := s.whenB (s.spool.items.length == 65536) fun s => s.raise P.spl 0
  (n, s.whenB (!s.splOn || s.noCore i) fun s => s.completeItem n Cs.disabled 0)

/-- The panel of a poster's items (R330, R376). -/
def State.postPanel (s : State) (panel : Nat) : Nat := s.panelOf panel

/-- The status code of a POST of a descriptor, the lowest that applies (log entry 14): `ok` says whether a virtual range lies
in one window with a permission. -/
def State.postCode (s : State) (l : List Byte) (i : Item) (ok : Nat → Nat → Need → Bool) : Nat :=
  if 65536 ≤ s.spool.items.length then 1
  else if i.bad s.part l then 2
  else if (i.ranges.all fun r => r.2.1 == 0 || ok r.1 r.2.1 r.2.2) = false then 3
  else if s.panelFull i || s.panels.closed.contains i.panel then 4
  else 0

/-- A descriptor posted: the status word of R316 and the state. -/
def State.post (s : State) (l : List Byte) (panel : Nat) (p : Poster) (ok : Nat → Nat → Need → Bool) (tr : Nat → Nat) :
    Nat × State :=
  let i := descItem l (s.postPanel panel) p
  let code := s.postCode l i ok
  if code = 0 then
    let (n, s) := s.acceptItem (i.translated tr)
    (n * 65536, s)
  else
    let s := s.count P.spl 0x048
    (code, s.whenB (code == 4 && s.mode M.panel) fun s => s.count P.pan 0x060)

/-- Whether Spool takes an NVMe item now; otherwise the command is held (R354). -/
def State.splRoom (s : State) (i : Item) : Bool := decide (s.spool.items.length < 65536) && !s.panelFull i

end Sys2Proof.Machine
end

