-- ==== Sys2Proof/Machine/SeamOps.lean ====
section
/-!
DEFINITION. Sys2Proof/Machine/SeamOps.lean: Seam's map and fine groups, block rows and free space, placement in the open stripe,
program operations and checkpoints (02_seam_map.md R34 to R54; 03_seam_reclaim.md R71 to R84).
-/

namespace Sys2Proof.Machine

/-! ### Map entries (R34 to R37) -/

/-- The unmapped entry. -/
def unmapped : Nat := 0xFFFFFFFFFFF0
/-- CHANNEL 31 marks the unmapped entry. -/
def eUnmapped (e : Nat) : Bool := e / 2 ^ 43 == 31
def eCmp (e : Nat) : Bool := e.testBit 6
def eFine (e : Nat) : Bool := e.testBit 5
def eHem (e : Nat) : Bool := e.testBit 4
/-- The place of the first slot. -/
def eLoc (e : Nat) : Nat := e / 128
/-- The fine group index. -/
def eGroup (e : Nat) : Nat := bitsAt e 9 26
/-- An entry that names slots. -/
def mkEntry (loc : Nat) (cmp hem : Bool) : Nat := loc * 128 + (if cmp then 64 else 0) + (if hem then 16 else 0)
/-- An entry that names a fine group. -/
def groupEntry (g : Nat) : Nat := g * 512 + 32

/-- The place of a unit in the map table. -/
def mapKey (ns unit : Nat) : Nat := ns * 2 ^ 40 + unit
/-- The map word of a unit; unlisted: unmapped, heat 0. -/
def State.mapWord (s : State) (ns unit : Nat) : MapWord := (Tbl.at? s.seam.map (mapKey ns unit)).getD ⟨unmapped, 0⟩
/-- A unit's map word set; an unmapped one of heat 0 is not listed. -/
def State.setWord (s : State) (ns unit : Nat) (w : MapWord) : State :=
  { s with seam := { s.seam with map :=
      if w = ⟨unmapped, 0⟩ then Tbl.del s.seam.map (mapKey ns unit) else Tbl.put s.seam.map (mapKey ns unit) w } }
/-- A unit's entry. -/
def State.entry (s : State) (ns unit : Nat) : Nat := (s.mapWord ns unit).entry
/-- A unit's entry set, its heat kept. -/
def State.setEntry (s : State) (ns unit e : Nat) : State := s.setWord ns unit { s.mapWord ns unit with entry := e }
/-- The heat count advanced, saturating (R42). -/
def State.heatUp (s : State) (ns unit : Nat) : State :=
  let w := s.mapWord ns unit
  s.setWord ns unit { w with heat := min 255 (w.heat + 1) }

/-- A fine group by its index. -/
def State.group? (s : State) (g : Nat) : Option FineGroup := Tbl.at? s.seam.fine g
/-- A change to a fine group. -/
def State.updGroup (s : State) (g : Nat) (f : FineGroup → FineGroup) : State :=
  { s with seam := { s.seam with fine := Tbl.upd s.seam.fine g f } }
/-- FINE_GROUPS. -/
def State.poolSize (s : State) : Nat := s.rd P.seam R.seam_FINE_GROUPS
/-- Whether the used share of the pool exceeds a percentage. -/
def State.poolOver (s : State) (pct : Nat) : Bool := decide (pct * s.poolSize < s.seam.fine.length * 100)

/-! ### Record ranges and Hem regions over a unit -/

/-- The registered record range that holds a unit (R50). -/
def State.rangeOf (s : State) (ns unit : Nat) : Option RecRange :=
  s.seam.ranges.find? fun r => decide (r.ns = ns ∧ r.first ≤ unit ∧ unit < r.first + r.count)
/-- Whether two ranges meet; an empty one meets none. -/
def meets (a n b m : Nat) : Bool := decide (a < b + m ∧ b < a + n ∧ 0 < n ∧ 0 < m)
/-- Whether a range of units touches a Hem region (R88, R98). -/
def State.touchesHem (s : State) (ns first count : Nat) : Bool :=
  s.seam.hem.any fun e => e.2.ns == ns && meets first count e.2.first e.2.count

/-! ### The archive tier (R101, R103; 15_modes.md R397 note 9) -/

/-- The disk place of a unit that the archive index records. -/
def State.onDisk (s : State) (ns unit : Nat) : Option Nat := Tbl.at? s.seam.archive (mapKey ns unit)
/-- The Hem region and chain index of a unit. -/
def State.hemOf (s : State) (ns unit : Nat) : Option (Nat × Nat) :=
  (s.seam.hem.find? fun e => decide (e.2.ns = ns ∧ e.2.first ≤ unit ∧ unit < e.2.first + e.2.count)).map fun e =>
    (e.1, unit - e.2.first)
/-- A cold unit written again or deallocated: removed from the archive index; a Hem unit stays. -/
def State.forgetDisk (s : State) (ns unit : Nat) : State :=
  if (s.hemOf ns unit).isSome then s else { s with seam := { s.seam with archive := Tbl.del s.seam.archive (mapKey ns unit) } }

/-! ### Keys of accepted work (R115, R481) -/

/-- The key that work accepted while the slot was open uses. -/
def State.keyFor (s : State) (ns : Nat) : List Byte :=
  ((Tbl.at? s.trust.keySlots ns).orElse fun _ => Tbl.at? s.trust.lastKeys ns).getD (List.replicate 64 0)
/-- The refusal of a command for a locked key slot, recorded on the SEAM page. -/
def State.keyRefused (s : State) (ns : Nat) : State := (s.err P.seam 0x06 ns 0).raise P.seam 5
/-- KINDs whose data the channel encrypts (R115). -/
def kindEncrypted (k : Nat) : Bool := decide (1 ≤ k ∧ k ≤ 3)
/-- The XTS tweak of a slot (R114). -/
def slotTweak (unit idx : Nat) : Nat := (unit * 16 + idx) % 2 ^ 44
/-- The stored bytes of a slot. -/
def State.seal (s : State) (ns kind unit idx : Nat) (l : List Byte) : List Byte :=
  if kindEncrypted kind then xts true (s.keyFor ns) (slotTweak unit idx) l else l
/-- The plaintext of a stored slot. -/
def State.unseal (s : State) (x : Slot) : List Byte :=
  if kindEncrypted x.tag.kind then xts false (s.keyFor x.tag.ns) (slotTweak x.tag.lba x.tag.idx) x.data else x.data
/-- A slot of the media; one never programmed reads as an erased slot of no data. -/
def State.slotAt (s : State) (loc : Nat) : Option Slot := Tbl.at? s.nand.slots loc
/-- The plaintext at a place. -/
def State.plainAt (s : State) (loc : Nat) : List Byte :=
  match s.slotAt loc with | some x => s.unseal x | none => List.replicate 4096 0

/-! ### Block rows and free space (R71, R72, R77, R84) -/

/-- A row that nothing has used. -/
def freshRow : Row := { st := .free, erases := 0, reads := 0, ptr := 0, softAt := none, levels := 0, spans := [], openSeq := 0 }
/-- A row's state; unlisted: fresh. -/
def State.row (s : State) (r : Nat) : Row := (Tbl.at? s.seam.rows r).getD freshRow
/-- A change to a row. -/
def State.updRow (s : State) (r : Nat) (f : Row → Row) : State :=
  { s with seam := { s.seam with rows := Tbl.put s.seam.rows r (f (s.row r)) } }
/-- The rows of a target's LUNs on a channel, in CE, LUN, block order. -/
def State.chanRows (s : State) (ch : Nat) : List Nat :=
  (List.range (s.board.ces * s.board.luns * s.board.blocks)).map fun i =>
    mkLoc ch (i / (s.board.luns * s.board.blocks)) (i / s.board.blocks % s.board.luns) 0 (i % s.board.blocks) 0 0 |> locRow
/-- The slots of a row. -/
def State.rowSlots (s : State) : Nat := s.board.pages * 16
/-- A channel with usable targets (R110). -/
def State.chanPresent (s : State) (ch : Nat) : Bool :=
  decide (ch < nChannels s.part) && s.rd (P.nfc ch) R.nfc_CE_PRESENT != 0
/-- A channel that may take new units: enabled, powered, trained (R111, R124). -/
def State.chanUsable (s : State) (ch : Nat) : Bool :=
  s.chanPresent ch && s.pageUp (P.nfc ch) && s.en (P.nfc ch) && !s.on (P.nfc ch) R.nfc_TRAIN_FAIL
/-- The channels with usable targets. -/
def State.chans (s : State) : List Nat := (List.range (nChannels s.part)).filter s.chanPresent
/-- The rows of a channel in a state other than free. -/
def State.usedRows (s : State) (ch : Nat) : Nat := (s.seam.rows.filter fun e => rowCh e.1 = ch ∧ e.2.st ≠ .free).length
/-- The free block rows of a channel (R72). -/
def State.freeRows (s : State) (ch : Nat) : Nat := s.board.ces * s.board.luns * s.board.blocks - s.usedRows ch
/-- The sum of the free rows over the present channels. -/
def State.freeSum (s : State) : Nat := (s.chans.map s.freeRows).sum
/-- T of R77 in percent, from the mean F as a sum over the present channels. -/
def State.throttle (s : State) : Nat :=
  let n := s.chans.length
  let fg := s.rd P.recl R.recl_FG_FREE
  let crit := s.rd P.recl R.recl_CRIT_FREE
  let fl := s.rd P.recl R.recl_HOST_FLOOR
  if fg * n ≤ s.freeSum then 100
  else if s.freeSum ≤ crit * n then fl
  else fl + (100 - fl) * (s.freeSum - crit * n) / ((fg - crit) * n)
/-- The free-space fields of the RECL page brought up to date (R77, R104). -/
def State.freeChanged (s : State) : State :=
  let fg := decide (s.freeSum < s.rd P.recl R.recl_FG_FREE * s.chans.length)
  let was := s.on P.recl R.recl_FG_ACTIVE
  let s := (s.wr P.recl R.recl_THROTTLE s.throttle).wr P.recl R.recl_FG_ACTIVE (if fg then 1 else 0)
  let s := s.whenB (fg && !was) fun s => s.raise P.recl 0
  match leastBy s.freeRows s.chans with
  | some c => (s.wr P.recl R.recl_MIN_FREE (min 65535 (s.freeRows c))).wr P.recl R.recl_MIN_FREE_CH c
  | none => s

/-- The good rows of the device. -/
def State.goodRows (s : State) : Nat :=
  s.chans.length * (s.board.ces * s.board.luns * s.board.blocks) - (s.seam.rows.filter fun e => e.2.st = .retired).length
/-- The bytes the namespaces export (R84; DEDUCED, log entry 15). -/
def State.exported (s : State) : Nat :=
  (s.nvme.ns.map fun e => e.2.blocks * (if e.2.lbaf = 0 then 512 else 4096)).sum
/-- The rows that the exported capacity, the system reserve and, with HEM = 1, the Hem budget need (R83, R84). -/
def State.needRows (s : State) : Nat :=
  let rowBytes := s.rowSlots * 4096
  (s.exported + rowBytes - 1) / rowBytes + s.rd P.recl R.recl_RESERVE_ROWS * s.chans.length +
    (if s.mode M.hem then (s.rd P.hem R.hem_HEM_BUDGET_GIB * 2 ^ 30 + rowBytes - 1) / rowBytes else 0)
/-- Whether R84 holds. -/
def State.full (s : State) : Bool := decide (s.goodRows ≤ s.needRows)
/-- Read-only entered where R84 comes to hold (R84, R85); RO_CLEARABLE follows it (R87). -/
def State.checkSpace (s : State) : State :=
  let s := s.wr P.recl R.recl_RO_CLEARABLE (if s.on P.recl R.recl_READONLY && !s.full then 1 else 0)
  if s.full && !s.on P.recl R.recl_READONLY then
    let s := ((s.wr P.recl R.recl_READONLY 1).err P.recl 0x01 0 0).raise P.recl 1
    if s.dev = Dev.ready then s.setDev Dev.readOnly else s
  else s
/-- A row retired (R79, R83). -/
def State.retire (s : State) (r : Nat) : State :=
  let s := s.updRow r fun x => { x with st := .retired }
  ((s.count P.recl 0x058).raise P.recl 2).freeChanged.checkSpace

/-! ### NAND operations (04_nand_channels.md R121, R124) -/

/-- The LUN of a row: channel, CE and LUN. -/
def rowLunKey (r : Nat) : Nat := r / 16384
/-- Whether a LUN runs a started operation. -/
def State.lunBusy (s : State) (k : Nat) : Bool := s.nand.ops.any fun o => o.started ∧ rowLunKey o.row = k
/-- Whether a channel works: powered and enabled (R124). -/
def State.chanReads (s : State) (ch : Nat) : Bool := decide (ch < nChannels s.part) && s.pageUp (P.nfc ch) && s.en (P.nfc ch)
/-- Whether queued operations of a channel start: it works, or it drains (R124). -/
def State.chanRuns (s : State) (ch : Nat) : Bool :=
  s.chanReads ch || (decide (ch < nChannels s.part) && s.pageUp (P.nfc ch) && s.on (P.nfc ch) R.common_DRAIN)
/-- An operation queued; it starts at once on an idle LUN of a channel that works, unless programs are held by PFAIL (R61, R65). -/
def State.addOp (s : State) (row : Nat) (kind : NandOpKind) (slots : List Nat) (cls : Nat) : State :=
  let o : NandOp := ⟨s.seam.nextId, rowCh row, row, kind, slots, cls, !s.lunBusy (rowLunKey row) && !s.seam.pfailHold && s.chanRuns (rowCh row), 0, false⟩
  { s with nand := { s.nand with ops := s.nand.ops ++ [o] }, seam := { s.seam with nextId := s.seam.nextId + 1 } }
/-- The rank of an operation in a channel's grants: system units first, background last (R121). -/
def opRank (o : NandOp) : Nat := if o.cls = 5 then 0 else o.cls + 1
/-- The next queued operation of a LUN started. -/
def State.startOp (s : State) (k : Nat) : State :=
  if s.lunBusy k || s.seam.pfailHold || !s.chanRuns (rowCh (k * 16384)) then s
  else
    match leastBy opRank (s.nand.ops.filter fun o => !o.started ∧ rowLunKey o.row = k) with
    | none => s
    | some o => { s with nand := { s.nand with ops := s.nand.ops.map fun x => if x.id = o.id then { x with started := true } else x } }
/-- An operation of the channels by its number. -/
def State.op? (s : State) (id : Nat) : Option NandOp := s.nand.ops.find? fun o => o.id = id
/-- An operation taken off, the next of its LUN started. -/
def State.dropOp (s : State) (o : NandOp) : State :=
  { s with nand := { s.nand with ops := s.nand.ops.filter fun x => x.id ≠ o.id } }.startOp (rowLunKey o.row)

/-! ### Checkpoints (R52 to R54) -/

/-- SEQ_CUT: below the lowest number whose map update has not applied. -/
def State.seqCut (s : State) : Nat :=
  let open_ := (s.seam.flight.map (·.seq)) ++ (s.seam.copies.map (·.seq)).filter (· ≠ 0)
  match leastBy id open_ with | some q => q - 1 | none => s.seam.seq
/-- The next-open list of a channel: up to 8 free rows, lowest erase count first (R54, R82). -/
def State.nextOpen (s : State) (ch : Nat) : List Nat :=
  let free := (s.chanRows ch).filter fun r => (s.row r).st = .free
  (sortBy (fun a b => decide ((s.row a).erases ≤ (s.row b).erases)) free).take 8
/-- The next-open lists of every channel chosen. -/
def State.newLists (s : State) : Tbl (List Nat) := s.chans.map fun c => (c, s.nextOpen c)
/-- The number of the newest root. -/
def State.rootNumber (s : State) : Nat :=
  max ((s.seam.rootA.map (·.number)).getD 0) ((s.seam.rootB.map (·.number)).getD 0)
/-- What a root records of the state (R52, R96). -/
def State.rootNow (s : State) (cut number : Nat) : Root where
  seqCut := cut
  number := number
  map := s.seam.map
  fine := s.seam.fine
  ranges := s.seam.ranges
  ptrs := (s.seam.rows.filter fun e => e.2.st = .open_).map fun e => (e.1, e.2.ptr)
  lists := s.newLists
  unpicks := (s.seam.unpicks.filter fun u => 2 ≤ u.step).map fun u => (u.ns, u.first, u.count, u.rows, u.cold)
  hem := s.seam.hem
  archive := s.seam.archive
/-- The root rows that are still good, in channel order; format chose them (R53). -/
def State.rootRows (s : State) : List Nat := (s.seam.rows.filter fun e => e.2.st = .system).map (·.1)
/-- The root row that an area (0: A, 1: B) programs: the first good one of its channel. -/
def State.rootRow (s : State) (area : Nat) : Option Nat :=
  let chs := (s.rootRows.map rowCh).dedup
  s.rootRows.find? fun r => rowCh r = chs.getD area (chs.headD 0)
/-- A root's program queued as a system unit. -/
def State.programRoot (s : State) (number : Nat) : State :=
  match s.rootRow (number % 2) with
  | some r => s.addOp r (.programRoot (number % 2)) [] 5
  | none => s
/-- A checkpoint falls due: it starts, or with one in progress it is late and follows (R54). -/
def State.checkpointDue (s : State) : State :=
  match s.seam.ckpt with
  | some c =>
    ({ s with seam := { s.seam with ckpt := some { c with due := true } } }.flag P.seam R.seam_CKPT_LATE).raise P.seam 0
  | none =>
    let u := (s.seam.unpicks.filter fun u => u.step = 2).map fun u => (u.ns, u.first)
    let n := s.rootNumber + 1
    (({ s with seam := { s.seam with ckpt := some ⟨s.rootNow s.seqCut n, false, u⟩ } }).wr P.seam R.seam_CKPT_BUSY 1).programRoot n

/-! ### Placement (R41, R54, R73, R78, R82) -/

/-- The open rows of a channel with a page row left. -/
def State.openRows (s : State) (ch : Nat) : List Nat :=
  (s.seam.rows.filter fun e => rowCh e.1 = ch ∧ e.2.st = .open_ ∧ e.2.ptr + 16 ≤ s.rowSlots).map (·.1)
/-- How many rows of a channel are open. -/
def State.nOpen (s : State) (ch : Nat) : Nat := (s.seam.rows.filter fun e => rowCh e.1 = ch ∧ e.2.st = .open_).length
/-- The next row that a channel may open: from its next-open list, with at most 8 open. -/
def State.openable (s : State) (ch : Nat) : Option Nat :=
  if s.nOpen ch < 8 then
    ((Tbl.at? s.seam.lists ch).getD []).find? fun r => (s.row r).st = .free
  else none
/-- Whether a channel can take a page row. -/
def State.canPlace (s : State) (recl : Bool) (ch : Nat) : Bool :=
  s.chanUsable ch && (recl || decide (s.rd P.recl R.recl_CRIT_FREE < s.freeRows ch)) &&
    (s.openRows ch ≠ [] || (s.openable ch).isSome)
/-- The channel of the next page row: the stripe rotates over the channels that can take one. -/
def State.nextChan (s : State) (recl : Bool) : Option Nat :=
  let n := nChannels s.part
  let r := if recl then s.seam.reclRot else s.seam.rot
  ((List.range n).map fun k => (r + k) % n).find? (s.canPlace recl)
/-- A row opened. -/
def State.openRow (s : State) (r : Nat) : State :=
  let s := s.updRow r fun x => { x with st := .open_, ptr := 0, reads := 0, softAt := none, levels := 0, spans := [],
                                        openSeq := s.seam.seq + 1 }
  { s with seam := { s.seam with lists := Tbl.upd s.seam.lists (rowCh r) fun l => l.filter (· ≠ r) } }.freeChanged
/-- The next page row of the stripe taken: its row and page. A next-open list used up makes a checkpoint due (R54). -/
def State.takePage (s : State) (recl : Bool) : Option (Nat × Nat × State) :=
  match s.nextChan recl with
  | none => none
  | some ch =>
    let s := if recl then { s with seam := { s.seam with reclRot := (ch + 1) % nChannels s.part } }
      else { s with seam := { s.seam with rot := (ch + 1) % nChannels s.part } }
    let pick := match s.openRows ch with
      | r :: _ => some (r, s)
      | [] => (s.openable ch).map fun r => (r, s.openRow r)
    pick.map fun (r, s) =>
      let page := (s.row r).ptr / 16
      let s := s.updRow r fun x => { x with ptr := x.ptr + 16, st := if x.ptr + 16 < s.rowSlots then .open_ else .full }
      let dry := (s.openRows ch == []) && (s.openable ch).isNone && s.seam.ckpt.isNone
      (r, page, s.whenB dry State.checkpointDue)
/-- The place of slot index k of a page row. -/
def pageLoc (r page k : Nat) : Nat :=
  mkLoc (rowCh r) (rowCe r) (rowLun r) (k / 4) (rowBlock r) page (k % 4)
/-- The span of a namespace that a row may hold widened by a unit (R89 step 3). -/
def widen (l : List (Nat × Nat × Nat)) (ns unit : Nat) : List (Nat × Nat × Nat) :=
  match l.find? fun e => e.1 = ns with
  | some (_, a, b) => (ns, min a unit, max b unit) :: l.filter fun e => e.1 ≠ ns
  | none => (ns, unit, unit) :: l

/-- Units placed in one page row of the stripe, each with its own SEQ (R41), and their program queued; without a place they
wait. The slots left over are pad slots (log entry 16). -/
def State.place (s : State) (us : List UnitWrite) (recl : Bool) (cls : Nat) : State :=
  match s.takePage recl with
  | none => { s with seam := { s.seam with unplaced := s.seam.unplaced ++ us } }
  | some (r, page, s) =>
    let q := s.seam.seq
    let starts := us.foldl (fun l u => l ++ [l.getLastD 0 + u.data.length / 4096]) [0]
    let us := us.mapIdx fun i u =>
      { u with seq := q + 1 + i, passed := false,
               locs := (List.range (u.data.length / 4096)).map fun k => pageLoc r page (starts.getD i 0 + k) }
    let s := { s with seam := { s.seam with seq := q + us.length, flight := s.seam.flight ++ us } }
    let s := us.foldl (fun s u => s.updRow r fun x => { x with spans := widen x.spans u.ns u.unit }) s
    s.addOp r (.programUnits (us.map (·.seq))) (us.flatMap (·.locs)) cls

/-- The units that wait for a place tried again, oldest first. -/
def State.retryPlaces (s : State) : State :=
  let l := s.seam.unplaced
  l.foldl (fun s u => s.place [u] false 2) { s with seam := { s.seam with unplaced := [] } }

/-- The tag of slot k of a placed unit (R39). -/
def UnitWrite.tag (u : UnitWrite) (ralign : Bool) (k : Nat) (plain : List Byte) : Tag where
  lba := u.unit
  seq := u.seq
  panel := u.panel
  ns := u.ns
  kind := u.kind
  idx := u.fine.getD k
  extLen := u.locs.length - 1
  cmp := u.cmp
  fine := u.fine.isSome
  hem := u.kind == 3
  ralign := ralign
  hemIdx := u.hemIdx
  hemReg := u.hemReg
  crc := crc32c plain

/-- The slots of a passed unit on the media. -/
def State.writeSlots (s : State) (u : UnitWrite) : State :=
  (u.locs.mapIdx fun k l => (k, l)).foldl (fun s e =>
    let plain := (u.data.drop (4096 * e.1)).take 4096
    let idx := u.fine.getD e.1
    let t := u.tag (s.rangeOf u.ns u.unit).isSome e.1 plain
    { s with nand := { s.nand with slots := Tbl.put s.nand.slots e.2 ⟨t, s.seal u.ns u.kind u.unit idx plain⟩ } }) s

/-- A fresh number for a held unit, a read job or a copy. -/
def State.newId (s : State) : Nat × State := (s.seam.nextId, { s with seam := { s.seam with nextId := s.seam.nextId + 1 } })

end Sys2Proof.Machine
end

