-- ==== Sys2Proof/Machine/SeamWrite.lean ====
section
/-!
DEFINITION. Sys2Proof/Machine/SeamWrite.lean: unit writes from acceptance to the map update: whole and partial units, the fine
pool, deallocation, and the commands of the map (02_seam_map.md R38, R41 to R45; 03_seam_reclaim.md R78, R88; 08_pleat.md R213).
-/

namespace Sys2Proof.Machine

/-- Bytes with pieces laid over them. -/
def overlay (base : List Byte) (new : List (Nat × List Byte)) : List Byte :=
  new.foldl (fun b e => b.take e.1 ++ e.2 ++ b.drop (e.1 + e.2.length)) base
/-- A unit's bytes. -/
def unitBytes : Nat := 65536
/-- Zero bytes. -/
def zeros (n : Nat) : List Byte := List.replicate n 0

/-! ### Tokens: a host command ends with its last unit (R13) -/

/-- Work added to a command. -/
def State.addTok (s : State) (use : WriteFor) (n : Nat) : State :=
  match use with
  | .host k => s.updCmd k fun c => { c with left := c.left + n }
  | _ => s
/-- A command's status made worse, the first one kept. -/
def State.markCmd (s : State) (k st : Nat) : State := s.updCmd k fun c => { c with status := if c.status = 0 then st else c.status }
/-- One part of a command's work done; the last ends the command. -/
def State.dropTok (s : State) (k : Nat) : State :=
  match Tbl.at? s.nvme.cmds k with
  | none => s
  | some c =>
    if c.left ≤ 1 then s.finish k c.status 0 0 else s.updCmd k fun c => { c with left := c.left - 1 }
/-- One part of a write's work done. -/
def State.dropUse (s : State) (use : WriteFor) : State := match use with | .host k => s.dropTok k | _ => s

/-! ### The fine pool (R42 to R45) -/

/-- The pool's share compared with POOL_HI: the groups to demote, in ascending heat and order of promotion, until the share would
be at or below POOL_LO (R44). -/
def State.demoteList (s : State) : List Nat :=
  let busy := (s.seam.fine.filter fun e => e.2.copying).length
  let idle := sortBy (fun a b =>
    let ha := (s.mapWord a.2.ns a.2.unit).heat
    let hb := (s.mapWord b.2.ns b.2.unit).heat
    decide (ha < hb) || (ha == hb && decide (a.2.promoted ≤ b.2.promoted))) (s.seam.fine.filter fun e => !e.2.copying)
  let used := s.seam.fine.length - busy
  let keep := s.rd P.seam R.seam_POOL_LO * s.poolSize / 100
  (idle.take (used - keep)).map (·.1)

/-- A read of a unit made: it waits for its media buffer (R11). -/
def State.newJob (s : State) (use : ReadFor) (ns unit panel cls : Nat) : State :=
  let (id, s) := s.newId
  let j : ReadJob := ⟨id, use, ns, unit, false, [], false, 0, cls, 0, 0⟩
  { s with seam := { s.seam with reads := s.seam.reads ++ [j] } }.stgRequest ⟨.media, panel, .job id⟩

/-- A demotion copy begun. -/
def State.startDemote (s : State) (g : Nat) : State :=
  match s.group? g with
  | none => s
  | some x =>
    if x.copying then s
    else (s.updGroup g fun x => { x with copying := true, written := false }).newJob (.demote g) x.ns x.unit 0 4
/-- FINE_USED changed (R44): with the share above POOL_HI demotions begin. -/
def State.poolChanged (s : State) : State :=
  if s.poolOver (s.rd P.seam R.seam_POOL_HI) then s.demoteList.foldl State.startDemote s else s
/-- FINE_USED has grown by one: POOL_HI crossed where the share exceeds it now and did not before (R68). -/
def State.poolGrown (s : State) : State :=
  let hi := s.rd P.seam R.seam_POOL_HI
  (s.whenB (s.poolOver hi && decide ((s.seam.fine.length - 1) * 100 ≤ hi * s.poolSize)) fun s => s.raise P.seam 4).poolChanged
/-- The demotion copy of a group dropped unused: its reads, held units and programs forget it. -/
def State.dropCopy (s : State) (g : Nat) : State :=
  let ids := (s.seam.reads.filter fun r => r.use = .demote g).map (·.id)
  let s := { s with seam := { s.seam with
    reads := s.seam.reads.filter fun r => r.use ≠ .demote g
    held := s.seam.held.filter fun h => h.use ≠ .demote g
    unplaced := s.seam.unplaced.filter fun u => u.use ≠ .demote g
    flight := s.seam.flight.filter fun u => u.use ≠ .demote g } }
  ids.foldl (fun s i => s.stgDrop (.job i)) s
/-- A group freed. -/
def State.freeGroup (s : State) (g : Nat) : State :=
  let s := s.dropCopy g
  { s with seam := { s.seam with fine := Tbl.del s.seam.fine g } }
/-- A unit given the unmapped entry, its fine group freed (R35, R88). -/
def State.unmap (s : State) (ns unit : Nat) : State :=
  let e := s.entry ns unit
  let s := if eFine e && !eUnmapped e then s.freeGroup (eGroup e) else s
  (s.setEntry ns unit unmapped).forgetDisk ns unit
/-- The place of slot index k counted from a first slot. -/
def locStep (l k : Nat) : Nat := pageLoc (locRow l) (locPage l) (locPlane l * 4 + locSlot l + k)
/-- A unit promoted (R43 rule 3): its fine entries point at the slots of the old page row. -/
def State.promote (s : State) (ns unit : Nat) : State :=
  let g := Tbl.freeKey s.seam.fine s.poolSize 0
  let old := eLoc (s.entry ns unit)
  let x : FineGroup := ⟨(List.range 16).map fun k => mkEntry (locStep old k) false false, ns, unit, s.seam.order, false, false⟩
  let s := { s with seam := { s.seam with fine := Tbl.put s.seam.fine g x, order := s.seam.order + 1 } }
  ((s.setEntry ns unit (groupEntry g)).count P.seam 0x050).poolGrown

/-! ### Writing units -/

/-- A placed unit's record before placement. -/
def mkUnit (use : WriteFor) (ns unit panel : Nat) (fine : Option Nat) (kind : Nat) (cmp : Bool) (data : List Byte) : UnitWrite where
  seq := 0
  ns := ns
  unit := unit
  fine := fine
  kind := kind
  panel := panel
  cmp := cmp
  data := data
  use := use
  locs := []
  passed := false
  applied := false
  hemReg := 0
  hemIdx := 0

/-- Units put into the stripe, behind units that already wait for a place. -/
def State.putUnits (s : State) (us : List UnitWrite) (cls : Nat) : State :=
  if s.seam.unplaced = [] then s.place us false cls
  else { s with seam := { s.seam with unplaced := s.seam.unplaced ++ us } }

/-- The arbitration class of a write (R121): demotion copies are background work. -/
def useCls (use : WriteFor) : Nat := match use with | .demote _ => 4 | _ => 2

/-- A coarse unit stored: counted and placed. -/
def State.storeCoarse (s : State) (use : WriteFor) (ns unit panel : Nat) (cmp : Bool) (data : List Byte) : State :=
  (s.count P.seam 0x040).putUnits [mkUnit use ns unit panel none 1 cmp data] (useCls use)

/-- A unit's work held in Seam. -/
def State.hold (s : State) (use : WriteFor) (ns unit panel : Nat) (new : List (Nat × List Byte)) (whole : Option (List Byte))
    (fine : Bool) (phase : Nat) : Nat × State :=
  let (id, s) := s.newId
  let h : HeldUnit := ⟨id, ns, unit, panel, new, use, whole, fine, phase⟩
  (id, { s with seam := { s.seam with held := s.seam.held ++ [h] } })

/-- Whether a whole unit's write passes a Pleat engine (R213). -/
def State.viaPleat (s : State) (ns unit : Nat) : Bool :=
  s.mode M.pleat && !((s.rangeOf ns unit).any fun r => r.nocmp)

/-- The write of a whole coarse unit: to Pleat under R213, else stored. -/
def State.writeCoarse (s : State) (use : WriteFor) (ns unit panel : Nat) (data : List Byte) : State :=
  if s.viaPleat ns unit then (s.hold use ns unit panel [] (some data) false 1).2
  else s.storeCoarse use ns unit panel false data

/-- The parts of pieces within one 4 KiB. -/
def pieceIn (new : List (Nat × List Byte)) (k : Nat) : List (Nat × List Byte) :=
  (new.map fun e =>
    let lo := max e.1 (4096 * k)
    (lo - 4096 * k, ((e.2.drop (lo - e.1)).take (4096 * (k + 1) - lo)))).filter fun e => e.2 ≠ []
/-- The 4 KiB indices that pieces touch. -/
def touched (new : List (Nat × List Byte)) : List Nat := (List.range 16).filter fun k => pieceIn new k ≠ []
/-- Whether pieces cover a whole 4 KiB. -/
def coversFine (new : List (Nat × List Byte)) (k : Nat) : Bool :=
  ((pieceIn new k).map fun e => e.2.length).sum == 4096

/-- Fine pieces stored over the old bytes of the unit (R43 rule 3). -/
def State.storeFine (s : State) (use : WriteFor) (ns unit panel : Nat) (new : List (Nat × List Byte)) (old : List Byte) :
    State :=
  let ks := touched new
  let us := ks.map fun k => mkUnit use ns unit panel (some k) 2 false (overlay ((old.drop (4096 * k)).take 4096) (pieceIn new k))
  let s := s.addTok use (ks.length - 1)
  (s.countN P.seam 0x048 ks.length).putUnits us 2

/-- A partial write to a fine-split unit: whole 4 KiB pieces at once, others after a read of the old content. -/
def State.writeFine (s : State) (use : WriteFor) (ns unit panel : Nat) (new : List (Nat × List Byte)) : State :=
  let g := eGroup (s.entry ns unit)
  let s := s.updGroup g fun x => { x with written := true }
  if (touched new).all (coversFine new) then s.storeFine use ns unit panel new (zeros unitBytes)
  else
    let (id, s) := s.hold use ns unit panel new none true 0
    s.newJob (.merge id) ns unit panel 2

/-- A partial write handled by R43: unmapped, fine-split, or by the first rule that applies. -/
def State.writePart (s : State) (use : WriteFor) (ns unit panel : Nat) (new : List (Nat × List Byte)) : State :=
  let w := s.mapWord ns unit
  let e := w.entry
  let rmw : State → State := fun s =>
    let (id, s) := (s.count P.seam 0x068).hold use ns unit panel new none false 0
    s.newJob (.merge id) ns unit panel 2
  if eUnmapped e then
    if (s.onDisk ns unit).isSome then rmw s else s.writeCoarse use ns unit panel (overlay (zeros unitBytes) new)
  else if eFine e then s.writeFine use ns unit panel new
  else if (s.rangeOf ns unit).isSome || eCmp e then rmw s
  else if s.rd P.seam R.seam_PROMOTE_THR ≤ w.heat ∧ s.seam.fine.length < s.poolSize then
    (s.promote ns unit).writeFine use ns unit panel new
  else rmw s

/-- Whether a unit's write updates the map through MAP_UPDATE_APPLY: demotion copies commit under R45. -/
def UnitWrite.mapped (u : UnitWrite) : Bool := match u.use with | .demote _ => false | _ => true

/-- Whether earlier work of a unit is held in Seam. -/
def State.heldBusy (s : State) (ns unit : Nat) : Bool := s.seam.held.any fun h => h.ns = ns ∧ h.unit = unit
/-- Whether an earlier write of a unit has still to apply. -/
def State.unitBusy (s : State) (ns unit : Nat) : Bool :=
  (s.seam.flight ++ s.seam.unplaced).any fun u => decide (u.ns = ns ∧ u.unit = unit) && u.mapped

/-- A unit's new bytes accepted: a whole unit is written anew; a partial write advances the heat count first (R42) and waits
behind earlier writes of its unit (log entry 18). -/
def State.acceptUnit (s : State) (use : WriteFor) (ns unit panel : Nat) (new : List (Nat × List Byte)) : State :=
  let s := s.addTok use 1
  let g := eGroup (s.entry ns unit)
  let s := if eFine (s.entry ns unit) && !eUnmapped (s.entry ns unit) then s.updGroup g fun x => { x with written := true } else s
  match new with
  | [(0, d)] =>
    if d.length = unitBytes then
      if s.heldBusy ns unit then (s.hold use ns unit panel new (some d) false 3).2 else s.writeCoarse use ns unit panel d
    else
      let s := s.heatUp ns unit
      if s.heldBusy ns unit || s.unitBusy ns unit then (s.hold use ns unit panel new none false 3).2
      else s.writePart use ns unit panel new
  | _ =>
    let s := s.heatUp ns unit
    if s.heldBusy ns unit || s.unitBusy ns unit then (s.hold use ns unit panel new none false 3).2
    else s.writePart use ns unit panel new

/-- A held unit by its number. -/
def State.heldAt (s : State) (id : Nat) : Option HeldUnit := s.seam.held.find? fun h => h.id = id
/-- A held unit dropped. -/
def State.dropHeld (s : State) (id : Nat) : State := { s with seam := { s.seam with held := s.seam.held.filter fun h => h.id ≠ id } }

/-- The oldest write that waits behind others of its unit taken up, if nothing is before it any more. -/
def State.wakeOne (s : State) (ns unit : Nat) : State :=
  match s.seam.held.find? fun h => h.ns = ns ∧ h.unit = unit with
  | none => s
  | some h =>
    if h.phase ≠ 3 then s
    else
      match h.whole with
      | some d => (s.dropHeld h.id).writeCoarse h.use ns unit h.panel d
      | none => if s.unitBusy ns unit then s else (s.dropHeld h.id).writePart h.use ns unit h.panel h.new
/-- The writes that wait behind others of a unit taken up in order. -/
def State.wakeHeld (s : State) (ns unit : Nat) : State :=
  (List.range s.seam.held.length).foldl (fun s _ => s.wakeOne ns unit) s

/-! ### Map updates (R38) -/

/-- The next map update of a unit that may apply: due, with no earlier number of the unit still to apply. -/
def State.nextApply (s : State) (ns unit : Nat) : Option UnitWrite :=
  let mine := s.seam.flight.filter fun u => decide (u.ns = ns ∧ u.unit = unit) && u.mapped
  (leastBy (·.seq) mine).filter fun u => u.passed ∧ u.applied

/-- A map update applied: the coarse entry replaced (a fine group it covered is freed, R44), or one fine entry set. -/
def State.applyOne (s : State) (u : UnitWrite) : State :=
  let e := s.entry u.ns u.unit
  let s := { s with seam := { s.seam with flight := s.seam.flight.filter fun x => x.seq ≠ u.seq } }
  let new := mkEntry (u.locs.getD 0 0) u.cmp (u.kind == 3)
  match u.fine with
  | some k =>
    if eFine e && !eUnmapped e then s.updGroup (eGroup e) fun x => { x with entries := x.entries.set k new } else s
  | none =>
    let split := eFine e && !eUnmapped e
    let copying := split && ((s.group? (eGroup e)).map (·.copying)).getD false
    let s := s.whenB copying fun s => s.count P.seam 0x060
    let s := if split then (s.freeGroup (eGroup e)).count P.seam 0x058 else s
    let s := (s.setEntry u.ns u.unit new).forgetDisk u.ns u.unit
    let s := { s with seam := { s.seam with wroteAt := Tbl.put s.seam.wroteAt (mapKey u.ns u.unit) s.rtcUs } }
    s.whenB split State.poolChanged

/-- The updates of a unit applied in sequence-number order while the next one is due; each ends its part of its command. -/
def State.applyAll : Nat → State → Nat → Nat → State
  | 0, s, _, _ => s
  | n + 1, s, ns, unit =>
    match s.nextApply ns unit with
    | none => s
    | some u => State.applyAll n ((s.applyOne u).dropUse u.use) ns unit

/-- MAP_UPDATE_APPLY (R38): the update of a unit that has passed program status becomes due, and applies after any earlier one;
held writes of the unit go on. -/
def execMapUpdateApply (seq : Nat) (s : State) : Host.Outcome State Fault Refusal :=
  .next (match s.seam.flight.find? fun u => u.seq = seq ∧ u.passed with
    | none => s
    | some u =>
      match u.use with
      | .demote _ => s
      | _ =>
        let fl := s.seam.flight.map fun x => if x.seq = seq then { x with applied := true } else x
        let s := { s with seam := { s.seam with flight := fl } }
        (State.applyAll s.seam.flight.length s u.ns u.unit).wakeHeld u.ns u.unit)

/-- Whether Seam works: in Rebuild, Ready, Read-only or Doze, with its firmware released. -/
def State.seamRuns (s : State) : Bool := s.upState || s.dev == Dev.doze

/-- HEAT_HALVE_TICK (R42): every heat count is halved. -/
def execHeatHalveTick (s : State) : Host.Outcome State Fault Refusal :=
  .next (s.whenB s.seamRuns fun s =>
    { s with seam := { s.seam with map :=
        (s.seam.map.map fun e => (e.1, { e.2 with heat := e.2.heat / 2 })).filter fun e => e.2 ≠ ⟨unmapped, 0⟩ } })

/-- DEMOTE_AGE_EXPIRY (R44): a group whose heat count stayed 0 for DEMOTE_AGE is demoted. -/
def execDemoteAgeExpiry (group : Nat) (s : State) : Host.Outcome State Fault Refusal :=
  .next (s.whenB s.seamRuns fun s =>
    match s.group? group with
    | none => s
    | some x => s.whenB ((s.mapWord x.ns x.unit).heat == 0) fun s => s.startDemote group)

/-- DEMOTION_COPY_DONE (R45): the copy has passed; it commits unless the unit was written since the copy began. -/
def execDemotionCopyDone (group : Nat) (s : State) : Host.Outcome State Fault Refusal :=
  .next (match s.group? group, s.seam.flight.find? fun u => u.use = .demote group ∧ u.passed with
    | some x, some u =>
      if x.written then
        ((s.dropCopy group).updGroup group fun x => { x with copying := false, written := false }).count P.seam 0x060
      else
        let s := { s with seam := { s.seam with flight := s.seam.flight.filter fun x => x.seq ≠ u.seq } }
        let s := (s.freeGroup group).setEntry u.ns u.unit (mkEntry (u.locs.getD 0 0) u.cmp false)
        ((s.count P.seam 0x058).poolChanged).wakeHeld u.ns u.unit
    | _, _ => s)

/-! ### Deallocation (R86, R88) -/

/-- The parts of a byte range by unit: unit, offset, length. -/
def unitParts (off len : Nat) : List (Nat × Nat × Nat) :=
  if len = 0 then []
  else
    (List.range ((off + len - 1) / unitBytes - off / unitBytes + 1)).map fun i =>
      let u := off / unitBytes + i
      let lo := max off (u * unitBytes)
      (u, lo - u * unitBytes, min (off + len) ((u + 1) * unitBytes) - lo)

/-- One fine-split unit deallocated in part: whole fine units unmapped, the rest written as zeros unless in Read-only. -/
def State.deallocFine (s : State) (use : WriteFor) (ns unit panel off len : Nat) : State :=
  let g := eGroup (s.entry ns unit)
  let full := (List.range 16).filter fun k => off ≤ 4096 * k ∧ 4096 * (k + 1) ≤ off + len
  let s := s.updGroup g fun x =>
    { x with written := true, entries := x.entries.mapIdx fun k e => if full.contains k then unmapped else e }
  let parts := ((List.range 16).filter fun k => !full.contains k).filterMap fun k =>
    let lo := max off (4096 * k)
    let hi := min (off + len) (4096 * (k + 1))
    if lo < hi then some (lo, zeros (hi - lo)) else none
  if parts = [] || s.on P.recl R.recl_READONLY then s else s.acceptUnit use ns unit panel parts

/-- A byte range deallocated (R88); in Read-only a covered part of a unit keeps its data (R86). -/
def State.dealloc (s : State) (use : WriteFor) (ns panel off len : Nat) : State :=
  (unitParts off len).foldl (fun s e =>
    let (unit, lo, n) := e
    if n = unitBytes then s.unmap ns unit
    else if eFine (s.entry ns unit) && !eUnmapped (s.entry ns unit) then s.deallocFine use ns unit panel lo n
    else if s.on P.recl R.recl_READONLY then s
    else s.acceptUnit use ns unit panel [(lo, zeros n)]) s

/-! ### Admission of writes (R77, R78) -/

/-- The bytes of a panel that an epoch admits: its share of T percent of WR_MAX MB/s over 100 µs (14_panels.md R380, R382). -/
def State.admitLimit (s : State) : Nat :=
  s.rd P.recl R.recl_THROTTLE * s.rd P.recl R.recl_WR_MAX / (if s.mode M.panel then s.panels.epochN else 1)
/-- Whether a panel's write may be admitted now: no limit at T = 100 % without panels, else while the epoch's bytes are below the limit
(log entry 19). -/
def State.admits (s : State) (panel : Nat) : Bool :=
  (s.rd P.recl R.recl_THROTTLE == 100 && !s.mode M.panel) || decide ((Tbl.at? s.seam.admitted panel).getD 0 < s.admitLimit)

/-- A command's data written unit by unit from its byte offset in the namespace. -/
def State.writeUnits (s : State) (key ns panel off : Nat) (data : List Byte) : State :=
  let s := s.updCmd key fun c => { c with left := c.left + 1 }
  let s := (unitParts off data.length).foldl (fun s e =>
    s.acceptUnit (.host key) ns e.1 panel [(e.2.1, (data.drop (e.1 * unitBytes + e.2.1 - off)).take e.2.2)]) s
  s.dropTok key

end Sys2Proof.Machine
end

