-- ==== Sys2Proof/Machine/HostData.lean ====
section
/-!
DEFINITION. Sys2Proof/Machine/HostData.lean: data between the host and Seam: LEGACY translation, the fetch of write data, the
delivery of read data (13_host_network.md R350, R353, R368, R369, R372).
-/

namespace Sys2Proof.Machine

/-! ### LEGACY translation (R368, R369) -/

/-- A field descriptor of 07_pinking.md R194: offset, length, type. -/
def fdOff (d : Nat) : Nat := bitsAt d 0 12
def fdLen (d : Nat) : Nat := bitsAt d 12 8
def fdType (d : Nat) : Nat := bitsAt d 20 4
/-- L, NF and the descriptors of a profile. -/
def profL (p : List Byte) : Nat := dField p 512 2
def profNf (p : List Byte) : Nat := dField p 514 1
def profFd (p : List Byte) (i : Nat) : Nat := dField p (516 + 4 * i) 4

/-- A sign nibble brought to 0xC or 0xD; none where it is no sign. -/
def signIn (zoned : Bool) (n : Nat) : Option Nat :=
  if n = 0xA ∨ n = 0xC ∨ n = 0xE ∨ n = 0xF ∨ (zoned = true ∧ n = 3) then some 0xC
  else if n = 0xB ∨ n = 0xD then some 0xD else none

/-- One data byte at byte offset `o` of the namespace, and whether it holds an invalid sign. -/
def legacyByte (p : List Byte) (toDevice : Bool) (o : Nat) (b : Byte) : Byte × Bool :=
  let l := profL p
  let u := o % 65536
  let table : Byte := (p.drop (if toDevice then 0 else 256)).getD b.toNat 0
  if 65536 / l * l ≤ u then (b, false)
  else
    let q := u % l
    let fds := (List.range (profNf p)).map (profFd p)
    if fds = [] then (table, false)
    else
      match fds.find? fun d => fdOff d ≤ q ∧ q < fdOff d + fdLen d with
      | none => (b, false)
      | some d =>
        let last := decide (q + 1 = fdOff d + fdLen d)
        if fdType d = 6 then (table, false)
        else if !toDevice then (b, false)
        else if fdType d = 4 then
          if last then
            match signIn false (b.toNat % 16) with
            | some s => (BitVec.ofNat 8 (b.toNat / 16 * 16 + s), false)
            | none => (b, true)
          else (b, false)
        else if last then
          match signIn true (b.toNat / 16) with
          | some s => (BitVec.ofNat 8 (b.toNat % 16 + s * 16), false)
          | none => (b, true)
        else (BitVec.ofNat 8 (b.toNat % 16 + 0xF0), false)

/-- Data translated from a byte offset of its namespace; invalid signs are kept and counted (R369, R375). -/
def State.legacyData (s : State) (c : Cmd) (toDevice : Bool) (data : List Byte) : List Byte × State :=
  match c.legacy with
  | none => (data, s)
  | some p =>
    let r := data.mapIdx fun i b => legacyByte p toDevice (c.start + i) b
    let bad := (r.filter (·.2)).length
    (r.map (·.1), s.whenB (bad != 0) fun s => (s.countN P.nvm 0x058 bad).err P.nvm 0x02 0 0)

/-- Whether a profile may be set (R368): its length and reserved bytes, L, and its descriptors. -/
def profileOk (p : List Byte) : Bool :=
  let l := profL p
  let nf := profNf p
  let fds := (List.range nf).map (profFd p)
  let disjoint := (List.range nf).all fun i => (List.range i).all fun j =>
    let a := profFd p i
    let b := profFd p j
    decide (fdOff a + fdLen a ≤ fdOff b ∨ fdOff b + fdLen b ≤ fdOff a)
  p.length == 4096 && decide (16 ≤ l ∧ l ≤ 4096 ∧ nf ≤ 16) && dField p 515 1 == 0 && ((p.drop 580).all fun b => b == 0) &&
    ((List.range 16).all fun i => decide (i < nf) || profFd p i == 0) && disjoint &&
    fds.all fun d => decide (fdOff d + fdLen d ≤ l ∧ d < 2 ^ 24) &&
      ((fdType d == 4 && decide (1 ≤ fdLen d ∧ fdLen d ≤ 16)) || (fdType d == 5 && decide (1 ≤ fdLen d ∧ fdLen d ≤ 31)) ||
       (fdType d == 6 && decide (1 ≤ fdLen d ∧ fdLen d ≤ 16)))

/-! ### Data pointers -/

/-- Whether a data pointer names a host address of 2^47 or above (R350). -/
def dpFar : DataPtr → Bool
  | .segs l => l.any fun e => decide (2 ^ 47 < e.1 + e.2)
  | _ => false

/-- Bytes padded or cut to a length. -/
def fitTo (n : Nat) (l : List Byte) : List Byte := (l ++ zeros n).take n

/-- The write data of a command fetched from the host. -/
def State.fetchData (s : State) (c : Cmd) : List Byte × State :=
  match c.dp with
  | .segs l =>
    let (d, s) := l.foldl (fun (a : List Byte × State) e =>
      let (b, s) := a.2.hostRead c.panel e.1 e.2
      (a.1 ++ b, s)) ([], s)
    (fitTo c.len d, s)
  | .inline b => (fitTo c.len b, s)
  | .h2c _ => ((List.range c.len).map fun i => (Tbl.at? c.rxd i).getD 0, s)

/-- Read data delivered to the host. -/
def State.deliverData (s : State) (c : Cmd) (data : List Byte) : State :=
  match c.h.src, c.dp with
  | .tcp conn, _ => s.whenB (Tbl.has s.net.conns conn) fun s => s.send (.tcpData conn c.h.cid data)
  | .pcie, .segs l =>
    (l.foldl (fun (a : List Byte × State) e => (a.1.drop e.2, a.2.hostWrite c.panel e.1 (a.1.take e.2))) (data, s)).2
  | .pcie, _ => s

/-- Pieces put together in a command's data. -/
def Cmd.whole (c : Cmd) : List Byte := overlay (zeros c.len) c.pieces

/-- A read, compare or verify ended with its data gathered. -/
def State.endRead (s : State) (key : Nat) (c : Cmd) : State :=
  if c.status ≠ 0 then s.finish key c.status 0 0
  else
    match c.op with
    | .read =>
      let (d, s) := s.legacyData c false c.whole
      (s.deliverData c d).finish key St.ok 0 0
    | .compare => s.finish key (if c.whole = c.stored then St.ok else St.compareFail) 0 0
    | _ => s.finish key St.ok 0 0

/-! ### Local memory (13_host_network.md R360) -/

/-- The panel's local memory: base and size. -/
def State.slmOf (s : State) (panel : Nat) : Nat × Nat := (Tbl.at? s.panels.slm panel).getD (0, 0)
/-- Whether a range of a panel's local memory touches a program image (R358, R360). -/
def State.touchesImage (s : State) (panel off len : Nat) : Bool :=
  s.nvme.progs.any fun e => e.2.panel == panel && meets (e.2.addr - (s.slmOf panel).1) e.2.len off len

/-- The write stage of a copy after its reads: into the namespace, or into local memory. -/
def State.copyStage (s : State) (key : Nat) (c : Cmd) : State :=
  if c.status ≠ 0 then s.finish key c.status 0 0
  else
    match c.op with
    | .memCopy => (s.fabWrite c.dest c.whole).finish key St.ok 0 0
    | _ => (s.updCmd key fun c => { c with left := 0, op := .write, pieces := [] }).writeUnits key (c.h.nsid - 1) c.panel c.dest c.whole

/-- One part of a command's reads done. -/
def State.readTok (s : State) (key : Nat) : State :=
  match Tbl.at? s.nvme.cmds key with
  | none => s
  | some c =>
    if 1 < c.left then s.updCmd key fun c => { c with left := c.left - 1 }
    else if c.op = .copy ∨ c.op = .memCopy then s.copyStage key c
    else s.endRead key c

/-- Bytes of a read gathered. -/
def State.gather (s : State) (key dst : Nat) (b : List Byte) : State :=
  (s.updCmd key fun c => { c with pieces := c.pieces ++ [(dst, b)] }).readTok key

end Sys2Proof.Machine
end

