-- ==== Sys2Proof/Machine/Streams.lean ====
section
/-!
DEFINITION. Sys2Proof/Machine/Streams.lean: filter streams, the Pinking units' queues, reports and program loads, and the commands
of the Pinking family (07_pinking.md R188 to R212, R532; 13_host_network.md R362).
-/

namespace Sys2Proof.Machine

/-! ### Fabric addresses (13_host_network.md R350) -/

/-- Bytes written at a fabric address for a panel: the host aperture becomes host memory. -/
def State.busWrite (s : State) (panel a : Nat) (l : List Byte) : State :=
  if hostBase ≤ a then s.hostWrite panel (a - hostBase) l else s.fabWrite a l
/-- Bytes read at a fabric address for a panel. -/
def State.busRead (s : State) (panel a n : Nat) (f : List Byte → State → State) : State :=
  if hostBase ≤ a then let (b, s) := s.hostRead panel (a - hostBase) n; f b s else s.blockRead a n f

/-! ### Completions of SEAM items (12_shuttle_spool.md R331, R339) -/

/-- A SEAM item ended with a SEAM code (0: OK): its result word written at TARGET first, its completion at source 70. -/
def State.endSeam (s : State) (n code extra word : Nat) : State :=
  match s.item? n with
  | none => s
  | some i =>
    let s := s.updItem n fun i => { i with word := word }
    let s := s.whenB (i.target != 0) fun s => s.busWrite i.panel i.target (natLE 8 word)
    s.cplUnit 70 n code extra

/-! ### Units -/

/-- Whether a Pinking unit exists. -/
def State.pnkPresent (s : State) (u : Nat) : Bool := decide (u < 28) && pagePresent s.part (P.pnk u)
/-- Whether a Pinking unit takes units: PINK on, powered and enabled. -/
def State.pnkOn (s : State) (u : Nat) : Bool := s.pnkPresent u && s.pageUp (P.pnk u) && s.en (P.pnk u) && s.mode M.pink
/-- A unit's queue. -/
def State.pnkQueue (s : State) (u : Nat) : List PnkUnit := (Tbl.at? s.pink.queue u).getD []
/-- The units of a queue and the reads on their way to it. -/
def State.pnkLoad (s : State) (u : Nat) : Nat :=
  (s.pnkQueue u).length +
    (s.seam.reads.filter fun r => r.issued && r.pnk == u && (match r.use with | .stream _ _ => true | _ => false)).length
/-- Whether one more unit may be queued: the one in progress and 16 waiting (R190). -/
def State.pnkRoom (s : State) (u : Nat) : Bool := decide (s.pnkLoad u < 17)
/-- The DRAM-side unit that takes a fallback unit: fewest queued, lowest index on a tie (R190). -/
def State.pnkDram (s : State) : Option Nat := leastBy s.pnkLoad ([24, 25, 26, 27].filter s.pnkOn)
/-- A loaded program. -/
def State.pnkProg (s : State) (u slot : Nat) : List Byte := ((Tbl.at? s.pink.slots (u * 4 + slot)).map (·.bytes)).getD []
/-- Whether a stream holds a slot (R201). -/
def State.slotBusy (s : State) (slot : Nat) : Bool := s.seam.streams.any fun x => x.slot = slot

/-! ### Streams -/

/-- A stream by its number. -/
def State.stream? (s : State) (id : Nat) : Option Stream := s.seam.streams.find? fun x => x.id = id
/-- A change to a stream. -/
def State.updStream (s : State) (id : Nat) (f : Stream → Stream) : State :=
  { s with seam := { s.seam with streams := s.seam.streams.map fun x => if x.id = id then f x else x } }
/-- The reads of a stream not yet issued dropped with their buffers (R208, R362). -/
def State.dropUnissued (s : State) (id : Nat) : State :=
  let mine (r : ReadJob) : Bool := !r.issued && (match r.use with | .stream x _ => x == id | _ => false)
  let gone := s.seam.reads.filter mine
  let s := { s with seam := { s.seam with reads := s.seam.reads.filter fun r => !mine r } }
  gone.foldl (fun s r =>
    let s := s.stgDrop (.job r.id)
    match r.use with | .stream x q => s.stgDrop (.output x q) | _ => s) s
/-- Whether units of a stream are still on their way or in a Pinking unit. -/
def State.streamBusy (s : State) (id : Nat) : Bool :=
  (s.seam.reads.any fun r => match r.use with | .stream x _ => x == id | _ => false) ||
    s.pink.queue.any fun e => e.2.any fun u => u.stream = id

/-- A stream ended through Take-up (R204, R205, R208, R362). The last one after PINK was cleared empties every slot
(15_modes.md R393). -/
def State.endStream (s : State) (x : Stream) : State :=
  let s := { s with seam := { s.seam with streams := s.seam.streams.filter fun y => y.id ≠ x.id } }
  let s := s.whenB (s.seam.streams == [] && !s.mode M.pink) fun s => { s with pink := { s.pink with slots := [] } }
  if x.full then s.endSeam x.item 0x20 x.failed 0
  else if x.aborted then s.endSeam x.item 0x09 0 0
  else if x.failed ≠ 0 then s.endSeam x.item 0x08 x.failed 0
  else s.endSeam x.item 0 0 0

/-- A stream checked for its end: every report written, or stopped with nothing left on its way. -/
def State.checkStream (s : State) (id : Nat) : State :=
  match s.stream? id with
  | none => s
  | some x =>
    if x.pendRep.isSome then s
    else if x.done.length = x.count ∨ ((x.aborted = true ∨ x.full = true) ∧ s.streamBusy id = false) then s.endStream x
    else s

/-- One report written and counted (R202, R204). -/
def State.putReport (s : State) (x : Stream) (seq : Nat) (bytes : List Byte) (failed : Bool) : State :=
  let s := s.busWrite x.panel (x.report + 128 * seq) bytes
  s.updStream x.id fun x => { x with done := x.done ++ [seq], failed := x.failed + (if failed then 1 else 0) }

/-- LAST_UNIT of a Pinking unit. -/
def State.lastUnit (s : State) (u lba : Nat) : State :=
  (s.wr (P.pnk u) R.pnk_LAST_UNIT_LO (lba % 2 ^ 32)).wr (P.pnk u) R.pnk_LAST_UNIT_HI (lba / 2 ^ 32)

/-- The output of a unit put where it goes: its staging buffer, or host memory with the buffer released (R203, R362). It answers
OUT_ADDR and whether the output was dropped. -/
def State.putOutput (s : State) (x : Stream) (seq : Nat) (out : List Byte) : Nat × Bool × State :=
  if out = [] then (0, false, s.stgDrop (.output x.id seq))
  else
    match x.out with
    | none =>
      match s.stgFor (.output x.id seq) with
      | some n => (stgAddr n, false, s.fabWrite (stgAddr n) out)
      | none => (0, true, s)
    | some (base, len, pos) =>
      let s := s.stgDrop (.output x.id seq)
      let at_ := (pos + 63) / 64 * 64
      if at_ + out.length ≤ len then
        (base + at_, false, (s.hostWrite x.panel (base + at_) out).updStream x.id fun x =>
          { x with out := some (base, len, at_ + out.length) })
      else (0, true, (s.updStream x.id fun x => { x with full := true }).dropUnissued x.id)

/-- An error of a page that has occurred `n` times. -/
def State.errN (s : State) (p code info addr : Nat) : Nat → State
  | 0 => s
  | n + 1 => State.errN (s.err p code info addr) p code info addr n
/-- A filtered unit's report with its output (R202). -/
def State.reportUnit (s : State) (x : Stream) (u seq flags : Nat) (o : FilterOut) : State :=
  let (a, dropped, s) := s.putOutput x seq o.out
  let flags := flags + (if dropped then 16 else 0)
  let s := s.putReport x seq (reportBytes (s.pnkProg u x.slot) (x.first + seq) 0 u flags seq a o) false
  let ovf := (o.aggs.filter fun a => a.2.1).length
  let p := P.pnk u
  let s := (((s.lastUnit u (x.first + seq)).count p 0x040).countN p 0x048 o.records).countN p 0x050 o.survivors
  let s := s.whenB (o.baddec != 0) fun s => (s.errN p 0x02 o.badFirst (x.first + seq) o.baddec |>.countN p 0x058 o.baddec).raise p 2
  s.whenB (ovf != 0) fun s => (s.errN p 0x04 0 (x.first + seq) ovf |>.countN p 0x070 ovf).raise p 4

/-- The report that waits for a carried record written as it stands, with CUT (R192). -/
def State.cutCarry (s : State) (id : Nat) : State :=
  match s.stream? id with
  | none => s
  | some x =>
    match x.pendRep with
    | none => s
    | some (seq, o) =>
      let s := s.updStream id fun x => { x with carry := none, pendRep := none }
      s.reportUnit x x.unit seq (1 + 8) o

/-- A unit reported without records: UNIT_FAILED (1), EMPTY (2) or UNIT_DISABLED (3). -/
def State.reportNone (s : State) (id seq status source flags : Nat) : State :=
  match s.stream? id with
  | none => s
  | some x =>
    let s := if x.strm then s.cutCarry id else s
    let s := s.stgDrop (.output id seq)
    let bytes := if status = 2 then
        reportBytes (s.pnkProg x.unit x.slot) (x.first + seq) 2 source flags seq 0
          (FilterOut.start (pgNagg (s.pnkProg x.unit x.slot)))
      else failedReport (x.first + seq) status source flags seq
    (s.putReport x seq bytes (status != 2)).checkStream id

/-- An EMPTY or UNIT_DISABLED report of a unit that no Pinking unit took: its SOURCE is left open (log entry 23). -/
def State.reportBare (s : State) (id seq status : Nat) : State :=
  match s.stream? id with
  | none => s
  | some x =>
    if x.strm then s.reportNone id seq status x.unit 1
    else let (v, s) := s.drawFree 8; s.reportNone id seq status v 0

/-- A unit-mode unit filtered (R191). -/
def State.filterUnit (s : State) (x : Stream) (u : Nat) (e : PnkUnit) : State :=
  let p := s.pnkProg u x.slot
  let o := (recordsOf (pgRecLen p) 0 e.data).foldl (filterRecord p) (FilterOut.start (pgNagg p))
  (s.reportUnit x u e.seq (if e.fallback then 2 else 0) o).checkStream x.id

/-- A stream-mode unit filtered (R192): the carried record is finished first, then the records that start here. -/
def State.filterStream (s : State) (x : Stream) (u : Nat) (e : PnkUnit) : State :=
  let p := s.pnkProg u x.slot
  let l := pgRecLen p
  let used := match x.carry with | some (_, b) => l - b.length | none => 0
  let s := match x.carry, x.pendRep with
    | some (_, b), some (q, o) =>
      (s.updStream x.id fun x => { x with carry := none, pendRep := none }).reportUnit x u q 1
        (filterRecord p o (b ++ e.data.take used))
    | _, _ => s
  let pos := e.seq * unitBytes
  let first := if pos ≤ x.firstOff then x.firstOff - pos else (l - (pos - x.firstOff) % l) % l
  let recs := recordsOf l first e.data
  let o := recs.foldl (filterRecord p) (FilterOut.start (pgNagg p))
  let rest := e.data.drop (first + recs.length * l)
  if rest = [] then (s.reportUnit x u e.seq 1 o).checkStream x.id
  else if e.seq + 1 = x.count then (s.reportUnit x u e.seq (1 + 4) o).checkStream x.id
  else
    let s := s.updStream x.id fun x => { x with carry := some (e.seq, rest), pendRep := some (e.seq, o) }
    if x.aborted || x.full then (s.cutCarry x.id).checkStream x.id else s

/-- A unit given to a Pinking unit's queue. -/
def State.pnkPush (s : State) (u : Nat) (e : PnkUnit) : State :=
  { s with pink := { s.pink with queue := Tbl.put s.pink.queue u (s.pnkQueue u ++ [e]) } }

/-- A unit routed to the DRAM side because its unit is disabled, or reported UNIT_DISABLED where none is enabled (R207). -/
def State.pnkFallback (s : State) (strm : Bool) (e : PnkUnit) : State :=
  if strm then s.reportBare e.stream e.seq 3
  else
    match s.pnkDram with
    | some u => s.pnkPush u { e with fallback := true }
    | none => s.reportBare e.stream e.seq 3

/-- A unit's data or its failure delivered to its Pinking unit (R205, R207). -/
def State.pnkDeliver (s : State) (u : Nat) (e : PnkUnit) : State :=
  match s.stream? e.stream with
  | none => s.stgDrop (.output e.stream e.seq)
  | some x => if s.pnkOn u then s.pnkPush u e else s.pnkFallback x.strm e

/-- PNK_UNIT_FILTERED (R191, R192, R202, R205): the unit in progress ends and its report is written. -/
def execPnkUnitFiltered (unit : Nat) (s : State) : Host.Outcome State Fault Refusal :=
  .next (match s.pnkQueue unit with
    | [] => s
    | e :: r =>
      let s := { s with pink := { s.pink with queue := Tbl.put s.pink.queue unit r } }
      match s.stream? e.stream with
      | none => s
      | some x =>
        let s := if unit < 24 then s.countN (P.nfc unit) 0x078 e.data.length else s
        if e.failed then
          (((s.lastUnit unit (x.first + e.seq)).count (P.pnk unit) 0x060).err (P.pnk unit) 0x03 0 (x.first + e.seq) |>.raise
            (P.pnk unit) 3).reportNone x.id e.seq 1 unit ((if x.strm then 1 else 0) + (if e.fallback then 2 else 0))
        else if x.strm then s.filterStream x unit e
        else s.filterUnit x unit e)

/-- Units of a disabled unit's queue sent elsewhere, the one in progress kept (R207). -/
def State.pnkReturn (s : State) (u : Nat) : State :=
  match s.pnkQueue u with
  | [] => s
  | h :: r =>
    let s := { s with pink := { s.pink with queue := Tbl.put s.pink.queue u [h] } }
    r.foldl (fun s e =>
      let strm := ((s.stream? e.stream).map (·.strm)).getD false
      (s.count (P.pnk u) 0x068).pnkFallback strm e) s

/-- The units of stream-mode streams of a disabled DRAM-side unit that were not yet read (R207). -/
def State.pnkUnread (s : State) (u : Nat) : State :=
  (s.seam.streams.filter fun x => x.strm && x.unit == u).foldl (fun s x =>
    let mine := s.seam.reads.filter fun r => !r.issued && (match r.use with | .stream y _ => y == x.id | _ => false)
    let s := s.dropUnissued x.id
    mine.foldl (fun s r => match r.use with | .stream y q => s.reportBare y q 3 | _ => s) s) s

/-- CTRL.EN of a unit cleared (R207): without DRAIN the queued units go elsewhere. -/
def State.pnkDisable (s : State) (u : Nat) : State :=
  let s := s.wr (P.pnk u) R.common_EN 0
  if s.on (P.pnk u) R.common_DRAIN then s else (s.pnkReturn u).pnkUnread u
/-- PNK_CTRL_EN_CLEAR. -/
def execPnkCtrlEnClear (ag : Agent) (unit : Nat) (s : State) : Host.Outcome State Fault Refusal :=
  .next (s.whenB (s.pnkPresent unit) fun s => s.gated ag (P.pnk unit) 0x008 false fun s =>
    s.whenB (s.en (P.pnk unit)) fun s => s.pnkDisable unit)

/-! ### Loads (R200) -/

/-- The result of a load of a program into a slot. -/
def State.loadResult (s : State) (slot : Nat) (bytes : List Byte) : Nat :=
  if !s.mode M.pink then 0x07 else if s.slotBusy slot then 0x06 else loadCheck bytes

/-- The answers of the units of a PINK_LOAD item put together: it ends once every unit has answered. -/
def State.loadAnswer (s : State) (n unit code : Nat) : State :=
  let l := (unit, code) :: (Tbl.at? s.pink.loadRes n).getD []
  let s := { s with pink := { s.pink with loadRes := Tbl.put s.pink.loadRes n l } }
  if (s.pink.load.any fun e => e.2.item = some n) || s.pink.loadWait.any fun e => e.2.item = some n then s
  else
    let s := { s with pink := { s.pink with loadRes := Tbl.del s.pink.loadRes n } }
    match leastBy (·.1) (l.filter fun e => e.2 ≠ 0) with
    | none => s.cplUnit 70 n 0 0
    | some (u, c) => s.cplUnit 70 n c u

/-- The next load that waits for a unit begun. -/
def State.nextLoad (s : State) (u : Nat) : State :=
  match s.pink.loadWait.find? fun e => e.1 = u with
  | none => s.wr (P.pnk u) R.pnk_LOAD_BUSY 0
  | some e =>
    { s with pink := { s.pink with loadWait := s.pink.loadWait.erase e, load := Tbl.put s.pink.load u e.2 } }

/-- A load begun, or waiting for the one in progress. -/
def State.startLoad (s : State) (u : Nat) (l : PnkLoad) : State :=
  if Tbl.has s.pink.load u then { s with pink := { s.pink with loadWait := s.pink.loadWait ++ [(u, l)] } }
  else { s with pink := { s.pink with load := Tbl.put s.pink.load u l } }.wr (P.pnk u) R.pnk_LOAD_BUSY 1

/-- LOAD_GO (R200, R211): the program at LOAD_HI:LOAD_LO into LOAD_SLOT; ignored with LOAD_REJ while a load is in progress. -/
def State.loadGo (s : State) (unit : Nat) : State :=
  let p := P.pnk unit
  if s.on p R.pnk_LOAD_BUSY then s.flag p R.pnk_LOAD_REJ
  else s.startLoad unit ⟨s.rd p R.pnk_LOAD_SLOT, s.rd p R.pnk_LOAD_LO + s.rd p R.pnk_LOAD_HI * 2 ^ 32, 0, none⟩
/-- LOAD_GO (R200). -/
def execLoadGo (ag : Agent) (unit : Nat) (s : State) : Host.Outcome State Fault Refusal :=
  .next (s.whenB (s.pnkPresent unit) fun s => s.gated ag (P.pnk unit) 0x108 false fun s => s.loadGo unit)

/-- PINK_LOAD_DONE (R200): the check's result; a refused load leaves the slot as it was. -/
def execPinkLoadDone (unit : Nat) (s : State) : Host.Outcome State Fault Refusal :=
  .next (match Tbl.at? s.pink.load unit with
    | none => s
    | some l =>
      let p := P.pnk unit
      s.busRead l.panel l.addr 9216 fun bytes s =>
        let code := s.loadResult l.slot bytes
        let s := { s with pink := { s.pink with load := Tbl.del s.pink.load unit } }
        let s := s.whenB (code == 0) fun s =>
          { s with pink := { s.pink with slots := Tbl.put s.pink.slots (unit * 4 + l.slot) ⟨bytes, l.panel⟩ } }
        let s := (s.wr p R.pnk_LOAD_RESULT code).raise p 0
        let s := s.whenB (code != 0) fun s => (s.err p 0x01 code 0).raise p 1
        let s := s.nextLoad unit
        match l.item with
        | some n => s.loadAnswer n unit code
        | none => s)

/-! ### Accepting a stream (R189, R190, R201, R532) -/

/-- Why a stream is refused: 0 where it is accepted. -/
def State.streamRefusal (s : State) (ns first count slot : Nat) (strm : Bool) : Nat :=
  let units := (List.range 28).filter s.pnkPresent
  let ids := units.map fun u => (Tbl.at? s.pink.slots (u * 4 + slot)).map fun p => pgId p.bytes
  let id0 := ids.headD none
  if !s.keyOpen ns then 0x0A
  else if id0.isNone || ids.any (fun i => i != id0) then 0x04
  else if !strm && !(s.seam.ranges.any fun r => decide (r.ns = ns ∧ r.first ≤ first ∧ first + count ≤ r.first + r.count ∧
      r.len = pgRecLen (s.pnkProg (units.headD 0) slot))) then 0x03
  else 0

/-- The purposes a unit of a stream reserves (R11): the media class for a channel-side output, the engine class on the DRAM side,
which also takes a media buffer for its input. -/
def State.streamJob (s : State) (x : Stream) (seq : Nat) : State :=
  let unit := x.first + seq
  let e := s.entry x.ns unit
  let dram := x.strm || eFine e || eCmp e
  let (id, s) := s.newId
  let j : ReadJob := ⟨id, .stream x.id seq, x.ns, unit, false, [], false, 0, 1, 0, 0⟩
  let s := { s with seam := { s.seam with reads := s.seam.reads ++ [j] } }
  let s := s.stgRequest ⟨if dram then .engine else .media, x.panel, .output x.id seq⟩
  s.whenB dram fun s => s.stgRequest ⟨.media, x.panel, .job id⟩

/-- An accepted stream begun: unmapped units are reported EMPTY, the others wait for their buffers. -/
def State.startStream (s : State) (x : Stream) : State :=
  let s := { s with seam := { s.seam with streams := s.seam.streams ++ [x] } }
  if x.strm && !s.pnkOn x.unit then
    (List.range x.count).foldl (fun s q => s.reportBare x.id q 3) s
  else
    (List.range x.count).foldl (fun s q =>
      if eUnmapped (s.entry x.ns (x.first + q)) && (s.onDisk x.ns (x.first + q)).isNone && !x.strm then s.reportBare x.id q 2
      else s.streamJob x q) s

/-- A stream's abort latched (R208): issued units finish; it ends ABORTED. -/
def State.abortStream (s : State) (id : Nat) : State :=
  let s := (s.updStream id fun x => { x with aborted := true }).dropUnissued id
  let s := if (s.seam.reads.any fun r => match r.use with | .stream x _ => x == id | _ => false) ||
      s.pink.queue.any (fun e => e.2.any fun u => u.stream = id) then s else s.cutCarry id
  s.checkStream id

end Sys2Proof.Machine
end

