-- ==== Sys2Proof/Machine/Windows.lean ====
section
/-!
DEFINITION. Sys2Proof/Machine/Windows.lean: address windows and the view of memory that a poster has (10_agrek_model.md R279, R280;
12_shuttle_spool.md R330, R332; 08_pleat.md R224).
-/

namespace Sys2Proof.Machine

/-- Whether a window grants a need. -/
def Win.grants (w : Win) : Need → Bool
  | .rd => w.rd
  | .wr => w.wr
  | .ex => w.ex
/-- Whether a range lies wholly in a window. -/
def Win.holds (w : Win) (a n : Nat) : Bool := decide (w.vbase ≤ a ∧ a + n ≤ w.vbase + w.size)
/-- The window of a set that holds a range with a permission. -/
def winFor (ws : Tbl Win) (a n : Nat) (need : Need) : Option Win :=
  (ws.find? fun e => e.2.holds a n && e.2.grants need).map (·.2)
/-- An address translated by the window that holds it; an address of no window stands for itself. -/
def winTr (ws : Tbl Win) (a : Nat) : Nat :=
  match ws.find? fun e => e.2.holds a 1 with
  | some e => e.2.target + (a - e.2.vbase)
  | none => a

/-- The windows that Thimble holds for a panel. -/
def State.panelWins (s : State) (panel : Nat) : Tbl Win := (Tbl.at? s.panels.wins panel).getD []
/-- The windows of a core. -/
def State.coreWins (s : State) (k : Nat) : Tbl Win := ((Tbl.at? s.cores k).map (·.wins)).getD []

/-- Whether a poster may reach a range with a permission: through its windows, in host memory below 2^47 for an NVMe command, anywhere
for Thimble and the register interface. -/
def State.viewOk (s : State) (p : Poster) (panel a n : Nat) (need : Need) : Bool :=
  match p with
  | .core (.shuttle _) _ => (winFor (s.panelWins panel) a n need).isSome
  | .core (.bobbin k) _ => (winFor (s.coreWins (32 + k)) a n need).isSome
  | .nvme _ => decide (a + n ≤ 2 ^ 47)
  | _ => decide (a + n ≤ 2 ^ 48)
/-- A poster's address on the fabric. -/
def State.viewTr (s : State) (p : Poster) (panel a : Nat) : Nat :=
  match p with
  | .core (.shuttle _) _ => winTr (s.panelWins panel) a
  | .core (.bobbin k) _ => winTr (s.coreWins (32 + k)) a
  | .nvme _ => hostBase + a
  | _ => a

end Sys2Proof.Machine
end

