-- ==== Sys2Proof/Machine/Gauge.lean ====
section
/-!
DEFINITION. Sys2Proof/Machine/Gauge.lean: the ternary index Gauge, its batches and block moves, the cascade bus, and the commands of
the Gauge family (09_gauge.md R237 to R261). A place is one entry wide: 2^WIDTH physical rows (R237).
-/

namespace Sys2Proof.Machine

/-! ### Entries (R237 to R241) -/

/-- Physical rows per entry. -/
def State.gauRows (s : State) : Nat := 2 ^ s.rd P.gau R.gau_WIDTH
/-- How many entries the table takes. -/
def State.gauCap (s : State) : Nat := (match s.part with | .od7400 => 131072 | .od7420 => 65536) / s.gauRows
/-- The entries of a panel with their places, in rank order (R239). -/
def State.gauOf (s : State) (panel : Nat) : Tbl GauRow := s.gauge.rows.filter fun e => e.2.panel = panel
/-- The place of a rank. -/
def State.gauAt (s : State) (panel rank : Nat) : Option (Nat × GauRow) := (s.gauOf panel)[rank]?
/-- Whether an entry matches a key (R238). -/
def GauRow.hits (g : GauRow) (key : Nat) : Bool := Nat.land (Nat.xor g.value key) g.care == 0
/-- The ranks of a panel's entries that match a key, lowest first. -/
def State.gauHits (s : State) (panel key : Nat) : List Nat :=
  ((s.gauOf panel).zipIdx.filter fun e => e.1.2.hits key).map (·.2)
/-- The share Q of R253. -/
def State.gauQuota (s : State) : Nat := s.share s.gauCap

/-- A result word (R242); in count mode ADDR is 0 and COUNT carries the matches (R241). -/
def gauResult (count : Bool) (pos : Nat) (hit : Option Nat) (n : Nat) : Nat :=
  let flags := (if n = 0 then 0 else 2 ^ 23) + (if 1 < n then 2 ^ 24 else 0)
  if count then flags + n * 2 ^ 32 else flags + (match hit with | some r => pos * 2 ^ 20 + r | none => 0)
/-- The result of a key whose frame was lost. -/
def gauErr : Nat := 2 ^ 25
/-- POS, or 0 with the cascade off. -/
def State.gcbPos (s : State) : Nat := if s.on P.gcb R.gcb_CASC_EN then s.rd P.gcb R.gcb_POS else 0

/-! ### Batches (R244, R247) -/

def Gs.ok : Nat := 0
def Gs.full : Nat := 1
def Gs.quota : Nat := 2
def Gs.badRank : Nat := 3
def Gs.badJob : Nat := 4
def Gs.cascDown : Nat := 5
def Gs.cascErr : Nat := 6
def Gs.disabled : Nat := 7
def Gs.aborted : Nat := 8
def Gs.notEnabled : Nat := 10

/-- A batch block's fields. -/
def Batch.op (b : Batch) : Nat := leAt b.block 0 1 % 16
def Batch.casc (b : Batch) : Bool := (leAt b.block 0 1).testBit 4
def Batch.num (b : Batch) : Nat := leAt b.block 2 2 + 1
def Batch.src (b : Batch) : Nat := leAt b.block 4 6
def Batch.res (b : Batch) : Nat := leAt b.block 10 6

/-- The poster of a batch: BATCH_GO stands for the register interface. -/
def State.gauPoster (s : State) (b : Batch) : Poster :=
  match b.item with
  | some n => ((s.item? n).map (·.poster)).getD .startList
  | none => .startList
/-- An address of a batch on the fabric. -/
def State.gauTr (s : State) (b : Batch) (a : Nat) : Nat := s.viewTr (s.gauPoster b) b.panel a

/-- BAD_JOB of a batch block (R247): a reserved value, or a range outside the submitter's windows. -/
def State.gauBad (s : State) (b : Batch) : Bool :=
  let upd := b.op == 3
  let p := s.gauPoster b
  !(decide (1 ≤ b.op ∧ b.op ≤ 3)) || leAt b.block 0 1 / 32 != 0 || leAt b.block 1 1 != 0 ||
    !s.viewOk p b.panel b.src (b.num * (if upd then 96 else 16 * s.gauRows)) .rd || !s.viewOk p b.panel b.res (b.num * 8) .wr

/-- A batch's end: bytes 16 to 23 of its block written, then its completion (R12, R244, R261). -/
def State.gauEnd (s : State) (b : Batch) (status : Nat) : State :=
  let s := s.busWrite b.panel (b.addr + 16) (natLE 1 status ++ natLE 3 0 ++ natLE 4 b.done)
  let s := s.wr P.gau R.gau_LAST_STATUS status
  let s := s.whenB (b.op == 1 && status != Gs.disabled && status != Gs.notEnabled) fun s =>
    { s with gauge := { s.gauge with multi := b.multi } }
  let s := s.whenB (status != Gs.ok) fun s => s.err P.gau 0x01 status b.addr
  let s := s.whenB (status == Gs.full || status == Gs.quota) fun s => (s.count P.gau 0x070).raise P.gau 1
  match b.item with
  | none => s.raise P.gau 0
  | some n => if status = Gs.disabled then s.cplItem 60 n Cs.disabled 0 else s.cplUnit 60 n status 0

/-- Queued batches begun in order: the head where its side, search or update, is free; a bad one or one with the link down ends at
once (R247). -/
def State.gauFill : Nat → State → State
  | 0, s => s
  | fuel + 1, s =>
    match s.gauge.queue with
    | [] => s
    | b :: r =>
      let t := { s with gauge := { s.gauge with queue := r } }
      if s.gauBad b then State.gauFill fuel (t.gauEnd b Gs.badJob)
      else if b.op = 3 then
        if s.gauge.upd.isSome then s else State.gauFill fuel { t with gauge := { t.gauge with upd := some b } }
      else if b.casc && !s.on P.gcb R.gcb_LINK_UP then State.gauFill fuel (t.gauEnd b Gs.cascDown)
      else if s.gauge.look.isSome then s
      else State.gauFill fuel { t with gauge := { t.gauge with look := some b } }

/-- A batch submitted (R244, R247, R257): NOT_ENABLED with the mode off, UNIT_DISABLED with CTRL.EN 0. -/
def State.gauSubmit (s : State) (addr panel : Nat) (item : Option Nat) : State :=
  s.busRead panel addr 32 fun block s =>
    let b : Batch := ⟨addr, panel, item, block, 0, 0, false, false, false⟩
    if !s.mode M.gauge then s.gauEnd b Gs.notEnabled
    else if !s.en P.gau then s.gauEnd b Gs.disabled
    else State.gauFill 33 { s with gauge := { s.gauge with queue := s.gauge.queue ++ [b] } }

/-- A change to the search or count batch in progress. -/
def State.updLook (s : State) (f : Batch → Batch) : State := { s with gauge := { s.gauge with look := s.gauge.look.map f } }

/-- The search or count batch checked for its end: every key answered, or aborted with no frame out. -/
def State.gauCheck (s : State) : State :=
  match s.gauge.look with
  | none => s
  | some b =>
    if s.gauge.out ≠ [] then s
    else if b.done = b.num ∨ b.abort = true then
      let st := if b.done < b.num then Gs.aborted else if b.err then Gs.cascErr else Gs.ok
      State.gauFill 33 ({ s with gauge := { s.gauge with look := none } }.gauEnd b st)
    else s

/-- A key's result written (R242) and counted. -/
def State.gauPut (s : State) (key result : Nat) : State :=
  match s.gauge.look with
  | none => s
  | some b =>
    let multi := result.testBit 24
    let s := s.busWrite b.panel (s.gauTr b (b.res + 8 * key)) (natLE 8 result)
    let s := s.whenB multi fun s => s.count P.gau 0x050
    (s.updLook fun b => { b with done := b.done + 1, err := b.err || result.testBit 25, multi := b.multi || multi }).gauCheck

/-! ### The cascade bus (R254 to R256) -/

/-- The CRC of a frame's words. -/
def gcbCrc (ws : List Nat) : Nat := crcBits 16 0x1021 0xFFFF (ws.flatMap (bitsBE 16))
/-- Key words per frame. -/
def gcbKeyWords (width : Nat) : Nat := 5 * 2 ^ width
/-- A frame's words with its CRC. -/
def gcbFrame (w0 tag : Nat) (key : List Nat) (lo hi : Nat) : List Nat :=
  let ws := [w0, tag] ++ key ++ [lo, hi]
  ws ++ [gcbCrc ws]
/-- The place of an entry on the ring and its flags, in word 3 + K. -/
def gcbHi (rank16 pos : Nat) (hit multi err : Bool) (count : Nat) : Nat :=
  rank16 + pos * 2 + (if hit then 16 else 0) + (if multi then 32 else 0) + (if err then 64 else 0) + count * 128

/-- Whether the cascade port is active: CASC_EN, its domain on, the device not in Ward, a deep state or reset. -/
def State.gcbPort (s : State) : Bool :=
  s.on P.gcb R.gcb_CASC_EN && s.pagesAwake && s.pageUp P.gcb && s.dev != Dev.ward && s.dev != Dev.fill

/-- An own frame sent for a key (R255). -/
def State.gcbIssue (s : State) (b : Batch) (key k : Nat) (hit : Option Nat) (n : Nat) : State :=
  let w := s.rd P.gau R.gau_WIDTH
  let w0 := (if b.op = 1 then 1 else 2) * 2 ^ 13 + w * 2 ^ 11 + s.rd P.gcb R.gcb_POS * 2 ^ 8 + b.panel
  let words := gcbFrame w0 s.gauge.nextTag ((List.range (gcbKeyWords w)).map fun i => bitsAt k (16 * i) 16) 0 0
  let o : GcbOut := ⟨s.gauge.nextTag, words, key, hit, n, false⟩
  let g := { s.gauge with out := s.gauge.out ++ [o], nextTag := (s.gauge.nextTag + 1) % 65536 }
  ({ s with gauge := g }.count P.gcb 0x040).send (.gcb words false)

/-- A returned frame merged with the local result (R255). -/
def State.gcbMerge (s : State) (o : GcbOut) (count : Bool) (lo hi : Nat) : State :=
  let s := { s with gauge := { s.gauge with out := s.gauge.out.filter fun x => x.tag ≠ o.tag } }
  if hi.testBit 6 then s.gauPut o.key gauErr
  else if count then s.gauPut o.key (gauResult true 0 none (lo + bitsAt hi 0 1 * 2 ^ 16 + bitsAt hi 7 4 * 2 ^ 17 + o.count))
  else
    let rpos := bitsAt hi 1 3
    let rank := lo + bitsAt hi 0 1 * 2 ^ 16
    let there : Bool := hi.testBit 4
    let n := (if there then (if hi.testBit 5 then 2 else 1) else 0) + o.count
    match o.hit with
    | some r =>
      if !there || decide (s.gcbPos < rpos) then s.gauPut o.key (gauResult false s.gcbPos (some r) n)
      else s.gauPut o.key (gauResult false rpos (some rank) n)
    | none => s.gauPut o.key (gauResult false rpos (if there then some rank else none) n)

/-- A frame of another device searched and forwarded (R255, R256). -/
def State.gcbForward (s : State) (ws : List Nat) (width : Nat) (matchIn : Bool) : State :=
  let k := gcbKeyWords width
  let w0 := ws.getD 0 0
  let key := (ws.drop 2).take k
  let lo := ws.getD (2 + k) 0
  let hi := ws.getD (3 + k) 0
  let s := s.count P.gcb 0x048
  let out (s : State) (lo hi : Nat) : State := s.send (.gcb (gcbFrame w0 (ws.getD 1 0) key lo hi) (hi.testBit 4))
  if width ≠ s.rd P.gau R.gau_WIDTH then
    let s := ((s.flag P.gcb R.gcb_WIDTH_MM).err P.gcb 0x03 0 0).raise P.gcb 3
    out s lo (bitPut hi 6 true)
  else if !s.en P.gau then out s lo (bitPut hi 6 true)
  else
    let hits := s.gauHits (w0 % 64) (key.zipIdx.map fun e => e.1 * 2 ^ (16 * e.2)).sum
    if w0 / 2 ^ 13 = 2 then
      let n := lo + bitsAt hi 0 1 * 2 ^ 16 + bitsAt hi 7 4 * 2 ^ 17 + hits.length
      out s (n % 65536) (bitsPut (bitsPut hi 0 1 (n / 2 ^ 16)) 7 4 (n / 2 ^ 17))
    else
      match hits with
      | [] => out s lo hi
      | r :: _ =>
        let multi : Bool := hi.testBit 5 || matchIn || decide (1 < hits.length)
        let mine : Bool := !matchIn || decide (s.gcbPos < bitsAt hi 1 3)
        if mine then out s (r % 65536) (gcbHi (r / 65536) s.gcbPos true multi (hi.testBit 6) 0)
        else out s lo (bitPut hi 5 multi)

/-- GCB_FRAME_RECEIVE: a frame that fails its CRC or has a reserved TYPE is discarded; an own frame is removed and merged, any other
searched and forwarded. -/
def execGcbFrameReceive (words : List Nat) (matchInLow : Bool) (s : State) : Host.Outcome State Fault Refusal :=
  .next (s.whenB s.gcbPort fun s =>
    let ws := words.map (· % 65536)
    let w0 := ws.getD 0 0
    let width := bitsAt w0 11 2
    let k := gcbKeyWords width
    let ty := w0 / 2 ^ 13
    if ws.length ≠ 5 + k ∨ gcbCrc (ws.take (4 + k)) ≠ ws.getD (4 + k) 0 then s.count P.gcb 0x050
    else if ty ≠ 1 ∧ ty ≠ 2 then s
    else if bitsAt w0 8 3 = s.rd P.gcb R.gcb_POS then
      match s.gauge.out.find? fun o => o.tag = ws.getD 1 0 with
      | some o => s.gcbMerge o (ty == 2) (ws.getD (2 + k) 0) (ws.getD (3 + k) 0)
      | none => s
    else s.gcbForward ws width matchInLow)

/-- GCB_FRAME_TIMEOUT (R256): sent again once; then the key's result carries ERR and LINK_ERR is set. -/
def execGcbFrameTimeout (tag : Nat) (s : State) : Host.Outcome State Fault Refusal :=
  .next (match s.gauge.out.find? fun o => o.tag = tag with
    | none => s
    | some o =>
      if o.resent then
        let s := { s with gauge := { s.gauge with out := s.gauge.out.filter fun x => x.tag ≠ tag } }
        (((s.flag P.gcb R.gcb_LINK_ERR).err P.gcb 0x02 0 0).raise P.gcb 2).gauPut o.key gauErr
      else
        let out := s.gauge.out.map fun x => if x.tag = tag then { x with resent := true } else x
        ({ s with gauge := { s.gauge with out := out } }.count P.gcb 0x058).send (.gcb o.words false))

/-- GCB_LINK_TIMER (R254): LINK_UP after 1 µs of traffic with CASC_EN, down after 1 µs of silence. -/
def execGcbLinkTimer (traffic : Bool) (s : State) : Host.Outcome State Fault Refusal :=
  .next (
    let up := s.on P.gcb R.gcb_LINK_UP
    if traffic then s.whenB (s.gcbPort && !up) fun s => (s.flag P.gcb R.gcb_LINK_UP).raise P.gcb 0
    else s.whenB up fun s => (((s.wr P.gcb R.gcb_LINK_UP 0).count P.gcb 0x060).err P.gcb 0x01 0 0).raise P.gcb 1)

/-! ### Searching (R240 to R243, R249) -/

/-- The next key of the search or count batch in progress: answered locally, or sent round the ring with at most 8 own frames out
(R256). -/
def State.gauLookKey (s : State) (op : Nat) : State :=
  match s.gauge.look with
  | none => s
  | some b =>
    if b.op ≠ op ∨ b.abort = true ∨ b.num ≤ b.next ∨ (b.casc = true ∧ 8 ≤ s.gauge.out.length) then s
    else
      let i := b.next
      s.busRead b.panel (s.gauTr b (b.src + i * 16 * s.gauRows)) (10 * s.gauRows) fun bytes s =>
        let key := leNat bytes
        let hits := s.gauHits b.panel key
        let s := s.updLook fun b => { b with next := i + 1 }
        let s := s.count P.gau (if op = 1 then 0x040 else 0x048)
        if b.casc then s.gcbIssue b i key hits.head? hits.length
        else s.gauPut i (gauResult (op == 2) s.gcbPos hits.head? hits.length)

/-- GAUGE_SEARCH: the next key of the search batch in progress (log entry 24). -/
def execGaugeSearch (s : State) : Host.Outcome State Fault Refusal := .next (s.gauLookKey 1)
/-- GAUGE_COUNT: the next key of the count batch in progress (log entry 24). -/
def execGaugeCount (s : State) : Host.Outcome State Fault Refusal := .next (s.gauLookKey 2)

/-! ### Updating (R245, R246, R248, R250) -/

/-- The update batch ended. -/
def State.gauUpdEnd (s : State) (b : Batch) (status : Nat) : State :=
  State.gauFill 33 ({ s with gauge := { s.gauge with upd := none, move := none } }.gauEnd b status)

/-- A record's result written: its status and the rank it acted on. -/
def State.gauRecPut (s : State) (b : Batch) (status rank : Nat) : State :=
  s.busWrite b.panel (s.gauTr b (b.res + 8 * b.next)) (natLE 8 (status + rank * 2 ^ 32))

/-- A record completed: the batch goes on, ends, or stops for its abort (R246, R257). -/
def State.gauRecOk (s : State) (b : Batch) (rank : Nat) : State :=
  let s := s.gauRecPut b Gs.ok rank
  let b := { b with next := b.next + 1, done := b.done + 1 }
  if b.done = b.num then s.gauUpdEnd b Gs.ok
  else if b.abort then s.gauUpdEnd b Gs.aborted
  else { s with gauge := { s.gauge with upd := some b } }
/-- A record failed: the batch stops. -/
def State.gauRecBad (s : State) (b : Batch) (status rank : Nat) : State := (s.gauRecPut b status rank).gauUpdEnd b status

/-- The free place nearest to a place, upward on a tie (R248). -/
def State.gauFree (s : State) (p : Nat) : Option Nat :=
  let cap := s.gauCap
  (List.range (cap + 1)).findSome? fun d =>
    if p + d < cap ∧ Tbl.has s.gauge.rows (p + d) = false then some (p + d)
    else if d ≤ p ∧ p - d < cap ∧ Tbl.has s.gauge.rows (p - d) = false then some (p - d)
    else none

/-- An INSERT record: refused, written at once, or its block move begun. -/
def State.gauInsert (s : State) (b : Batch) (rank : Nat) (g : GauRow) : State :=
  let mine := s.gauOf b.panel
  let c := mine.length
  if s.gauCap ≤ s.gauge.rows.length then s.gauRecBad b Gs.full rank
  else if s.gauQuota ≤ c then s.gauRecBad b Gs.quota rank
  else if c < rank then s.gauRecBad b Gs.badRank rank
  else
    let p := match mine[rank]? with | some e => e.1 | none => (mine.getLast?.map fun e => e.1 + 1).getD 0
    match s.gauFree p with
    | none => s.gauRecBad b Gs.full rank
    | some f =>
      if f = p then ({ s with gauge := { s.gauge with rows := Tbl.put s.gauge.rows p g } }.count P.gau 0x058).gauRecOk b rank
      else { s with gauge := { s.gauge with move := some ⟨f, p, g, rank⟩ } }

/-- A table with the entries between a free place and an INSERT's place moved one place toward the free one, and the new entry in the
place vacated (R248). -/
def GauMove.apply (m : GauMove) (rows : Tbl GauRow) : Tbl GauRow :=
  if m.place < m.free then
    Tbl.put (rows.map fun e => if m.place ≤ e.1 ∧ e.1 < m.free then (e.1 + 1, e.2) else e) m.place m.entry
  else
    Tbl.put (rows.map fun e => if m.free < e.1 ∧ e.1 < m.place then (e.1 - 1, e.2) else e) (m.place - 1) m.entry
/-- How many places a move shifts. -/
def GauMove.length (m : GauMove) : Nat := if m.place < m.free then m.free - m.place else m.place - 1 - m.free

/-- The next record of the update batch in progress where its operation is one of those named; nothing during a move. -/
def State.gauRecord (s : State) (ops : Nat → Bool) : State :=
  match s.gauge.upd, s.gauge.move with
  | some b, none =>
    let a := s.gauTr b (b.src + 96 * b.next)
    s.busRead b.panel a 96 fun r s =>
      let op := leAt r 0 1 % 16
      let rank := bitsAt (leAt r 4 4) 0 17
      let n := 10 * s.gauRows
      let bad := !(decide (1 ≤ op ∧ op ≤ 4)) || leAt r 0 1 / 16 != 0 || leAt r 1 3 != 0 || leAt r 4 4 / 2 ^ 17 != 0 ||
        leAt r 8 8 != 0 || !allZero (sliceOf r (16 + n) (40 - n)) || !allZero (sliceOf r (56 + n) (40 - n)) ||
        (op == 4 && !s.viewOk (s.gauPoster b) b.panel (b.src + 96 * b.next) 96 .wr)
      let g : GauRow := ⟨leAt r 16 n, leAt r 56 n, b.panel⟩
      if !ops op then s
      else if bad then s.gauRecBad b Gs.badJob rank
      else if op = 1 then s.gauInsert b rank g
      else
        match s.gauAt b.panel rank with
        | none => s.gauRecBad b Gs.badRank rank
        | some (p, old) =>
          if op = 2 then ({ s with gauge := { s.gauge with rows := Tbl.del s.gauge.rows p } }.count P.gau 0x060).gauRecOk b rank
          else if op = 3 then { s with gauge := { s.gauge with rows := Tbl.put s.gauge.rows p g } }.gauRecOk b rank
          else
            let bytes := natLE 40 old.value ++ natLE 40 old.care
            (s.busWrite b.panel (a + 16) bytes).gauRecOk b rank
  | _, _ => s

/-- GAUGE_UPDATE (R246): the next record of the update batch, whatever its operation. -/
def execGaugeUpdate (s : State) : Host.Outcome State Fault Refusal := .next (s.gauRecord fun _ => true)
/-- INSERT (R248): the next record where it is an INSERT. -/
def execInsert (s : State) : Host.Outcome State Fault Refusal := .next (s.gauRecord (· == 1))
/-- DELETE (R245): the next record where it is a DELETE. -/
def execDelete (s : State) : Host.Outcome State Fault Refusal := .next (s.gauRecord (· == 2))
/-- WRITE (R245): the next record where it is a WRITE. -/
def execGaugeWrite (s : State) : Host.Outcome State Fault Refusal := .next (s.gauRecord (· == 3))
/-- READ (R245): the next record where it is a READ. -/
def execGaugeRead (s : State) : Host.Outcome State Fault Refusal := .next (s.gauRecord (· == 4))

/-- GAUGE_MOVE_COMMIT (R248, R249): the rows moved and the new entry written; a row takes 4 ns, two cycles of the search clock. -/
def execGaugeMoveCommit (s : State) : Host.Outcome State Fault Refusal :=
  .next (match s.gauge.upd, s.gauge.move with
    | some b, some m =>
      let n := m.length * s.gauRows
      let s := { s with gauge := { s.gauge with rows := m.apply s.gauge.rows, move := none } }
      (((s.countN P.gau 0x068 n).countN P.gau 0x078 (2 * n)).count P.gau 0x058).gauRecOk b m.rank
    | _, _ => s)

/-- GAUGE_SPREAD_MOVE (R250): in idle time an entry moves to a free place with no entry between the two, so that no rank changes. -/
def execGaugeSpreadMove (src dst : Nat) (s : State) : Host.Outcome State Fault Refusal :=
  .next (match Tbl.at? s.gauge.rows src with
    | none => s
    | some g =>
      let between : Bool := s.gauge.rows.any fun e =>
        decide ((src < e.1 ∧ e.1 ≤ dst) ∨ (dst ≤ e.1 ∧ e.1 < src))
      if s.on P.gau R.gau_SPREAD_EN = false ∨ s.gauge.move.isSome = true ∨ s.gauCap ≤ dst ∨ between = true ∨ src = dst then s
      else
        { s with gauge := { s.gauge with rows := Tbl.put (Tbl.del s.gauge.rows src) dst g } }.countN P.gau 0x068 s.gauRows)

/-! ### Submission, WIDTH, disabling, abort (R237, R257, R259) -/

/-- BATCH_GO: queued, or ignored with QUEUE_REJ while 32 batches are queued. -/
def State.gauGo (s : State) : State :=
  if 32 ≤ s.gauge.queue.length then (s.flag P.gau R.gau_QUEUE_REJ).raise P.gau 2
  else s.gauSubmit (s.rd P.gau R.gau_BATCH_LO + s.rd P.gau R.gau_BATCH_HI * 2 ^ 32) 0 none
/-- BATCH_GO (R244). -/
def execBatchGo (ag : Agent) (s : State) : Host.Outcome State Fault Refusal := .next (s.gated ag P.gau 0x10C false State.gauGo)

/-- WIDTH written (R237): 0b11 is reserved and leaves it; while entries exist the write is ignored with CFG_REJ. -/
def State.setGauWidth (s : State) (w : Nat) : State :=
  if w % 4 = 3 then s
  else if s.gauge.rows ≠ [] then (s.flag P.gau R.gau_CFG_REJ).raise P.gau 3
  else s.wr P.gau R.gau_WIDTH w
/-- WIDTH_WRITE. -/
def execWidthWrite (ag : Agent) (width : Nat) (s : State) : Host.Outcome State Fault Refusal :=
  .next (s.gated ag P.gau 0x100 false fun s => s.setGauWidth width)

/-- Every queued batch returned UNIT_DISABLED (R257). -/
def State.gauReturn (s : State) : State :=
  s.gauge.queue.foldl (fun s b => s.gauEnd b Gs.disabled) { s with gauge := { s.gauge with queue := [] } }
/-- CTRL.EN of GAU cleared: batches in progress complete; without DRAIN the queued ones are returned. -/
def State.gauDisable (s : State) : State :=
  let s := s.wr P.gau R.common_EN 0
  if s.on P.gau R.common_DRAIN then s else s.gauReturn
/-- GAU_CTRL_EN_CLEAR. -/
def execGauCtrlEnClear (ag : Agent) (s : State) : Host.Outcome State Fault Refusal :=
  .next (s.gated ag P.gau 0x008 false fun s => s.whenB (s.en P.gau) fun s => s.gauDisable)

/-- The abort of a GAUGE item's batch: removed from the queue, or stopped after its current key or record (R257). -/
def State.gauAbort (s : State) (n : Nat) : State :=
  let mine (b : Batch) : Bool := b.item == some n
  let mark (b : Batch) : Batch := if mine b then { b with abort := true } else b
  match s.gauge.queue.find? mine with
  | some b => { s with gauge := { s.gauge with queue := s.gauge.queue.filter fun b => !mine b } }.gauEnd b Gs.aborted
  | none =>
    let s := { s with gauge := { s.gauge with upd := s.gauge.upd.map mark, look := s.gauge.look.map mark } }
    let s := s.gauCheck
    match s.gauge.upd, s.gauge.move with
    | some b, none => if b.abort then s.gauUpdEnd b Gs.aborted else s
    | _, _ => s

/-- A panel's entries deleted (R253). -/
def State.gauDropPanel (s : State) (panel : Nat) : State :=
  { s with gauge := { s.gauge with rows := s.gauge.rows.filter fun e => e.2.panel ≠ panel } }

end Sys2Proof.Machine
end

