-- ==== Sys2Proof/Machine/Archive.lean ====
section
/-!
DEFINITION. Sys2Proof/Machine/Archive.lean: the zones of the archive disk, its sector format from data bytes to channel bits and back,
disk places, and the requests of the HEM block to Selvedge (05_selvedge_channel.md R133, R134, R138 to R144; 03_seam_reclaim.md R101;
15_modes.md R397 note 9).
-/

namespace Sys2Proof.Machine

/-! ### Zones (R144) -/

/-- SPT_MAX of a rate. -/
def sptMax (rate rpm wedges : Nat) : Nat := (rate * 60000000 - 1200 * wedges * rpm) / (37150 * rpm)
/-- SPT_MAX of a rate at the present RPM and WEDGES. -/
def State.sptMax (s : State) (rate : Nat) : Nat := Machine.sptMax rate (s.rd P.svo R.svo_RPM) (s.rd P.svo R.svo_WEDGES)
/-- Whether a zone's SPT exceeds its SPT_MAX. -/
def State.zoneBad (s : State) (z : Nat) : Bool := decide (s.sptMax (s.rdI P.slv R.slv_RATE z) < s.rdI P.slv R.slv_SPT z)
/-- The zone of a track. -/
def State.zoneOf (s : State) (track : Nat) : Option Nat :=
  (List.range 32).find? fun z => decide (s.rdI P.slv R.slv_FIRST_TRACK z ≤ track) &&
    (z == 31 || decide (track < s.rdI P.slv R.slv_FIRST_TRACK (z + 1)))
/-- The sectors that requests may use on a track; none in a zone whose entry is invalid. -/
def State.trackSectors (s : State) (track : Nat) : Nat :=
  match s.zoneOf track with
  | some z => if s.zoneBad z then 0 else s.rdI P.slv R.slv_SPT z
  | none => 0

/-! ### Sector format (R138 to R143) -/

/-- A number whose bit b is element b of a list. -/
def natOfBits : List Bool → Nat
  | [] => 0
  | b :: r => (if b then 1 else 0) + 2 * natOfBits r
/-- Circulant I(c) times a 128-bit block: row a takes bit (a + c) mod 128. -/
def circulant (c x : Nat) : Nat := (x / 2 ^ c + x * 2 ^ (128 - c)) % 2 ^ 128
/-- The syndrome of the information bits in block row i. -/
def ldpcSyn (info i : Nat) : Nat :=
  xorAll ((List.range 258).flatMap fun j => (List.range 4).filterMap fun k =>
    if (j + 7 * k) % 29 = i then some (circulant ((11 * (k + 1) * j + 3 * k) % 128) (bitsAt info (128 * j) 128)) else none)
/-- The parity blocks from row `i` on, after block `p` of the row before. -/
def ldpcParity (info : Nat) : Nat → Nat → Nat → Nat
  | 0, _, _ => 0
  | n + 1, i, p =>
    let q := Nat.xor p (ldpcSyn info i)
    q + 2 ^ 128 * ldpcParity info n (i + 1) q
/-- The information bits of a sector: bit b is bit 7 - (b mod 8) of byte b / 8. -/
def ldpcInfo (l : List Byte) : Nat := natOfBits (l.flatMap fun x => bitsBE 8 x.toNat)
/-- The codeword of a sector's 4,128 information bytes (R139). -/
def ldpcCodeword (l : List Byte) : Nat :=
  let info := ldpcInfo l
  info + 2 ^ 33024 * ldpcParity info 29 0 0
/-- The scrambler's output bits (R140). -/
def slvScramble : Nat → Nat → List Bool
  | 0, _ => []
  | n + 1, r =>
    let out := r.testBit 14 != r.testBit 13
    out :: slvScramble n ((r * 2 + (if out then 1 else 0)) % 2 ^ 15)
/-- The scrambler's stream for a sector. -/
def slvStream (track sector : Nat) : Nat := natOfBits (slvScramble 36736 (1 + (track * 1009 + sector) % 32767))
/-- The preamble: 0b1100 repeated 52 times. -/
def slvPreamble : Nat := natOfBits ((List.range 208).map fun i => decide (i % 4 < 2))
/-- The sync mark, most significant bit first. -/
def slvSync : Nat := natOfBits (bitsBE 48 0x1E9AC5B360D7)
/-- A sector's 37,150 channel bits from its information bytes; the pad and the gap are 0. -/
def slvChannel (track sector : Nat) (info : List Byte) : Nat :=
  slvPreamble + slvSync * 2 ^ 208 + Nat.xor (ldpcCodeword info) (slvStream track sector) * 2 ^ 256
/-- The information bytes that a satisfied decode gives. -/
def slvInfo (track sector bits : Nat) : List Byte :=
  let cw := Nat.xor (bitsAt bits 256 36736) (slvStream track sector)
  (List.range 4128).map fun i => BitVec.ofNat 8 (xorAll ((List.range 8).map fun k => if cw.testBit (8 * i + k) then 2 ^ (7 - k) else 0))
/-- The archive tag of sector `i` of a request (R134, R141). -/
def slvTag (q : SlvReq) (i : Nat) (plain : List Byte) : List Byte :=
  let t := natLE 5 (q.lba + (q.slot + i) / 16) ++ natLE 2 (q.region + (q.slot + i) % 16 * 4096) ++ natLE 2 (q.ns + q.kind * 1024) ++
    natLE 4 q.hemIdx ++ natLE 3 q.track ++ natLE 2 (q.sector + i + q.head * 1024) ++ natLE 6 0 ++ natLE 4 (crc32c plain)
  t ++ natLE 4 (crc32c t)
/-- The disk place of a sector. -/
def diskPlace (head track sector : Nat) : Nat := head * 2 ^ 40 + track * 2 ^ 16 + sector
/-- The information bytes of sector `i` of a write: ciphertext, then tag (R143). -/
def State.slvForm (s : State) (q : SlvReq) (i : Nat) (plain : List Byte) : List Byte :=
  s.seal q.ns q.kind (q.lba + (q.slot + i) / 16) ((q.slot + i) % 16) plain ++ slvTag q i plain

/-- What a decoded sector gives (R142): its data, or the status 0x04 or 0x05. -/
def State.slvCheck (s : State) (q : SlvReq) (i : Nat) (info : List Byte) : List Byte ⊕ Nat :=
  let tag := sliceOf info 4096 32
  if leAt tag 28 4 ≠ crc32c (tag.take 28) ∨ leAt tag 13 3 ≠ q.track ∨ leAt tag 16 2 % 1024 ≠ q.sector + i ∨
      leAt tag 16 2 / 1024 % 16 ≠ q.head then .inr 0x04
  else
    let lba := leAt tag 0 5
    let idx := leAt tag 5 2 / 4096
    let plain := xts false (s.keyFor q.ns) (slotTweak lba idx) (info.take 4096)
    if crc32c plain ≠ leAt tag 24 4 then .inr 0x05 else .inl plain
/-- A whole sector of the disk read back. -/
def State.slvFetch (s : State) (q : SlvReq) (i : Nat) : Option (List Byte ⊕ Nat) :=
  match Tbl.at? s.selv.disk (diskPlace q.head q.track (q.sector + i)) with
  | some x => if x.whole then some (s.slvCheck q i (slvInfo q.track (q.sector + i) x.bits)) else none
  | none => none

/-! ### Requests of the HEM block (R133) -/

/-- A request pushed into the HEM block's queue: its index. -/
def State.slvPush (s : State) (q : SlvReq) : Nat × State :=
  let n := s.selv.hemNext
  (n, { s with selv := { s.selv with hemQ := s.selv.hemQ ++ [{ q with fromHem := true, idx := n }], hemNext := n + 1 } })
/-- The request for a whole unit at a disk place: 16 sectors, KIND 0x3 for a Hem unit and 0x1 otherwise. -/
def State.unitReq (s : State) (op place ns unit buf : Nat) : SlvReq :=
  let hem := s.hemOf ns unit
  { fromHem := true, idx := 0, op := op, head := place / 2 ^ 40, retry := 0, track := bitsAt place 16 24, sector := place % 2 ^ 16,
    count := 16, ns := ns, kind := if hem.isSome then 3 else 1, lba := unit, slot := 0, region := (hem.getD (0, 0)).1,
    hemIdx := (hem.getD (0, 0)).2, buf := buf, bad := false }
/-- A whole unit requested of Selvedge. -/
def State.slvUnit (s : State) (op place ns unit buf : Nat) : Nat × State := s.slvPush (s.unitReq op place ns unit buf)

/-- The next free disk place for a unit: 16 sectors of one track, tracks of head 0 upward (log entry 25); none on a full disk. -/
def State.diskAlloc (s : State) : Option (Nat × State) :=
  let track := s.seam.diskNext / 2 ^ 16
  let sector := s.seam.diskNext % 2 ^ 16
  let take (t x : Nat) : Nat × State := (diskPlace 0 t x, { s with seam := { s.seam with diskNext := t * 2 ^ 16 + x + 16 } })
  if sector + 16 ≤ s.trackSectors track then some (take track sector)
  else if 16 ≤ s.trackSectors (track + 1) ∧ track + 1 < 2 ^ 24 then some (take (track + 1) 0)
  else none

/-- ARCH_STALL set (R102). -/
def State.archStall (s : State) : State :=
  if s.on P.hem R.hem_ARCH_STALL then s else (s.flag P.hem R.hem_ARCH_STALL).raise P.hem 1

/-! ### The cold tier (15_modes.md R397 note 9) -/

/-- Whether reclaim migrates a unit instead of copying it. -/
def State.coldDue (s : State) (copy : Nat) : Bool :=
  match s.seam.copies.find? fun c => c.id = copy with
  | none => false
  | some c =>
    let w := s.mapWord c.ns c.unit
    let kind := ((s.slotAt (eLoc c.src)).map fun x => x.tag.kind).getD 0
    let age := s.rtcUs - (Tbl.at? s.seam.wroteAt (mapKey c.ns c.unit)).getD 0
    s.mode M.arch && !s.mode M.hem && c.fine.isNone && !eCmp c.src && kind == 1 && w.heat == 0 &&
      decide (s.rd P.hem R.hem_MIG_AGE_H * 3600000000 ≤ age) && decide (s.freeRows (rowCh c.srcRow) < s.rd P.recl R.recl_BG_FREE)
/-- A cold unit on its way to the disk: it waits for its staging buffer. -/
def State.startCold (s : State) (copy ns unit : Nat) (data : List Byte) : State :=
  let (id, s) := s.newId
  let m : Mig := ⟨id, ns, unit, .cold copy, data, 0, 0, 0, 0⟩
  { s with seam := { s.seam with migs := s.seam.migs ++ [m] } }.stgRequest ⟨.media, 0, .job id⟩

end Sys2Proof.Machine
end

