-- ==== Sys2Proof/Machine/SeamRead.lean ====
section
/-!
DEFINITION. Sys2Proof/Machine/SeamRead.lean: unit reads from issue to delivery, the read ladder and the deep decoders, and the
commands of reading (01_ledger_path.md R11; 04_nand_channels.md R115 to R122; 07_pinking.md R532; 08_pleat.md R215).
-/

namespace Sys2Proof.Machine

/-! ### Jobs -/

/-- A read by its number. -/
def State.job? (s : State) (id : Nat) : Option ReadJob := s.seam.reads.find? fun r => r.id = id
/-- A change to a read. -/
def State.updJob (s : State) (id : Nat) (f : ReadJob → ReadJob) : State :=
  { s with seam := { s.seam with reads := s.seam.reads.map fun r => if r.id = id then f r else r } }
/-- A read ended: its buffer given up. -/
def State.endJob (s : State) (id : Nat) : State :=
  { s with seam := { s.seam with reads := s.seam.reads.filter fun r => r.id ≠ id } }.stgDrop (.job id)
/-- A change to a slot of a read. -/
def ReadJob.updSlot (j : ReadJob) (idx : Nat) (f : ReadSlot → ReadSlot) : ReadJob :=
  { j with slots := j.slots.map fun x => if x.idx = idx then f x else x }

/-- The 4 KiB indices that a read needs. -/
def State.wantIdx (s : State) (j : ReadJob) : List Nat :=
  match j.use with
  | .host _ _ from_ len => (List.range 16).filter fun k => decide (from_ < 4096 * (k + 1) ∧ 4096 * k < from_ + len)
  | .merge h =>
    match s.heldAt h with
    | some x => if x.fine then (touched x.new).filter fun k => !coversFine x.new k else List.range 16
    | none => []
  | _ => List.range 16

/-- The places that a read senses, from the map entry in force when it is issued (R29 to R32), and whether they hold a compressed
extent. -/
def State.resolve (s : State) (j : ReadJob) : List ReadSlot × Bool :=
  match j.use with
  | .reclaim c =>
    match s.seam.copies.find? fun x => x.id = c with
    | some x => (x.from_.mapIdx fun k l => ⟨k, l, .sensing, 1⟩, false)
    | none => ([], false)
  | _ =>
    let e := s.entry j.ns j.unit
    let at_ (k l : Nat) : ReadSlot := ⟨k, l, .sensing, 1⟩
    if eUnmapped e then ([], false)
    else if eFine e then
      match s.group? (eGroup e) with
      | some g => ((s.wantIdx j).filterMap fun k =>
          let f := g.entries.getD k unmapped
          if eUnmapped f then none else some (at_ k (eLoc f)), false)
      | none => ([], false)
    else if eCmp e then
      let n := ((s.slotAt (eLoc e)).map fun x => x.tag.extLen + 1).getD 1
      ((List.range n).map fun k => at_ k (locStep (eLoc e) k), true)
    else ((s.wantIdx j).map fun k => at_ k (locStep (eLoc e) k), false)

/-! ### Delivery -/

/-- The bytes of a read put together: plaintext by index, zeros where nothing is mapped. -/
def State.jobBytes (s : State) (j : ReadJob) : List Byte :=
  overlay (zeros (if j.cmp then 4096 * j.slots.length else unitBytes)) (j.slots.map fun x => (4096 * x.idx, s.plainAt x.loc))

/-- A relocation copy that has its data placed in the reclaim stripe (R73, R76); without a place it waits as read. -/
def State.placeCopy (s : State) (id : Nat) : State :=
  match s.seam.copies.find? fun x => x.id = id with
  | none => s
  | some c =>
    match s.takePage true with
    | none => s
    | some (r, page, s) =>
      let q := s.seam.seq + 1
      let locs := (List.range c.from_.length).map fun k => pageLoc r page k
      let cs := s.seam.copies.map fun x => if x.id = id then { x with seq := q, locs := locs, passed := false } else x
      let s := { s with seam := { s.seam with seq := q, copies := cs } }
      let s := s.updRow r fun x => { x with spans := widen x.spans c.ns c.unit }
      s.addOp r (.programCopy id) locs (if s.on P.recl R.recl_FG_ACTIVE then 3 else 4)

/-- A held unit's merge done with the old content of its unit (R43). -/
def State.mergeHeld (s : State) (h : HeldUnit) (old : List Byte) : State :=
  let s := s.dropHeld h.id
  if h.fine then s.storeFine h.use h.ns h.unit h.panel h.new old
  else s.writeCoarse h.use h.ns h.unit h.panel (overlay old h.new)

/-- A read delivered. -/
def State.deliverJob (s : State) (j : ReadJob) (data : List Byte) : State :=
  let s := s.endJob j.id
  match j.use with
  | .host cmd dst from_ len => s.gather cmd dst (sliceOf data from_ len)
  | .stream x q => s.pnkDeliver j.pnk ⟨x, q, data, false, false, decide (24 ≤ j.pnk) && !(((s.stream? x).map (·.strm)).getD false)⟩
  | .merge h => match s.heldAt h with | some x => s.mergeHeld x data | none => s
  | .demote g => s.writeCoarse (.demote g) j.ns j.unit (((Tbl.at? s.nvme.ns j.ns).map (·.panel)).getD 0) data
  | .reclaim c => if s.coldDue c then s.startCold c j.ns j.unit data else s.placeCopy c

/-- A relocation copy abandoned: its unit keeps its entry (R76, R118). -/
def State.dropCopyOf (s : State) (id : Nat) : State :=
  { s with seam := { s.seam with copies := s.seam.copies.filter (fun x => x.id ≠ id),
                                 victims := s.seam.victims.map fun v => { v with copies := v.copies.filter (· ≠ id) } } }

/-- A read that failed (R118, R205). -/
def State.failJob (s : State) (j : ReadJob) : State :=
  let s := s.endJob j.id
  match j.use with
  | .host cmd _ _ _ => (s.markCmd cmd St.unrecovered).readTok cmd
  | .stream x q => s.pnkDeliver j.pnk ⟨x, q, [], true, false, decide (24 ≤ j.pnk) && !(((s.stream? x).map (·.strm)).getD false)⟩
  | .merge h =>
    match s.heldAt h with
    | some x =>
      let s := s.dropHeld h
      let s := match x.use with | .host k => s.markCmd k St.unrecovered | _ => s
      (s.dropUse x.use).wakeHeld x.ns x.unit
    | none => s
  | .demote g => s.updGroup g fun x => { x with copying := false, written := false }
  | .reclaim c => (s.dropCopyOf c).count P.recl 0x050

/-- The LUNs of a read. -/
def ReadJob.luns (j : ReadJob) : List Nat := (j.slots.map fun x => rowLunKey (locRow x.loc)).dedup
/-- Operations suspended for a read resume, and idle LUNs start their next one (R121, R122). -/
def State.freeLuns (s : State) (j : ReadJob) : State :=
  let ops := s.nand.ops.map fun o => if j.luns.contains (rowLunKey o.row) then { o with suspended := false } else o
  j.luns.foldl State.startOp { s with nand := { s.nand with ops := ops } }

/-- A read whose slots are all decoded or given up: failed, sent to Pleat, or delivered. -/
def State.checkJob (s : State) (id : Nat) : State :=
  match s.job? id with
  | none => s
  | some j =>
    if j.decode = 0 && j.issued && (j.slots.all fun x => x.st = .done ∨ x.st = .bad) then
      let s := s.freeLuns j
      if j.slots.any fun x => x.st = .bad then s.failJob j
      else if j.cmp then s.updJob id fun j => { j with decode := 1 }
      else s.deliverJob j (s.jobBytes j)
    else s

/-! ### The ladder (R116 to R118) -/

/-- NOFS of the NAND profile in the pattern block in use (19_trust_pattern.md R476). -/
def State.nofs (s : State) : Nat := leAt s.trust.pattern 0x840 1 % 16
/-- The step-2 attempts of a channel. -/
def State.retries (s : State) (ch : Nat) : Nat := min (s.rd (P.nfc ch) R.nfc_RR_HARD) s.nofs

/-- A slot uncorrectable after the last enabled step. -/
def State.slotBad (s : State) (id : Nat) (x : ReadSlot) : State :=
  let p := P.nfc (locCh x.loc)
  let s := s.updJob id fun j => j.updSlot x.idx fun x => { x with st := .bad }
  ((s.count p 0x060).err p 0x01 0 (x.loc * 128)).raise p 0

/-- A slot on to its soft steps from step `k` on. -/
def State.slotSoft (s : State) (id : Nat) (x : ReadSlot) (k : Nat) : State :=
  let p := P.nfc (locCh x.loc)
  if k ≤ 3 ∧ s.on p R.nfc_SOFT2_EN = true then
    s.updJob id fun j => j.updSlot x.idx fun x => { x with st := .softWait, step := 3 }
  else if k ≤ 4 ∧ s.on p R.nfc_SOFT3_EN = true then
    s.updJob id fun j => j.updSlot x.idx fun x => { x with st := .softWait, step := 4 }
  else s.slotBad id x

/-- A LUN at work on a program or erase that is not suspended. -/
def State.lunHeld (s : State) (k : Nat) : Bool := s.nand.ops.any fun o => decide (o.started ∧ rowLunKey o.row = k) && !o.suspended

/-- NAND_SLOT_DECODED (R116): step 1 ends for a slot. -/
def execNandSlotDecoded (job slot : Nat) (ok : Bool) (bits : Nat) (s : State) : Host.Outcome State Fault Refusal :=
  .next (match s.job? job with
    | none => s
    | some j =>
      match j.slots.find? fun x => x.idx = slot ∧ x.st = .sensing with
      | none => s
      | some x =>
        if s.lunHeld (rowLunKey (locRow x.loc)) then s
        else
          let p := P.nfc (locCh x.loc)
          if ok then
            let s := ((s.count p 0x040).countN p 0x048 bits).updJob job fun j => j.updSlot slot fun x => { x with st := .done }
            s.checkJob job
          else if s.retries (locCh x.loc) = 0 then (s.slotSoft job x 3).checkJob job
          else s.updJob job fun j => j.updSlot slot fun x => { x with st := .retry, step := 2 })

/-- READ_RETRY_ATTEMPT (R116): the next step-2 attempt of a read senses its failing slots with one more offset set; a set that
succeeds becomes the row's tracked levels. -/
def execReadRetryAttempt (job : Nat) (okSlots : List Nat) (s : State) : Host.Outcome State Fault Refusal :=
  .next (match s.job? job with
    | none => s
    | some j =>
      let failing := j.slots.filter fun x => x.st = .retry
      if failing = [] ∨ (j.slots.any fun x => x.st = .sensing) = true then s
      else
        let i := j.retry + 1
        let s := s.updJob job fun j => { j with retry := i }
        let s := (failing.map fun x => locCh x.loc).dedup.foldl (fun s c => s.count (P.nfc c) 0x050) s
        let s := failing.foldl (fun s x =>
          if okSlots.contains x.idx then
            (s.updJob job fun j => j.updSlot x.idx fun x => { x with st := .done }).updRow (locRow x.loc) fun r =>
              { r with levels := i }
          else if s.retries (locCh x.loc) ≤ i then s.slotSoft job x 3
          else s) s
        s.checkJob job)

/-- A deep decoder's queue. -/
def State.lddQueue (s : State) (d : Nat) : List SoftJob := (Tbl.at? s.nand.soft d).getD []
/-- The deep decoders that take jobs. -/
def State.ldds (s : State) : List Nat := (List.range 8).filter fun d => s.pageUp (P.ldd d) && s.en (P.ldd d)

/-- SOFT_JOB_SUBMIT (R117): to the deep decoder with the fewest queued jobs; with every queue full the job waits. The row needed
soft decode (R75). -/
def execSoftJobSubmit (job slot : Nat) (s : State) : Host.Outcome State Fault Refusal :=
  .next (match s.job? job with
    | none => s
    | some j =>
      match j.slots.find? fun x => x.idx = slot ∧ x.st = .softWait with
      | none => s
      | some x =>
        match leastBy (fun d => (s.lddQueue d).length) (s.ldds.filter fun d => (s.lddQueue d).length < 16) with
        | none => s
        | some d =>
          let soft : SoftJob := ⟨locCh x.loc, job, slot, if x.step = 3 then 2 else 3⟩
          let s := { s with nand := { s.nand with soft := Tbl.put s.nand.soft d (s.lddQueue d ++ [soft]) } }
          let s := (s.updJob job fun j => j.updSlot slot fun x => { x with st := .softJob d }).count (P.nfc (locCh x.loc)) 0x058
          s.updRow (locRow x.loc) fun r => { r with softAt := some s.rtcUs })

/-- LDD_JOB_COMPLETE (R117, R118, R128): the first job of a deep decoder ends; a failure goes on to step 4 or leaves the slot
uncorrectable. -/
def execLddJobComplete (ldd : Nat) (ok : Bool) (s : State) : Host.Outcome State Fault Refusal :=
  .next (match s.lddQueue ldd with
    | [] => s
    | q :: r =>
      let p := P.ldd ldd
      let s := { s with nand := { s.nand with soft := Tbl.put s.nand.soft ldd r } }
      let s := (s.count p (if q.bits = 2 then 0x040 else 0x048)).wr p R.ldd_LAST_CH q.ch
      let slot := (s.job? q.job).bind fun j => j.slots.find? fun x => x.idx = q.idx
      match slot with
      | none => s
      | some x =>
        if ok then (s.updJob q.job fun j => j.updSlot q.idx fun x => { x with st := .done }).checkJob q.job
        else
          let s := ((s.count p 0x050).err p 0x01 q.ch (x.loc * 128)).raise p 0
          (s.slotSoft q.job x (x.step + 1)).checkJob q.job)

/-! ### Issue (R11, R115, R120 to R122, R532) -/

/-- Programs and erases suspended for a host read (R122). -/
def State.suspendFor (s : State) (j : ReadJob) : State :=
  match j.use with
  | .host _ _ _ _ =>
    s.nand.ops.foldl (fun s o =>
      let p := P.nfc o.ch
      if o.started && !o.suspended && decide (o.suspends < 4) && s.on p R.nfc_SUSPEND_EN && j.luns.contains (rowLunKey o.row) then
        let ops := s.nand.ops.map fun x => if x.id = o.id then { x with suspended := true, suspends := x.suspends + 1 } else x
        { s with nand := { s.nand with ops := ops } }.count p 0x080
      else s) s
  | _ => s

/-- A read issued to its channels: rows' read counts advance, slots of channels that do not read fail (R124). -/
def State.senseJob (s : State) (j : ReadJob) : State :=
  let (slots, cmp) := s.resolve j
  let slots := slots.map fun x => if s.chanReads (locCh x.loc) then x else { x with st := .bad }
  let j := { j with slots := slots, cmp := cmp, issued := true }
  let s := s.updJob j.id fun _ => j
  let s := (slots.map fun x => locRow x.loc).dedup.foldl (fun s r => s.updRow r fun x => { x with reads := x.reads + 1 }) s
  (s.suspendFor j).checkJob j.id

/-- The Pinking unit that a unit of a stream goes to (R51, R190, R192, R207). -/
def State.streamTarget (s : State) (x : Stream) (j : ReadJob) : Option Nat :=
  let e := s.entry j.ns j.unit
  let ch := locCh (eLoc e)
  if x.strm then some x.unit
  else if !eFine e && !eCmp e && s.pnkOn ch && (s.onDisk j.ns j.unit).isNone then some ch
  else s.pnkDram

/-- A unit on the archive disk requested of Selvedge (R103; 05_selvedge_channel.md R133): 16 sectors into the read's buffer; with ARCH
off it cannot be read (15_modes.md R390). -/
def State.diskRead (s : State) (j : ReadJob) (place : Nat) : State :=
  if !s.mode M.arch then s.failJob j
  else
    let buf := match s.stgFor (.job j.id) with | some n => stgAddr n | none => 0
    let (idx, s) := s.slvUnit 1 place j.ns j.unit buf
    { s with seam := { s.seam with archReads := Tbl.put s.seam.archReads idx j.id } }.updJob j.id fun j => { j with issued := true }

/-- A unit of a filter stream issued: room in its Pinking unit, the key checked by the channel again (R532), EMPTY where nothing is
mapped. -/
def State.issueStream (s : State) (j : ReadJob) (id seq : Nat) : State :=
  match s.stream? id with
  | none => s.endJob j.id
  | some x =>
    let e := s.entry j.ns j.unit
    let disk := s.onDisk j.ns j.unit
    let earlier := x.strm && s.seam.reads.any fun r => match r.use with | .stream y q => y == id && decide (q < seq) | _ => false
    if earlier || (s.stgFor (.output id seq)).isNone then s
    else if eUnmapped e && disk.isNone then (s.endJob j.id).reportBare id seq 2
    else
      match s.streamTarget x j with
      | none => (s.endJob j.id).reportBare id seq 3
      | some u =>
        if !s.pnkRoom u then s
        else if decide (24 ≤ u) && (s.stgFor (.job j.id)).isNone then
          if s.stg.waits.any fun w => w.tag = .job j.id then s else s.stgRequest ⟨.media, x.panel, .job j.id⟩
        else
          let j := { j with pnk := u }
          let s := s.updJob j.id fun _ => j
          let s := s.whenB (decide (24 ≤ u) && !x.strm) fun s => s.count P.seam 0x080
          match disk with
          | some place => s.diskRead j place
          | none =>
            if s.keyOpen j.ns then s.senseJob j
            else
              let ch := locCh (match s.resolve j with | (y :: _, _) => y.loc | _ => 0)
              let p := P.nfc ch
              (((s.flag p R.nfc_KEY_LOCK_SEEN).err p 0x05 0 0).raise p 4).failJob j

/-- SEAM_READ_ISSUE (R11): a read whose buffer is reserved goes to its channel; where nothing is mapped it reads zeros (R35). -/
def execSeamReadIssue (job : Nat) (s : State) : Host.Outcome State Fault Refusal :=
  .next (match s.job? job with
    | none => s
    | some j =>
      if j.issued then s
      else
        match j.use with
        | .stream x q => s.issueStream j x q
        | _ =>
          if (s.stgFor (.job job)).isNone then s
          else
            match j.use, s.onDisk j.ns j.unit with
            | .host _ _ _ _, some place => s.diskRead j place
            | .merge _, some place => s.diskRead j place
            | _, _ => s.senseJob j)

end Sys2Proof.Machine
end

