-- ==== Sys2Proof/Machine/SeamMedia.lean ====
section
/-!
DEFINITION. Sys2Proof/Machine/SeamMedia.lean: ends of NAND operations, reclaim, wear, Unpick, checkpoints made durable, PFAIL_N, and
Hem appends and seals (03_seam_reclaim.md R71 to R98; 02_seam_map.md R52 to R66; 04_nand_channels.md R123, R124).
-/

namespace Sys2Proof.Machine

/-! ### Valid units of a row -/

/-- A unit that a slot of a row stands for: namespace, unit, fine index, its entry, its places. -/
structure ValidUnit where
  ns   : Nat
  unit : Nat
  fine : Option Nat
  src  : Nat
  locs : List Nat
deriving DecidableEq, Repr

/-- The entry and fine group that an Unpick before its commit point has taken out of the map (R91). -/
def State.savedWord (s : State) (ns unit : Nat) : Option (MapWord × Option FineGroup × Option Nat) :=
  s.seam.unpicks.findSome? fun u => Tbl.at? u.saved (mapKey ns unit)
/-- The unit whose current entry names a slot, where one does. -/
def State.validAt (s : State) (loc : Nat) (x : Slot) : Option ValidUnit :=
  let t := x.tag
  let saved := if eUnmapped (s.entry t.ns t.lba) then s.savedWord t.ns t.lba else none
  let e := (saved.map fun w => w.1.entry).getD (s.entry t.ns t.lba)
  if eUnmapped e then none
  else if eFine e then
    let g := match saved with | some w => w.2.1 | none => s.group? (eGroup e)
    let f := (g.bind fun g => g.entries[t.idx]?).getD unmapped
    if t.fine && !eUnmapped f && eLoc f == loc then some ⟨t.ns, t.lba, some t.idx, f, [loc]⟩ else none
  else if !t.fine && eLoc e == loc then
    some ⟨t.ns, t.lba, none, e, (List.range (t.extLen + 1)).map (locStep loc)⟩
  else none

/-- The slots of a row on the media. -/
def State.slotsOf (s : State) (r : Nat) : List (Nat × Slot) := s.nand.slots.filter fun e => locRow e.1 = r
/-- The valid units of a row. -/
def State.validUnits (s : State) (r : Nat) : List ValidUnit := (s.slotsOf r).filterMap fun e => s.validAt e.1 e.2
/-- The valid slots of a row. -/
def State.validCount (s : State) (r : Nat) : Nat := ((s.validUnits r).map fun v => v.locs.length).sum
/-- Whether a row holds migrated Hem units whose flash copies wait for the next durable checkpoint (R101 step 5). -/
def State.rowPinned (s : State) (r : Nat) : Bool :=
  (s.slotsOf r).any fun e => e.2.tag.kind == 3 &&
    match Tbl.at? s.seam.hem e.2.tag.hemReg with
    | some h => decide (h.freedTo ≤ e.2.tag.hemIdx ∧ e.2.tag.hemIdx < h.migWm)
    | none => false
/-- Whether programs, reads or unfinished units still touch a row. -/
def State.rowBusy (s : State) (r : Nat) : Bool :=
  (s.nand.ops.any fun o => o.row = r) || (s.seam.flight.any fun u => u.locs.any fun l => locRow l = r) ||
    (s.seam.copies.any fun c => c.locs.any fun l => locRow l = r) ||
    (s.seam.reads.any fun j => j.issued && j.slots.any fun x => locRow x.loc = r)

/-! ### Victims (R74 to R76, R82, R83) -/

/-- A row made a victim: a relocation copy of each valid unit is read (R76). -/
def State.startVictim (s : State) (r : Nat) (unpick : Bool) : State :=
  let vs := s.validUnits r
  let ids := (List.range vs.length).map (s.seam.nextId + ·)
  let cs := vs.mapIdx fun i v => (⟨s.seam.nextId + i, v.ns, v.unit, v.fine, v.src, v.locs, 0, r, [], false⟩ : Copy)
  let s := { s with seam := { s.seam with nextId := s.seam.nextId + vs.length, copies := s.seam.copies ++ cs,
                                          victims := s.seam.victims ++ [⟨r, ids, unpick⟩] } }
  let cls := if s.on P.recl R.recl_FG_ACTIVE then 3 else 4
  cs.foldl (fun s c => s.newJob (.reclaim c.id) c.ns c.unit 0 cls) s

/-- The rows of a channel that reclaim may take. -/
def State.reclaimable (s : State) (ch : Nat) : List Nat :=
  (s.seam.rows.filter fun e => rowCh e.1 = ch ∧ e.2.st = .full).map (·.1) |>.filter fun r =>
    !(s.seam.victims.any fun v => v.row = r) && !s.rowBusy r && !s.rowPinned r

/-- A refresh victim (R75): read too often, or in need of soft decode within 24 hours. -/
def State.refreshDue (s : State) (r : Nat) : Bool :=
  decide (s.rd P.recl R.recl_RD_LIMIT * 1000 < (s.row r).reads) ||
    (s.row r).softAt.any fun t => decide (s.rtcUs - t ≤ 86400000000)

/-- The victim of a channel (R75). -/
def State.pickVictim (s : State) (ch : Nat) : Option Nat :=
  let rs := s.reclaimable ch
  match rs.find? s.refreshDue with
  | some r => some r
  | none =>
    leastBy (fun r => s.validCount r * 65536 + (s.row r).erases) (rs.filter fun r => s.validCount r < s.rowSlots)

/-- A victim whose copies are all swapped or abandoned: erased, or retired at PE_LIMIT (R83); a retired row is left once it holds no
valid unit (R80, R531). -/
def State.finishVictim (s : State) (v : Victim) : State :=
  if v.copies ≠ [] ∨ s.rowBusy v.row = true then s
  else
    let drop : State → State := fun s => { s with seam := { s.seam with victims := s.seam.victims.filter fun x => x ≠ v } }
    if (s.row v.row).st = .retired then
      if s.validUnits v.row = [] then drop s else (drop s).startVictim v.row v.unpick
    else if s.validUnits v.row ≠ [] then
      if v.unpick then (drop s).startVictim v.row true else drop s
    else if s.rowPinned v.row then s
    else if !v.unpick && decide (s.rd P.recl R.recl_PE_LIMIT ≤ (s.row v.row).erases) then (drop s).retire v.row
    else if !s.chanReads (rowCh v.row) then s
    else (drop s).addOp v.row .erase [] (if v.unpick then 5 else 4)

/-- Every victim that can go on does. -/
def State.advanceVictims (s : State) : State := s.seam.victims.foldl State.finishVictim s

/-- Reclaim on a channel: started below BG_FREE, kept on to BG_FREE + 16, and on in the foreground (R74, R77); one victim at a time. -/
def State.reclaimChan (s : State) (ch : Nat) : State :=
  let bg := s.rd P.recl R.recl_BG_FREE
  let free := s.freeRows ch
  let on := decide (free < bg) || (s.seam.reclOn.contains ch && decide (free < bg + 16))
  let l := s.seam.reclOn.filter (· ≠ ch)
  let s := { s with seam := { s.seam with reclOn := if on then l ++ [ch] else l } }
  let busy := (s.seam.victims.any fun v => rowCh v.row = ch ∧ (s.row v.row).st ≠ .retired) ||
    s.nand.ops.any fun o => o.ch = ch ∧ o.kind = .erase
  if busy then s
  else if on || s.on P.recl R.recl_FG_ACTIVE || (s.reclaimable ch).any s.refreshDue then
    match s.pickVictim ch with
    | some r => s.startVictim r false
    | none => s
  else s

/-- Reclaim considered on every channel; placements and copies that found no room are tried again. -/
def State.reclaimCheck (s : State) : State :=
  let s := s.chans.foldl State.reclaimChan s.advanceVictims
  let waiting := (s.seam.copies.filter fun c => c.locs = [] ∧ (s.seam.reads.any fun j => j.use = .reclaim c.id) = false ∧
    (s.seam.migs.any fun m => m.use = .cold c.id) = false).map (·.id)
  (waiting.foldl State.placeCopy s).retryPlaces

/-- Static levelling after an erase (R82): the valid row with the lowest erase count of the channel moves. -/
def State.levelCheck (s : State) (ch : Nat) : State :=
  let rs := ((s.chanRows ch).filter fun r => (s.row r).st ≠ .retired).map fun r => (s.row r).erases
  let hi := rs.foldl max 0
  let lo := rs.foldl min hi
  if lo + s.rd P.recl R.recl_WL_DELTA < hi ∧ (s.seam.victims.any fun v => rowCh v.row = ch) = false then
    match leastBy (fun r => (s.row r).erases) (s.reclaimable ch) with
    | some r => s.startVictim r false
    | none => s
  else s

/-- RELOCATION_COMMIT (R76, R80): the map changes only where the entry still names the source. -/
def execRelocationCommit (copy : Nat) (s : State) : Host.Outcome State Fault Refusal :=
  .next (match s.seam.copies.find? fun c => c.id = copy ∧ c.passed with
    | none => s
    | some c =>
      let e := s.entry c.ns c.unit
      let cur := match c.fine with
        | none => e
        | some k => if eFine e && !eUnmapped e then ((s.group? (eGroup e)).bind fun g => g.entries[k]?).getD unmapped else unmapped
      let s := s.dropCopyOf copy
      let new := mkEntry (c.locs.getD 0 0) (eCmp c.src) (eHem c.src)
      let s := if cur = c.src && !eUnmapped cur then
          let s := match c.fine with
            | none => s.setEntry c.ns c.unit new
            | some k => s.updGroup (eGroup e) fun g => { g with entries := g.entries.set k new }
          s.count P.recl 0x048
        else s.count P.recl 0x050
      s.reclaimCheck)

/-! ### Unpick (R89 to R93) -/

/-- A change to an Unpick, named by its range. -/
def State.updUnpick (s : State) (u : Unpick) (f : Unpick → Unpick) : State :=
  { s with seam := { s.seam with unpicks := s.seam.unpicks.map fun x => if x = u then f x else x } }

/-- Step 2 of an Unpick: the range unmapped, a checkpoint forced; the disk places of its cold-tier units join the erase set
(15_modes.md R397 note 10). -/
def State.unpickStep2 (s : State) (u : Unpick) : State :=
  let cold := (List.range u.count).filterMap fun k => s.onDisk u.ns (u.first + k)
  let keep := (List.range u.count).filterMap fun k =>
    let w := s.mapWord u.ns (u.first + k)
    let d := s.onDisk u.ns (u.first + k)
    if eUnmapped w.entry && d.isNone then none
    else some (mapKey u.ns (u.first + k), w, if eFine w.entry then s.group? (eGroup w.entry) else none, d)
  let s := s.updUnpick u fun x => { x with step := 2, cold := cold, saved := keep }
  ((List.range u.count).foldl (fun s k => s.unmap u.ns (u.first + k)) s).checkpointDue

/-- One unit given back what it held, unless it has been written since (R91). -/
def State.restoreUnit (s : State) (key : Nat) (w : MapWord) (g : Option FineGroup) (d : Option Nat) : State :=
  let ns := key / 2 ^ 40
  let unit := key % 2 ^ 40
  if !eUnmapped (s.entry ns unit) || (s.onDisk ns unit).isSome then s
  else
    let s := match d with
      | some place => { s with seam := { s.seam with archive := Tbl.put s.seam.archive key place } }
      | none => s
    match g with
    | none => s.setWord ns unit w
    | some x =>
      let i := Tbl.freeKey s.seam.fine s.poolSize 0
      let s := { s with seam := { s.seam with fine := Tbl.put s.seam.fine i x } }
      (s.setWord ns unit { w with entry := groupEntry i }).poolGrown
/-- What an Unpick before its commit point took out of the map put back, in the map and in the checkpoint being written (R91). -/
def State.restoreUnpick (s : State) (u : Unpick) : State :=
  let s := { s with seam := { s.seam with unpicks := s.seam.unpicks.filter fun x => x ≠ u } }
  let s := u.saved.foldl (fun s e => s.restoreUnit e.1 e.2.1 e.2.2.1 e.2.2.2) s
  { s with seam := { s.seam with ckpt := s.seam.ckpt.map fun c => { c with root := s.rootNow c.root.seqCut c.root.number } } }

/-- Waiting Unpicks begun while fewer than 16 are in progress, in submission order. -/
def State.nextUnpicks (s : State) : State :=
  let active := (s.seam.unpicks.filter fun u => u.step ≠ 0).length
  ((s.seam.unpicks.filter fun u => u.step = 0).take (16 - active)).foldl State.unpickStep2 s

/-- An Unpick cancelled before its commit point: no effect (R91). -/
def State.cancelUnpick (s : State) (u : Unpick) (code : Nat) : State :=
  let s := s.restoreUnpick u
  let s := match u.item with | some n => s.endSeam n code 0 0 | none => s
  s.nextUnpicks
/-- The abort of a UNPICK item (R91). -/
def State.abortUnpick (s : State) (n : Nat) : State :=
  match s.seam.unpicks.find? fun u => u.item = some n with
  | none => s
  | some u => if u.step < 4 then s.cancelUnpick u 0x09 else s.updUnpick u fun u => { u with aborted := true }

/-- The erase set of a range (R89 step 3): rows that may hold a slot of its namespace and span. -/
def State.eraseSet (s : State) (ns first count : Nat) : List Nat :=
  (s.seam.rows.filter fun e => (e.2.st = .open_ ∨ e.2.st = .full) ∧
    (e.2.spans.any fun p => p.1 == ns && decide (p.2.1 < first + count ∧ first ≤ p.2.2)) = true).map (·.1)

/-- An Unpick ended (R89 step 6, R91). -/
def State.endUnpick (s : State) (u : Unpick) : State :=
  let s := { s with seam := { s.seam with unpicks := s.seam.unpicks.filter fun x => x ≠ u } }
  let s := ((s.count P.unpk 0x040).whenB u.aborted fun s => s.count P.unpk 0x058).raise P.unpk 0
  let s := match u.item with
    | some n => s.endSeam n (if u.residue then 0x07 else 0) 0 0
    | none => s
  s.nextUnpicks

/-- A cold-tier unit of an Unpick to be overwritten with a scramble pattern: its write waits for a staging buffer. -/
def State.startScramble (s : State) (u : Unpick) (place : Nat) : State :=
  let (id, s) := s.newId
  let stamp := s.free
  let m : Mig := ⟨id, u.ns, u.first, .scramble, (List.range unitBytes).map (Config.scrambleByte stamp), place, 0, 0, 0⟩
  { s with free := s.free + 1, seam := { s.seam with migs := s.seam.migs ++ [m] } }.stgRequest ⟨.media, 0, .job id⟩

/-- An Unpick at its commit point: its erase set formed, its rows closed and made victims (R89 steps 3 and 4). -/
def State.commitUnpick (s : State) (u : Unpick) : State :=
  let rows := s.eraseSet u.ns u.first u.count
  let v := { u with step := 4, rows := rows, saved := [] }
  let s := s.updUnpick u fun _ => v
  let s := v.cold.foldl (fun (s : State) p => s.startScramble v p) s
  if rows = [] ∧ v.cold = [] then s.endUnpick v
  else
    let s := rows.foldl (fun (s : State) r => s.updRow r fun x => { x with st := .full }) s
    let fresh := rows.filter fun r => !(s.seam.victims.any fun w => w.row = r)
    let old := s.seam.victims.map fun w => if rows.contains w.row then { w with unpick := true } else w
    (fresh.foldl (fun (s : State) r => s.startVictim r true) { s with seam := { s.seam with victims := old } }).advanceVictims

/-- A row of erase sets done: taken off every Unpick, each ending with its last row. -/
def State.unpickRow (s : State) (r : Nat) (residue : Bool) : State :=
  let us := s.seam.unpicks.filter fun u => u.rows.contains r
  us.foldl (fun s u =>
    let v := { u with rows := u.rows.filter (· ≠ r), residue := u.residue || residue, step := 5 }
    let s := s.updUnpick u fun _ => v
    if v.rows = [] ∧ v.cold = [] then s.endUnpick v else s) s

/-- A cold-tier unit of Unpicks overwritten, or listed as residue with channel 0xFF and its track. -/
def State.unpickCold (s : State) (place : Nat) (residue : Bool) : State :=
  let us := s.seam.unpicks.filter fun u => u.cold.contains place
  us.foldl (fun s u =>
    let v := { u with cold := u.cold.filter (· ≠ place), residue := u.residue || residue }
    let s := s.updUnpick u fun _ => v
    if v.rows = [] ∧ v.cold = [] then s.endUnpick v else s) s

/-- ROWS_LEFT, over all Unpicks. -/
def State.rowsLeft (s : State) : Nat := (s.seam.unpicks.map fun u => u.rows.length).sum

/-! ### Hem appends and seals (R95 to R97) -/

/-- A change to a region. -/
def State.updHem (s : State) (r : Nat) (f : HemRegion → HemRegion) : State :=
  { s with seam := { s.seam with hem := Tbl.upd s.seam.hem r f } }
/-- Flash that Hem units hold: sealed and not yet released, in units. -/
def State.hemUse (s : State) : Nat := (s.seam.hem.map fun e => e.2.nextIdx - e.2.freedTo).sum
/-- HEM_BUDGET_GIB in units. -/
def State.hemBudget (s : State) : Nat := s.rd P.hem R.hem_HEM_BUDGET_GIB * 16384
/-- The 65,536 bytes of a sealed unit (R95). -/
def hemUnitBytes (region idx time : Nat) (data prev : List Byte) : List Byte :=
  let t := natLE 2 region ++ natLE 2 0 ++ natLE 4 idx ++ natLE 4 data.length ++ natLE 4 0 ++ natLE 8 time ++ prev ++ natLE 4 0
  data ++ zeros (65472 - data.length) ++ t ++ natLE 4 (crc32c t)
/-- The open unit of a region sealed and placed. -/
def State.hemSeal (s : State) (r : Nat) : State :=
  match Tbl.at? s.seam.hem r with
  | none => s
  | some h =>
    if h.openData = [] then s
    else
      let b := hemUnitBytes r h.nextIdx s.rtcUs h.openData h.tail
      let s := s.updHem r fun h => { h with nextIdx := h.nextIdx + 1, tail := sha256 b, openData := [],
                                            sealedAt := Tbl.put h.sealedAt h.nextIdx s.rtcUs }
      let u := { mkUnit (.hem r h.nextIdx) h.ns (h.first + h.nextIdx) (((Tbl.at? s.nvme.ns h.ns).map (·.panel)).getD 0) none 3 false b
        with hemReg := r, hemIdx := h.nextIdx }
      let s := (s.count P.hem 0x048).putUnits [u] 2
      s.whenB (decide (s.hemBudget ≤ s.hemUse)) fun s => s.raise P.hem 2
/-- An append taken into its region's open unit (R97). -/
def State.hemTake (s : State) (item r : Nat) (data : List Byte) : State :=
  match Tbl.at? s.seam.hem r with
  | none => s.endSeam item 0x06 0 0
  | some h =>
    if h.count ≤ h.nextIdx then s.endSeam item 0x06 0 0
    else
      let s := if 65472 < h.openData.length + data.length then s.hemSeal r else s
      match Tbl.at? s.seam.hem r with
      | none => s
      | some h =>
        if h.count ≤ h.nextIdx then s.endSeam item 0x06 0 0
        else s.updHem r fun h =>
          { h with openData := h.openData ++ data, appends := h.appends ++ [⟨item, h.nextIdx, h.openData.length⟩] }
/-- A sealed unit of a region has passed program status: appends complete up to the first unit that has not (R97). -/
def State.hemPassed (s : State) (r idx : Nat) : State :=
  match Tbl.at? s.seam.hem r with
  | none => s
  | some h =>
    let passed := h.passed ++ [idx]
    let upTo := (List.range h.nextIdx).foldl (fun n k => if n = k ∧ (decide (k < h.passedTo) || passed.contains k) then k + 1 else n) 0
    let due := h.appends.filter fun a => a.idx < upTo
    let s := s.updHem r fun h => { h with passedTo := upTo, passed := passed.filter fun k => upTo ≤ k,
                                          appends := h.appends.filter fun a => upTo ≤ a.idx }
    due.foldl (fun s a => (s.endSeam a.item 0 0 (a.idx + a.off * 2 ^ 32 + r * 2 ^ 48)).count P.hem 0x040) s
/-- Appends that waited for the budget tried again (R102). -/
def State.hemRetry (s : State) : State :=
  if s.hemUse < s.hemBudget then
    let l := s.seam.hemWait
    l.foldl (fun s e => s.hemTake e.1 e.2.1 e.2.2) { s with seam := { s.seam with hemWait := [] } }
  else s

/-! ### Ends of NAND operations (R79 to R81, R123, R531) -/

/-- A copy placed again from its source after its target row failed (R80). -/
def State.redoCopies (s : State) (r : Nat) : State :=
  (s.seam.copies.filter fun c => c.locs.any fun l => locRow l = r).foldl (fun s c => s.placeCopy c.id) s
/-- A failed row retired, and its valid units moved out (R80, R81, R531). -/
def State.failRow (s : State) (r : Nat) : State :=
  let s := s.retire r
  if s.seam.victims.any fun v => v.row = r then s else s.startVictim r false
/-- Units taken back from a program and placed again, each with a new number (R81). -/
def State.replaceUnits (s : State) (seqs : List Nat) : State :=
  let us := s.seam.flight.filter fun u => seqs.contains u.seq
  let s := { s with seam := { s.seam with flight := s.seam.flight.filter fun u => !seqs.contains u.seq } }
  us.foldl (fun s u => s.place [{ u with passed := false, applied := false }] false (useCls u.use)) s

/-- Units whose program has passed. -/
def State.passUnits (s : State) (seqs : List Nat) : State :=
  let us := s.seam.flight.filter fun u => seqs.contains u.seq
  us.foldl (fun s u =>
    let fl := s.seam.flight.map fun x => if x.seq = u.seq then { x with passed := true } else x
    let s := { s with seam := { s.seam with flight := fl } }.writeSlots u
    match u.use with | .hem r k => s.hemPassed r k | _ => s) s

/-- A copy whose program has passed: its slots carry the source's bytes and tags with the new number (R76). -/
def State.passCopy (s : State) (c : Copy) : State :=
  let s := (c.from_.zip c.locs).foldl (fun s e =>
    match s.slotAt e.1 with
    | some x => { s with nand := { s.nand with slots := Tbl.put s.nand.slots e.2 { x with tag := { x.tag with seq := c.seq } } } }
    | none => s) s
  let cs := s.seam.copies.map fun x => if x.id = c.id then { x with passed := true } else x
  { s with seam := { s.seam with copies := cs } }

/-- The error of a failed program at its channel (R127). -/
def State.programError (s : State) (o : NandOp) : State :=
  let p := P.nfc o.ch
  ((s.count p 0x068).err p 0x02 0 ((o.slots.headD (pageLoc o.row 0 0)) * 128)).raise p 1
/-- The operations that a failed program of a row ends: it and those queued for its row, which is programmed no more (R79). -/
def State.rowOps (s : State) (o : NandOp) : List NandOp := s.nand.ops.filter fun x => x.id = o.id ∨ x.row = o.row
/-- They are taken off, and the LUN's next operation starts. -/
def State.dropRowOps (s : State) (o : NandOp) : State :=
  { s with nand := { s.nand with ops := s.nand.ops.filter fun x => ¬(x.id = o.id ∨ x.row = o.row) } }.startOp (rowLunKey o.row)
/-- The numbers of the units that operations program. -/
def opSeqs (l : List NandOp) : List Nat := l.flatMap fun o => match o.kind with | .programUnits q => q | _ => []
/-- A failed program of units or of a copy (R80, R81): its row retired and emptied, the copies placed in the row and the units still to
be programmed there placed again. -/
def State.programFailed (s : State) (o : NandOp) : State :=
  ((((s.dropRowOps o).programError o).failRow o.row).redoCopies o.row).replaceUnits (opSeqs (s.rowOps o))

/-- A device left waiting by PFAIL during Rebuild enters Ward once no started operation is left (R66). -/
def State.pfailSettle (s : State) : State :=
  if s.seam.pfailWard && !(s.nand.ops.any fun o => o.started) then
    { s with seam := { s.seam with pfailWard := false } }.fault' 0x0C P.seam 0 0
  else s

/-- NAND_PROGRAM_DONE (R123): a started program ends; a failure retires the row and writes its units again. -/
def execNandProgramDone (op : Nat) (ok : Bool) (s : State) : Host.Outcome State Fault Refusal :=
  .next (match s.op? op with
    | none => s
    | some o =>
      if !o.started || o.suspended then s
      else
        match o.kind with
        | .erase => s.dropOp o
        | .programUnits seqs =>
          if ok then (((s.dropOp o).passUnits seqs).reclaimCheck).pfailSettle else (s.programFailed o).pfailSettle
        | .programCopy id =>
          if !ok then (s.programFailed o).pfailSettle.err P.recl 0x03 0 o.row
          else
            let s := s.dropOp o
            match s.seam.copies.find? fun c => c.id = id with
            | none => s.pfailSettle
            | some c => (s.passCopy c).pfailSettle
        | .programRoot area =>
          let s := s.dropOp o
          if ok then s.pfailSettle
          else
            let s := (s.programError o).retire o.row
            match s.seam.ckpt with
            | some c => (if c.root.number % 2 = area then s.programRoot c.root.number else s).pfailSettle
            | none => s.pfailSettle)

/-- An erased row: its slots gone, free again. -/
def State.rowErased (s : State) (r : Nat) : State :=
  let s := { s with nand := { s.nand with slots := s.nand.slots.filter fun e => locRow e.1 ≠ r } }
  let s := s.updRow r fun x => { freshRow with erases := x.erases + 1 }
  (s.count P.recl 0x040).freeChanged

/-- A residue row listed (R92; 13_host_network.md R367): the newest 1,024 entries are kept. -/
def State.addResidue (s : State) (r ns : Nat) : State :=
  let e := natLE 1 (rowCh r) ++ natLE 1 (rowCe r + rowLun r * 16) ++ natLE 2 (rowBlock r) ++ natLE 2 ns ++ natLE 2 0 ++ natLE 8 s.rtcUs
  let s := { s with seam := { s.seam with residue := (e :: s.seam.residue).take 1024 } }
  let s := s.wr P.unpk R.unpk_RESIDUE_ROWS (min 65535 (s.rd P.unpk R.unpk_RESIDUE_ROWS + 1))
  (s.err P.unpk 0x01 (rowCh r) r).raise P.unpk 1

/-- NAND_ERASE_DONE (R79, R82, R92): a started erase ends; a row that fails is retired, and for an Unpick scrambled or listed as
residue. -/
def execNandEraseDone (op : Nat) (ok scrambled : Bool) (s : State) : Host.Outcome State Fault Refusal :=
  .next (match s.op? op with
    | none => s
    | some o =>
      if !o.started || o.suspended || o.kind ≠ .erase then s
      else
        let s := s.dropOp o
        let mine := s.seam.unpicks.find? fun u => u.rows.contains o.row
        let s := s.whenB mine.isSome fun s => s.count P.unpk 0x048
        let s := if ok then (s.rowErased o.row).unpickRow o.row false
          else
            let p := P.nfc o.ch
            let s := (((s.count p 0x070).err p 0x03 0 (pageLoc o.row 0 0 * 128)).raise p 2).err P.recl 0x02 0 o.row
            let s := s.retire o.row
            match mine with
            | some u =>
              let s := s.whenB (!scrambled) fun s => s.addResidue o.row u.ns
              let s := s.whenB scrambled fun s =>
                { s with nand := { s.nand with slots := s.nand.slots.filter fun e => locRow e.1 ≠ o.row } }
              s.unpickRow o.row (!scrambled)
            | none => s
        ((s.levelCheck o.ch).reclaimCheck).checkSpace.pfailSettle)

/-- Queued operations returned to Seam (R123, R124): programs placed again; an erase leaves its row as it was, a victim still. -/
def State.returnOps (s : State) (which : NandOp → Bool) : State :=
  let back := s.nand.ops.filter fun o => !o.started && which o
  let s := { s with nand := { s.nand with ops := s.nand.ops.filter fun o => o.started || !which o } }
  back.foldl (fun s o =>
    match o.kind with
    | .programUnits seqs => s.replaceUnits seqs
    | .programCopy id => s.placeCopy id
    | .programRoot area => s.programRoot area
    | .erase => { s with seam := { s.seam with victims := s.seam.victims ++ [⟨o.row, [], s.seam.unpicks.any fun u => u.rows.contains o.row⟩] } }) s

/-- The slots of queued reads given up (R118, R123, R124). -/
def State.failReads (s : State) (which : ReadSlot → Bool) : State :=
  (s.seam.reads.filter fun j => j.issued).foldl (fun s j =>
    let hit (x : ReadSlot) : Bool := x.st == .sensing && which x
    let give (x : ReadSlot) : ReadSlot := if hit x then { x with st := .bad } else x
    if j.slots.any hit then (s.updJob j.id fun j => { j with slots := j.slots.map give }).checkJob j.id else s) s

/-- TARGET_BUSY_TIMEOUT (R123): ERR_CODE 0x06; the target's queued operations return to Seam. -/
def execTargetBusyTimeout (ch ce : Nat) (s : State) : Host.Outcome State Fault Refusal :=
  .next (s.whenB (s.chanPresent ch && s.pageUp (P.nfc ch)) fun s =>
    let s := (s.err (P.nfc ch) 0x06 0 (mkLoc ch ce 0 0 0 0 0 * 128)).raise (P.nfc ch) 5
    let s := s.returnOps fun o => o.ch = ch && rowCe o.row == ce
    s.failReads fun x => locCh x.loc == ch && locCe x.loc == ce)

/-- CTRL.EN of a channel cleared (R124): without DRAIN queued operations return to Seam, started ones run on. -/
def State.nfcDisable (s : State) (ch : Nat) : State :=
  let s := s.wr (P.nfc ch) R.common_EN 0
  if s.on (P.nfc ch) R.common_DRAIN then s
  else (s.returnOps fun o => o.ch == ch).failReads fun x => locCh x.loc == ch && s.lunBusy (rowLunKey (locRow x.loc))
/-- CTRL.EN of a channel set: its queued operations start, and units that waited for a channel are placed. -/
def State.chanEnabled (s : State) (ch : Nat) : State :=
  ((s.nand.ops.filter fun o => o.ch = ch).foldl (fun s o => s.startOp (rowLunKey o.row)) s).whenB s.seamRuns State.reclaimCheck
/-- NFC_CTRL_EN_CLEAR. -/
def execNfcCtrlEnClear (ag : Agent) (ch : Nat) (s : State) : Host.Outcome State Fault Refusal :=
  .next (s.whenB (decide (ch < nChannels s.part)) fun s => s.gated ag (P.nfc ch) 0x008 false fun s =>
    s.whenB (s.en (P.nfc ch)) fun s => s.nfcDisable ch)

/-! ### Checkpoints (R52 to R55) -/

/-- CHECKPOINT_DUE (R52, R54). -/
def execCheckpointDue (s : State) : Host.Outcome State Fault Refusal :=
  .next (s.whenB (s.seamRuns && !s.seam.pfailHold) State.checkpointDue)

/-- A region's flash copies below the mark that a durable root records released. -/
def Root.release (r : Root) (e : Nat × HemRegion) : Nat × HemRegion :=
  (e.1, { e.2 with freedTo := max e.2.freedTo (((Tbl.at? r.hem e.1).map fun h => h.migWm).getD 0) })

/-- The checkpoint in progress durable: its root stands, its lists are in force, and what waited on it goes on (R53, R54, R63,
R89, R101). -/
def State.ckptDurable (s : State) : State :=
  match s.seam.ckpt with
  | none => s
  | some c =>
    let r := c.root
    let s := { s with nand := { s.nand with ops := s.nand.ops.filter fun o => match o.kind with | .programRoot _ => false | _ => true } }
    let s := { s with seam := { s.seam with
      ckpt := none
      ckptAt := s.rtcUs
      lists := r.lists
      rootA := if r.number % 2 = 0 then some r else s.seam.rootA
      rootB := if r.number % 2 = 0 then s.seam.rootB else some r
      hem := s.seam.hem.map r.release } }
    let s := (s.wr P.seam R.seam_CKPT_SEQ_LO (r.seqCut % 2 ^ 32)).wr P.seam R.seam_CKPT_SEQ_HI (r.seqCut / 2 ^ 32)
    let s := (s.wr P.seam R.seam_CKPT_BUSY 0).count P.seam 0x070
    let s := (s.seam.unpicks.filter fun u => u.step = 2 && c.unpicks.contains (u.ns, u.first)).foldl State.commitUnpick s
    let s := s.whenB c.due State.checkpointDue
    s.hemRetry.reclaimCheck

/-! ### PFAIL_N (R61 to R66) -/

/-- PFAIL_N_ASSERT (R61): the pin falls and the deglitch begins. -/
def execPfailNAssert (s : State) : Host.Outcome State Fault Refusal :=
  .next (s.whenB s.powered fun s => { s with seam := { s.seam with pfailLow := true } })

/-- PFAIL_N_DEASSERT (R61): the pin rises; a deglitch not yet passed is void, a flush in progress goes on. -/
def execPfailNDeassert (s : State) : Host.Outcome State Fault Refusal :=
  .next { s with seam := { s.seam with pfailLow := false } }

/-- PFAIL recorded (R66): PFAIL_SEEN and the counter. -/
def State.pfailSeen (s : State) : State := (s.flag P.seam R.seam_PFAIL_SEEN).count P.seam 0x088
/-- Programs held and the checkpoint in progress abandoned. -/
def State.pfailStop (s : State) : State :=
  { s with seam := { s.seam with pfailHold := true, ckpt := none } }.wr P.seam R.seam_CKPT_BUSY 0

/-- The Shuttle cores clock-stopped. -/
def State.haltShuttle (s : State) : State :=
  { s with cores := s.cores.map fun (e : Nat × Core) => (e.1, if e.1 < 32 then { e.2 with st := .stopped } else e.2) }

/-- PFAIL_LATCH (R61, R65, R66): an assertion has passed the deglitch. -/
def execPfailLatch (s : State) : Host.Outcome State Fault Refusal :=
  .next (s.whenB s.seam.pfailLow fun s =>
    if s.dev = Dev.slumber ∨ s.dev = Dev.vault then { s with seam := { s.seam with pfailAon := true } }
    else
      let s := s.pfailSeen
      if s.dev = Dev.rebuild then { s.pfailStop with seam := { s.pfailStop.seam with pfailWard := true } }.pfailSettle
      else if s.seamRuns then
        let s := if s.dev = Dev.doze then s.dozeWake 0x40 else s
        if s.mode M.compat then
          let s := s.pfailStop
          ({ s with seam := { s.seam with flushing := true } }.haltShuttle).stopDisk
        else s.pfailStop.fault' 0x0C P.seam 0 0
      else s)

/-- FLUSH_DONE (R61, R64): the flush record is programmed and status-checked; with power still present the device enters Ward. -/
def execFlushDone (ms : Nat) (okA okB : Bool) (s : State) : Host.Outcome State Fault Refusal :=
  .next (s.whenB s.seam.flushing fun s =>
    let s := (s.seam.unpicks.filter fun u => u.step = 2).foldl State.restoreUnpick s
    let u := (s.seam.unpicks.filter fun u => 4 ≤ u.step).map fun u => (u.ns, u.first, u.count, u.rows, u.cold)
    let f : FlushRec := ⟨s.seqCut, s.seam.map, s.seam.fine, min ms 255, okA, okB, u⟩
    let s := { s with seam := { s.seam with flush := some f, flushing := false } }
    let s := (s.flag P.seam R.seam_FLUSH_DONE).wr P.seam R.seam_FLUSH_MS (min ms 255)
    s.fault' 0x0C P.seam 0 0)

end Sys2Proof.Machine
end

