-- ==== Sys2Proof/Machine/Selvedge.lean ====
section
/-!
DEFINITION. Sys2Proof/Machine/Selvedge.lean: the Selvedge channel: requests from check to completion, migration to the disk, and the
commands of the Selvedge family (05_selvedge_channel.md R129 to R166; 03_seam_reclaim.md R101 to R103).
-/

namespace Sys2Proof.Machine

/-! ### Units on their way to the disk (R101, R102; 15_modes.md R397 notes 9 and 10) -/

/-- A change to a unit on its way to the disk. -/
def State.updMig (s : State) (id : Nat) (f : Mig → Mig) : State :=
  { s with seam := { s.seam with migs := s.seam.migs.map fun m => if m.id = id then f m else m } }
/-- A unit no longer on its way: its buffer given up. -/
def State.dropMig (s : State) (id : Nat) : State :=
  { s with seam := { s.seam with migs := s.seam.migs.filter fun m => m.id ≠ id } }.stgDrop (.job id)

/-- Whether the disk takes requests: Selvedge enabled and powered, the spindle at speed. -/
def State.slvReady (s : State) : Bool :=
  s.mode M.arch && s.pageUp P.slv && s.en P.slv && s.on P.svo R.svo_SPN_AT_SPEED && !s.selv.fltLow

/-- A unit that cannot reach the disk: ARCH_STALL; a Hem region's migration pauses, a cold unit is copied instead, an overwriting is
listed as residue once its tries are used up. -/
def State.migStall (s : State) (m : Mig) : State :=
  let s := s.archStall
  match m.use with
  | .hem r _ => (s.dropMig m.id).updHem r fun h => { h with migrating := false }
  | .cold c => (s.dropMig m.id).placeCopy c
  | .scramble => s.updMig m.id fun m => { m with phase := 0 }

/-- A unit whose bytes are ready written to the disk: its staging buffer filled, a place taken, the write requested. -/
def State.migGo (s : State) (m : Mig) : State :=
  match s.stgFor (.job m.id) with
  | none => s
  | some n =>
    if !s.slvReady then s.migStall m
    else
      let placed := match m.use with | .scramble => some (m.place, s) | _ => s.diskAlloc
      match placed with
      | none => s.migStall m
      | some (place, s) =>
        let s := (s.wr P.hem R.hem_ARCH_STALL 0).fabWrite (stgAddr n) m.bytes
        let (idx, s) := s.slvUnit 2 place m.ns m.unit (stgAddr n)
        s.updMig m.id fun m => { m with place := place, phase := 1, req := idx }

/-- Units that wait for their buffer or for the disk tried again. -/
def State.migKick (s : State) : State :=
  (s.seam.migs.filter fun m => m.phase = 0 && m.bytes ≠ []).foldl (fun s m => if s.slvReady then s.migGo m else s) s

/-- The units of a region or of all regions that are not yet on disk. -/
def State.hemLeft (s : State) : Nat := (s.seam.hem.map fun e => e.2.nextIdx - e.2.migWm).sum
/-- Whether a region's next unit may migrate: sealed, passed, mapped, no mismatch before. -/
def HemRegion.canMigrate (h : HemRegion) : Bool := !h.migStop && decide (h.migWm < h.passedTo)
/-- Whether a region's oldest unit on flash is older than MIG_AGE_H. -/
def State.hemAged (s : State) (h : HemRegion) : Bool :=
  match Tbl.at? h.sealedAt h.migWm with
  | some t => decide (s.rd P.hem R.hem_MIG_AGE_H * 3600000000 < s.rtcUs - t)
  | none => false
/-- The reading of a region's next unit begun: a media buffer asked for (R101 step 1). -/
def State.hemMigRead (s : State) (r : Nat) (h : HemRegion) : State :=
  let (id, s) := s.newId
  let m : Mig := ⟨id, h.ns, h.first + h.migWm, .hem r h.migWm, [], 0, 0, 0, 0⟩
  let s := s.updHem r fun h => { h with migrating := true }
  { s with seam := { s.seam with migs := s.seam.migs ++ [m] } }.stgRequest ⟨.media, 0, .job id⟩

/-- A unit read back as written (R101 step 4): the archive index and MIG_WM, or the cold unit's entry, advance. -/
def State.migDone (s : State) (m : Mig) : State :=
  let s := s.dropMig m.id
  let archive := Tbl.put s.seam.archive (mapKey m.ns m.unit) m.place
  match m.use with
  | .hem r k =>
    let s := { s with seam := { s.seam with archive := archive } }
    let s := (s.updHem r fun h => { h with migWm := k + 1, migrating := false }).setEntry m.ns m.unit unmapped
    let s := s.count P.hem 0x050
    match Tbl.at? s.seam.hem r with
    | some h =>
      s.whenB (h.canMigrate && (s.hemAged h || decide (s.rd P.hem R.hem_MIG_LO * s.hemBudget < 100 * s.hemLeft))) fun s =>
        s.hemMigRead r h
    | none => s
  | .cold c =>
    match s.seam.copies.find? fun x => x.id = c with
    | none => s
    | some x =>
      let s := s.dropCopyOf c
      let s := if s.entry m.ns m.unit = x.src then
          ({ s with seam := { s.seam with archive := archive } }.setEntry m.ns m.unit unmapped).count P.recl 0x048
        else s.count P.recl 0x050
      s.reclaimCheck
  | .scramble => s.unpickCold m.place false

/-- A residue entry of a sector place not overwritten (15_modes.md R397 note 10): channel 0xFF and the track. -/
def State.coldResidue (s : State) (m : Mig) : State :=
  let e := natLE 1 0xFF ++ natLE 3 (bitsAt m.place 16 24) ++ natLE 2 m.ns ++ natLE 2 0 ++ natLE 8 s.rtcUs
  let s := { s with seam := { s.seam with residue := (e :: s.seam.residue).take 1024 } }
  ((s.err P.unpk 0x01 0xFF (bitsAt m.place 16 24)).raise P.unpk 1).dropMig m.id |>.unpickCold m.place true

/-- A write or a read-back that failed on the disk: the unit goes to a new place (R102); an overwriting is tried for 4 revolutions. -/
def State.migAgain (s : State) (m : Mig) : State :=
  match m.use with
  | .scramble =>
    if 3 ≤ m.tries then s.coldResidue m
    else (s.updMig m.id fun m => { m with tries := m.tries + 1 }).migGo { m with tries := m.tries + 1 }
  | _ => s.migGo m

/-- A request re-issued from its failed sector with RETRY one higher (R154). -/
def SlvReq.again (q : SlvReq) (i : Nat) : SlvReq :=
  { q with retry := q.retry + 1, sector := q.sector + i, count := q.count - i, lba := q.lba + (q.slot + i) / 16,
           slot := (q.slot + i) % 16, buf := q.buf + 4096 * i }

/-- What the HEM block does at the completion of one of its requests. -/
def State.hemDisk (s : State) (q : SlvReq) (status fail : Nat) : State :=
  match Tbl.at? s.seam.archReads q.idx with
  | some job =>
    let s := { s with seam := { s.seam with archReads := Tbl.del s.seam.archReads q.idx } }
    match s.job? job with
    | none => s
    | some j =>
      if status = 0 then
        let data := match s.stgFor (.job job) with | some n => memRead s.mem (stgAddr n) unitBytes | none => []
        s.deliverJob j data
      else if status = 1 then
        let (idx, s) := s.slvPush (q.again fail)
        { s with seam := { s.seam with archReads := Tbl.put s.seam.archReads idx job } }
      else s.failJob j
  | none =>
    match s.seam.migs.find? fun m => m.phase ≠ 0 ∧ m.req = q.idx with
    | none => s
    | some m =>
      match s.stgFor (.job m.id) with
      | none => s
      | some n =>
        if m.phase = 1 then
          if status = 0 then
            let (idx, s) := s.slvUnit 1 m.place m.ns m.unit (stgAddr n)
            s.updMig m.id fun m => { m with phase := 2, req := idx }
          else if status = 3 then s.migAgain m
          else s.migStall m
        else if status = 0 then
          if memRead s.mem (stgAddr n) unitBytes == m.bytes then s.migDone m else s.migAgain m
        else if status = 1 then
          let (idx, s) := s.slvPush (q.again fail)
          s.updMig m.id fun m => { m with req := idx }
        else if status = 2 ∨ status = 4 ∨ status = 5 then s.migAgain m
        else s.migStall m

/-! ### Completions (R135, R136, R165, R166) -/

/-- A completion presented to Take-up: status, FAIL_IDX, and the request's source and index. -/
def State.slvPost (s : State) (fromHem : Bool) (idx status fail : Nat) : State :=
  s.postCpl ⟨61, none, status, fail, (if fromHem then 2 ^ 16 else 0) + idx⟩
/-- The error of a request at one of its sectors. -/
def State.slvErr (s : State) (q : SlvReq) (i code bit : Nat) : State :=
  (s.err P.slv code 0 (q.track + q.head * 2 ^ 24 + (q.sector + i) * 2 ^ 32)).raise P.slv bit

/-- A request completed without having run. -/
def State.slvRefuse (s : State) (q : SlvReq) (status : Nat) : State :=
  let s := s.slvPost q.fromHem q.idx status 0x3FF
  if q.fromHem then s.hemDisk q status 0 else s

/-- The request in progress ended. -/
def State.slvEnd (s : State) (status fail : Nat) : State :=
  match s.selv.run with
  | none => s
  | some r =>
    let q := r.req
    let s := { s with selv := { s.selv with run := none } }
    let s := (s.wgOff.wr P.slv R.slv_RG_STATE 0).wr P.slv R.slv_TL_LOCK 0
    let s := if status = 1 then s.count P.slv 0x060
      else if status = 2 then (s.count P.slv 0x068).slvErr q fail 0x01 0
      else if status = 3 then (s.count P.slv 0x070).slvErr q fail 0x02 1
      else if status = 4 ∨ status = 5 then s.slvErr q fail 0x04 3
      else s
    let s := s.slvPost q.fromHem q.idx status fail
    if q.fromHem then s.hemDisk q status (if fail = 0x3FF then 0 else fail) else s

/-- ARC_WG dropped inside a sector: the sector is incomplete on the disk (R158). -/
def State.slvBreak (s : State) (status : Nat) : State :=
  match s.selv.run with
  | none => s.wgOff
  | some r =>
    if s.on P.slv R.slv_WG_STATE then
      let place := diskPlace r.req.head r.req.track (r.req.sector + r.at_)
      let s := { s with selv := { s.selv with disk := Tbl.put s.selv.disk place ⟨0, false⟩ } }
      s.slvEnd status r.at_
    else s

/-- The head on its track: the read gate opens, or the write gate once no preamplifier frame runs and no write inhibit holds (R131,
R156, R176). -/
def State.slvOpen (s : State) : State :=
  match s.selv.run with
  | none => s
  | some r =>
    if r.seeking then s
    else if r.req.op = 1 then s.wr P.slv R.slv_RG_STATE 1
    else if s.selv.paFrame.isSome || s.on P.svo R.svo_WR_INHIBIT then s
    else s.wr P.slv R.slv_WG_STATE 1

/-- Discards the request in progress at the end of its sector and retracts the heads (R161; 06_selvedge_servo.md R183). -/
def State.slvDiscard (s : State) : State :=
  ({ s with selv := { s.selv with run := none } }.wgOff.wr P.slv R.slv_RG_STATE 0).svoEmergency

/-! ### Seeks (06_selvedge_servo.md R173) -/

/-- A seek begun: the head frame of the preamplifier is sent, and write inhibit holds. -/
def State.seekStart (s : State) (track head : Nat) (fw : Bool) : State :=
  let s := { s with servo := { s.servo with seek := some ⟨track, head, fw, false⟩, seekDone := false, good := 0 } }
  let s := ((s.wr P.svo R.svo_SEEK_BUSY 1).wr P.svo R.svo_ON_TRACK 0).wr P.svo R.svo_WR_INHIBIT 1
  let s := ((s.wr P.svo R.svo_CUR_HEAD head).svoState 1).count P.svo 0x040
  s.paStart (Config.headRegister.toNat * 256 + head)

/-! ### Taking a request (R132, R133, R143, R144) -/

/-- The ring's next descriptor. -/
def slvDesc (b : List Byte) (idx : Nat) : SlvReq where
  fromHem := false
  idx := idx
  op := leAt b 0 1 % 16
  head := leAt b 0 1 / 16
  retry := leAt b 1 1 % 4
  track := leAt b 2 3
  sector := leAt b 6 2 % 1024
  count := leAt b 8 2 % 1024
  ns := leAt b 10 2 % 1024
  kind := leAt b 10 2 / 1024 % 16
  lba := leAt b 12 5
  slot := leAt b 17 1 % 16
  region := leAt b 18 2 % 4096
  hemIdx := leAt b 20 4
  buf := leAt b 24 6
  bad := leAt b 1 1 / 4 != 0 || leAt b 5 1 != 0 || leAt b 6 2 / 1024 != 0 || leAt b 8 2 / 1024 != 0 || leAt b 10 2 / 2 ^ 14 != 0 ||
    leAt b 17 1 / 16 != 0 || leAt b 18 2 / 4096 != 0 || leAt b 30 2 != 0

/-- BAD_REQ of R135. -/
def State.slvBad (s : State) (q : SlvReq) : Bool :=
  q.bad || !(q.op == 1 || q.op == 2) || (q.op == 2 && q.retry != 0) || !(q.kind == 1 || q.kind == 3) ||
    (q.kind == 1 && (q.region != 0 || q.hemIdx != 0)) || q.count == 0 || decide (s.trackSectors q.track < q.sector + q.count) ||
    q.buf % 4096 != 0

/-- A request taken (R132, R135, R143, R159): completed at once, or its seek begun. -/
def State.slvTake (s : State) (q : SlvReq) : State :=
  let s := s.wr P.slv R.slv_CUR_ZONE ((s.zoneOf q.track).getD 0)
  if !(s.en P.slv || s.selv.draining) || !s.mode M.arch then s.slvRefuse q 0x08
  else if s.selv.fltLow then s.slvRefuse q 0x0C
  else if !s.keyOpen q.ns then s.slvRefuse q 0x06
  else if s.slvBad q then s.slvRefuse q 0x07
  else if !s.on P.svo R.svo_SPN_AT_SPEED then s.slvRefuse q 0x0B
  else
    { s with selv := { s.selv with run := some ⟨q, 0, false, false, true, [], 0⟩ } }.seekStart q.track q.head false

/-- Whether the ring holds requests. -/
def State.ringHas (s : State) : Bool := s.rd P.slv R.slv_RING_HEAD != s.rd P.slv R.slv_RING_TAIL
/-- The address of the ring's entry i. -/
def State.ringAddr (s : State) (i : Nat) : Nat := s.rd P.slv R.slv_RING_LO + s.rd P.slv R.slv_RING_HI * 2 ^ 32 + 32 * i
/-- The ring's next entry taken, unless an abort has ended it already. -/
def State.ringTake (s : State) : State :=
  let i := s.rd P.slv R.slv_RING_HEAD
  let s := s.wr P.slv R.slv_RING_HEAD (if i + 1 = s.rd P.slv R.slv_RING_LEN then 0 else i + 1)
  let s := { s with selv := { s.selv with lastHem := false } }
  if s.selv.aborts.contains (false, i) then
    { s with selv := { s.selv with aborts := s.selv.aborts.filter fun a => a ≠ (false, i) } }
  else s.busRead 0 (s.ringAddr i) 32 fun b s => s.slvTake (slvDesc b i)

/-- SLV_REQUEST_START (R133): one request at a time, from each source in turn while both hold requests. -/
def execSlvRequestStart (s : State) : Host.Outcome State Fault Refusal :=
  .next (s.whenB (s.pagesAwake && s.pageUp P.slv && s.dev != Dev.ward && s.dev != Dev.fill && s.selv.run.isNone) fun s =>
    let s := s.migKick
    match s.selv.hemQ with
    | q :: r =>
      if s.ringHas && s.selv.lastHem then s.ringTake
      else { s with selv := { s.selv with hemQ := r, lastHem := true } }.slvTake q
    | [] => if s.ringHas then s.ringTake else s)

/-! ### Reading (R142, R150 to R154) -/

/-- The threshold of a revolution (R154). -/
def State.syncThr (s : State) (retry : Nat) : Nat := max 24 (s.rd P.slv R.slv_SYNC_THR - retry * s.rd P.slv R.slv_SYNC_STEP)
/-- Whether a candidate ranks before another (R151): higher score, then nearer the nominal position, then earlier. -/
def candBefore (a b : Int × Nat) : Bool :=
  decide (b.2 < a.2) || (a.2 == b.2 && (decide (a.1.natAbs < b.1.natAbs) || (a.1.natAbs == b.1.natAbs && decide (a.1 < b.1))))
/-- The three best candidates. -/
def State.slvCands (s : State) (retry : Nat) (scores : List (Int × Nat)) : List (Int × Nat) :=
  (sortBy candBefore (scores.filter fun c => decide (-16 ≤ c.1 ∧ c.1 ≤ 16 ∧ s.syncThr retry ≤ c.2 ∧ c.2 ≤ 48))).take 3

/-- A sector delivered: the next follows, or the request ends (R132, R135, R160). -/
def State.slvNext (s : State) (r : SlvRun) : State :=
  let s := { s with selv := { s.selv with run := some { r with at_ := r.at_ + 1, cands := [], tried := 0 } } }
  if r.at_ + 1 = r.req.count then s.slvEnd (if r.paFault then 0x0C else 0) 0x3FF
  else if r.aborted then s.slvEnd 0x09 (r.at_ + 1)
  else s

/-- SLV_DECODE_ATTEMPT_DONE: the attempt at the best candidate not yet tried ends. `scores` are those of the sector's positions, and
`decoded` says whether the attempt met every parity check. -/
def execSlvDecodeAttemptDone (scores : List (Int × Nat)) (decoded : Bool) (s : State) : Host.Outcome State Fault Refusal :=
  .next (match s.selv.run with
    | none => s
    | some r =>
      if r.seeking ∨ r.req.op ≠ 1 then s
      else
        let q := r.req
        let (lock, s) := s.drawFree 1
        let s := s.wr P.slv R.slv_TL_LOCK lock
        let cands := if r.tried = 0 then s.slvCands q.retry scores else r.cands
        let lost := if q.retry = 3 then 2 else 1
        match cands[r.tried]? with
        | none => s.slvEnd lost r.at_
        | some c =>
          let n := r.tried + 1
          let s := (s.wr P.slv R.slv_LAST_SCORE c.2).wr P.slv R.slv_LAST_OFFSET (ofSigned 6 c.1)
          let s := s.wr P.slv R.slv_LAST_CAND n
          match (if decoded then s.slvFetch q r.at_ else none) with
          | some (.inl data) =>
            let s := (s.count P.slv 0x040).whenB (n == 2) fun s => s.count P.slv 0x050
            let s := s.whenB (n == 3) fun s => s.count P.slv 0x058
            (s.busWrite 0 (q.buf + 4096 * r.at_) data).slvNext r
          | some (.inr status) => s.slvEnd status r.at_
          | none =>
            if n < cands.length then { s with selv := { s.selv with run := some { r with cands := cands, tried := n } } }
            else s.slvEnd lost r.at_)

/-! ### Writing (R156) -/

/-- SLV_SECTOR_WRITTEN: the sector in progress is whole on the disk; the next one follows under the same assertion. In Ward, and at a
COMPAT flush, the request is then discarded (R161). -/
def execSlvSectorWritten (s : State) : Host.Outcome State Fault Refusal :=
  .next (match s.selv.run with
    | none => s
    | some r =>
      if r.req.op ≠ 2 || !s.on P.slv R.slv_WG_STATE then s
      else
        let q := r.req
        s.busRead 0 (q.buf + 4096 * r.at_) 4096 fun plain s =>
          let bits := slvChannel q.track (q.sector + r.at_) (s.slvForm q r.at_ plain)
          let place := diskPlace q.head q.track (q.sector + r.at_)
          let s := { s with selv := { s.selv with disk := Tbl.put s.selv.disk place ⟨bits, true⟩ } }.count P.slv 0x048
          if s.dev = Dev.ward ∨ s.seam.flushing = true then s.slvDiscard else s.slvNext r)

/-! ### Preamplifier port (R130 to R132) -/

/-- PA_GO: a frame from PA_RD, PA_ADDR and PA_DATA; ignored while PA_BUSY is 1 (log entry 26). -/
def State.paGo (s : State) : State :=
  s.whenB (!s.on P.slv R.slv_PA_BUSY) fun s =>
    s.paStart (s.rd P.slv R.slv_PA_RD * 2 ^ 15 + s.rd P.slv R.slv_PA_ADDR * 2 ^ 8 + s.rd P.slv R.slv_PA_DATA)
/-- PA_GO (R130). -/
def execPaGo (ag : Agent) (s : State) : Host.Outcome State Fault Refusal := .next (s.gated ag P.slv 0x114 false State.paGo)

/-- PA_FRAME_DONE: the frame ends, its data captured for a read; a frame that waited follows, and a write that waited for it begins. -/
def execPaFrameDone (data : Nat) (s : State) : Host.Outcome State Fault Refusal :=
  .next (match s.selv.paFrame with
    | none => s
    | some f =>
      if !s.selv.paSent then s
      else
        let s := s.whenB (f.testBit 15) fun s => s.wr P.slv R.slv_PA_RDATA (data % 256)
        let q := s.selv.paQ
        let s := { s with selv := { s.selv with paFrame := none, paSent := false, paQ := q.drop 1 } }.wr P.slv R.slv_PA_BUSY 0
        match q with
        | g :: _ => s.paStart g
        | [] => s.slvOpen)

/-- ARC_FLT_N_ASSERT (R132). -/
def execArcFltNAssert (s : State) : Host.Outcome State Fault Refusal :=
  .next (s.whenB (s.pagesAwake && s.pageUp P.slv) fun s =>
    let s := { s with selv := { s.selv with fltLow := true } }.flag P.slv R.slv_PA_FAULT
    match s.selv.run with
    | none => (s.err P.slv 0x03 0 0).raise P.slv 2
    | some r =>
      let s := s.slvErr r.req r.at_ 0x03 2
      if r.req.op = 2 then
        if s.on P.slv R.slv_WG_STATE then s.slvBreak 0x0C else s.slvEnd 0x0C 0x3FF
      else { s with selv := { s.selv with run := some { r with paFault := true } } })

/-! ### Ring, aborts, disabling, zones (R133, R144, R159, R160) -/

/-- RING_TAIL_WRITE: Bobbin firmware is the ring's only writer. -/
def execRingTailWrite (ag : Agent) (tail : Nat) (s : State) : Host.Outcome State Fault Refusal :=
  .next (s.gated ag P.slv 0x124 false fun s =>
    s.whenB (match ag with | .bobbin _ => true | _ => false) fun s => s.wr P.slv R.slv_RING_TAIL tail)

/-- Whether ring entry i is queued. -/
def State.inRing (s : State) (i : Nat) : Bool :=
  let n := s.rd P.slv R.slv_RING_LEN
  let h := s.rd P.slv R.slv_RING_HEAD
  decide (i < n) && decide ((i + n - h) % n < (s.rd P.slv R.slv_RING_TAIL + n - h) % n) && !s.selv.aborts.contains (false, i)

/-- SLV_ABORT (R160). -/
def execSlvAbort (fromHem : Bool) (idx : Nat) (s : State) : Host.Outcome State Fault Refusal :=
  .next (s.whenB (s.pagesAwake && s.pageUp P.slv) fun s =>
    match s.selv.run.filter fun r => r.req.fromHem = fromHem ∧ r.req.idx = idx with
    | some r =>
      if r.seeking || !(s.on P.slv R.slv_WG_STATE || s.on P.slv R.slv_RG_STATE) then s.slvEnd 0x09 r.at_
      else { s with selv := { s.selv with run := some { r with aborted := true } } }
    | none =>
      if fromHem then
        match s.selv.hemQ.find? fun q => q.idx = idx with
        | some q => { s with selv := { s.selv with hemQ := s.selv.hemQ.filter fun x => x.idx ≠ idx } }.slvRefuse q 0x09
        | none => s.slvPost true idx 0x0A 0x3FF
      else if s.inRing idx then
        { s with selv := { s.selv with aborts := s.selv.aborts ++ [(false, idx)] } }.slvPost false idx 0x09 0x3FF
      else s.slvPost false idx 0x0A 0x3FF)

/-- Every queued request returned UNIT_DISABLED. -/
def State.slvReturn (s : State) : State :=
  let n := s.rd P.slv R.slv_RING_LEN
  let h := s.rd P.slv R.slv_RING_HEAD
  let ring := ((List.range n).map fun k => (h + k) % n).filter s.inRing
  let q := s.selv.hemQ
  let s := { s with selv := { s.selv with hemQ := [], aborts := [] } }.wr P.slv R.slv_RING_HEAD (s.rd P.slv R.slv_RING_TAIL)
  q.foldl (fun s x => s.slvRefuse x 0x08) (ring.foldl (fun s i => s.slvPost false i 0x08 0x3FF) s)
/-- CTRL.EN of SLV cleared (R159). -/
def State.slvDisable (s : State) : State :=
  let s := s.wr P.slv R.common_EN 0
  if s.on P.slv R.common_DRAIN then { s with selv := { s.selv with draining := true } } else s.slvReturn
/-- SLV_CTRL_EN_CLEAR. -/
def execSlvCtrlEnClear (ag : Agent) (s : State) : Host.Outcome State Fault Refusal :=
  .next (s.gated ag P.slv 0x008 false fun s => s.whenB (s.en P.slv) fun s => s.slvDisable)

/-- ZONE_CFG_REJ set. -/
def State.zoneRej (s : State) : State := ((s.flag P.slv R.slv_ZONE_CFG_REJ).err P.slv 0x05 0 0).raise P.slv 4
/-- A zone entry set, or refused with ZONE_CFG_REJ (R144). -/
def State.setZone (s : State) (z rate spt : Nat) : State :=
  if rate % 4096 < 2000 ∨ 4000 < rate % 4096 ∨ s.sptMax (rate % 4096) < spt % 1024 then s.zoneRej
  else (s.wrI P.slv R.slv_RATE z rate).wrI P.slv R.slv_SPT z spt
/-- ZONE_CFG_WRITE: by Thimble, or by Bobbin firmware, which sets the zones (R144; log entry 27). -/
def execZoneCfgWrite (ag : Agent) (zone : Nat) (rate spt : Nat) (s : State) : Host.Outcome State Fault Refusal :=
  .next (s.whenB (decide (zone < 32)) fun s => s.gated ag P.slv (0x200 + 8 * zone) false fun s =>
    s.whenB (ag != .host) fun s => s.setZone zone rate spt)

end Sys2Proof.Machine
end

