-- ==== Sys2Proof/Machine/Servo.lean ====
section
/-!
DEFINITION. Sys2Proof/Machine/Servo.lean: the servo block and the Treadle link: what a wedge does, seeks, the spindle, write inhibit,
responses, and the commands of the servo family (06_selvedge_servo.md R167 to R187).
-/

namespace Sys2Proof.Machine

/-- Whether the servo block works: powered, and enabled or finishing a seek (R182). -/
def State.svoUp (s : State) : Bool := s.pagesAwake && s.pageUp P.svo && s.dev != Dev.fill && (s.en P.svo || s.servo.seek.isSome)

/-! ### Write inhibit (R158, R176) -/

/-- Whether a condition of R176 holds. -/
def State.inhibitNow (s : State) : Bool :=
  !s.servo.seekDone || !s.on P.svo R.svo_ON_TRACK || decide ((s.rd P.svo R.svo_WR_INH_PES : Int) < s.servo.pesLast.natAbs) ||
    s.servo.missed != 0 || s.servo.attn || s.servo.shock || !s.on P.svo R.svo_SPN_AT_SPEED || s.on P.trl R.trl_LINK_FAULT

/-- Write inhibit signalled: a write in progress ends with WRITE_ABORT. -/
def State.inhibit (s : State) (shock : Bool) : State :=
  let s := s.wr P.svo R.svo_WR_INHIBIT 1
  if s.on P.slv R.slv_WG_STATE then
    let s := (s.count P.svo 0x048).whenB shock fun s => s.err P.svo 0x04 0 0
    s.slvBreak 0x03
  else s

/-! ### Position error and the loops (R170, R171, R173, R175) -/

/-- The nearest integer to a fraction; on a tie the spec names neither neighbour, and a free value decides. -/
def State.roundDiv (s : State) (n : Int) (d : Nat) : Int × State :=
  let q := n / (d : Int)
  let r := n - q * d
  if 2 * r < d then (q, s)
  else if 2 * r = d then let (b, s) := s.drawFree 1; (q + b, s)
  else (q + 1, s)

/-- The position error of R170, clipped; with no burst energy the spec gives no value. -/
def State.pes (s : State) (a b : Nat) : Int × State :=
  if a + b = 0 then let (v, s) := s.drawFree 8; (toSigned 8 v, s)
  else
    let (v, s) := s.roundDiv (128 * ((a : Int) - b)) (a + b)
    (max (-128) (min 127 v), s)

/-- Saturation to 16 bits. -/
def sat16 (v : Int) : Int := max (-32768) (min 32767 v)

/-- A coefficient TF_COEF(i), signed Q2.14. -/
def State.coef (s : State) (i : Nat) : Int := toSigned 16 (s.rdI P.svo R.svo_TF_COEF i)
/-- A step of section k: its output and delay line; the spec leaves the rounding of the Q2.14 product open, so where it is not exact a
free value chooses the neighbour. -/
def State.section (s : State) (k : Nat) (f : Int × Int × Int × Int) (x : Int) : Int × (Int × Int × Int × Int) × State :=
  let c (i : Nat) : Int := s.coef (5 * k + i)
  let sum := c 0 * x + c 1 * f.1 + c 2 * f.2.1 - c 3 * f.2.2.1 - c 4 * f.2.2.2
  let q := sum / 16384
  let (v, s) := if q * 16384 = sum then (q, s) else let (b, s) := s.drawFree 1; (q + b, s)
  let y := sat16 v
  (y, (x, f.1, y, f.2.2.1), s)
/-- The track-following command from the position error. -/
def State.follow (s : State) (x : Int) : State :=
  let (y0, f0, s) := s.section 0 s.servo.f0 x
  let (y1, f1, s) := s.section 1 s.servo.f1 y0
  { s with servo := { s.servo with f0 := f0, f1 := f1, u := y1 } }

/-- The velocity phase: v in 1/256 track per wedge, u := KV × (v - measured velocity), toward the target; where the square root is not
whole a free value chooses its rounding. -/
def State.velocity (s : State) (togo : Int) (measured : Int) : State :=
  let d := togo.natAbs
  let sq := 512 * s.rd P.svo R.svo_ADEC * d
  let r := Nat.sqrt sq
  let (r, s) := if r * r = sq then (r, s) else let (b, s) := s.drawFree 1; (r + b, s)
  let v : Int := min (256 * s.rd P.svo R.svo_VMAX) r
  let v := if togo < 0 then -v else v
  let u := sat16 (s.rd P.svo R.svo_KV * (v - measured))
  { s with servo := { s.servo with u := u } }

/-- The VCM_CUR frame of a wedge, unless VCM_CUR frames have stopped (R182). -/
def State.vcmFrame (s : State) : State := if s.servo.vcmOff then s else s.trlSend 1 (ofSigned 16 s.servo.u)

/-- The heads parked and VCM_CUR stopped once a disabled block has no seek left (R182). -/
def State.svoSettle (s : State) : State :=
  if s.en P.svo || s.servo.seek.isSome || s.servo.vcmOff then s
  else { s.svoPark with servo := { s.svoPark.servo with vcmOff := true } }

/-- A seek done (R173): a Selvedge request goes on. -/
def State.seekFinish (s : State) (k : Seek) : State :=
  let s := { s with servo := { s.servo with seek := none, seekDone := true } }
  let s := ((s.wr P.svo R.svo_SEEK_BUSY 0).svoState 3).raise P.svo 0
  let s := if k.fw then s
    else { s with selv := { s.selv with run := s.selv.run.map fun r => { r with seeking := false } } }
  s.svoSettle

/-- ON_TRACK brought up to date with a wedge's position error (R172). -/
def State.onTrack (s : State) (pes : Int) : State :=
  let good := if decide (pes.natAbs ≤ s.rd P.svo R.svo_ON_TRK_PES) then s.servo.good + 1 else 0
  let s := { s with servo := { s.servo with good := good } }
  s.wr P.svo R.svo_ON_TRACK (if s.rd P.svo R.svo_ON_TRK_CNT ≤ good then 1 else 0)

/-- The position loop at a wedge: velocity, settle or follow (R171 to R173). -/
def State.position (s : State) (pes : Int) : State :=
  let track : Int := s.rd P.svo R.svo_CUR_TRACK
  let moved := 256 * (track - s.servo.lastTrack)
  let s := match s.servo.seek with
    | some k =>
      let togo : Int := (k.track : Int) - track
      if k.settle || decide (togo.natAbs ≤ s.rd P.svo R.svo_SETTLE_TRK) then
        let s := { s with servo := { s.servo with seek := some { k with settle := true } } }
        ((s.svoState 2).follow pes).onTrack pes
      else (s.velocity togo moved).onTrack pes
    | none => if s.rd P.svo R.svo_STATE = 3 then (s.follow pes).onTrack pes else s.onTrack pes
  let s := { s with servo := { s.servo with lastTrack := track } }
  match s.servo.seek with
  | some k => if k.settle && s.on P.svo R.svo_ON_TRACK then s.seekFinish k else s
  | none => s

/-- The speed loop at the index (R175): REV_CYCLES, SPN_CUR, SPN_AT_SPEED. The spec names the gains of the demand and no law, so the
demand is a free value. -/
def State.revolution (s : State) (cycles : Nat) : State :=
  let s := s.wr P.svo R.svo_REV_CYCLES cycles
  let (demand, s) := s.drawFree 16
  let s := s.trlSend 2 demand
  let err : Int := (cycles * s.rd P.svo R.svo_RPM : Int) - 12000000000
  let n := if err.natAbs * 1000 ≤ 12000000000 then s.servo.inRange + 1 else 0
  let s := { s with servo := { s.servo with inRange := n } }
  if 16 ≤ n then
    if s.on P.svo R.svo_SPN_AT_SPEED then s else (s.flag P.svo R.svo_SPN_AT_SPEED).raise P.svo 3
  else s.wr P.svo R.svo_SPN_AT_SPEED 0

/-- The time since the last SAM added up, and a revolution closed at wedge 0. -/
def State.indexTime (s : State) (w : WedgeSample) : State :=
  let s := { s with servo := { s.servo with cycles := (s.servo.cycles ++ [w.cycles]).drop (s.servo.cycles.length - 7),
                                            sinceIdx := s.servo.sinceIdx.map (· + w.cycles) } }
  if w.wedge = 0 then
    let t := { s with servo := { s.servo with sinceIdx := some 0 } }
    match s.servo.sinceIdx with
    | some n => t.revolution n
    | none => t
  else s

/-- A wedge whose SAM was accepted. -/
def State.wedgeFound (s : State) (w : WedgeSample) : State :=
  let s := { s with servo := { s.servo with missed := 0 } }
  let track := if w.ambiguous && !w.cAboveD then w.altTrack else w.track
  let s := s.wr P.svo R.svo_CUR_TRACK track
  let (pes, s) := s.pes w.a w.b
  let s := { s with servo := { s.servo with pesLast := pes } }.wr P.svo R.svo_PES (ofSigned 16 pes)
  (s.indexTime w).position pes

/-- A missed wedge (R169): the position error is that of the wedge before; from the eighth on the current is held and the search begins
again. -/
def State.wedgeMissed (s : State) (w : WedgeSample) : State :=
  let n := s.servo.missed + 1
  let cyc := s.servo.sinceIdx.map (· + w.cycles)
  let s := { s with servo := { s.servo with missed := n, sinceIdx := cyc } }.count P.svo 0x050
  if n < 8 then s.position s.servo.pesLast
  else
    let s := { s with servo := { s.servo with synced := false, found := 0, sinceIdx := none } }
    ((s.flag P.svo R.svo_SERVO_LOST).err P.svo 0x01 0 0).raise P.svo 1

/-- The windowless search (R168): two SAMs one wedge interval apart bring the wedges into step; the speed loop is closed. -/
def State.wedgeSearch (s : State) (w : WedgeSample) (inWin : Bool) : State :=
  if !w.found then { s with servo := { s.servo with found := 0 } }
  else if s.servo.found = 0 ∨ inWin = false then { s with servo := { s.servo with found := 1 } }
  else
    let s := { s with servo := { s.servo with synced := true, found := 2, sinceIdx := none } }
    (s.whenB (s.servo.spinMode == 1) fun s => s.spnMode 2).wedgeFound w

/-- SERVO_WEDGE (R155, R168 to R176). -/
def execServoWedge (w : WedgeSample) (s : State) : Host.Outcome State Fault Refusal :=
  .next (s.whenB s.svoUp fun s =>
    let inWin := decide (w.offset.natAbs ≤ s.rd P.svo R.svo_SAM_WIN)
    let s := if !s.servo.synced then s.wedgeSearch w inWin
      else if w.found && inWin then s.wedgeFound w
      else s.wedgeMissed w
    let s := s.vcmFrame
    let s := s.whenB (s.on P.slv R.slv_RG_STATE && !w.resync) fun s => s.count P.slv 0x078
    if s.inhibitNow then s.inhibit false
    else (s.wr P.svo R.svo_WR_INHIBIT 0).slvOpen)

/-! ### Seeks (R173, R174) -/

/-- A seek in progress retargeted; another head is selected by its preamplifier frame. -/
def State.seekAim (s : State) (track head : Nat) : State :=
  let other := s.rd P.svo R.svo_CUR_HEAD != head
  let s := { s with servo := { s.servo with seek := some ⟨track, head, true, false⟩ } }.svoState 1
  s.whenB other fun s => (s.wr P.svo R.svo_CUR_HEAD head).paStart (Config.headRegister.toNat * 256 + head)
/-- SEEK_GO: refused and counted while a Selvedge request is queued or in progress; a seek in progress is retargeted. -/
def State.seekGo (s : State) : State :=
  if s.selv.run.isSome || s.ringHas || s.selv.hemQ ≠ [] then s.count P.svo 0x058
  else s.whenB (s.en P.svo) fun s =>
    let track := s.rd P.svo R.svo_SEEK_TRACK
    let head := s.rd P.svo R.svo_SEEK_HEAD
    (if s.servo.seek.isSome then s.seekAim track head else s.seekStart track head true).inhibit false
/-- SEEK_GO (R173). -/
def execSeekGo (ag : Agent) (s : State) : Host.Outcome State Fault Refusal := .next (s.gated ag P.svo 0x104 false State.seekGo)

/-- SEEK_TIMEOUT: the seek ends off track; a Selvedge request completes NOT_READY. -/
def execSeekTimeout (s : State) : Host.Outcome State Fault Refusal :=
  .next (match s.servo.seek with
    | none => s
    | some k =>
      let s := { s with servo := { s.servo with seek := none } }
      let s := (((s.wr P.svo R.svo_SEEK_BUSY 0).svoState 0).err P.svo 0x02 0 0).raise P.svo 4
      let s := if k.fw then s else s.slvEnd 0x0B 0x3FF
      s.svoSettle)

/-! ### Spindle (R175, R185) -/

/-- SPN_GO. -/
def execSpnGo (ag : Agent) (s : State) : Host.Outcome State Fault Refusal :=
  .next (s.gated ag P.svo 0x114 false fun s => s.whenB (s.en P.svo) fun s => s.svoStart)
/-- SPN_STOP. -/
def execSpnStop (ag : Agent) (s : State) : Host.Outcome State Fault Refusal :=
  .next (s.gated ag P.svo 0x114 false fun s => s.svoStop.inhibit false)
/-- PARK. -/
def execPark (ag : Agent) (s : State) : Host.Outcome State Fault Refusal :=
  .next (s.gated ag P.svo 0x114 false fun s => s.svoPark.inhibit false)
/-- SPINUP_TIMEOUT: raised; the spindle is left running. -/
def execSpinupTimeout (s : State) : Host.Outcome State Fault Refusal :=
  .next (s.whenB (s.svoUp && !s.on P.svo R.svo_SPN_AT_SPEED && (s.servo.spinMode == 1 || s.servo.spinMode == 2)) fun s =>
    (s.err P.svo 0x03 0 0).raise P.svo 4)

/-! ### Treadle (R176 to R181, R184) -/

/-- A shock reported: settling restarts (R184). -/
def State.shockSeen (s : State) : State :=
  let s := { s with servo := { s.servo with good := 0 } }
  ((s.wr P.svo R.svo_ON_TRACK 0).flag P.svo R.svo_SHOCK_SEEN).raise P.svo 2

/-- TRD_ATTN_N_ASSERT: write inhibit at once. -/
def execTrdAttnNAssert (shock : Bool) (s : State) : Host.Outcome State Fault Refusal :=
  .next (s.whenB (s.pagesAwake && s.pageUp P.svo) fun s =>
    let s := { s with servo := { s.servo with attn := true } }.flag P.trl R.trl_ATTN
    (s.whenB shock State.shockSeen).inhibit shock)

/-- A response that failed its CRC (R181). -/
def State.trlBad (s : State) (f : Nat) : State :=
  let n := s.trd.fails + 1
  let s := { s with trd := { s.trd with fails := n } }.count P.trl 0x048
  let s := s.whenB (decide (3 ≤ n) && !s.on P.trl R.trl_LINK_FAULT) fun s =>
    ((s.flag P.trl R.trl_LINK_FAULT).err P.trl 0x01 0 0).raise P.trl 0
  let s := if f / 2 ^ 28 = 1 then s else s.trlSend1 (f / 2 ^ 28) (f / 2 ^ 8 % 2 ^ 16)
  if 3 ≤ n then s.inhibit false else s

/-- A response that passed its CRC: STATUS and SEQ recorded, register data of RD_REG, the end of a software frame, driver faults and
SHOCK. TRD_ATTN_N is taken as released with the first response that shows neither (log entry 28). -/
def State.trlGood (s : State) (f frame : Nat) : State :=
  let st := bitsAt frame 16 8
  let s := { s with trd := { s.trd with fails := 0 } }
  let s := (s.wr P.trl R.trl_LAST_STATUS st).wr P.trl R.trl_LAST_SEQ (bitsAt frame 24 4)
  let s := s.whenB (st.testBit 0) fun s => s.count P.trl 0x050
  let cmd := f / 2 ^ 28
  let s := s.whenB (cmd == 5) fun s => s.wr P.trl R.trl_SW_RDATA (bitsAt frame 8 8)
  let mine := s.trd.swSent && s.trd.sw == some (cmd * 65536 + bitsAt f 8 16)
  let s := s.whenB mine fun s =>
    ({ s with trd := { s.trd with sw := none, swSent := false } }.wr P.trl R.trl_SW_BUSY 0).raise P.trl 2
  let fault := bitsAt st 3 4 != 0
  let s := s.whenB fault fun s =>
    let s := { s with servo := { s.servo with inRange := 0 } }
    ((s.wr P.svo R.svo_SPN_AT_SPEED 0).err P.trl 0x02 st 0).raise P.trl 1
  let shock : Bool := st.testBit 7
  let s := s.whenB (shock && !s.servo.shock) State.shockSeen
  let attn := s.servo.attn && (shock || fault)
  let s := { s with servo := { s.servo with shock := shock, attn := attn } }.wr P.trl R.trl_ATTN (if attn then 1 else 0)
  if fault || shock then s.inhibit shock else s

/-- TREADLE_RESPONSE: the response to the oldest frame not yet answered (R178). -/
def execTreadleResponse (frame : Nat) (s : State) : Host.Outcome State Fault Refusal :=
  .next (s.whenB s.trlUp fun s =>
    match s.trd.last with
    | [] => s
    | f :: r =>
      let s := { s with trd := { s.trd with last := r } }
      if crc8 (frame / 256 % 2 ^ 24) = frame % 256 then (s.trlGood f frame).parked else s.trlBad f)

/-- SW_GO: the software frame with SW_CMD set to a command and SW_ARG waits for the next hardware frame; while one waits the write is
ignored (log entry 26). -/
def State.swGo (s : State) (cmd : Nat) : State :=
  s.whenB (!s.on P.trl R.trl_SW_BUSY) fun s =>
    let s := (s.wr P.trl R.trl_SW_CMD cmd).wr P.trl R.trl_SW_BUSY 1
    { s with trd := { s.trd with sw := some (cmd * 65536 + s.rd P.trl R.trl_SW_ARG), swSent := false } }
/-- SW_GO of NOP. -/
def execTrdNop (ag : Agent) (s : State) : Host.Outcome State Fault Refusal :=
  .next (s.gated ag P.trl 0x104 false fun s => s.swGo 0)
/-- SW_GO of RD_REG. -/
def execRdReg (ag : Agent) (s : State) : Host.Outcome State Fault Refusal :=
  .next (s.gated ag P.trl 0x104 false fun s => s.swGo 5)
/-- SW_GO of WR_REG. -/
def execWrReg (ag : Agent) (s : State) : Host.Outcome State Fault Refusal :=
  .next (s.gated ag P.trl 0x104 false fun s => s.swGo 6)
/-- SW_GO of CLR_FLT. -/
def execClrFlt (ag : Agent) (s : State) : Host.Outcome State Fault Refusal :=
  .next (s.gated ag P.trl 0x104 false fun s => s.swGo 7)

/-- CTRL.EN of the servo cleared (R182): a seek in progress completes; then the heads are parked. -/
def State.svoDisable (s : State) : State := (s.wr P.svo R.common_EN 0).svoSettle.inhibit false
/-- SVO_CTRL_EN_CLEAR. -/
def execSvoCtrlEnClear (ag : Agent) (s : State) : Host.Outcome State Fault Refusal :=
  .next (s.gated ag P.svo 0x008 false fun s => s.whenB (s.en P.svo) State.svoDisable)

end Sys2Proof.Machine
end

