-- ==== Sys2Proof/Machine/Hem.lean ====
section
/-!
DEFINITION. Sys2Proof/Machine/Hem.lean: Hem regions created and deleted, the chain check, the seal timer, and the start of migration
(03_seam_reclaim.md R94 to R103; 19_trust_pattern.md R483 HEM_RELEASE).
-/

namespace Sys2Proof.Machine

/-! ### Regions (R94, R96) -/

/-- The seed of a region: the SHA-256 of its descriptor (R96). -/
def hemSeed (region ns first seq : Nat) : List Byte :=
  sha256 (natLE 2 region ++ natLE 2 ns ++ natLE 5 first ++ natLE 6 seq ++ [0])

/-- A region created over a range: the SEAM code (0, RANGE_CONFLICT, RANGE_FULL) and its number (log entry 29). -/
def State.hemMake (s : State) (ns first count : Nat) : Nat × Nat × State :=
  if s.touchesHem ns first count then (0x01, 0, s)
  else if 4096 ≤ s.seam.hem.length then (0x02, 0, s)
  else
    let r := Tbl.freeKey s.seam.hem 4096 0
    let h : HemRegion :=
      { ns := ns, first := first, count := count, seq := s.seam.seq, nextIdx := 0, tail := hemSeed r ns first s.seam.seq,
        openData := [], openIdx := none, appends := [], passedTo := 0, passed := [], migWm := 0, sealedAt := [],
        migrating := false, migStop := false, freedTo := 0 }
    let mapped := (s.seam.map.map (·.1)).filter fun k => decide (mapKey ns first ≤ k ∧ k < mapKey ns (first + count))
    let s := mapped.foldl (fun s k => s.unmap ns (k - mapKey ns 0)) s
    (0, r, { s with seam := { s.seam with hem := Tbl.put s.seam.hem r h } })

/-- A region deleted (19_trust_pattern.md R483): its units unmapped, its disk places forgotten, its number free; appends not completed
find the region full. -/
def State.hemDelete (s : State) (r : Nat) : State :=
  match Tbl.at? s.seam.hem r with
  | none => s
  | some h =>
    let inside (k : Nat) : Bool := decide (mapKey h.ns h.first ≤ k ∧ k < mapKey h.ns (h.first + h.count))
    let mine (u : WriteFor) : Bool := match u with | .hem q _ => q == r | _ => false
    let s := ((s.seam.map.map (·.1)).filter inside).foldl (fun s k => s.unmap h.ns (k - mapKey h.ns 0)) s
    let s := (s.seam.migs.filter fun m => match m.use with | .hem q _ => q == r | _ => false).foldl (fun s m => s.dropMig m.id) s
    let s := { s with seam := { s.seam with
      hem := Tbl.del s.seam.hem r
      archive := s.seam.archive.filter fun e => !inside e.1
      flight := s.seam.flight.filter fun u => !mine u.use
      unplaced := s.seam.unplaced.filter fun u => !mine u.use
      hemWait := s.seam.hemWait.filter fun e => e.2.1 ≠ r } }
    h.appends.foldl (fun s a => s.endSeam a.item 0x06 0 0) s

/-! ### The chain check (R100) -/

/-- The 65,536 bytes of a sealed unit: from the disk below MIG_WM, else from the work in flight or the flash. -/
def State.hemBytes (s : State) (r : Nat) (h : HemRegion) (k : Nat) : Option (List Byte) :=
  let unit := h.first + k
  if k < h.migWm then
    match s.onDisk h.ns unit with
    | none => none
    | some place =>
      let q := s.unitReq 1 place h.ns unit 0
      let parts := (List.range 16).map fun i => match s.slvFetch q i with | some (.inl b) => some b | _ => none
      if parts.all Option.isSome then some (parts.flatMap fun p => p.getD []) else none
  else
    match (s.seam.flight ++ s.seam.unplaced).find? fun u => u.use = .hem r k with
    | some u => some u.data
    | none =>
      let e := s.entry h.ns unit
      if eUnmapped e then none else some ((List.range 16).flatMap fun i => s.plainAt (locStep (eLoc e) i))

/-- PREV_HASH of a unit. -/
def hemPrev (b : List Byte) : List Byte := (b.drop (65472 + 24)).take 32

/-- The first unit from `k` on, of the next `fuel` units, that fails its check: `hash` is the chain hash of the unit before; the last
unit is held against the stored tail hash. -/
def State.hemWalk (s : State) (r : Nat) (h : HemRegion) : Nat → Nat → List Byte → Option Nat
  | 0, k, hash => if hash = h.tail then none else some (k - 1)
  | fuel + 1, k, hash =>
    match s.hemBytes r h k with
    | none => some k
    | some b => if hemPrev b = hash then s.hemWalk r h fuel (k + 1) (sha256 b) else some k

/-- VFY_GO: the check of VFY_REGION starts; one that names no region, or comes while a check runs, does nothing. -/
def State.vfyGo (s : State) (region : Nat) : State :=
  let s := s.wr P.hem R.hem_VFY_REGION region
  if s.seam.vfy.isSome || !s.en P.hem || !Tbl.has s.seam.hem (region % 4096) then s
  else
    let s := { s with seam := { s.seam with vfy := some (region % 4096) } }
    s.wr P.hem R.hem_VFY_BUSY 1
/-- VFY_GO (R100). -/
def execVfyGo (ag : Agent) (s : State) : Host.Outcome State Fault Refusal :=
  .next (s.gated ag P.hem 0x110 false fun s => s.vfyGo (s.rd P.hem R.hem_VFY_REGION))

/-- HEM_CHAIN_CHECK_DONE: the check in progress ends with its result. -/
def execHemChainCheckDone (s : State) : Host.Outcome State Fault Refusal :=
  .next (match s.seam.vfy with
    | none => s
    | some r =>
      let s := ({ s with seam := { s.seam with vfy := none } }.wr P.hem R.hem_VFY_BUSY 0)
      let bad := (Tbl.at? s.seam.hem r).bind fun h => s.hemWalk r h h.nextIdx 0 (hemSeed r h.ns h.first h.seq)
      let s := match bad with
        | some k => ((s.wr P.hem R.hem_VFY_BREAK 1).wr P.hem R.hem_VFY_INDEX k).err P.hem 0x01 0 0
        | none => (s.wr P.hem R.hem_VFY_BREAK 0).wr P.hem R.hem_VFY_INDEX 0xFFFFFFFF
      s.raise P.hem 0)

/-! ### Sealing and migration (R97, R101, R102) -/

/-- HEM_SEAL_TIMER: SEAL_MS has passed since the first append of a region's open unit. -/
def execHemSealTimer (region : Nat) (s : State) : Host.Outcome State Fault Refusal :=
  .next (s.whenB (s.seamRuns && !s.seam.pfailHold) fun s => s.hemSeal region)

/-- HEM_MIGRATION_TRIGGER: a region whose oldest unit on flash is old enough, or the use of flash above MIG_HI, starts a migration. -/
def execHemMigrationTrigger (region : Nat) (s : State) : Host.Outcome State Fault Refusal :=
  .next (match Tbl.at? s.seam.hem region with
    | none => s
    | some h =>
      if s.seamRuns && s.mode M.arch && s.en P.hem && !h.migrating && h.canMigrate &&
          (s.hemAged h || decide (s.rd P.hem R.hem_MIG_HI * s.hemBudget < 100 * s.hemUse)) then
        s.hemMigRead region h
      else s)

/-- HEM_MIGRATION_READ_DONE (R101 step 1, R102): the unit read is compared with the chain; a match goes on to the disk, a mismatch
stops the region's migration. -/
def execHemMigrationReadDone (region : Nat) (s : State) : Host.Outcome State Fault Refusal :=
  .next (match Tbl.at? s.seam.hem region, s.seam.migs.find? fun m => m.phase = 0 ∧ m.bytes = [] ∧ m.use = .hem region (m.unit -
      ((Tbl.at? s.seam.hem region).map (·.first)).getD 0) with
    | some h, some m =>
      if (s.stgFor (.job m.id)).isNone then s
      else
        let k := m.unit - h.first
        let b := s.hemBytes region h k
        let want := if k + 1 = h.nextIdx then some h.tail else (s.hemBytes region h (k + 1)).map hemPrev
        match b with
        | some d =>
          if want = some (sha256 d) then (s.updMig m.id fun m => { m with bytes := d }).migGo { m with bytes := d }
          else ((s.dropMig m.id).updHem region fun h => { h with migrating := false, migStop := true }).err P.hem 0x02 0 0
        | none => ((s.dropMig m.id).updHem region fun h => { h with migrating := false, migStop := true }).err P.hem 0x02 0 0
    | _, _ => s)

end Sys2Proof.Machine
end

