-- ==== Sys2Proof/Machine/PleatCodec.lean ====
section
/-!
DEFINITION. Sys2Proof/Machine/PleatCodec.lean: the Pleat stream format: blocks and tokens, decoding with limited output, and
compression around the encoder that the spec leaves open (08_pleat.md R217 to R221, R226 to R229).
-/

namespace Sys2Proof.Machine

/-! ### STATUS values (R223) -/

def Plt.ok : Nat := 0x00
def Plt.outFull : Nat := 0x01
def Plt.inEmpty : Nat := 0x02
def Plt.noGain : Nat := 0x03
def Plt.badHeader : Nat := 0x04
def Plt.badToken : Nat := 0x05
def Plt.badOffset : Nat := 0x06
def Plt.lenMismatch : Nat := 0x07
def Plt.crcMismatch : Nat := 0x08
def Plt.truncated : Nat := 0x09
def Plt.ctxBad : Nat := 0x0A
def Plt.badJob : Nat := 0x0B
def Plt.unitDisabled : Nat := 0x0C
def Plt.aborted : Nat := 0x0D
def Plt.ctxBusy : Nat := 0x0E

/-! ### Headers (R217, R218) -/

/-- The window of a code. -/
def pltWindow (win : Nat) : Nat := 4096 * 2 ^ win
/-- A dictionary cut to its window. -/
def lastBytes (n : Nat) (l : List Byte) : List Byte := l.drop (l.length - n)

/-- A block header, where its 16 bytes are valid after a block with window code `prev` (none before the first block). -/
def pltHeader (h : List Byte) (prev : Option Nat) : Option (PltBlk × Bool) :=
  let b1 := leAt h 1 1
  let b2 := leAt h 2 1
  let ty := b1 / 16
  let win := bitsAt b2 2 3
  let reset := b2.testBit 1
  let orig := leAt h 4 2 + 1
  let pay := leAt h 6 2 + 1
  let ok := leAt h 0 1 == 0xB7 && b1 % 16 == 1 && (ty == 1 || ty == 2) && decide (win ≤ 4) && decide (b2 < 32) && leAt h 3 1 == 0 &&
    leAt h 12 4 == crc32c (h.take 12) && (reset || prev == some win) && (ty == 1 || pay == orig)
  if ok then some (⟨ty == 2, b2.testBit 0, win, orig, leAt h 8 4, pay, [], if ty = 2 then orig else 0, 0, 0, 0⟩, reset) else none

/-- The 16 bytes of a header. -/
def pltHeaderBytes (stored last reset : Bool) (win orig pay crc : Nat) : List Byte :=
  let h := natLE 1 0xB7 ++ natLE 1 (1 + (if stored then 2 else 1) * 16) ++
    natLE 1 ((if last then 1 else 0) + (if reset then 2 else 0) + win * 4) ++ natLE 1 0 ++ natLE 2 (orig - 1) ++ natLE 2 (pay - 1) ++
    natLE 4 crc
  h ++ natLE 4 (crc32c h)

/-! ### Tokens (R219) -/

/-- An extension: its sum and how many bytes it takes; none where no byte below 255 ends it. -/
def pltExt : List Byte → Option (Nat × Nat)
  | [] => none
  | b :: r => if b.toNat < 255 then some (b.toNat, 1) else (pltExt r).map fun e => (e.1 + 255, e.2 + 1)

/-- How a token reads from the payload bytes at hand: it is bad, it needs more bytes, or its literal count, its MCODE, and the bytes
before the literals. -/
inductive PltTok where
  | bad
  | need
  | tok (lit mcode head : Nat)
deriving DecidableEq, Repr

/-- The match part of a token after its literals: length, offset and bytes taken. -/
def pltMatch (m : Nat) (p : List Byte) : Option (Nat × Nat × Nat) :=
  if p.length < 2 then none
  else if m < 15 then some (m + 3, leAt p 0 2 + 1, 2)
  else (pltExt (p.drop 2)).map fun e => (18 + e.1, leAt p 0 2 + 1, 2 + e.2)

/-- A token at the start of a payload of `pay` bytes, of which `p` are at hand. -/
def pltToken (pay : Nat) (p : List Byte) : PltTok :=
  let short : PltTok := if pay ≤ p.length then .bad else .need
  match p with
  | [] => short
  | t :: r =>
    let l := t.toNat / 16
    let m := t.toNat % 16
    if l = 0 ∧ m = 0 then .bad
    else
      match (if l = 15 then pltExt r else some (0, 0)) with
      | none => short
      | some (e, n) =>
        let lit := l + e
        if pay < 1 + n + lit then .bad
        else if p.length < 1 + n + lit then .need
        else if m = 0 then .tok lit 0 (1 + n)
        else
          match pltMatch m (p.drop (1 + n + lit)) with
          | none => short
          | some _ => .tok lit m (1 + n)

/-! ### Decoding (R220, R221, R229) -/

/-- A match copied one byte at a time. -/
def pltCopy (hist : List Byte) (off : Nat) : Nat → List Byte
  | 0 => []
  | n + 1 =>
    let b := hist.getD (hist.length - off) 0
    b :: pltCopy (hist ++ [b]) off n

/-- One step of decoding: a failure or stop with its STATUS, or progress: the stream's new place, input bytes taken, output bytes,
whether a block ended, whether it was the last one. -/
inductive PltStep where
  | stop (status : Nat)
  | go (d : PltDec) (took : Nat) (out : List Byte) (block last : Bool)
deriving DecidableEq, Repr

/-- The stop of a decoder that has run out of input. -/
def Plt.dry : Nat := 0xFF

/-- A block's end: length and CRC checked, the dictionary extended. -/
def pltEnd (d : PltDec) (b : PltBlk) : PltStep :=
  if b.out.length < b.orig then .stop Plt.lenMismatch
  else if crc32c b.out ≠ b.crc then .stop Plt.crcMismatch
  else .go ⟨some b.win, lastBytes (pltWindow b.win) (d.dict ++ b.out), none⟩ 0 [] true b.last

/-- One step with the input at hand and room for output. -/
def pltStep (d : PltDec) (inp : List Byte) (room : Nat) : PltStep :=
  match d.blk with
  | none =>
    if inp.length < 16 then .stop Plt.dry
    else
      match pltHeader (inp.take 16) d.win with
      | none => .stop Plt.badHeader
      | some (b, reset) => .go ⟨d.win, if reset then [] else d.dict, some b⟩ 16 [] false false
  | some b =>
    let hist := d.dict ++ b.out
    if 0 < b.lit then
      if b.orig < b.out.length + b.lit then .stop Plt.lenMismatch
      else if room = 0 then .stop Plt.outFull
      else if inp = [] then .stop Plt.dry
      else
        let n := min (min b.lit room) inp.length
        let o := inp.take n
        .go { d with blk := some { b with lit := b.lit - n, pay := b.pay - n, out := b.out ++ o } } n o false false
    else if b.mcode ≠ 0 then
      match pltMatch b.mcode (inp.take b.pay) with
      | none => .stop (if b.pay ≤ inp.length then Plt.badToken else Plt.dry)
      | some (len, off, n) =>
        if min hist.length (pltWindow b.win) < off then .stop Plt.badOffset
        else .go { d with blk := some { b with mcode := 0, mlen := len, moff := off, pay := b.pay - n } } n [] false false
    else if 0 < b.mlen then
      if b.orig < b.out.length + b.mlen then .stop Plt.lenMismatch
      else if room = 0 then .stop Plt.outFull
      else
        let n := min b.mlen room
        let o := pltCopy hist b.moff n
        .go { d with blk := some { b with mlen := b.mlen - n, out := b.out ++ o } } 0 o false false
    else if b.pay = 0 then pltEnd d b
    else
      match pltToken b.pay (inp.take b.pay) with
      | .bad => .stop Plt.badToken
      | .need => .stop Plt.dry
      | .tok lit m head => .go { d with blk := some { b with lit := lit, mcode := m, pay := b.pay - head } } head [] false false

/-- What a decoding run has done: the stream's place, input taken, output, blocks passed, the output and input at the end of the last
passed block, and the STATUS it ended with. -/
structure PltRun where
  dec    : PltDec
  took   : Nat
  out    : List Byte
  blocks : Nat
  outOk  : Nat
  inOk   : Nat
  status : Nat
deriving DecidableEq, Repr

/-- Whether a stream stands at a token or block boundary. -/
def PltDec.atToken (d : PltDec) : Bool :=
  match d.blk with
  | none => true
  | some b => b.lit == 0 && b.mcode == 0 && b.mlen == 0

/-- Decoding until a stop, the last block, or (after `abortIn` steps, at a token boundary) an abort. -/
def pltRun : Nat → Nat → Option Nat → Bool → PltRun → List Byte → PltRun
  | 0, _, _, _, r, _ => { r with status := Plt.inEmpty }
  | fuel + 1, space, abortIn, final, r, inp =>
    if abortIn = some 0 ∧ r.dec.atToken = true then { r with status := Plt.aborted }
    else
      match pltStep r.dec inp (space - r.out.length) with
      | .stop st => { r with status := if st = Plt.dry then (if final then Plt.truncated else Plt.inEmpty) else st }
      | .go d took out block last =>
        let r' : PltRun := { r with dec := d, took := r.took + took, out := r.out ++ out }
        let r' := if block then { r' with blocks := r.blocks + 1, outOk := r'.out.length, inOk := r'.took } else r'
        if last then { r' with status := Plt.ok }
        else pltRun fuel space (abortIn.map (· - 1)) final r' (inp.drop took)

/-- A stream that nothing of has been read. -/
def pltFresh : PltDec := ⟨none, [], none⟩
/-- A decoding run from a place in a stream. -/
def pltDecode (d : PltDec) (inp : List Byte) (space : Nat) (final : Bool) (abortIn : Option Nat) : PltRun :=
  pltRun (8 * inp.length + 64) space abortIn final ⟨d, 0, [], 0, 0, 0, 0⟩ inp

/-! ### Compression (R222, R225, R226, R228) -/

/-- A block of original bytes compressed: its bytes, whether it is stored, whether the self-check replaced it, its payload. -/
def pltBlock (level win : Nat) (cverify last reset : Bool) (dict bytes : List Byte) : List Byte × Bool × Bool :=
  let tokens := Config.pleatEncode level win dict bytes
  let crc := crc32c bytes
  let packed := pltHeaderBytes false last reset win bytes.length tokens.length crc ++ tokens
  let stored := pltHeaderBytes true last reset win bytes.length bytes.length crc ++ bytes
  if tokens = [] ∨ bytes.length ≤ tokens.length then (stored, true, false)
  else
    let r := pltDecode ⟨if reset then none else some win, dict, none⟩ packed bytes.length true none
    let good := decide (r.out = bytes ∧ r.blocks = 1)
    if cverify && !good then (stored, true, true) else (packed, false, false)

/-- What a compress job has done. -/
structure PltComp where
  dec      : PltDec
  took     : Nat
  out      : List Byte
  blocks   : Nat
  stored   : Nat
  replaced : Nat
  status   : Nat
deriving DecidableEq, Repr

/-- Blocks compressed in order until the input, the output or the gain runs out, or an abort stops at a block boundary. -/
def pltCompress (level win minSave : Nat) (carry final cverify refuse : Bool) (space : Nat) :
    Nat → Option Nat → PltComp → List Byte → PltComp
  | 0, _, r, _ => r
  | fuel + 1, abortIn, r, inp =>
    if inp = [] then { r with status := Plt.ok }
    else if abortIn = some 0 then { r with status := Plt.aborted }
    else
      let bytes := inp.take 65536
      let rest := inp.drop 65536
      let last := final && rest == []
      let reset := !carry || r.dec.win.isNone
      let dict := if reset then [] else r.dec.dict
      let (blk, st, rep) := pltBlock level win cverify last reset dict bytes
      let size := if rep then 16 + (Config.pleatEncode level win dict bytes).length else blk.length
      if refuse && decide (bytes.length * (100 - minSave) < 100 * size) then { r with status := Plt.noGain }
      else if space < r.out.length + blk.length then { r with status := Plt.outFull }
      else
        let dict' := lastBytes (pltWindow win) (dict ++ bytes)
        let r : PltComp := ⟨⟨some win, dict', none⟩, r.took + bytes.length, r.out ++ blk, r.blocks + 1, r.stored + (if st then 1 else 0),
          r.replaced + (if rep then 1 else 0), 0⟩
        pltCompress level win minSave carry final cverify refuse space fuel (abortIn.map (· - 1)) r rest

end Sys2Proof.Machine
end

