-- ==== Sys2Proof/Machine/Pleat.lean ====
section
/-!
DEFINITION. Sys2Proof/Machine/Pleat.lean: the Pleat engines: queues, lanes, explicit, inline and decode jobs, and the commands of the
Pleat family (08_pleat.md R213 to R216, R222 to R236).
-/

namespace Sys2Proof.Machine

/-! ### Queues and lanes (R225) -/

/-- An engine's queue. -/
def State.pltQueue (s : State) (e : Nat) : List PleatJob := (Tbl.at? s.pleat.queue e).getD []
/-- The lowest free lane of an engine. -/
def State.pltFree (s : State) (e : Nat) : Option Nat := (List.range 4).find? fun l => !Tbl.has s.pleat.lanes (e * 4 + l)
/-- Whether an engine exists. -/
def State.pltPresent (s : State) (e : Nat) : Bool := decide (e < nPleat s.part)
/-- Whether an engine takes jobs: CTRL.EN, powered. -/
def State.pltOn (s : State) (e : Nat) : Bool := s.pltPresent e && s.pageUp (P.plt e) && s.en (P.plt e)
/-- The engine with the fewest queued jobs, lowest index on a tie. -/
def State.pltPick (s : State) (which : Nat → Bool) : Option Nat :=
  leastBy (fun e => (s.pltQueue e).length) ((List.range 8).filter fun e => s.pltOn e && which e)

/-- A job block's fields (R222). -/
def jbOp (b : List Byte) : Nat := leAt b 0 1 % 16
def jbFlag (b : List Byte) (i : Nat) : Bool := (leAt b 1 1).testBit i
def jbCarry (b : List Byte) : Bool := jbFlag b 0
def jbResume (b : List Byte) : Bool := jbFlag b 1
def jbFinal (b : List Byte) : Bool := jbFlag b 2
def jbCverify (b : List Byte) : Bool := jbFlag b 3
def jbGrowth (b : List Byte) : Nat := bitsAt (leAt b 1 1) 4 2
def jbWin (b : List Byte) : Nat := bitsAt (leAt b 2 1) 0 3
def jbMinSave (b : List Byte) : Nat := leAt b 3 1
def jbSrc (b : List Byte) : Nat := leAt b 4 6
def jbDst (b : List Byte) : Nat := leAt b 10 6
def jbSrcLen (b : List Byte) : Nat := leAt b 16 4
def jbDstLen (b : List Byte) : Nat := leAt b 20 4
def jbCtx (b : List Byte) : Nat := leAt b 24 6

/-- The poster of an explicit job: JOB_GO stands for the register interface. -/
def State.jobPoster (s : State) (j : PleatJob) : Poster :=
  match j.origin with
  | .item n => ((s.item? n).map (·.poster)).getD .startList
  | _ => .startList

/-- BAD_JOB of R223. -/
def State.badJob (s : State) (j : PleatJob) (b : List Byte) : Bool :=
  let op := jbOp b
  let comp := op == 1
  let ver := op == 3
  let p := s.jobPoster j
  let ok (a n : Nat) (need : Need) : Bool := n == 0 || s.viewOk p j.panel a n need
  !(decide (1 ≤ op ∧ op ≤ 3)) || leAt b 0 1 / 16 != 0 || leAt b 1 1 / 64 != 0 || leAt b 2 1 / 8 != 0 || !allZero (sliceOf b 30 18) ||
    (comp && (decide (4 < jbWin b) || decide (1 < jbGrowth b) || decide (90 < jbMinSave b))) ||
    (jbCtx b != 0 && jbCtx b % 64 != 0) || (!ver && meets (jbSrc b) (jbSrcLen b) (jbDst b) (jbDstLen b)) ||
    (comp && jbSrcLen b == 0) || (comp && !jbFinal b && jbSrcLen b % 65536 != 0) || (jbResume b && jbCtx b == 0) ||
    !ok (jbSrc b) (jbSrcLen b) .rd || (!ver && !ok (jbDst b) (jbDstLen b) .wr) ||
    (jbCtx b != 0 && !(ok (jbCtx b) 65600 .rd && ok (jbCtx b) 65600 .wr))

/-- The context that a running explicit job names, on the fabric. -/
def State.jobCtx (s : State) (j : PleatJob) : Nat :=
  if j.block = [] ∨ jbCtx j.block = 0 ∨ j.early ≠ 0 then 0 else s.viewTr (s.jobPoster j) j.panel (jbCtx j.block)

/-- A job begun on a lane: an explicit job's block is read and checked first (R224). -/
def State.pltBegin (s : State) (e l : Nat) (j : PleatJob) : State :=
  let put (s : State) (j : PleatJob) : State := { s with pleat := { s.pleat with lanes := Tbl.put s.pleat.lanes (e * 4 + l) j } }
  match j.origin with
  | .inline _ => put s j
  | .decode _ => put s j
  | _ =>
    s.busRead j.panel j.addr 64 fun b s =>
      let ctx := s.viewTr (s.jobPoster j) j.panel (jbCtx b)
      let busy := jbCtx b != 0 && s.pleat.lanes.any fun x => s.jobCtx x.2 == ctx
      put s { j with block := b, early := if s.badJob j b then Plt.badJob else if busy then Plt.ctxBusy else 0 }

/-- Queued jobs begun on free lanes. -/
def State.pltFill (s : State) (e : Nat) : State :=
  (List.range 4).foldl (fun s _ =>
    match s.pltQueue e, s.pltFree e with
    | j :: r, some l => { s with pleat := { s.pleat with queue := Tbl.put s.pleat.queue e r } }.pltBegin e l j
    | _, _ => s) s

/-- A job queued at an engine. -/
def State.pltPush (s : State) (e : Nat) (j : PleatJob) : State :=
  { s with pleat := { s.pleat with queue := Tbl.put s.pleat.queue e (s.pltQueue e ++ [j]) } }.pltFill e

/-! ### Ends of explicit jobs (R222, R223, R231, R236) -/

/-- The end of an explicit job: bytes 48 to 63 written, then its completion (R12). -/
def State.pltEnd (s : State) (e : Nat) (j : PleatJob) (status inUsed outMade blocks : Nat) : State :=
  let p := P.plt e
  let s := s.busWrite j.panel (j.addr + 48) (natLE 1 status ++ natLE 3 0 ++ natLE 4 inUsed ++ natLE 4 outMade ++ natLE 4 blocks)
  let s := s.wr p R.plt_LAST_STATUS status
  let s := s.whenB (status == Plt.ctxBad) fun s => (s.err p 0x03 0 0).raise p 3
  let s := s.whenB (status == Plt.outFull) fun s => s.count p 0x070
  match j.origin with
  | .go => s.raise p 0
  | .item n => if status = Plt.unitDisabled then s.cplItem (52 + e) n Cs.disabled 0 else s.cplUnit (52 + e) n status 0
  | _ => s

/-- A context saved at a job's stop (R229, R230). -/
def State.saveCtx (s : State) (j : PleatJob) (d : PltDec) : State :=
  if jbCtx j.block = 0 then s
  else
    let stamp := s.free
    let s := { s with free := s.free + 1, pleat := { s.pleat with ctx := Tbl.put s.pleat.ctx stamp ⟨jbOp j.block, d, false⟩ } }
    s.busWrite j.panel (s.jobCtx j) ((List.range 65600).map (Config.ctxByte stamp))

/-- The context that a resume finds at CTX: unused, whole and of the same operation; it is used up. -/
def State.takeCtx (s : State) (j : PleatJob) (bytes : List Byte) : Option (PltDec × State) :=
  match s.pleat.ctx.find? fun c => bytes == (List.range 65600).map (Config.ctxByte c.1) with
  | none => none
  | some (stamp, c) =>
    if c.used ∨ c.op ≠ jbOp j.block then none
    else some (c.dec, { s with pleat := { s.pleat with ctx := Tbl.upd s.pleat.ctx stamp fun c => { c with used := true } } })

/-- How far an aborted job gets: the spec leaves it to the moment of the abort. -/
def State.abortAt (s : State) (j : PleatJob) (n : Nat) : Option Nat × State :=
  if j.abort then let (v, s) := s.drawFree 32; (some (v % (n + 1)), s) else (none, s)

/-- A compress job run from a place in a stream. -/
def State.pltCompressJob (s : State) (e : Nat) (j : PleatJob) (d : PltDec) (src : List Byte) : State :=
  let p := P.plt e
  let b := j.block
  let (ab, s) := s.abortAt j (src.length / 65536 + 1)
  let r := pltCompress (s.rd p R.plt_LEVEL) (jbWin b) (jbMinSave b) (jbCarry b) (jbFinal b) (jbCverify b) (jbGrowth b == 1)
    (jbDstLen b) (src.length / 65536 + 2) ab ⟨d, 0, [], 0, 0, 0, 0⟩ src
  let s := s.busWrite j.panel (s.viewTr (s.jobPoster j) j.panel (jbDst b)) r.out
  let s := ((s.countN p 0x040 r.blocks).countN p 0x048 r.took).countN p 0x050 r.out.length
  let s := s.countN p 0x058 r.stored
  let s := s.whenB (r.replaced != 0) fun s => ((s.countN p 0x078 r.replaced).err p 0x02 0 0).raise p 2
  let s := if r.status = Plt.ok then s else s.saveCtx j r.dec
  s.pltEnd e j r.status r.took r.out.length r.blocks

/-- A decompress or verify job run from a place in a stream (R227). -/
def State.pltDecodeJob (s : State) (e : Nat) (j : PleatJob) (d : PltDec) (src : List Byte) : State :=
  let p := P.plt e
  let b := j.block
  let ver := jbOp b == 3
  let (ab, s) := s.abortAt j src.length
  let r := pltDecode d src (if ver then 2 ^ 64 else jbDstLen b) (jbFinal b) ab
  let s := if ver then s else s.busWrite j.panel (s.viewTr (s.jobPoster j) j.panel (jbDst b)) r.out
  let s := s.countN p 0x060 r.blocks
  if r.status = Plt.ok ∨ r.status = Plt.outFull ∨ r.status = Plt.inEmpty ∨ r.status = Plt.aborted then
    let s := if r.status = Plt.ok then s else s.saveCtx j r.dec
    s.pltEnd e j r.status r.took r.out.length r.blocks
  else
    let s := ((s.count p 0x068).err p 0x01 r.status (s.viewTr (s.jobPoster j) j.panel (jbSrc b + r.inOk))).raise p 1
    let (v, s) := s.drawFree 32
    s.pltEnd e j r.status v r.outOk r.blocks

/-- An explicit job's work at its end. -/
def State.pltExplicit (s : State) (e : Nat) (j : PleatJob) : State :=
  if j.early ≠ 0 then s.pltEnd e j j.early 0 0 0
  else
    let b := j.block
    let src := s.viewTr (s.jobPoster j) j.panel (jbSrc b)
    s.busRead j.panel src (jbSrcLen b) fun bytes s =>
      let start : Option (PltDec × State) :=
        if jbResume b then s.takeCtx j (memRead s.mem (s.jobCtx j) 65600) else some (pltFresh, s)
      match start with
      | none => s.pltEnd e j Plt.ctxBad 0 0 0
      | some (d, s) => if jbOp b = 1 then s.pltCompressJob e j d bytes else s.pltDecodeJob e j d bytes

/-! ### Inline and decode jobs (R213 to R215) -/

/-- An inline job's end: the unit stored as an extent, or uncompressed (R214). -/
def State.pltInline (s : State) (e id : Nat) : State :=
  match s.heldAt id with
  | none => s
  | some h =>
    match h.whole with
    | none => s
    | some d =>
      let p := P.plt e
      let s := (s.dropHeld id).stgDrop (.pleat id)
      let (blk, st, rep) := pltBlock (s.rd p R.plt_LEVEL) 4 true true true [] d
      let s := (((s.count p 0x040).countN p 0x048 d.length).countN p 0x050 blk.length).count p 0x088
      let s := s.whenB st fun s => s.count p 0x058
      let s := s.whenB rep fun s => ((s.count p 0x078).err p 0x02 0 0).raise p 2
      if !st && decide (blk.length ≤ 61440) then
        let n := (blk.length + 4095) / 4096
        s.storeCoarse h.use h.ns h.unit h.panel true (blk ++ zeros (n * 4096 - blk.length))
      else s.storeCoarse h.use h.ns h.unit h.panel false d

/-- A unit stored uncompressed because no engine takes it (R213, R231). -/
def State.storePlain (s : State) (id : Nat) : State :=
  match s.heldAt id with
  | none => s
  | some h => (s.dropHeld id).storeCoarse h.use h.ns h.unit h.panel false (h.whole.getD (zeros unitBytes))

/-- A decode job's end: exactly 65,536 bytes that pass every check, or the unit is uncorrectable (R215). -/
def State.pltDecoded (s : State) (e job : Nat) : State :=
  match s.job? job with
  | none => s
  | some j =>
    let p := P.plt e
    let r := pltDecode pltFresh (s.jobBytes j) (2 ^ 64) true none
    let s := s.countN p 0x060 r.blocks
    if r.status = Plt.ok ∧ r.out.length = unitBytes then s.deliverJob j r.out
    else
      let st := if r.status = Plt.ok then Plt.lenMismatch else r.status
      let at_ := ((s.stgFor (.job job)).map fun n => stgAddr n + r.inOk).getD 0
      (((s.count p 0x068).err p 0x01 st at_).raise p 1).failJob j

/-- PLEAT_JOB_COMPLETE: a lane's job ends; the next queued job takes the lane. -/
def execPleatJobComplete (engine lane : Nat) (s : State) : Host.Outcome State Fault Refusal :=
  .next (match Tbl.at? s.pleat.lanes (engine * 4 + lane) with
    | none => s
    | some j =>
      let s := match j.origin with
        | .inline id => s.pltInline engine id
        | .decode job => s.pltDecoded engine job
        | _ => s.pltExplicit engine j
      { s with pleat := { s.pleat with lanes := Tbl.del s.pleat.lanes (engine * 4 + lane) } }.pltFill engine)

/-- INLINE_JOB_ENQUEUE (R213): a held whole unit goes to an engine with INLINE_EN, waits while their queues are full, or is stored
uncompressed where there is none. `seq` is the held unit's number. -/
def execInlineJobEnqueue (seq : Nat) (s : State) : Host.Outcome State Fault Refusal :=
  .next (match s.heldAt seq with
    | none => s
    | some h =>
      if h.phase ≠ 1 then s
      else
        let takes (e : Nat) : Bool := s.on (P.plt e) R.plt_INLINE_EN
        match s.pltPick takes with
        | none => s.storePlain seq
        | some e =>
          if 32 ≤ (s.pltQueue e).length then s
          else
            let held := s.seam.held.map fun x => if x.id = seq then { x with phase := 2 } else x
            { s with seam := { s.seam with held := held } }.pltPush e ⟨.inline seq, 0, h.panel, false, [], 0⟩)

/-- DECODE_JOB_ENQUEUE (R215): a read compressed extent goes to an engine, or its read fails where none is enabled. -/
def execDecodeJobEnqueue (job : Nat) (s : State) : Host.Outcome State Fault Refusal :=
  .next (match s.job? job with
    | none => s
    | some j =>
      if j.decode ≠ 1 then s
      else
        match s.pltPick fun _ => true with
        | none => s.failJob j
        | some e =>
          if 32 ≤ (s.pltQueue e).length then s
          else (s.updJob job fun j => { j with decode := 2 }).pltPush e ⟨.decode job, 0, 0, false, [], 0⟩)

/-! ### Submission, disabling, abort (R225, R231, R232, R235) -/

/-- A job returned because its engine is disabled (R231). -/
def State.pltReturn (s : State) (e : Nat) (j : PleatJob) : State :=
  match j.origin with
  | .inline id => s.storePlain id
  | .decode job => s.updJob job fun j => { j with decode := 1 }
  | _ => s.pltEnd e j Plt.unitDisabled 0 0 0

/-- JOB_GO (R235): queued, returned at once where the engine is disabled, ignored with QUEUE_REJ while its queue is full. -/
def State.pltGo (s : State) (engine : Nat) : State :=
  let p := P.plt engine
  let j : PleatJob := ⟨.go, s.rd p R.plt_JOB_LO + s.rd p R.plt_JOB_HI * 2 ^ 32, 0, false, [], 0⟩
  if 32 ≤ (s.pltQueue engine).length then (s.flag p R.plt_QUEUE_REJ).raise p 4
  else if s.pltOn engine then s.pltPush engine j
  else s.pltReturn engine j
/-- JOB_GO (R235). -/
def execJobGo (ag : Agent) (engine : Nat) (s : State) : Host.Outcome State Fault Refusal :=
  .next (s.whenB (s.pltPresent engine) fun s => s.gated ag (P.plt engine) 0x108 false fun s => s.pltGo engine)

/-- CTRL.EN of an engine cleared (R231): running jobs complete; without DRAIN the queued ones are returned. -/
def State.pltDisable (s : State) (e : Nat) : State :=
  let s := s.wr (P.plt e) R.common_EN 0
  if s.on (P.plt e) R.common_DRAIN then s
  else
    let q := s.pltQueue e
    q.foldl (fun s j => s.pltReturn e j) { s with pleat := { s.pleat with queue := Tbl.del s.pleat.queue e } }
/-- PLT_CTRL_EN_CLEAR. -/
def execPltCtrlEnClear (ag : Agent) (engine : Nat) (s : State) : Host.Outcome State Fault Refusal :=
  .next (s.whenB (s.pltPresent engine) fun s => s.gated ag (P.plt engine) 0x008 false fun s =>
    s.whenB (s.en (P.plt engine)) fun s => s.pltDisable engine)

/-- The abort of a PLEAT item's job: removed from its queue, or stopped at its next boundary (R232). -/
def State.pltAbort (s : State) (n : Nat) : State :=
  let mine (j : PleatJob) : Bool := j.origin == .item n
  match s.pleat.queue.find? fun e => e.2.any mine with
  | some (e, q) =>
    let s := { s with pleat := { s.pleat with queue := Tbl.put s.pleat.queue e (q.filter fun j => !mine j) } }
    (q.filter mine).foldl (fun s j => s.pltEnd e j Plt.aborted 0 0 0) s
  | none =>
    let lanes := s.pleat.lanes.map fun (x : Nat × PleatJob) => (x.1, if mine x.2 then { x.2 with abort := true } else x.2)
    { s with pleat := { s.pleat with lanes := lanes } }

end Sys2Proof.Machine
end

