-- ==== Sys2Proof/Machine/SpoolCmd.lean ====
section
/-!
DEFINITION. Sys2Proof/Machine/SpoolCmd.lean: the commands of the Spool family: dispatch, the start of an item of each kind, cancelling and
disabling, Take-up and Tracing (12_shuttle_spool.md R327 to R345; 13_host_network.md R351; 14_panels.md R381).
-/

namespace Sys2Proof.Machine

/-! ### Cores (R325 to R327, R335, R336) -/

/-- LS_BASE (10_agrek_model.md R278). -/
def lsBase : Nat := 0xFFFF00000000
/-- A core with every register 0 and nothing stored. -/
def coreZero : Core where
  b := List.replicate 8 0
  pc := 0
  psw := 0
  rcnt := 0
  fp := 0
  ls := []
  bits := []
  wins := []
  cplQ := []
  st := .stopped
  halted := false
/-- A core's state; a Shuttle core that has run nothing is `coreZero`. -/
def State.core (s : State) (k : Nat) : Core := (Tbl.at? s.cores k).getD coreZero
/-- A core's state set. -/
def State.setCore (s : State) (k : Nat) (c : Core) : State := { s with cores := Tbl.put s.cores k c }

/-- Whether a Shuttle core is free: its cluster enabled and powered, its CORE_EN bit set, no item on it (R343). -/
def State.coreFree (s : State) (k : Nat) : Bool :=
  s.pageUp (P.shc (k / 4)) && s.en (P.shc (k / 4)) && (s.rd (P.shc (k / 4)) R.shc_CORE_EN).testBit (k % 4) &&
    !Tbl.has s.spool.coreItem k
/-- The free cores, lowest first. -/
def State.freeCores (s : State) : List Nat := (List.range (4 * nClusters s.part)).filter s.coreFree
/-- Whether an item's CLUSTERS allows a core. -/
def Item.allows (i : Item) (k : Nat) : Bool := i.clusters == 0 || i.clusters.testBit (k / 4)
/-- Core time that each panel may use in an epoch, in core-µs (14_panels.md R380). -/
def State.coreShare (s : State) : Nat := 3200 / s.panels.epochN
/-- Whether a panel has used its core time. -/
def State.coreSpent (s : State) (panel : Nat) : Bool :=
  s.mode M.panel && decide (s.coreShare ≤ (Tbl.at? s.spool.coreUs panel).getD 0)
/-- The PROGRAM items that wait and may go. -/
def State.programs (s : State) : List (Nat × Item) := s.spool.items.filter fun e => e.2.kind == 1 && s.eligible e
/-- The free cores an item may take: those its CLUSTERS allows and, for a panel that has used its core time, those that no other
panel's item with time left can take (14_panels.md R381). -/
def State.coresFor (s : State) (e : Nat × Item) : List Nat :=
  let f := s.freeCores.filter e.2.allows
  if s.coreSpent e.2.panel then
    let others := s.programs.filter fun o => decide (o.2.panel ≠ e.2.panel) && !s.coreSpent o.2.panel
    f.filter fun k => !others.any fun o => o.2.allows k
  else f
/-- Whether an item's flow last ran on a free core. -/
def State.lastFree (s : State) (i : Item) : Bool :=
  match Tbl.at? s.spool.lastCore i.flowKey with | some k => i.flow != 0 && s.coreFree k | none => false
/-- Whether an item is affine to a free core (R335). -/
def State.affine (s : State) (i : Item) : Bool := i.aged || s.lastFree i
/-- The order of the dispatch among candidates: by key, then affine first with DEADLINE, then earliest acceptance. -/
def dispBefore (deadline : Bool) (s : State) (a b : Nat × Item) : Bool :=
  let aff (e : Nat × Item) : Nat := if deadline && s.affine e.2 then 0 else 1
  decide (a.2.key < b.2.key) || (a.2.key == b.2.key && (decide (aff a < aff b) || (aff a == aff b && decide (a.2.order ≤ b.2.order))))
/-- The first of candidates in the order of the dispatch. -/
def State.firstOf (s : State) (deadline : Bool) (l : List (Nat × Item)) : Option (Nat × Item) :=
  (sortBy (dispBefore deadline s) l).head?
/-- The candidates on the lowest list that holds any. -/
def lowestList (l : List (Nat × Item)) : List (Nat × Item) :=
  match leastBy (fun e : Nat × Item => e.2.list) l with
  | some m => l.filter fun e => e.2.list = m.2.list
  | none => []
/-- The item and core of the next Shuttle dispatch (R335). -/
def State.shuttlePick (s : State) : Option (Nat × Item × Nat) :=
  let c := lowestList (s.programs.filter fun e => s.coresFor e ≠ [])
  let pick :=
    if s.mode M.deadline then s.firstOf true c
    else match s.firstOf false (c.filter fun e => s.affine e.2) with
      | some e => some e
      | none => s.firstOf false c
  pick.map fun e =>
    let f := s.coresFor e
    let last := if e.2.flow = 0 then none else Tbl.at? s.spool.lastCore e.2.flowKey
    let k := match last with
      | none => f.headD 0
      | some l => if f.contains l then l else ((f.find? fun k => k / 4 = l / 4).getD (f.headD 0))
    (e.1, e.2, k)

/-- The wait of an item in µs. -/
def State.waitUs (s : State) (i : Item) : Nat := (s.splTime - i.accepted) / 1500
/-- Whether Spool dispatches: enabled, or draining after CTRL.EN was cleared with DRAIN (R342). -/
def State.splRuns (s : State) : Bool := s.seamRuns && s.pageUp P.spl && (s.splOn || s.spool.draining)

/-- SPOOL_SHUTTLE_DISPATCH (R335): the dispatch of one cycle to a Shuttle core. -/
def execSpoolShuttleDispatch (s : State) : Host.Outcome State Fault Refusal :=
  .next (s.whenB s.splRuns fun s =>
    match s.shuttlePick with
    | none => s
    | some (n, i, k) =>
      let last := i.flow != 0 && Tbl.at? s.spool.lastCore i.flowKey == some k
      let dec := if last then 0x04 else if i.aged then 0x05 else 0x03
      let s := s.count P.spl 0x050
      let s := (s.whenB last fun s => s.count P.spl 0x058).whenB (dec == 5) fun s => s.count P.spl 0x060
      let s := s.trace dec n i k (s.waitUs i)
      let s := { s with spool := { s.spool with coreItem := Tbl.put s.spool.coreItem k n,
                                                lastCore := if i.flow = 0 then s.spool.lastCore
                                                  else Tbl.put s.spool.lastCore i.flowKey k } }
      s.updItem n fun i => { i with st := .dispatched, core := some k, unit := k })

/-- The queue of the unit that an item names, where it has room: the CORE code of the target (R335, R344). -/
def State.unitFor (s : State) (i : Item) : Option Nat :=
  if i.kind = 2 then some 0x3B
  else if i.kind = 3 then some 0x39
  else if i.kind = 4 then
    let e := if i.arg0 = 0xF then (s.pltPick fun _ => true).getD 0 else i.arg0
    if 32 ≤ (s.pltQueue e).length then none else some (0x30 + e)
  else if i.kind = 5 then if 32 ≤ s.gauge.queue.length then none else some 0x38
  else if i.kind = 6 then some 0x3A
  else some 0x3D

/-- SPOOL_UNIT_DISPATCH (R335): the dispatch of one cycle to the engines and Seam. -/
def execSpoolUnitDispatch (s : State) : Host.Outcome State Fault Refusal :=
  .next (s.whenB s.splRuns fun s =>
    let c := lowestList (s.spool.items.filter fun e => e.2.kind != 1 && s.eligible e && (s.unitFor e.2).isSome)
    match s.firstOf false c with
    | none => s
    | some (n, i) =>
      let u := (s.unitFor i).getD 0xFF
      let s := (s.count P.spl 0x050).trace 0x03 n i u (s.waitUs i)
      let s := s.whenB (i.kind == 2) fun s => s.count P.bob 0x040
      s.updItem n fun i => { i with st := .dispatched, unit := u })

/-- AFFINITY_AGE_EXPIRY (R335): an item that has waited longer than AFF_WAIT_US becomes affine to every core. -/
def execAffinityAgeExpiry (item : Nat) (s : State) : Host.Outcome State Fault Refusal :=
  .next (match s.item? item with
    | some i =>
      s.whenB (i.st == .waiting && i.kind == 1 && decide (s.rd P.spl R.spl_AFF_WAIT_US < s.waitUs i)) fun s =>
        s.updItem item fun i => { i with aged := true }
    | none => s)

/-! ### Starting items -/

/-- What an item in its unit's queue does when it is taken up, for an item of one kind. -/
def State.begin (s : State) (n kind : Nat) (f : Item → State → State) : State :=
  match s.item? n with
  | none => s
  | some i =>
    if i.st = .dispatched ∧ i.kind = kind then f i (s.updItem n fun i => { i with st := .running }) else s

/-- The first state of a task (R336), or the state that YIELD saved. -/
def startRegs (i : Item) (c : Core) : Core :=
  match i.saved with
  | none =>
    { c with b := [BitVec.ofNat 64 i.arg0, BitVec.ofNat 64 i.arg1, BitVec.ofNat 64 i.arg2, 0, 0, 0, 0, BitVec.ofNat 64 (lsBase + 0x40000)],
             pc := i.target, psw := 0, rcnt := 0, fp := 0 }
  | some l =>
    { c with b := (List.range 8).map fun k => BitVec.ofNat 64 (l.getD k 0), pc := l.getD 8 0, psw := l.getD 9 0, rcnt := l.getD 10 0,
             fp := BitVec.ofNat 64 (l.getD 11 0) }

/-- PROGRAM (R327, R336): the task starts on its core; the local store and bit space of another panel's task are cleared. -/
def execProgram (item : Nat) (s : State) : Host.Outcome State Fault Refusal :=
  .next (s.begin item 1 fun i s =>
    let k := i.core.getD 0
    let p := P.shc (k / 4)
    let clear := s.on p R.shc_CLR_ALWAYS || Tbl.at? s.spool.lastPanel k != some i.panel
    let c := s.core k
    let c := if clear then { c with ls := [], bits := [] } else c
    let c := { startRegs i c with wins := s.panelWins i.panel, cplQ := i.heldCpls, st := .run, halted := false }
    let s := { s.setCore k c with spool := { s.spool with lastPanel := Tbl.put s.spool.lastPanel k i.panel } }
    let s := (((s.dropLines (.shuttle k)).count p 0x040).count p 0x068).whenB clear fun s => s.count p 0x050
    s.updItem item fun i => { i with saved := none, heldCpls := [] })

/-- The panel that a namespace is attached to (14_panels.md R379; 15_modes.md R390). -/
def State.nsPanel (s : State) (ns : Nat) : Nat := s.panelOf (((Tbl.at? s.nvme.ns ns).map (·.panel)).getD 0)

/-- The region of a HEM_APPEND item. -/
def Item.region (i : Item) : Nat := bitsAt i.arg0 18 12
/-- The namespace that a SEAM item acts on: for an append that of its region. -/
def State.itemNs (s : State) (i : Item) : Nat :=
  if i.op = 5 then ((Tbl.at? s.seam.hem i.region).map (·.ns)).getD i.ns else i.ns
/-- A SEAM item of one operation taken up by the firmware; one whose mode is off, or whose namespace another panel holds, ends
UNIT_DISABLED (15_modes.md R390, R393; log entry 31); a locked key slot refuses it whole (04_nand_channels.md R115). -/
def State.seamItem (s : State) (n op : Nat) (on : State → Bool) (f : Item → State → State) : State :=
  match s.item? n with
  | none => s
  | some i =>
    if i.op ≠ op then s
    else s.begin n 2 fun i s =>
      let ns := s.itemNs i
      if !on s || s.nsPanel ns != i.panel then s.cplItem 70 n Cs.disabled 0
      else if !s.keyOpen ns then (s.keyRefused ns).endSeam n 0x0A 0 0
      else f i s

/-- SEAM_STREAM (07_pinking.md R189): a stream starts, or is refused with a Seam code. A host's Filter Stream carries its output area
in its command. -/
def execSeamStream (item : Nat) (s : State) : Host.Outcome State Fault Refusal :=
  .next (s.seamItem item 1 (fun s => s.mode M.pink) fun i s =>
    let slot := bitsAt i.arg1 44 2
    let strm := i.arg1.testBit 46
    let code := s.streamRefusal i.ns i.first i.units slot strm
    if code ≠ 0 then s.endSeam item code 0 0
    else
      let (id, s) := s.newId
      let out := match i.poster with
        | .nvme key => (Tbl.at? s.nvme.cmds key).map fun c => (c.start, c.len, 0)
        | _ => none
      let x : Stream :=
        { id := id, item := item, panel := i.panel, ns := i.ns, first := i.first, count := i.units, slot := slot, strm := strm,
          firstOff := bitsAt i.arg1 48 16, report := i.addr2, unit := s.pnkDram.getD 24, done := [], failed := 0, aborted := false,
          out := out, full := false, carry := none, nextOff := 0, pendRep := none }
      (s.startStream x).checkStream id)

/-- SEAM_REGISTER (02_seam_map.md R50): a record range registered, or refused with RANGE_CONFLICT or RANGE_FULL. -/
def execSeamRegister (item : Nat) (s : State) : Host.Outcome State Fault Refusal :=
  .next (s.seamItem item 2 (fun _ => true) fun i s =>
    if s.seam.ranges.any fun r => decide (r.ns = i.ns) && meets i.first i.units r.first r.count then s.endSeam item 0x01 0 0
    else if 4096 ≤ s.seam.ranges.length then s.endSeam item 0x02 0 0
    else
      let r : RecRange := ⟨i.ns, i.first, i.units, bitsAt i.arg1 32 12 + 1, i.arg1.testBit 46, i.panel⟩
      { s with seam := { s.seam with ranges := s.seam.ranges ++ [r] } }.endSeam item 0 0 0)

/-- SEAM_UNPICK (03_seam_reclaim.md R89): refused over a Hem region, else begun, or waiting behind 16 others. -/
def execSeamUnpick (item : Nat) (s : State) : Host.Outcome State Fault Refusal :=
  .next (s.seamItem item 3 (fun s => s.mode M.unpick) fun i s =>
    if s.touchesHem i.ns i.first i.units then (s.count P.unpk 0x050).endSeam item 0x05 0 0
    else
      let u : Unpick := ⟨some item, i.ns, i.first, i.units, 0, [], [], false, false, []⟩
      { s with seam := { s.seam with unpicks := s.seam.unpicks ++ [u] } }.nextUnpicks)

/-- SEAM_HEM_CREATE (03_seam_reclaim.md R94): the result word holds the region. -/
def execSeamHemCreate (item : Nat) (s : State) : Host.Outcome State Fault Refusal :=
  .next (s.seamItem item 4 (fun s => s.mode M.hem) fun i s =>
    let (code, r, s) := s.hemMake i.ns i.first i.units
    s.endSeam item code 0 r)

/-- The bytes of an append: a host command's data, or the source that the item names. -/
def State.appendData (s : State) (i : Item) (f : List Byte → State → State) : State :=
  match i.poster with
  | .nvme key =>
    match Tbl.at? s.nvme.cmds key with
    | some c => let (d, s) := s.fetchData c; f d s
    | none => s
  | _ => s.busRead i.panel i.addr2 i.units f
/-- SEAM_HEM_APPEND (03_seam_reclaim.md R85, R97, R102): the bytes are taken into the open unit, or wait for the budget. -/
def execSeamHemAppend (item : Nat) (s : State) : Host.Outcome State Fault Refusal :=
  .next (s.seamItem item 5 (fun s => s.mode M.hem) fun i s =>
    if s.on P.recl R.recl_READONLY then s.endSeam item 0x0B 0 0
    else
      s.appendData i fun data s =>
        if s.seam.hemWait = [] ∧ s.hemUse < s.hemBudget then s.hemTake item i.region data
        else { s with seam := { s.seam with hemWait := s.seam.hemWait ++ [(item, i.region, data)] } })

/-- PINK_LOAD (07_pinking.md R200): the load begins on every present unit that the item names. -/
def execPinkLoad (item : Nat) (s : State) : Host.Outcome State Fault Refusal :=
  .next (s.begin item 3 fun i s =>
    let mask := bitsAt i.arg0 8 28
    let us := (List.range 28).filter fun u => s.pnkPresent u && (mask == 0 || mask.testBit u)
    if us = [] then s.cplUnit 70 item 0x07 0
    else us.foldl (fun s u => s.startLoad u ⟨bitsAt i.arg0 0 2, i.target, i.panel, some item⟩) s)

/-- PLEAT (08_pleat.md R231): the job block goes to its engine's queue, or returns from a disabled one. -/
def execPleat (item : Nat) (s : State) : Host.Outcome State Fault Refusal :=
  .next (s.begin item 4 fun i s =>
    let e := i.unit - 0x30
    let j : PleatJob := ⟨.item item, i.target, i.panel, false, [], 0⟩
    if s.pltOn e then s.pltPush e j else s.pltReturn e j)

/-- GAUGE (09_gauge.md R244): the batch block goes to Gauge. -/
def execGauge (item : Nat) (s : State) : Host.Outcome State Fault Refusal :=
  .next (s.begin item 5 fun i s => s.gauSubmit i.target i.panel (some item))

/-! ### DMA (13_host_network.md R350, R351; 15_modes.md R395) -/

/-- A DMA item's end with a code (R351, R375). -/
def State.dmaEnd (s : State) (n code addr : Nat) : State :=
  let s := (s.count P.pci 0x040).wr P.pci R.pci_LAST_DMA_CODE code
  let s := s.whenB (code == 2) fun s => s.count P.pci 0x050
  let s := s.whenB (code != 0) fun s => (s.err P.pci 0x01 code addr).raise P.pci 2
  s.cplUnit 71 n code 0
/-- Whether a DMA item names host memory. -/
def Item.toHost (i : Item) : Bool := decide (hostBase ≤ i.arg0) || decide (hostBase ≤ i.arg1)
/-- The host address that a DMA item has reached. -/
def Item.hostAt (i : Item) : Nat :=
  if hostBase ≤ i.arg1 then i.arg1 + i.dmaDone - hostBase else if hostBase ≤ i.arg0 then i.arg0 + i.dmaDone - hostBase else 0
/-- The bytes of the next request: reads up to 4,096 bytes, writes up to 512, never across 4 KiB of host memory (log entry 32). -/
def Item.chunk (i : Item) : Nat :=
  let left := i.arg2 - i.dmaDone
  let rd := if hostBase ≤ i.arg0 then 4096 - (i.arg0 + i.dmaDone) % 4096 else 4096
  let wr := if hostBase ≤ i.arg1 then min 512 (4096 - (i.arg1 + i.dmaDone) % 4096) else 4096
  min left (min rd wr)

/-- DMA (R351): the item's first request goes out, or the item fails at once. -/
def execDma (item : Nat) (s : State) : Host.Outcome State Fault Refusal :=
  .next (s.begin item 6 fun i s =>
    if (!s.mode M.host && !s.mode M.net) || (i.toHost && !s.nvme.linkUp) then s.dmaEnd item 4 i.hostAt
    else if i.toHost && s.mode M.panel && !s.panelActive i.panel then s.dmaEnd item 5 i.hostAt
    else s)

/-- DMA_REQUEST_COMPLETE (R340, R351): the outstanding request ends; the item stops on a failure or a cancel, ends, or goes on. -/
def execDmaRequestComplete (item code : Nat) (s : State) : Host.Outcome State Fault Refusal :=
  .next (match s.item? item with
    | none => s
    | some i =>
      if i.kind ≠ 6 ∨ i.st ≠ .running ∨ 5 ≤ code ∨ code = 2 then s
      else if code ≠ 0 then s.dmaEnd item code i.hostAt
      else
        let n := i.chunk
        s.busRead i.panel (i.arg0 + i.dmaDone) n fun b s =>
          let s := (s.busWrite i.panel (i.arg1 + i.dmaDone) b).countN P.pci 0x048 n
          let s := s.updItem item fun i => { i with dmaDone := i.dmaDone + n }
          if i.cancel then (s.count P.pci 0x040).cplItem 71 item Cs.cancelled 0
          else s.whenB (i.dmaDone + n == i.arg2) fun s => s.dmaEnd item 0 0)

/-- DMA_TIMEOUT (R351): code 0x02. -/
def execDmaTimeout (item : Nat) (s : State) : Host.Outcome State Fault Refusal :=
  .next (match s.item? item with
    | some i => s.whenB (i.kind == 6 && i.st == .running) fun s => s.dmaEnd item 2 i.hostAt
    | none => s)

/-- BUF_RELEASE (R338, R339): the buffer is freed and the item completes in the same cycle. -/
def execBufRelease (item : Nat) (s : State) : Host.Outcome State Fault Refusal :=
  .next (s.begin item 7 fun i s =>
    match (stgOfAddr i.arg0).filter fun b => ((Tbl.at? s.stg.bufs b).map (·.panel)) == some i.panel with
    | some b => (s.stgRelease b).completeItem item Cs.ok 0
    | none => s.completeItem item Cs.badBuffer 0)

/-- STG_REL_GO (R339, R346): frees the buffer at STG_REL. -/
def State.stgRelGo (s : State) : State :=
  let a := s.rd P.spl R.spl_STG_REL_LO + s.rd P.spl R.spl_STG_REL_HI * 2 ^ 32
  match (stgOfAddr a).filter fun b => Tbl.has s.stg.bufs b with
  | some b => s.stgRelease b
  | none => ((s.flag P.spl R.spl_STG_REL_BAD).err P.spl 0x02 0 a).raise P.spl 3
/-- STG_REL_GO (R346). -/
def execStgRelGo (ag : Agent) (s : State) : Host.Outcome State Fault Refusal := .next (s.gated ag P.spl 0x124 false State.stgRelGo)

/-! ### Ending and cancelling (R337, R340, R342) -/

/-- A task ended: its core stops and its completion is presented at the cluster's source. -/
def State.endTask (s : State) (k status result : Nat) : State :=
  match Tbl.at? s.spool.coreItem k with
  | none => s
  | some n =>
    let s := { s with cores := Tbl.upd s.cores k fun c => { c with st := .stopped, cplQ := [] } }
    (s.updItem n fun i => { i with st := .done }).cplItem (62 + k / 4) n status result

/-- Whether an item's completion status has been written. -/
def State.itemEnded (s : State) (n : Nat) (i : Item) : Bool :=
  i.st == .done || (s.spool.cpls ++ s.spool.granted).any fun c => c.item == some n

/-- The cancel of an item: CANCEL_RESULT and the state; `status` is CANCELLED, or SQUASHED for the waiting
items of a panel being reset; a running task ends CANCELLED in either case (R383 step 3). -/
def State.cancelItem (s : State) (n status : Nat) : Nat × State :=
  match s.item? n with
  | none => (3, s)
  | some i =>
    let s := s.count P.spl 0x068
    if s.itemEnded n i then (1, s.trace 0x09 n i 0xFF 0)
    else if i.st = .waiting ∨ i.st = .dispatched then (0, (s.trace 0x08 n i 0xFF 0).completeItem n status 0)
    else if i.kind = 1 then
      let k := i.core.getD 0
      (0, ((s.trace 0x08 n i 0xFF 0).count (P.shc (k / 4)) 0x048).endTask k Cs.cancelled 0)
    else if i.kind = 6 then (0, (s.trace 0x08 n i 0xFF 0).updItem n fun i => { i with cancel := true })
    else
      let s := s.trace 0x08 n i 0xFF 2
      (2, if i.kind = 4 then s.pltAbort n
        else if i.kind = 5 then s.gauAbort n
        else if i.kind = 2 ∧ i.op = 3 then s.abortUnpick n
        else if i.kind = 2 ∧ i.op = 1 then
          match s.seam.streams.find? fun x => x.item = n with | some x => s.abortStream x.id | none => s
        else s)

/-- CANCEL_GO (R340, R346). -/
def State.cancelGo (s : State) : State :=
  let (r, s) := s.cancelItem (s.rd P.spl R.spl_CANCEL_ITEM) Cs.cancelled
  (s.wr P.spl R.spl_CANCEL_RESULT r).raise P.spl 1
/-- CANCEL_GO (R340). -/
def execCancelGo (ag : Agent) (s : State) : Host.Outcome State Fault Refusal := .next (s.gated ag P.spl 0x108 false State.cancelGo)

/-- CTRL.EN of Spool cleared (R342): dispatch stops; without DRAIN the waiting items complete UNIT_DISABLED. -/
def State.splDisable (s : State) : State :=
  let s := s.wr P.spl R.common_EN 0
  if s.on P.spl R.common_DRAIN then { s with spool := { s.spool with draining := true } }
  else
    let waiting := (s.spool.items.filter fun e => e.2.st = .waiting).map (·.1)
    waiting.foldl (fun s n => s.completeItem n Cs.disabled 0) { s with spool := { s.spool with draining := false } }
/-- SPL_CTRL_EN_CLEAR. -/
def execSplCtrlEnClear (ag : Agent) (s : State) : Host.Outcome State Fault Refusal :=
  .next (s.gated ag P.spl 0x008 false fun s => s.whenB (s.en P.spl) State.splDisable)

/-- The waiting PROGRAM items that name no enabled core ended (R342). -/
def State.dropCoreless (s : State) : State :=
  let l := (s.spool.items.filter fun e => e.2.st == .waiting && s.noCore e.2).map (·.1)
  l.foldl (fun s n => s.completeItem n Cs.disabled 0) s

/-- CORE_EN_WRITE (R342). -/
def execCoreEnWrite (ag : Agent) (cluster val : Nat) (s : State) : Host.Outcome State Fault Refusal :=
  .next (s.whenB (decide (cluster < nClusters s.part)) fun s => s.gated ag (P.shc cluster) 0x100 false fun s =>
    (s.wr (P.shc cluster) R.shc_CORE_EN val).dropCoreless)

/-! ### Take-up (R343) -/

/-- Whether a source presents a completion. -/
def State.requests (s : State) (src : Nat) : Bool := s.spool.cpls.any fun c => c.src = src
/-- The sources that the next cycle grants. -/
def State.tkuGrants (s : State) : List Nat :=
  (((List.range 72).map fun k => (s.rd P.tku R.tku_ROT_PTR + k) % 72).filter s.requests).take 4
/-- A source's completion moved from its register to the granted ones. -/
def State.grantOne (s : State) (src : Nat) : State :=
  match s.spool.cpls.find? fun c => c.src = src with
  | none => s
  | some c => { s with spool := { s.spool with cpls := s.spool.cpls.erase c, granted := s.spool.granted ++ [c] } }
/-- TAKEUP_GRANT (R343): up to four sources from ROT_PTR; none in Ward (20_faults.md R492). -/
def execTakeupGrant (s : State) : Host.Outcome State Fault Refusal :=
  .next (s.whenB (s.dev != Dev.ward) fun s =>
    let g := s.tkuGrants
    match g.getLast? with
    | none => s
    | some l =>
      let held := ((List.range 72).filter s.requests).length - g.length
      let s := (s.countN P.tku 0x040 g.length).countN P.tku 0x050 held
      let s := s.whenB (g.length == 4) fun s => s.count P.tku 0x048
      (g.foldl State.grantOne s).wr P.tku R.tku_ROT_PTR ((l + 1) % 72))

/-- COMPLETION_DELIVERY (R338, R343): the first granted completion reaches its consumer. A ring completion of Selvedge goes to Bobbin core
0 (log entry 30). -/
def execCompletionDelivery (s : State) : Host.Outcome State Fault Refusal :=
  .next (match s.spool.granted with
    | [] => s
    | c :: r =>
      let s := { s with spool := { s.spool with granted := r } }
      match c.item with
      | some n => s.completeItem n c.status c.result
      | none =>
        if c.src = 61 ∧ c.info < 2 ^ 16 then s.cplToCore 32 (c.info + c.status * 2 ^ 16 + c.result * 2 ^ 24) else s)

/-- TRACE_RECORD_ACK (R345; 21_register_pages.md R511): the oldest buffered record stands in the ring, and goes to the trace port where that
is on and free. -/
def execTraceRecordAck (s : State) : Host.Outcome State Fault Refusal :=
  .next (match s.spool.trcBuf with
    | [] => s
    | b :: r =>
      let w := s.rd P.trc R.trc_TRC_WR
      let a := s.rd P.trc R.trc_TRC_BASE_LO + s.rd P.trc R.trc_TRC_BASE_HI * 2 ^ 32 + 16 * w
      let s := ({ s with spool := { s.spool with trcBuf := r } }.busWrite 0 a b).count P.trc 0x040
      let s := s.whenB (s.on P.trx R.trx_TRX_EN) fun s =>
        if s.spool.portBusy then s.count P.trx 0x040
        else { s with spool := { s.spool with portBusy := true } }.send (.traceport b)
      s.wr P.trc R.trc_TRC_WR ((w + 1) % 2 ^ s.rd P.trc R.trc_TRC_LOG2))

end Sys2Proof.Machine
end

