-- ==== Sys2Proof/Machine/TrustOps.lean ====
section
/-!
DEFINITION. Sys2Proof/Machine/TrustOps.lean: what Thimble does in many places: SPI NOR, the pattern block, images, keys, panel memory and
window sets (19_trust_pattern.md R470 to R481; 13_host_network.md R358, R360; 14_panels.md R380, R382).
-/

namespace Sys2Proof.Machine

/-! ### SPI NOR (R473) -/

/-- Bytes of SPI NOR; its stored form is the complement, so that an unlisted byte reads 0xFF. -/
def State.norRead (s : State) (a n : Nat) : List Byte := (memRead s.nor a n).map fun b => ~~~ b
/-- Bytes of SPI NOR erased and programmed. -/
def State.norWrite (s : State) (a : Nat) (l : List Byte) : State := { s with nor := memWrite s.nor a (l.map fun b => ~~~ b) }
/-- The places of the layout: pattern copies, key store entry, firmware slot. -/
def norPattern (copy : Nat) : Nat := copy * 0x1000
def norKey (n : Nat) : Nat := 0x2000 + 128 * n
def norSlot (slot : Nat) : Nat := if slot = 0 then 0x100000 else 0x900000
/-- The size of a firmware slot. -/
def slotSize : Nat := 0x800000

/-! ### The pattern block (R475, R476) -/

/-- A block whose CRC-32C and tag hold. -/
def State.patVerified (s : State) (b : List Byte) : Bool :=
  leAt b 0xFFC 4 == crc32c (b.take 0xFFC) && sliceOf b 0xFD8 32 == hmac256 s.trust.patternKey (b.take 0xFD8)
/-- Whether a range of bytes is zero. -/
def zeroAt (b : List Byte) (a n : Nat) : Bool := (sliceOf b a n).all fun x => x == 0
/-- NREC, MODE_EN and FLAGS of a block. -/
def patNrec (b : List Byte) : Nat := leAt b 6 2
def patModes (b : List Byte) : Nat := leAt b 0xC 2 % 4096
def patGen (b : List Byte) : Nat := leAt b 8 4
def patFlag (b : List Byte) (i : Nat) : Bool := (leAt b 0xE 1).testBit i
/-- The PANEL word, HOST entry and START entry of an index. -/
def patPanel (b : List Byte) (p : Nat) : Nat := leAt b (0x8C0 + 4 * p) 4
def patHost (b : List Byte) (i : Nat) : List Byte := sliceOf b (0x9C0 + 32 * i) 32
def patStart (b : List Byte) (i : Nat) : List Byte := sliceOf b (0xDC0 + 32 * i) 32
/-- Record i of a block: page, offset, value. -/
def patRec (b : List Byte) (i : Nat) : Nat × Nat × Nat := (leAt b (0x40 + 8 * i) 1, leAt b (0x42 + 8 * i) 2, leAt b (0x44 + 8 * i) 4)
/-- The form of R476: magic, layout, counts, reserved bytes and bits, the NAND rate, panel 0 active. -/
def patForm (b : List Byte) : Bool :=
  let rate := leAt b 0x842 2
  sliceOf b 0 4 == [0x4C, 0x50, 0x41, 0x54] && leAt b 4 2 == 1 && decide (patNrec b ≤ 256) && decide (leAt b 0xC 2 < 4096) &&
    decide (leAt b 0xE 1 < 4) && decide (leAt b 0xF 1 ≤ 8) && zeroAt b 0x10 0x30 &&
    ((List.range 256).all fun i => leAt b (0x41 + 8 * i) 1 == 0) && decide (leAt b 0x840 1 < 16) && leAt b 0x841 1 == 0 &&
    (rate == 0 || decide (10 ≤ rate ∧ rate ≤ 3600)) && zeroAt b 0x844 4 && ((List.range 15).all fun i => leAt b (0x84F + 8 * i) 1 == 0) &&
    ((List.range 64).all fun p => bitsAt (patPanel b p) 20 11 == 0) && (patPanel b 0).testBit 31 &&
    ((List.range 32).all fun i => !(leAt (patHost b i) 28 1).testBit 6 && zeroAt (patHost b i) 29 3) &&
    ((List.range 8).all fun i => decide (leAt (patStart b i) 8 1 < 16) && decide (leAt (patStart b i) 10 2 < 4096) &&
      zeroAt (patStart b i) 24 8) && zeroAt b 0xEC0 0x118 && zeroAt b 0xFF8 4

/-! ### Images (R471, R472) -/

/-- The header's fields. -/
def imgKind (h : List Byte) : Nat := leAt h 4 1
def imgVersion (h : List Byte) : Nat := leAt h 8 4
def imgBody (h : List Byte) : Nat := leAt h 12 4
/-- The length of a whole image. -/
def imgLen (h : List Byte) : Nat := 128 + imgBody h + 96
/-- Whether Thimble accepts an image of a kind (R472). -/
def State.imageOk (s : State) (kind : Nat) (img : List Byte) : Bool :=
  let h := img.take 128
  let key := leAt h 5 1
  let pub := sliceOf h 16 96
  let n := imgBody h
  sliceOf h 0 4 == [0x4C, 0x49, 0x4D, 0x47] && imgKind h == kind && decide (leAt h 6 2 < 2) && zeroAt h 112 16 && decide (key < 4) &&
    decide (1 ≤ n ∧ n ≤ 8388384) && decide (imgLen h ≤ img.length) &&
    sha384 pub == s.trust.keyHashes.getD key [] && !(s.rd P.pat R.pat_KEY_REVOKE).testBit key &&
    ecdsaOk (beNat (pub.take 48)) (beNat (pub.drop 48)) (beNat (sliceOf img (128 + n) 48)) (beNat (sliceOf img (176 + n) 48))
      (beNat (sha384 (img.take (128 + n)))) &&
    (kind != 1 || decide (s.rd P.pat R.pat_MIN_FW_VER ≤ imgVersion h))
/-- The image in a firmware slot, as long as its header says, at most a slot. -/
def State.slotImage (s : State) (slot : Nat) : List Byte :=
  s.norRead (norSlot slot) (min slotSize (imgLen (s.norRead (norSlot slot) 128)))
/-- The slot that does not run. -/
def State.spareSlot (s : State) : Nat := 1 - s.rd P.pat R.pat_FW_SLOT
/-- A firmware slot committed (R474): whether it was accepted; an accepted image with ARB raises MIN_FW_VER. -/
def State.commitFw (s : State) (slot : Nat) : Bool × State :=
  let img := s.slotImage slot
  if s.imageOk 1 img then
    let v := imgVersion img
    (true, s.whenB ((leAt img 6 1).testBit 0 && decide (s.rd P.pat R.pat_MIN_FW_VER < v)) fun s => s.wr P.pat R.pat_MIN_FW_VER v)
  else (false, s.count P.pat 0x058)

/-! ### Keys (R480, R481; the entry's layout is this model's, log entry 33) -/

/-- A key store entry: 0 for an AUTO entry, 1 for a SECRET one, seven zero bytes, the wrapped key. -/
def keyEntry (secret : Bool) (wrapped : List Byte) : List Byte := (if secret then 1 else 0) :: zeros 7 ++ wrapped
/-- Whether an entry holds a key, and whether it is SECRET. -/
def State.keyStored (s : State) (n : Nat) : Bool := decide (leAt (s.norRead (norKey n) 1) 0 1 ≤ 1)
def State.keySecret (s : State) (n : Nat) : Bool := leAt (s.norRead (norKey n) 1) 0 1 == 1
/-- The key that wraps an entry. -/
def State.kek (s : State) (secret : Option (List Byte)) : List Byte :=
  match secret with | some x => Config.deriveKey s.trust.rootKey x | none => s.trust.rootKey
/-- KLOAD of a slot. -/
def State.kload (s : State) (n : Nat) (key : List Byte) : State :=
  { s with trust := { s.trust with keySlots := Tbl.put s.trust.keySlots n key, lastKeys := Tbl.put s.trust.lastKeys n key } }
/-- KZAP of a slot. -/
def State.kzap (s : State) (n : Nat) : State := { s with trust := { s.trust with keySlots := Tbl.del s.trust.keySlots n } }
/-- A key wrapped into its entry. -/
def State.storeKey (s : State) (n : Nat) (secret : Option (List Byte)) (key : List Byte) : State :=
  s.norWrite (norKey n) (keyEntry secret.isSome (keyWrap (s.kek secret) key))
/-- A new key from the random source, stored AUTO and loaded (R480). -/
def State.newKey (s : State) (n : Nat) : State :=
  let (v, s) := s.drawFree 512
  (s.storeKey n none (natLE 64 v)).kload n (natLE 64 v)
/-- The key that an entry gives under a secret, or under the root key. -/
def State.openKey (s : State) (n : Nat) (secret : Option (List Byte)) : Option (List Byte) :=
  if s.keyStored n && s.keySecret n == secret.isSome then keyUnwrap (s.kek secret) (s.norRead (norKey n + 8) 72) else none

/-! ### Panel memory (13_host_network.md R360; 14_panels.md R380, R382; 02_seam_map.md R46) -/

/-- GiB. -/
def gib : Nat := 2 ^ 30
/-- The DRAM of the interleave set (17_dram.md R422, R424). -/
def State.dramBytes (s : State) : Nat := s.rd P.drm R.drm_NCH * s.board.ranks * (if s.board.density32 then 64 else 32) * gib
/-- The raw media of the present channels. -/
def State.rawMedia (s : State) : Nat := s.chans.length * s.board.ces * s.board.luns * s.board.blocks * s.rowSlots * 4096
/-- The DRAM that Seam requires (R46). -/
def State.seamNeed (s : State) : Nat := (s.rawMedia + 8191) / 8192 + 16 * gib
/-- The capacity that Rebuild offers to namespaces (R47, R83, R84): what the DRAM's map words hold, rounded down to a whole GiB where
the DRAM is short, and no more than the good rows hold beside the reserves. -/
def State.capLimited (s : State) : Bool := decide (s.dramBytes < s.seamNeed)
def State.capOffer (s : State) : Nat :=
  let hem := if s.mode M.hem then s.rd P.hem R.hem_HEM_BUDGET_GIB * gib else 0
  let media := (s.goodRows - 1 - s.rd P.recl R.recl_RESERVE_ROWS * s.chans.length) * (s.rowSlots * 4096) - hem
  if s.capLimited then min media ((s.dramBytes - 16 * gib) * 8192 / gib * gib) else media
/-- The local memory: its base, and a panel's share. -/
def State.slmBase (s : State) : Nat := dramBase + (s.seamNeed + 0x3FFFFFF) / 0x4000000 * 0x4000000
def State.slmShare (s : State) : Nat := (s.dramBytes - s.seamNeed) / s.nActive / 0x4000000 * 0x4000000
/-- A panel's share of the global bit space. -/
def State.gbitShare (s : State) : Nat := 1048576 / s.nActive / 4096 * 4096
/-- The lowest place from `lo` on, in steps, where an extent fits below `hi` beside those held. -/
def fitExtent (held : List (Nat × Nat)) (size step hi : Nat) : Nat → Nat → Option Nat
  | 0, _ => none
  | fuel + 1, lo =>
    if hi < lo + size then none
    else
      match held.find? fun e => meets lo size e.1 e.2 with
      | none => some lo
      | some e => fitExtent held size step hi fuel (max (lo + step) ((e.1 + e.2 + step - 1) / step * step))
/-- The places of a panel's local memory and global bit window, where free space holds them (R382). -/
def State.panelSpace (s : State) : Option ((Nat × Nat) × (Nat × Nat)) :=
  let mem := fitExtent (s.panels.slm.map (·.2)) s.slmShare 0x4000000 (dramBase + s.dramBytes) 65 s.slmBase
  let bits := fitExtent (s.panels.gbits.map (·.2)) s.gbitShare 4096 1048576 65 0
  match mem, bits with
  | some a, some b => some ((a, s.slmShare), (b, s.gbitShare))
  | _, _ => none

/-! ### Window sets (R470; 13_host_network.md R358; the virtual places are this model's, log entry 34) -/

/-- The program area of a panel: from its lowest image to the end of its share. -/
def State.progArea (s : State) (panel : Nat) : Nat :=
  let (b, n) := s.slmOf panel
  ((s.nvme.progs.filter fun e => e.2.panel = panel).map (·.2.addr)).foldl min (b + n)
/-- The windows of a panel: local memory below its images, its images, staging banks 1 to 31, the host aperture. -/
def State.windowSet (s : State) (panel : Nat) : Tbl Win :=
  let (b, n) := s.slmOf panel
  let a := s.progArea panel
  (if b < a then [(0, (⟨b, b, a - b, true, true, false, true, panel⟩ : Win))] else []) ++
    (if a < b + n then [(1, (⟨a, a, b + n - a, true, false, true, false, panel⟩ : Win))] else []) ++
    [(2, (⟨stgBase + 0x200000, stgBase + 0x200000, 31 * 0x200000, true, true, false, false, panel⟩ : Win)),
     (3, (⟨0x400000000000, hostBase, 0x400000000000, true, true, false, false, panel⟩ : Win))]
/-- A panel's window set rebuilt. -/
def State.rebuildWins (s : State) (panel : Nat) : State :=
  { s with panels := { s.panels with wins := Tbl.put s.panels.wins panel (s.windowSet panel) } }
/-- A panel's memory placed and its windows built. -/
def State.placePanel (s : State) (panel : Nat) : State :=
  match s.panelSpace with
  | none => s.rebuildWins panel
  | some (m, b) =>
    { s with panels := { s.panels with slm := Tbl.put s.panels.slm panel m, gbits := Tbl.put s.panels.gbits panel b } }.rebuildWins panel

/-- The highest free range of a panel's share for an image (R358). -/
def State.imagePlace (s : State) (panel len : Nat) : Option Nat :=
  let (b, n) := s.slmOf panel
  let size := (len + 0xFFFF) / 0x10000 * 0x10000
  let held := (s.nvme.progs.filter fun e => e.2.panel = panel).map fun e => (e.2.addr, (e.2.len + 0xFFFF) / 0x10000 * 0x10000)
  let tops := (b + n) :: held.map (·.1)
  let fits := tops.filter fun t => decide (b + size ≤ t) && held.all fun h => !meets (t - size) size h.1 h.2
  match fits with
  | [] => none
  | t :: r => some (r.foldl max t - size)
/-- An image placed and registered. -/
def State.placeImage (s : State) (pid panel : Nat) (img : List Byte) (a entry : Nat) : State :=
  let s := s.fabWrite a img
  ({ s with nvme := { s.nvme with progs := Tbl.put s.nvme.progs pid ⟨panel, a, img.length, entry⟩ } }).rebuildWins panel

end Sys2Proof.Machine
end

