-- ==== Sys2Proof/Machine/NvmeOps.lean ====
section
/-!
DEFINITION. Sys2Proof/Machine/NvmeOps.lean: the NVMe controller: fetching a command, namespaces, reads and writes, Spool items of
commands, and what each I/O command does whichever transport carried it (13_host_network.md R350 to R364; 01_ledger_path.md R13, R14;
03_seam_reclaim.md R85 to R88).
-/

namespace Sys2Proof.Machine

/-! ### Fetching (R354; 14_panels.md R378, R380, R383) -/

/-- The panel of a command's queue or connection, where the queue exists and holds a command. -/
def State.fetchPanel (s : State) (h : Hdr) : Option Nat :=
  match h.src with
  | .pcie =>
    match Tbl.at? s.nvme.sqs h.q with
    | some q => if s.mode M.host && s.nvme.linkUp && s.nvme.ccEn && q.head != q.tail then some (s.panelOf q.panel) else none
    | none => none
  | .tcp c => (Tbl.at? s.net.conns c).map fun x => s.panelOf x.panel
/-- Whether one more command of a panel may be outstanding. -/
def State.cmdRoom (s : State) (panel : Nat) : Bool :=
  decide (s.nvme.cmds.length < 131072) && decide ((s.nvme.cmds.filter fun e => e.2.panel = panel).length < s.share 131072)
/-- The head of a command's queue advanced. -/
def State.sqAdvance (s : State) (h : Hdr) : State :=
  match h.src with
  | .pcie => { s with nvme := { s.nvme with sqs := Tbl.upd s.nvme.sqs h.q fun q => { q with head := (q.head + 1) % q.size } } }
  | .tcp _ => s
/-- A command fetched in Ready or Read-only, out of a low-power entry (18_power_clocks.md R446, R447; its arrival wakes the device
from Doze, or is latched), before a PFAIL latch, with its panel's admission open; at the outstanding limit fetch pauses. -/
def State.fetch (s : State) (h : Hdr) (f : Nat → State → State) : State :=
  match s.fetchPanel h with
  | none => s
  | some p =>
    let s := s.wakeBy (match h.src with | .pcie => 0 | .tcp _ => 7)
    if s.power.seq != .run || !s.upState || s.seam.pfailHold || s.panels.closed.contains p then s
    else if !s.cmdRoom p then (s.wr P.nvm R.nvm_FETCH_PAUSED 1).raise P.nvm 0
    else if Tbl.has s.nvme.cmds (cmdKey h) then s.reply h 0x003 0 0
    else f p ((s.sqAdvance h).wr P.nvm R.nvm_FETCH_PAUSED 0)
/-- Whether a command came over an admin queue: of function 0, or of an NVMe/TCP controller (queue 0 of a connection). -/
def State.onAdmin (s : State) (h : Hdr) : Bool :=
  match h.src with
  | .pcie => h.q == 0
  | .tcp c => ((Tbl.at? s.net.conns c).map (·.qid)) == some 0
/-- An admin command, with its panel. -/
def State.adminCmd (s : State) (h : Hdr) (f : Nat → State → State) : State :=
  s.fetch h fun p s => if s.onAdmin h then f p s else s.reply h St.badOpcode 0 0
/-- A command of function 0's admin queue, which the manager panel owns (R376; 15_modes.md R397 note 23). -/
def State.managerCmd (s : State) (h : Hdr) (f : State → State) : State :=
  s.fetch h fun _ s => if h.src = .pcie ∧ h.q = 0 then f s else s.reply h St.badOpcode 0 0
/-- A command of an I/O queue, with its panel. -/
def State.ioCmd (s : State) (h : Hdr) (f : Nat → State → State) : State :=
  s.fetch h fun p s => if s.onAdmin h then s.reply h St.badOpcode 0 0 else f p s

/-! ### Namespaces (R353, R357; 14_panels.md R379) -/

/-- The namespace index of a namespace identifier (log entry 35). -/
def hdrNs (h : Hdr) : Nat := h.nsid - 1
/-- A block's bytes. -/
def Ns.lbaBytes (n : Ns) : Nat := if n.lbaf = 0 then 512 else 4096
/-- A command on a namespace that its panel reaches. -/
def State.onNs (s : State) (h : Hdr) (panel : Nat) (f : Ns → State → State) : State :=
  match Tbl.at? s.nvme.ns (hdrNs h) with
  | some n => if h.nsid ≠ 0 ∧ s.panelOf n.panel = panel then f n s else s.reply h St.badNs 0 0
  | none => s.reply h St.badNs 0 0
/-- The legacy profile in force for a command on a namespace (R369). -/
def State.profileOf (s : State) (n : Ns) : Option (List Byte) :=
  if s.mode M.legacy then n.legacy.bind fun i => Tbl.at? s.nvme.profiles i else none
/-- MDTS (R354). -/
def mdts : Nat := 0x200000
/-- The checks of a data command over a block range: its length, its pointer, the namespace's end, then the key slot (R350, R353, R354;
04_nand_channels.md R115). -/
def State.checked (s : State) (h : Hdr) (n : Ns) (slba nlb limit : Nat) (far : Bool) (f : State → State) : State :=
  if nlb = 0 ∨ limit < nlb * n.lbaBytes ∨ far = true then s.reply h St.badField 0 0
  else if n.blocks < slba + nlb then s.reply h St.lbaRange 0 0
  else if !s.keyOpen (hdrNs h) then (s.keyRefused (hdrNs h)).reply h St.accessDenied 0 0
  else f s
/-- An outstanding command put into the table. -/
def State.addCmd (s : State) (h : Hdr) (op : CmdOp) (panel : Nat) (dp : DataPtr) (start len : Nat) (legacy : Option (List Byte)) : State :=
  let c : Cmd :=
    { h := h, op := op, panel := panel, dp := dp, start := start, len := len, pieces := [], left := 0, status := 0, rxd := [],
      item := none, legacy := legacy, silent := false, dest := 0, stored := [] }
  { s with nvme := { s.nvme with cmds := Tbl.put s.nvme.cmds (cmdKey h) c } }

/-! ### Reads (R14, R35, R103) -/

/-- A byte range read unit by unit into a command's data from place `dst` on. -/
def State.readParts (s : State) (key ns panel off len dst : Nat) : State :=
  let parts := unitParts off len
  let s := s.updCmd key fun c => { c with left := c.left + parts.length }
  parts.foldl (fun s e =>
    let at_ := dst + e.1 * unitBytes + e.2.1 - off
    if eUnmapped (s.entry ns e.1) && (s.onDisk ns e.1).isNone then s.gather key at_ (zeros e.2.2)
    else s.newJob (.host key at_ e.2.1 e.2.2) ns e.1 panel 0) s
/-- Read, Compare and Verify: the range is read, and what follows it is in `endRead`. -/
def State.readCmd (s : State) (h : Hdr) (op : CmdOp) (slba nlb : Nat) (dp : DataPtr) : State :=
  s.ioCmd h fun p s => s.onNs h p fun n s =>
    s.checked h n slba nlb (if op = .verify then 65536 * 4096 else mdts) (dpFar dp) fun s =>
      let key := cmdKey h
      let s := s.addCmd h op p dp (slba * n.lbaBytes) (nlb * n.lbaBytes) (s.profileOf n)
      let s := match op, Tbl.at? s.nvme.cmds key with
        | .compare, some c =>
          let (d, s) := s.fetchData c
          let (d, s) := s.legacyData c true d
          s.updCmd key fun c => { c with stored := d }
        | _, _ => s
      s.readParts key (hdrNs h) p (slba * n.lbaBytes) (nlb * n.lbaBytes) 0

/-! ### Writes (R13; 01_ledger_path.md R15; 03_seam_reclaim.md R77, R85, R98) -/

/-- Whether a byte range touches a Hem region. -/
def State.hemTouched (s : State) (ns off len : Nat) : Bool :=
  s.touchesHem ns (off / unitBytes) ((off + len + unitBytes - 1) / unitBytes - off / unitBytes)
/-- The refusals of a write of user data: a Hem region first, then Read-only. -/
def State.writable (s : State) (h : Hdr) (off len : Nat) (f : State → State) : State :=
  if s.hemTouched (hdrNs h) off len then s.reply h St.readOnlyRange 0 0
  else if s.on P.recl R.recl_READONLY then s.reply h St.writeProtected 0 0
  else f s
/-- Whether a write's data is all here: its buffers granted, its capsule or H2CData bytes received. -/
def State.writeReady (s : State) (key : Nat) (c : Cmd) : Bool :=
  (s.stg.waits.all fun w => w.tag != .write key) && !s.seam.pfailHold &&
    match c.dp with | .h2c n => decide (n ≤ c.rxd.length) | _ => true
/-- A write's data fetched, translated and written to its units. -/
def State.startWrite (s : State) (key : Nat) (c : Cmd) : State :=
  let (d, s) := s.fetchData c
  let (d, s) := s.legacyData c true d
  let used := (Tbl.at? s.seam.admitted c.panel).getD 0 + c.len
  { s with seam := { s.seam with admitted := Tbl.put s.seam.admitted c.panel used } }.writeUnits key (hdrNs c.h) c.panel c.start d
/-- A held write tried: started, kept, or dropped with its command. A panel's writes are admitted in order. -/
def State.tryWrite (s : State) (stop : List Nat) (key : Nat) : List Nat × State :=
  match Tbl.at? s.nvme.cmds key with
  | none => (stop, s)
  | some c =>
    let keep (s : State) : State := { s with seam := { s.seam with heldWrites := s.seam.heldWrites ++ [key] } }
    if stop.contains c.panel then (stop, keep s)
    else if !s.writeReady key c then (stop, keep s)
    else if s.admits c.panel then (stop, s.startWrite key c)
    else (c.panel :: stop, keep s)
/-- The held writes tried in order. -/
def State.tryWrites (s : State) : State :=
  (s.seam.heldWrites.foldl (fun (a : List Nat × State) k => a.2.tryWrite a.1 k)
    ([], { s with seam := { s.seam with heldWrites := [] } })).2
/-- A Write accepted: a host-class buffer for each unit it touches, then admission. -/
def State.writeCmd (s : State) (h : Hdr) (slba nlb : Nat) (dp : DataPtr) : State :=
  s.ioCmd h fun p s => s.onNs h p fun n s =>
    s.checked h n slba nlb mdts (dpFar dp) fun s =>
      let off := slba * n.lbaBytes
      let len := nlb * n.lbaBytes
      s.writable h off len fun s =>
        let key := cmdKey h
        let s := s.addCmd h .write p dp off len (s.profileOf n)
        let s := (unitParts off len).foldl (fun s _ => s.stgRequest ⟨.host, p, .write key⟩) s
        { s with seam := { s.seam with heldWrites := s.seam.heldWrites ++ [key] } }.tryWrites

/-- A command whose work is done under one token: its status is sent when the last part of the work has ended. -/
def State.underTok (s : State) (h : Hdr) (panel : Nat) (work : Nat → State → State) : State :=
  let key := cmdKey h
  let s := s.addCmd h .write panel (.segs []) 0 0 none
  let s := s.updCmd key fun c => { c with left := c.left + 1 }
  (work key s).dropTok key

/-- Whether a byte range covers only whole coarse or fine units (R86). -/
def State.wholeUnits (s : State) (ns off len : Nat) : Bool :=
  (unitParts off len).all fun e =>
    e.2.2 == unitBytes ||
      (eFine (s.entry ns e.1) && !eUnmapped (s.entry ns e.1) && e.2.1 % 4096 == 0 && e.2.2 % 4096 == 0)
/-- Write Zeroes (R85, R86, R88, R98). -/
def State.zeroCmd (s : State) (h : Hdr) (slba nlb : Nat) (deac : Bool) : State :=
  s.ioCmd h fun p s => s.onNs h p fun n s =>
    s.checked h n slba nlb (65536 * 4096) false fun s =>
      let off := slba * n.lbaBytes
      let len := nlb * n.lbaBytes
      if s.hemTouched (hdrNs h) off len then s.reply h St.readOnlyRange 0 0
      else if s.on P.recl R.recl_READONLY && !(deac && s.wholeUnits (hdrNs h) off len) then s.reply h St.writeProtected 0 0
      else if deac then s.underTok h p fun key s => s.dealloc (.host key) (hdrNs h) p off len
      else s.underTok h p fun key s => s.writeUnits key (hdrNs h) p off (zeros len)
/-- Dataset Management (R86, R88): without the deallocate attribute it changes nothing. -/
def State.dsmCmd (s : State) (h : Hdr) (ranges : List (Nat × Nat)) (deallocate : Bool) : State :=
  s.ioCmd h fun p s => s.onNs h p fun n s =>
    let b := n.lbaBytes
    if ranges.any fun r => decide (n.blocks < r.1 + r.2) then s.reply h St.lbaRange 0 0
    else if !s.keyOpen (hdrNs h) then (s.keyRefused (hdrNs h)).reply h St.accessDenied 0 0
    else if !deallocate then s.reply h St.ok 0 0
    else if ranges.any fun r => decide (0 < r.2) && s.hemTouched (hdrNs h) (r.1 * b) (r.2 * b) then s.reply h St.readOnlyRange 0 0
    else s.underTok h p fun key s => ranges.foldl (fun s r => s.dealloc (.host key) (hdrNs h) p (r.1 * b) (r.2 * b)) s
/-- Copy within a namespace (R353): the source ranges are read in order, then the destination is written. -/
def State.copyCmd (s : State) (h : Hdr) (sdlba : Nat) (ranges : List (Nat × Nat)) : State :=
  s.ioCmd h fun p s => s.onNs h p fun n s =>
    let b := n.lbaBytes
    let total := (ranges.map (·.2)).sum
    if ranges.any fun r => decide (r.2 = 0 ∨ n.blocks < r.1 + r.2) then s.reply h St.lbaRange 0 0
    else s.checked h n sdlba total (65536 * 4096) false fun s =>
      s.writable h (sdlba * b) (total * b) fun s =>
        let key := cmdKey h
        let s := s.addCmd h .copy p (.segs []) (sdlba * b) (total * b) none
        let s := s.updCmd key fun c => { c with dest := sdlba * b, left := 1 }
        let s := (ranges.foldl (fun (a : Nat × State) r =>
          (a.1 + r.2 * b, a.2.readParts key (hdrNs h) p (r.1 * b) (r.2 * b) a.1)) (0, s)).2
        s.readTok key

/-! ### Items of commands (R354, R359, R361) -/

/-- The descriptor that the NVMe block posts. -/
def itemDesc (kind list flow deadline clusters target a0 a1 a2 : Nat) : List Byte :=
  natLE 1 (kind + list * 16) ++ natLE 1 0 ++ natLE 2 flow ++ natLE 4 deadline ++ natLE 1 clusters ++ zeros 3 ++ zeros 4 ++ natLE 6 target ++
    zeros 2 ++ zeros 8 ++ natLE 8 a0 ++ natLE 8 a1 ++ natLE 8 a2 ++ zeros 8
/-- The item of a held command. -/
def Cmd.toItem (c : Cmd) (key : Nat) : Item := descItem c.stored c.panel (.nvme key)
/-- A command's item accepted by Spool. -/
def State.admitItem (s : State) (key : Nat) (c : Cmd) : State :=
  let (n, s) := s.acceptItem (c.toItem key)
  s.updCmd key fun c => { c with item := some n }
/-- A command whose item goes to Spool, or waits in the NVMe block until Spool accepts it. -/
def State.postItem (s : State) (h : Hdr) (panel : Nat) (desc : List Byte) (dp : DataPtr) (start len : Nat) : State :=
  let key := cmdKey h
  let s := (s.addCmd h .spool panel dp start len none).updCmd key fun c => { c with stored := desc }
  match Tbl.at? s.nvme.cmds key with
  | some c =>
    if s.splRoom (c.toItem key) then s.admitItem key c
    else { s with spool := { s.spool with heldCmds := s.spool.heldCmds ++ [key] } }.count P.pan 0x060
  | none => s
/-- A vendor I/O command: its reserved dwords must be zero. -/
def State.vendorCmd (s : State) (h : Hdr) (f : Nat → State → State) : State :=
  s.ioCmd h fun p s =>
    let s := s.count P.nvm 0x048
    if h.rsvd ≠ 0 then s.reply h St.badField 0 0 else f p s
/-- ARG0 of a SEAM item. -/
def seamArg0 (op ns first : Nat) : Nat := op + ns % 1024 * 2 ^ 8 + first % 2 ^ 40 * 2 ^ 18
/-- A unit range inside its namespace. -/
def Ns.hasUnits (n : Ns) (first count : Nat) : Bool := decide ((first + count) * unitBytes ≤ n.blocks * n.lbaBytes + (unitBytes - 1))

/-- Register Record Range (02_seam_map.md R50). -/
def State.rangeCmd (s : State) (h : Hdr) (first count recLen : Nat) (nocmp : Bool) : State :=
  s.vendorCmd h fun p s => s.onNs h p fun n s =>
    if count = 0 ∨ recLen < 16 ∨ 4096 < recLen then s.reply h St.badField 0 0
    else if !n.hasUnits first count then s.reply h St.lbaRange 0 0
    else
      let a1 := count + (recLen - 1) * 2 ^ 32 + (if nocmp then 2 ^ 46 else 0)
      s.postItem h p (itemDesc 2 0 0 0 0 0 (seamArg0 2 (hdrNs h) first) a1 0) (.segs []) 0 0
/-- Filter Stream (R362); over NVMe/TCP an invalid opcode (15_modes.md R397 note 4). -/
def State.filterCmd (s : State) (h : Hdr) (report out first count slot : Nat) (strm : Bool) (firstOff outLen : Nat) : State :=
  s.vendorCmd h fun p s => s.onNs h p fun n s =>
    if out % 4096 ≠ 0 ∨ 2 ^ 47 < report + 128 * count ∨ 2 ^ 47 < out + 4096 * outLen then s.reply h St.badField 0 0
    else if !n.hasUnits first count then s.reply h St.lbaRange 0 0
    else
      let a1 := count % 2 ^ 32 + slot % 4 * 2 ^ 44 + (if strm then 2 ^ 46 else 0) + firstOff % 65536 * 2 ^ 48
      s.postItem h p (itemDesc 2 0 0 0 0 0 (seamArg0 1 (hdrNs h) first) a1 (hostBase + report)) (.segs []) out (4096 * outLen)
/-- Hem Create (15_modes.md R390). -/
def State.hemCreateCmd (s : State) (h : Hdr) (first count : Nat) : State :=
  s.vendorCmd h fun p s =>
    if !s.mode M.hem then s.reply h St.badOpcode 0 0
    else s.onNs h p fun n s =>
      if !n.hasUnits first count then s.reply h St.lbaRange 0 0
      else s.postItem h p (itemDesc 2 0 0 0 0 0 (seamArg0 4 (hdrNs h) first) (count % 2 ^ 32) 0) (.segs []) 0 0
/-- Hem Append (03_seam_reclaim.md R97; 15_modes.md R390). -/
def State.hemAppendCmd (s : State) (h : Hdr) (region bytes : Nat) (dp : DataPtr) : State :=
  s.vendorCmd h fun p s =>
    if !s.mode M.hem then s.reply h St.badOpcode 0 0
    else if bytes = 0 ∨ 65472 < bytes ∨ dpFar dp = true then s.reply h St.badField 0 0
    else s.onNs h p fun _ s =>
      s.postItem h p (itemDesc 2 0 0 0 0 0 (seamArg0 5 (hdrNs h) (region % 4096)) bytes 0) dp 0 bytes
/-- Unpick (03_seam_reclaim.md R89; 15_modes.md R390). -/
def State.unpickCmd (s : State) (h : Hdr) (first count : Nat) : State :=
  s.vendorCmd h fun p s =>
    if !s.mode M.unpick then s.reply h St.badOpcode 0 0
    else s.onNs h p fun n s =>
      if !n.hasUnits first count then s.reply h St.lbaRange 0 0
      else s.postItem h p (itemDesc 2 0 0 0 0 0 (seamArg0 3 (hdrNs h) first) (count % 2 ^ 32) 0) (.segs []) 0 0
/-- Pleat Job (08_pleat.md R216): an address of the command or of its job block at 2^47 or above is an invalid field (R350). -/
def State.pleatCmd (s : State) (h : Hdr) (job : Nat) : State :=
  s.vendorCmd h fun p s =>
    if 2 ^ 47 < job + 64 then s.reply h St.badField 0 0
    else
      let (b, s) := s.hostRead p job 64
      let far (a n : Nat) : Bool := decide (2 ^ 47 < leAt b a 6 + n)
      if far 4 (leAt b 16 4) || far 10 (leAt b 20 4) || far 24 1 then s.reply h St.badField 0 0
      else s.postItem h p (itemDesc 4 0 0 0 0 (hostBase + job) 0xF 0 0) (.segs []) 0 0

/-! ### Programs and local memory (R358 to R360) -/

/-- The bytes of a data pointer. -/
def dpSize : DataPtr → Nat
  | .segs l => (l.map (·.2)).sum
  | .inline b => b.length
  | .h2c n => n
/-- The bytes that a data pointer names, fetched for a panel. -/
def State.fetchPtr (s : State) (panel : Nat) (dp : DataPtr) : List Byte × State :=
  match dp with
  | .segs l => l.foldl (fun (a : List Byte × State) e => let (b, s) := a.2.hostRead panel e.1 e.2; (a.1 ++ b, s)) ([], s)
  | .inline b => (b, s)
  | .h2c n => (zeros n, s)
/-- Bytes delivered at a data pointer, and the command completed. -/
def State.answer (s : State) (h : Hdr) (panel : Nat) (dp : DataPtr) (data : List Byte) : State :=
  let s := match h.src, dp with
    | .tcp c, _ => s.send (.tcpData c h.cid data)
    | .pcie, .segs l => (l.foldl (fun (a : List Byte × State) (e : Nat × Nat) => (a.1.drop e.2, a.2.hostWrite panel e.1 (a.1.take e.2))) (data, s)).2
    | .pcie, _ => s
  s.reply h St.ok 0 0

/-- Execute Program (R359). -/
def State.executeCmd (s : State) (h : Hdr) (pid : Nat) (dp : DataPtr) : State :=
  s.ioCmd h fun p s =>
    match Tbl.at? s.nvme.progs pid with
    | none => s.reply h St.badField 0 0
    | some g =>
      if g.panel ≠ p ∨ dpSize dp ≠ 32 ∨ dpFar dp = true then s.reply h St.badField 0 0
      else
        let (b, s) := s.fetchPtr p dp
        if 16 ≤ leAt b 28 1 ∨ 4096 ≤ leAt b 30 2 then s.reply h St.badField 0 0
        else
          let d := itemDesc 1 (leAt b 28 1) (leAt b 30 2) (leAt b 24 4) (leAt b 29 1) (g.addr + 16 + g.entry) (leAt b 0 8) (leAt b 8 8)
            (leAt b 16 8)
          s.postItem h p d (.segs []) 0 0
/-- Memory Read (R360). -/
def State.memReadCmd (s : State) (h : Hdr) (off len : Nat) (dp : DataPtr) : State :=
  s.ioCmd h fun p s =>
    let (b, n) := s.slmOf p
    if (dpFar dp) then s.reply h St.badField 0 0
    else if n < off + len then s.reply h St.lbaRange 0 0
    else s.blockRead (b + off) len fun d s => s.answer h p dp d
/-- Memory Write (R360). -/
def State.memWriteCmd (s : State) (h : Hdr) (off len : Nat) (dp : DataPtr) : State :=
  s.ioCmd h fun p s =>
    let (b, n) := s.slmOf p
    if (dpFar dp) then s.reply h St.badField 0 0
    else if n < off + len then s.reply h St.lbaRange 0 0
    else if s.touchesImage p off len then s.reply h St.accessDenied 0 0
    else
      let (d, s) := s.fetchPtr p dp
      (s.fabWrite (b + off) (fitTo len d)).reply h St.ok 0 0

/-- An I/O command by its content, whichever transport carried it. -/
def State.ioRun (s : State) (h : Hdr) (io : IoCmd) : State :=
  match io with
  | .read a n d => s.readCmd h .read a n d
  | .write a n d => s.writeCmd h a n d
  | .flush => s.ioCmd h fun _ s => s.reply h St.ok 0 0
  | .compare a n d => s.readCmd h .compare a n d
  | .verify a n => s.readCmd h .verify a n (.segs [])
  | .writeZeroes a n z => s.zeroCmd h a n z
  | .datasetManagement l d => s.dsmCmd h l d
  | .copy a l => s.copyCmd h a l
  | .executeProgram i d => s.executeCmd h i d
  | .memoryRead a n d => s.memReadCmd h a n d
  | .memoryWrite a n d => s.memWriteCmd h a n d
  | .registerRecordRange a n l z => s.rangeCmd h a n l z
  | .filterStream => s.ioCmd h fun _ s => s.reply h St.badOpcode 0 0
  | .hemCreate a n => s.hemCreateCmd h a n
  | .hemAppend r n d => s.hemAppendCmd h r n d
  | .unpick a n => s.unpickCmd h a n
  | .pleatJob => s.ioCmd h fun _ s => s.reply h St.badOpcode 0 0

end Sys2Proof.Machine
end

