-- ==== Sys2Proof/Machine/Nvme.lean ====
section
/-!
DEFINITION. Sys2Proof/Machine/Nvme.lean: the NVMe commands, admin and I/O, and the doorbells (13_host_network.md R352 to R368). Status
codes and standard structures that the spec only names are those of the NVMe standard (PRESUMED, log entry 36).
-/

namespace Sys2Proof.Machine

/-! ### The controller (R348, R352, R354) -/

/-- Whether function 0 is reached: HOST mode and a trained link. -/
def State.hostUp (s : State) : Bool := s.mode M.host && s.nvme.linkUp && !s.nvme.d3hot
/-- CSTS.RDY: the controller enabled in Ready or Read-only; a low-power state keeps it (R25, R352). -/
def State.rdyUpdate (s : State) : State := { s with nvme := { s.nvme with csts := s.nvme.ccEn && s.upState } }

/-- CC_EN_SET (R352): the controller enabled with its admin queue of 4,096 entries empty (log entry 37). -/
def execCcEnSet (s : State) : Host.Outcome State Fault Refusal :=
  let s := s.accessWake .host
  .next (s.whenB (s.hostUp && !s.nvme.ccEn && s.dev != Dev.ward) fun s =>
    { s with nvme := { s.nvme with
        ccEn := true
        csts := s.upState
        sqs := [(0, ⟨4096, 0, 0, 0, 0⟩)]
        cqs := [(0, ⟨4096, 0, 0, 0⟩)]
        cqHeld := [] } })

/-- An event given to a waiting Asynchronous Event Request, or kept for the next (R353). -/
def State.nvmeEvent (s : State) (dw0 : Nat) : State :=
  match s.nvme.aers with
  | k :: _ => s.finish k St.ok dw0 0
  | [] => { s with nvme := { s.nvme with events := s.nvme.events ++ [dw0] } }

/-- SQ_TAIL_DOORBELL (R354): the queue's tail moves; an invalid doorbell is an NVMe error event. -/
def execSqTailDoorbell (q tail : Nat) (s : State) : Host.Outcome State Fault Refusal :=
  let s := s.accessWake .host
  .next (s.whenB (s.hostUp && s.nvme.ccEn) fun s =>
    match Tbl.at? s.nvme.sqs q with
    | none => s.nvmeEvent 0x00010000
    | some x => if x.size ≤ tail then s.nvmeEvent 0x00010100
      else { s with nvme := { s.nvme with sqs := Tbl.put s.nvme.sqs q { x with tail := tail } } })

/-- The completions of a queue that its head doorbell lets out, oldest first. -/
def State.cqDrain (s : State) (q : Nat) : State :=
  let mine := s.nvme.cqHeld.filter fun e => e.1 = q
  let s := { s with nvme := { s.nvme with cqHeld := s.nvme.cqHeld.filter fun e => e.1 ≠ q } }
  mine.foldl (fun s e => s.postCqe e.1 e.2) s

/-- CQ_HEAD_DOORBELL (R348): entries freed, and completions that waited posted. -/
def execCqHeadDoorbell (q head : Nat) (s : State) : Host.Outcome State Fault Refusal :=
  let s := s.accessWake .host
  .next (s.whenB (s.hostUp && s.nvme.ccEn) fun s =>
    match Tbl.at? s.nvme.cqs q with
    | none => s.nvmeEvent 0x00010000
    | some x => if x.size ≤ head then s.nvmeEvent 0x00010100
      else { s with nvme := { s.nvme with cqs := Tbl.put s.nvme.cqs q { x with head := head } } }.cqDrain q)

/-- NVME_ITEM_ADMIT (R354): the oldest held command whose item Spool takes now goes to it. -/
def execNvmeItemAdmit (s : State) : Host.Outcome State Fault Refusal :=
  .next (match s.spool.heldCmds.find? fun k => (Tbl.at? s.nvme.cmds k).any fun c => s.splRoom (c.toItem k) with
    | none => s
    | some k =>
      match Tbl.at? s.nvme.cmds k with
      | none => s
      | some c => { s with spool := { s.spool with heldCmds := s.spool.heldCmds.filter (· ≠ k) } }.admitItem k c)

/-! ### I/O commands (R353, R358 to R362) -/

/-- READ (01_ledger_path.md R14). -/
def execRead (h : Hdr) (slba nlb : Nat) (dp : DataPtr) (s : State) : Host.Outcome State Fault Refusal := .next (s.readCmd h .read slba nlb dp)
/-- WRITE (01_ledger_path.md R13). -/
def execWrite (h : Hdr) (slba nlb : Nat) (dp : DataPtr) (s : State) : Host.Outcome State Fault Refusal := .next (s.writeCmd h slba nlb dp)
/-- FLUSH (R355): completes at once. -/
def execFlush (h : Hdr) (s : State) : Host.Outcome State Fault Refusal := .next (s.ioCmd h fun _ s => s.reply h St.ok 0 0)
/-- COMPARE (R353). -/
def execCompare (h : Hdr) (slba nlb : Nat) (dp : DataPtr) (s : State) : Host.Outcome State Fault Refusal :=
  .next (s.readCmd h .compare slba nlb dp)
/-- VERIFY (R353). -/
def execVerify (h : Hdr) (slba nlb : Nat) (s : State) : Host.Outcome State Fault Refusal := .next (s.readCmd h .verify slba nlb (.segs []))
/-- WRITE_ZEROES (03_seam_reclaim.md R88). -/
def execWriteZeroes (h : Hdr) (slba nlb : Nat) (deac : Bool) (s : State) : Host.Outcome State Fault Refusal :=
  .next (s.zeroCmd h slba nlb deac)
/-- DATASET_MANAGEMENT (03_seam_reclaim.md R88). -/
def execDatasetManagement (h : Hdr) (ranges : List (Nat × Nat)) (deallocate : Bool) (s : State) : Host.Outcome State Fault Refusal :=
  .next (s.dsmCmd h ranges deallocate)
/-- COPY (R353). -/
def execCopy (h : Hdr) (sdlba : Nat) (ranges : List (Nat × Nat)) (s : State) : Host.Outcome State Fault Refusal := .next (s.copyCmd h sdlba ranges)
/-- EXECUTE_PROGRAM (R359). -/
def execExecuteProgram (h : Hdr) (pid : Nat) (dp : DataPtr) (s : State) : Host.Outcome State Fault Refusal := .next (s.executeCmd h pid dp)
/-- MEMORY_READ (R360). -/
def execMemoryRead (h : Hdr) (off len : Nat) (dp : DataPtr) (s : State) : Host.Outcome State Fault Refusal := .next (s.memReadCmd h off len dp)
/-- MEMORY_WRITE (R360). -/
def execMemoryWrite (h : Hdr) (off len : Nat) (dp : DataPtr) (s : State) : Host.Outcome State Fault Refusal := .next (s.memWriteCmd h off len dp)
/-- REGISTER_RECORD_RANGE (02_seam_map.md R50). -/
def execRegisterRecordRange (h : Hdr) (first count recLen : Nat) (nocmp : Bool) (s : State) : Host.Outcome State Fault Refusal :=
  .next (s.rangeCmd h first count recLen nocmp)
/-- FILTER_STREAM (R362); over NVMe/TCP an invalid opcode (15_modes.md R397 note 4). -/
def execFilterStream (h : Hdr) (reportBase outBase first count slot : Nat) (streamMode : Bool) (firstOffset outLen : Nat) (s : State) :
    Host.Outcome State Fault Refusal :=
  .next (if h.src = .pcie then s.filterCmd h reportBase outBase first count slot streamMode firstOffset outLen
    else s.ioCmd h fun _ s => s.reply h St.badOpcode 0 0)
/-- HEM_CREATE (03_seam_reclaim.md R94). -/
def execHemCreate (h : Hdr) (first count : Nat) (s : State) : Host.Outcome State Fault Refusal := .next (s.hemCreateCmd h first count)
/-- HEM_APPEND (03_seam_reclaim.md R97). -/
def execHemAppend (h : Hdr) (region bytes : Nat) (dp : DataPtr) (s : State) : Host.Outcome State Fault Refusal :=
  .next (s.hemAppendCmd h region bytes dp)
/-- UNPICK (03_seam_reclaim.md R89). -/
def execUnpick (h : Hdr) (first count : Nat) (s : State) : Host.Outcome State Fault Refusal := .next (s.unpickCmd h first count)
/-- PLEAT_JOB (08_pleat.md R216); over NVMe/TCP an invalid opcode (15_modes.md R397 note 4). -/
def execPleatJob (h : Hdr) (job : Nat) (s : State) : Host.Outcome State Fault Refusal :=
  .next (if h.src = .pcie then s.pleatCmd h job else s.ioCmd h fun _ s => s.reply h St.badOpcode 0 0)

/-- MEMORY_COPY (R360): between the panel's local memory and a namespace. -/
def State.memCopyCmd (s : State) (h : Hdr) (off nsid slba nlb : Nat) (toMemory : Bool) : State :=
  let h := { h with nsid := nsid }
  s.ioCmd h fun p s => s.onNs h p fun n s =>
    s.checked h n slba nlb (65536 * 4096) false fun s =>
      let o := slba * n.lbaBytes
      let len := nlb * n.lbaBytes
      let (b, m) := s.slmOf p
      if m < off + len then s.reply h St.lbaRange 0 0
      else if toMemory then
        if s.touchesImage p off len then s.reply h St.accessDenied 0 0
        else
          let key := cmdKey h
          let s := (s.addCmd h .memCopy p (.segs []) o len none).updCmd key fun c => { c with dest := b + off }
          s.readParts key (hdrNs h) p o len 0
      else
        s.writable h o len fun s =>
          s.blockRead (b + off) len fun d s => s.underTok h p fun key s => s.writeUnits key (hdrNs h) p o d
/-- MEMORY_COPY (R360). -/
def execMemoryCopy (h : Hdr) (off nsid slba nlb : Nat) (toMemory : Bool) (s : State) : Host.Outcome State Fault Refusal :=
  .next (s.memCopyCmd h off nsid slba nlb toMemory)

/-- MEMORY_RANGE_SET (R360): ranges of the panel's share; an empty list deletes the set. -/
def execMemoryRangeSet (h : Hdr) (setId : Nat) (ranges : List (Nat × Nat)) (s : State) : Host.Outcome State Fault Refusal :=
  .next (s.fetch h fun p s =>
    if ranges.any fun r => decide ((s.slmOf p).2 < r.1 + r.2) then s.reply h St.lbaRange 0 0
    else
      let k := p * 65536 + setId
      let t := if ranges = [] then Tbl.del s.nvme.ranges k else Tbl.put s.nvme.ranges k ranges
      { s with nvme := { s.nvme with ranges := t } }.reply h St.ok 0 0)

/-- PROGRAM_DOWNLOAD (R358). -/
def State.downloadCmd (s : State) (h : Hdr) (pid ptype : Nat) (dp : DataPtr) : State :=
  s.fetch h fun p s =>
    let n := dpSize dp
    if ptype ≠ 0xC0 ∨ 256 ≤ pid ∨ Tbl.has s.nvme.progs pid = true ∨ dpFar dp = true ∨ n < 16 ∨ 0x1000000 < n then s.reply h St.badField 0 0
    else
      let (img, s) := s.fetchPtr p dp
      let entry := leAt img 0 4
      if !zeroAt img 4 12 || decide (n ≤ 16 + entry) then s.reply h St.badField 0 0
      else
        match s.imagePlace p n with
        | none => s.reply h St.capacity 0 0
        | some a => (s.placeImage pid p img a entry).reply h St.ok 0 0
/-- PROGRAM_DOWNLOAD (R358). -/
def execProgramDownload (h : Hdr) (pid ptype : Nat) (dp : DataPtr) (s : State) : Host.Outcome State Fault Refusal :=
  .next (s.downloadCmd h pid ptype dp)
/-- PROGRAM_DELETE (R358): the range is free again. -/
def execProgramDelete (h : Hdr) (pid : Nat) (s : State) : Host.Outcome State Fault Refusal :=
  .next (s.fetch h fun p s =>
    match Tbl.at? s.nvme.progs pid with
    | none => s.reply h St.badField 0 0
    | some g =>
      if g.panel ≠ p then s.reply h St.badField 0 0
      else ({ s with nvme := { s.nvme with progs := Tbl.del s.nvme.progs pid } }.rebuildWins p).reply h St.ok 0 0)

/-! ### Identify, features, logs (R353, R355, R365 to R367) -/

/-- The bytes of a list with a field laid over them. -/
def fieldAt (l : List Byte) (a n v : Nat) : List Byte := l.take a ++ natLE n v ++ l.drop (a + n)
/-- The bytes that the spec leaves to the NVMe standard, of an Identify structure. -/
def identifyBase (cns : Nat) : List Byte := (List.range 4096).map fun i => Config.identifyByte cns i
/-- Whether a panel's controller sees a namespace; the manager's sees all. -/
def Ns.seenBy (n : Ns) (manager : Bool) (panel : Nat) : Bool := manager || n.panel == panel
/-- The active namespace identifiers above one, at most 1,024. -/
def State.nsList (s : State) (manager : Bool) (panel after : Nat) : List Nat :=
  ((s.nvme.ns.filter fun e => e.2.seenBy manager (panel) && decide (after < e.1 + 1)).map fun e => e.1 + 1).take 1024
/-- Identify Namespace (R353, R355). -/
def Ns.identify (n : Ns) : List Byte :=
  let l := fieldAt (fieldAt (identifyBase 0) 0 8 n.blocks) 8 8 n.blocks
  let l := fieldAt (fieldAt l 25 1 1) 26 1 n.lbaf
  let l := fieldAt l 33 1 1
  let a := if n.lbaf = 0 then 7 else 0
  let l := fieldAt (fieldAt l 34 2 a) 36 2 a
  fieldAt (fieldAt l 128 4 0x00090000) 132 4 0x000C0000
/-- Identify Controller (R353 to R355). -/
def State.identifyCtrl (s : State) : List Byte :=
  let a := if s.nvme.ns.all fun e => e.2.lbaf = 0 then 7 else 0
  let l := fieldAt (fieldAt (identifyBase 1) 77 1 9) 516 4 1024
  fieldAt (fieldAt (fieldAt l 525 1 0) 526 2 a) 528 2 a
/-- The structure of a CNS value that this controller has; none otherwise. -/
def State.identifyData (s : State) (manager : Bool) (panel nsid cns : Nat) : Option (List Byte) :=
  if cns = 0 then
    match Tbl.at? s.nvme.ns (nsid - 1) with
    | some n => some (if nsid ≠ 0 ∧ n.seenBy manager panel = true then n.identify else zeros 4096)
    | none => some (zeros 4096)
  else if cns = 1 then some s.identifyCtrl
  else if cns = 2 then some (fitTo 4096 ((s.nsList manager panel nsid).flatMap fun i => natLE 4 i))
  else if cns = 3 ∨ cns = 5 ∨ cns = 6 ∨ cns = 8 ∨ cns = 0x1C then some (identifyBase cns)
  else none
/-- IDENTIFY (R355). -/
def execIdentify (h : Hdr) (cns : Nat) (dp : DataPtr) (s : State) : Host.Outcome State Fault Refusal :=
  .next (s.adminCmd h fun p s =>
    match s.identifyData (decide (h.src = .pcie)) p h.nsid cns with
    | some d => if dpFar dp then s.reply h St.badField 0 0 else s.answer h p dp d
    | none => s.reply h St.badField 0 0)

/-- The value of a feature: as set, the 512 queue pairs for Number of Queues, or the standard's default. -/
def State.feature (s : State) (fid : Nat) : Nat :=
  if fid = 7 then 0x01FF01FF else (Tbl.at? s.nvme.features fid).getD (Config.featureDefault fid % 2 ^ 32)
/-- GET_FEATURES (R353). -/
def execGetFeatures (h : Hdr) (fid : Nat) (s : State) : Host.Outcome State Fault Refusal :=
  .next (s.adminCmd h fun _ s => if fid = 0 ∨ 255 < fid then s.reply h St.badField 0 0 else s.reply h St.ok (s.feature fid) 0)

/-- The device health page (R365). -/
def State.healthPage (s : State) : List Byte :=
  let flags := maskOf ([(P.pat, R.pat_PATTERN_DEFAULTED), (P.clk, R.clk_CLK_DEGRADED), (P.seam, R.seam_CAP_LIMITED),
    (P.recl, R.recl_READONLY), (P.recl, R.recl_RO_CLEARABLE), (P.hem, R.hem_ARCH_STALL), (P.seam, R.seam_RB_OVERRUN),
    (P.seam, R.seam_RB_FLUSH_BAD)].mapIdx (fun i e => (i, e)) |>.filterMap fun x => if s.on x.2.1 x.2.2 then some x.1 else none)
  fitTo 512 (natLE 2 1 ++ natLE 1 s.dev ++ zeros 1 ++ natLE 2 (s.rd P.mode R.mode_MODE_EN) ++ natLE 2 flags ++
    natLE 2 (s.rd P.seam R.seam_RB_MS) ++ natLE 2 (s.rd P.unpk R.unpk_RESIDUE_ROWS) ++
    natLE 4 (s.integ.hard.map fun e => e.2.length).sum ++ natLE 8 (s.ctr P.eic 0x050) ++ natLE 8 (s.ctr P.hem 0x050))
/-- The forerunner page (R366). -/
def State.forerunnerPage (s : State) : List Byte :=
  let b := (if s.on P.seam R.seam_FLUSH_DONE then 1 else 0) + (if s.on P.seam R.seam_RB_FLUSH_USED then 2 else 0)
  fitTo 512 (natLE 2 0x5100 ++ natLE 1 b ++ natLE 1 (s.rd P.seam R.seam_FLUSH_MS) ++ natLE 8 (s.ctr P.seam 0x088))
/-- The Unpick residue list (R367). -/
def State.residuePage (s : State) : List Byte :=
  natLE 4 (min 1024 s.seam.residue.length) ++ zeros 12 ++ (s.seam.residue.take 1024).flatten
/-- SMART: the critical warning bits 2 and 3 follow READONLY (03_seam_reclaim.md R85), the rest is the standard's. -/
def State.smartPage (s : State) : List Byte :=
  let b := (Config.logByte 2 0).toNat
  let ro := s.on P.recl R.recl_READONLY
  natLE 1 (bitPut (bitPut b 2 ro) 3 ro) ++ (List.range 511).map fun i => Config.logByte 2 (i + 1)
/-- The bytes of a log page; none for a page that is reserved or not there. -/
def State.logPage (s : State) (lid : Nat) : Option (List Byte) :=
  if lid = 0xC0 then some (if s.mode M.compat then s.forerunnerPage else s.healthPage)
  else if lid = 0xC4 ∧ s.mode M.compat = true then some s.healthPage
  else if lid = 0xC1 then some s.residuePage
  else if lid = 2 then some s.smartPage
  else if lid = 1 ∨ lid = 3 then some ((List.range 512).map fun i => Config.logByte lid i)
  else none
/-- GET_LOG_PAGE (R365 to R367). -/
def execGetLogPage (h : Hdr) (lid off len : Nat) (dp : DataPtr) (s : State) : Host.Outcome State Fault Refusal :=
  .next (s.adminCmd h fun p s =>
    match s.logPage lid with
    | some d => if dpFar dp then s.reply h St.badField 0 0 else s.answer h p dp (fitTo len (d.drop off))
    | none => s.reply h St.badLogPage 0 0)

/-- The command that an Abort names: on the same transport and controller. -/
def State.abortKey (s : State) (h : Hdr) (sqid cid : Nat) : Option Nat :=
  match h.src with
  | .pcie => some (sqid * 65536 + cid)
  | .tcp c =>
    match Tbl.at? s.net.conns c with
    | none => none
    | some x => (s.net.conns.find? fun e => e.2.ctrl = x.ctrl ∧ e.2.qid = sqid).map fun e => (e.1 + 1) * 2 ^ 32 + sqid * 65536 + cid
/-- The Spool item of the command that an Abort names; a command held in the NVMe block has none yet (R354, R359). -/
def State.abortCmd (s : State) (h : Hdr) (sqid cid : Nat) : State :=
  match (s.abortKey h sqid cid).bind fun k => (Tbl.at? s.nvme.cmds k).bind fun c => c.item with
  | none => s.reply h St.ok 1 0
  | some n =>
    let (r, s) := s.cancelItem n Cs.cancelled
    s.reply h St.ok (if r = 0 then 0 else 1) 0
/-- ABORT (R359). -/
def execAbort (h : Hdr) (sqid cid : Nat) (s : State) : Host.Outcome State Fault Refusal :=
  .next (s.adminCmd h fun _ s => s.abortCmd h sqid cid)

/-- ASYNCHRONOUS_EVENT_REQUEST (R353): held until an event is reported. -/
def execAsynchronousEventRequest (h : Hdr) (s : State) : Host.Outcome State Fault Refusal :=
  .next (s.adminCmd h fun p s =>
    match s.nvme.events with
    | e :: r => { s with nvme := { s.nvme with events := r } }.reply h St.ok e 0
    | [] =>
      let s := s.addCmd h .aer p (.segs []) 0 0 none
      { s with nvme := { s.nvme with aers := s.nvme.aers ++ [cmdKey h] } })
/-- KEEP_ALIVE (R353): the timer restarts. -/
def execKeepAlive (h : Hdr) (s : State) : Host.Outcome State Fault Refusal :=
  .next (s.adminCmd h fun _ s => { s with nvme := { s.nvme with keepAlive := s.rtcUs } }.reply h St.ok 0 0)

/-! ### Firmware, namespaces, queues (R353, R378, R379, R474, R480, R533) -/

/-- FIRMWARE_IMAGE_DOWNLOAD (R474): into the slot not in use. -/
def execFirmwareImageDownload (h : Hdr) (off : Nat) (dp : DataPtr) (s : State) : Host.Outcome State Fault Refusal :=
  .next (s.adminCmd h fun p s =>
    if dpFar dp = true ∨ slotSize < off + dpSize dp then s.reply h St.badField 0 0
    else
      let (d, s) := s.fetchPtr p dp
      (s.norWrite (norSlot s.spareSlot + off) d).reply h St.ok 0 0)
/-- FIRMWARE_COMMIT (R474). -/
def execFirmwareCommit (h : Hdr) (s : State) : Host.Outcome State Fault Refusal :=
  .next (s.adminCmd h fun _ s =>
    let (ok, s) := s.commitFw s.spareSlot
    s.reply h (if ok then St.ok else St.badFirmware) 0 0)

/-- Whether a namespace holds a Hem region. -/
def State.holdsHem (s : State) (ns : Nat) : Bool := s.seam.hem.any fun e => e.2.ns == ns
/-- Every unit of a namespace unmapped (R533). -/
def State.unmapNs (s : State) (ns : Nat) : State :=
  let mine : List Nat := ((s.seam.map.map (·.1)) ++ (s.seam.archive.map (·.1))).filter fun k => k / 2 ^ 40 = ns
  (mine.map fun k => k % 2 ^ 40).dedup.foldl (fun s u => s.unmap ns u) s
/-- FORMAT_NVM (R533, R357). -/
def State.formatCmd (s : State) (h : Hdr) (lbaf ses : Nat) : State :=
  s.managerCmd h fun s =>
    match Tbl.at? s.nvme.ns (hdrNs h) with
    | none => s.reply h St.badNs 0 0
    | some n =>
      if h.nsid = 0 then s.reply h St.badNs 0 0
      else if 1 < lbaf ∨ s.holdsHem (hdrNs h) = true then s.reply h St.badFormat 0 0
      else if ses ≠ 0 ∧ ses ≠ 2 then s.reply h St.badField 0 0
      else
        let m := { n with lbaf := lbaf, blocks := n.blocks * n.lbaBytes / (if lbaf = 0 then 512 else 4096) }
        let s := { s with nvme := { s.nvme with ns := Tbl.put s.nvme.ns (hdrNs h) m } }.unmapNs (hdrNs h)
        (s.whenB (ses == 2) fun s => s.newKey (hdrNs h)).reply h St.ok 0 0
/-- FORMAT_NVM (R533). -/
def execFormatNvm (h : Hdr) (lbaf ses : Nat) (s : State) : Host.Outcome State Fault Refusal := .next (s.formatCmd h lbaf ses)

/-- NAMESPACE_CREATE (R353, R480): the lowest free identifier; dword 0 names it. It is attached to panel 0 (R379). -/
def State.createNs (s : State) (h : Hdr) (blocks lbaf : Nat) : State :=
  s.managerCmd h fun s =>
    let i := Tbl.freeKey s.nvme.ns 1024 0
    let n : Ns := ⟨blocks, lbaf, 0, none⟩
    if 1 < lbaf then s.reply h St.badFormat 0 0
    else if blocks = 0 then s.reply h St.badField 0 0
    else if 1024 ≤ i then s.reply h St.nsIdUnavailable 0 0
    else if s.capOffer < s.exported + blocks * n.lbaBytes then s.reply h 0x115 0 0
    else
      let s := { s with nvme := { s.nvme with ns := Tbl.put s.nvme.ns i n } }.newKey i
      s.checkSpace.reply h St.ok (i + 1) 0
/-- NAMESPACE_CREATE (R480). -/
def execNamespaceCreate (h : Hdr) (blocks lbaf : Nat) (s : State) : Host.Outcome State Fault Refusal := .next (s.createNs h blocks lbaf)

/-- A namespace deleted (R480): its units and record ranges gone, its key cleared and its entry erased. -/
def State.dropNs (s : State) (i : Nat) : State :=
  let s := (s.unmapNs i).kzap i
  let s := s.norWrite (norKey i) (List.replicate 128 0xFF)
  ({ s with nvme := { s.nvme with ns := Tbl.del s.nvme.ns i },
            trust := { s.trust with lastKeys := Tbl.del s.trust.lastKeys i, keyFails := Tbl.del s.trust.keyFails i },
            seam := { s.seam with ranges := s.seam.ranges.filter fun r => r.ns ≠ i } }).checkSpace
/-- NAMESPACE_DELETE (R480, R357). -/
def execNamespaceDelete (h : Hdr) (s : State) : Host.Outcome State Fault Refusal :=
  .next (s.managerCmd h fun s =>
    if h.nsid = 0 ∨ Tbl.has s.nvme.ns (hdrNs h) = false then s.reply h St.badNs 0 0
    else if s.holdsHem (hdrNs h) then s.reply h St.nsNotReady 0 0
    else (s.dropNs (hdrNs h)).reply h St.ok 0 0)
/-- NAMESPACE_ATTACHMENT (R379): to an active panel. -/
def execNamespaceAttachment (h : Hdr) (panel : Nat) (s : State) : Host.Outcome State Fault Refusal :=
  .next (s.managerCmd h fun s =>
    match Tbl.at? s.nvme.ns (hdrNs h) with
    | none => s.reply h St.badNs 0 0
    | some n =>
      if h.nsid = 0 then s.reply h St.badNs 0 0
      else if 64 ≤ panel ∨ s.panelActive panel = false ∨ s.panelOf panel ≠ panel then s.reply h St.badField 0 0
      else { s with nvme := { s.nvme with ns := Tbl.put s.nvme.ns (hdrNs h) { n with panel := panel } } }.reply h St.ok 0 0)

/-- CREATE_IO_CQ (R354). -/
def execCreateIoCq (h : Hdr) (qid size vec : Nat) (s : State) : Host.Outcome State Fault Refusal :=
  .next (s.managerCmd h fun s =>
    if qid = 0 ∨ 512 < qid ∨ Tbl.has s.nvme.cqs qid = true then s.reply h St.badQid 0 0
    else if size < 2 ∨ 16384 < size then s.reply h 0x102 0 0
    else if 512 < vec then s.reply h 0x108 0 0
    else { s with nvme := { s.nvme with cqs := Tbl.put s.nvme.cqs qid ⟨size, vec, 0, 0⟩ } }.reply h St.ok 0 0)
/-- CREATE_IO_SQ (R354, R378, R380). -/
def State.createSq (s : State) (h : Hdr) (qid size cqid : Nat) : State :=
  s.managerCmd h fun s =>
    let panel := s.panelOf (s.rdI P.pan R.pan_SQ_PANEL qid)
    let mine := (s.nvme.sqs.filter fun e => e.1 ≠ 0 ∧ e.2.panel = panel).length
    if qid = 0 ∨ 512 < qid ∨ Tbl.has s.nvme.sqs qid = true then s.reply h St.badQid 0 0
    else if (s.mode M.panel && !s.panelActive panel) || decide (s.share 512 ≤ mine) then s.reply h St.badQid 0 0
    else if size < 2 ∨ 16384 < size then s.reply h 0x102 0 0
    else if cqid = 0 ∨ Tbl.has s.nvme.cqs cqid = false then s.reply h St.cqInvalid 0 0
    else { s with nvme := { s.nvme with sqs := Tbl.put s.nvme.sqs qid ⟨size, cqid, panel, 0, 0⟩ } }.reply h St.ok 0 0
/-- CREATE_IO_SQ (R378). -/
def execCreateIoSq (h : Hdr) (qid size cqid : Nat) (s : State) : Host.Outcome State Fault Refusal := .next (s.createSq h qid size cqid)

/-- A command ended from outside its own work: its item cancelled, its completion sent. -/
def State.dropCmd (s : State) (status cs : Nat) (e : Nat × Cmd) : State :=
  let s := match e.2.item with | some n => (s.cancelItem n cs).2 | none => s
  ({ s with spool := { s.spool with heldCmds := s.spool.heldCmds.filter (· ≠ e.1) } }.orphan e.1).finish e.1 status 0 0
/-- DELETE_IO_SQ (R354): the queue's commands end with Command Aborted due to SQ Deletion. -/
def execDeleteIoSq (h : Hdr) (qid : Nat) (s : State) : Host.Outcome State Fault Refusal :=
  .next (s.managerCmd h fun s =>
    if qid = 0 ∨ Tbl.has s.nvme.sqs qid = false then s.reply h St.badQid 0 0
    else
      let s := (s.nvme.cmds.filter fun e => e.2.h.src = .pcie ∧ e.2.h.q = qid).foldl (State.dropCmd · St.sqDeleted Cs.cancelled ·) s
      { s with nvme := { s.nvme with sqs := Tbl.del s.nvme.sqs qid } }.reply h St.ok 0 0)
/-- DELETE_IO_CQ (R354): refused while a submission queue uses it. -/
def execDeleteIoCq (h : Hdr) (qid : Nat) (s : State) : Host.Outcome State Fault Refusal :=
  .next (s.managerCmd h fun s =>
    if qid = 0 ∨ Tbl.has s.nvme.cqs qid = false then s.reply h St.badQid 0 0
    else if s.nvme.sqs.any fun e => e.2.cq == qid then s.reply h 0x10C 0 0
    else { s with nvme := { s.nvme with cqs := Tbl.del s.nvme.cqs qid, cqHeld := s.nvme.cqHeld.filter fun e => e.1 ≠ qid } }.reply h
      St.ok 0 0)

/-! ### LEGACY profiles (R361, R368) -/

/-- SET_LEGACY_PROFILE (R361, R368). -/
def execSetLegacyProfile (h : Hdr) (idx : Nat) (dp : DataPtr) (s : State) : Host.Outcome State Fault Refusal :=
  .next (s.managerCmd h fun s =>
    let s := s.count P.nvm 0x048
    if h.rsvd ≠ 0 ∨ 16 ≤ idx ∨ dpFar dp = true then s.reply h St.badField 0 0
    else
      let (d, s) := s.fetchPtr 0 dp
      if profileOk d then { s with nvme := { s.nvme with profiles := Tbl.put s.nvme.profiles idx d } }.reply h St.ok 0 0
      else (s.err P.nvm 0x01 0 0).reply h (St.vendor 0x25) 0 0)
/-- BIND_LEGACY_PROFILE (R361). -/
def execBindLegacyProfile (h : Hdr) (idx : Nat) (s : State) : Host.Outcome State Fault Refusal :=
  .next (s.managerCmd h fun s =>
    let s := s.count P.nvm 0x048
    match Tbl.at? s.nvme.ns (hdrNs h) with
    | none => s.reply h St.badNs 0 0
    | some n =>
      let set (v : Option Nat) : State := { s with nvme := { s.nvme with ns := Tbl.put s.nvme.ns (hdrNs h) { n with legacy := v } } }
      if h.nsid = 0 then s.reply h St.badNs 0 0
      else if h.rsvd ≠ 0 then s.reply h St.badField 0 0
      else if idx = 0x1F then (set none).reply h St.ok 0 0
      else if idx < 16 ∧ Tbl.has s.nvme.profiles idx = true then (set (some idx)).reply h St.ok 0 0
      else s.reply h St.badField 0 0)

end Sys2Proof.Machine
end

