-- ==== Sys2Proof/Machine/Net.lean ====
section
/-!
DEFINITION. Sys2Proof/Machine/Net.lean: the PCIe link, Ethernet ports, NVMe/TCP connections and capsules, and the sideband
(00_scope.md R3; 13_host_network.md R348, R349, R370 to R375).
-/

namespace Sys2Proof.Machine

/-! ### PCIe link (R348, R349) -/

/-- PCIE_LINK_UP: a speed and width that the part supports; with HOST = 0 the link never trains. -/
def execPcieLinkUp (speed width : Nat) (sris : Bool) (s : State) : Host.Outcome State Fault Refusal :=
  let widths := if s.part = .od7420 then [1, 2, 4, 8] else [1, 2, 4, 8, 16]
  .next (s.whenB (s.mode M.host && s.domOn 36 && !s.nvme.perstLow && decide (1 ≤ speed ∧ speed ≤ 5) && widths.contains width) fun s =>
    let s := (s.wr P.pci R.pci_LINK_SPEED speed).wr P.pci R.pci_LINK_WIDTH width
    ({ s with nvme := { s.nvme with linkUp := true } }.wr P.pci R.pci_SRIS_ON (if sris then 1 else 0)).raise P.pci 0)

/-- The link down: its fields read 0. -/
def State.linkDown (s : State) : State :=
  let s := (s.wr P.pci R.pci_LINK_SPEED 0).wr P.pci R.pci_LINK_WIDTH 0
  ({ s with nvme := { s.nvme with linkUp := false } }.wr P.pci R.pci_SRIS_ON 0).raise P.pci 1
/-- PCIE_LINK_DOWN (R349). -/
def execPcieLinkDown (s : State) : Host.Outcome State Fault Refusal := .next (s.whenB s.nvme.linkUp State.linkDown)

/-! ### Ethernet (R3, R370) -/

/-- The ports that GROUPING makes: of four lanes, or of two on the OD-7420. -/
def State.nPorts (s : State) : Nat := (if s.part = .od7420 then 2 else 4) / 2 ^ s.rd P.eth R.eth_GROUPING
/-- Whether the network runs: NET mode with the ETH page on. -/
def State.netUp (s : State) : Bool := s.mode M.net && s.pageUp P.eth && s.en P.eth
/-- Whether a port has link. -/
def State.portUp (s : State) (p : Nat) : Bool := decide (p < s.nPorts) && (s.rd P.eth R.eth_PORT_UP).testBit p

/-- ETH_PORT_UP (R370). -/
def execEthPortUp (port : Nat) (s : State) : Host.Outcome State Fault Refusal :=
  .next (s.whenB (s.netUp && decide (port < s.nPorts)) fun s =>
    (s.wr P.eth R.eth_PORT_UP (bitPut (s.rd P.eth R.eth_PORT_UP) port true)).raise P.eth 0)
/-- ETH_PORT_DOWN (R370): connections end by their own loss (R372). -/
def execEthPortDown (port : Nat) (s : State) : Host.Outcome State Fault Refusal :=
  .next (s.whenB (s.pageUp P.eth && (s.rd P.eth R.eth_PORT_UP).testBit port && decide (port < 4)) fun s =>
    ({ s with net := { s.net with paused := s.net.paused.filter fun e => e.1 ≠ port } }.wr P.eth R.eth_PORT_UP
      (bitPut (s.rd P.eth R.eth_PORT_UP) port false)).raise P.eth 1)
/-- GROUPING set: refused on the OD-7420 for one 400 Gbit/s port; a reserved value leaves it unchanged. Ports that no longer exist have
no link. -/
def State.setGrouping (s : State) (v : Nat) : State :=
  if v = 3 then s
  else if v = 2 ∧ s.part = .od7420 then (s.flag P.eth R.eth_CFG_REJ).raise P.eth 2
  else
    let s := s.wr P.eth R.eth_GROUPING v
    s.wr P.eth R.eth_PORT_UP (s.rd P.eth R.eth_PORT_UP % 2 ^ s.nPorts)
/-- GROUPING_WRITE (R3): an RWT field, which Thimble writes. -/
def execGroupingWrite (ag : Agent) (val : Nat) (s : State) : Host.Outcome State Fault Refusal :=
  .next (s.gated ag P.eth 0x100 false fun s => s.whenB (ag == .thimble) fun s => s.setGrouping (val % 4))

/-- PAUSE_FRAME_RECEIVED (R370): 802.3x pause stops the port, PFC its priorities; quanta 0 let it go on. -/
def execPauseFrameReceived (port prioMask quanta : Nat) (s : State) : Host.Outcome State Fault Refusal :=
  .next (s.whenB (s.netUp && s.portUp port) fun s =>
    let prios := (List.range 8).filter fun i => !s.on P.eth R.eth_PFC_EN || prioMask.testBit i
    let s := s.count P.eth 0x040
    prios.foldl (fun s i =>
      let others := s.net.paused.filter fun e => e ≠ (port, i)
      { s with net := { s.net with paused := if quanta = 0 then others else others ++ [(port, i)] } }.send
        (.pauseTx port i (quanta != 0))) s)

/-- NETWORK_CONTROL_PACKET (R370): answered by Bobbin firmware; its rate limit is left out (log entry 11). -/
def execNetworkControlPacket (port : Nat) (kind : NetKind) (s : State) : Host.Outcome State Fault Refusal :=
  .next (s.whenB (s.netUp && s.portUp port && s.upState) fun s =>
    let s := s.count P.eth 0x040
    if s.trust.fwRunning then (s.count P.eth 0x048).send (.netReply port kind) else s.count P.eth 0x058)

/-! ### NVMe/TCP connections (R371, R372; 14_panels.md R378) -/

/-- The panel that the pattern block lists for an NQN. -/
def State.hostPanel (s : State) (nqn : List Byte) : Option Nat :=
  let d := (sha256 nqn).take 28
  ((List.range 32).map (patHost s.trust.pattern)).findSome? fun e =>
    if (leAt e 28 1).testBit 7 && e.take 28 == d then some (leAt e 28 1 % 64) else none
/-- The NVMe/TCP controllers. -/
def State.tcpCtrls (s : State) : List Nat := (s.net.conns.map fun e => e.2.ctrl).dedup
/-- Whether a connect is accepted. -/
def State.connectOk (s : State) (nqn : List Byte) (ctrl qid : Nat) (hdgst ddgst : Bool) : Bool :=
  let mine := s.net.conns.filter fun e => e.2.ctrl = ctrl
  (hdgst || !s.on P.toe R.toe_HDGST_REQ) && (ddgst || !s.on P.toe R.toe_DDGST_REQ) &&
    (match s.hostPanel nqn with | some p => !s.mode M.panel || s.panelActive p | none => false) &&
    decide (s.net.conns.length < 1024) && decide (qid ≤ 128) &&
    (if mine = [] then qid == 0 && decide (s.tcpCtrls.length < 64) else mine.all fun e => e.2.nqn == nqn && e.2.qid != qid)

/-- The number of a new connection: the lowest that no connection and no command still at work has. -/
def State.newConn (s : State) : Nat :=
  ((List.range 200000).find? fun n => !Tbl.has s.net.conns n && !(s.nvme.cmds.any fun e => e.2.h.src = .tcp n)).getD 0

/-- TCP_CONNECT (R371): one queue of a controller; the admin queue first. While the device serves no command nothing answers (R450). -/
def execTcpConnect (nqn : List Nat) (ctrl qid : Nat) (hdgst ddgst : Bool) (s : State) : Host.Outcome State Fault Refusal :=
  let n : List Byte := nqn.map (BitVec.ofNat 8)
  .next (s.whenB (s.netUp && s.pageUp P.toe && s.en P.toe && s.upState && s.rd P.eth R.eth_PORT_UP != 0) fun s =>
    if s.connectOk n ctrl qid hdgst ddgst then
      let c : Conn := ⟨ctrl, qid, s.panelOf ((s.hostPanel n).getD 0), n, []⟩
      { s with net := { s.net with conns := Tbl.put s.net.conns s.newConn c } }.count P.toe 0x040
    else (s.send (.tcpRefused ctrl qid)).raise P.toe 1)

/-- A command of a lost connection (R372): a write received whole goes on without its completion; one not received whole writes nothing;
reads stop; items are cancelled. -/
def State.loseCmd (s : State) (e : Nat × Cmd) : State :=
  let gone (s : State) : State :=
    let s := { s with nvme := { s.nvme with cmds := Tbl.del s.nvme.cmds e.1, aers := s.nvme.aers.filter (· ≠ e.1) } }
    (s.orphan e.1).stgDrop (.write e.1)
  let whole := match e.2.dp with | .h2c n => decide (n ≤ e.2.rxd.length) | _ => true
  match e.2.op with
  | .write | .copy | .memCopy => if whole then s.updCmd e.1 fun c => { c with silent := true } else gone s
  | .spool =>
    let s := match e.2.item with | some n => (s.cancelItem n Cs.cancelled).2 | none => s
    gone { s with spool := { s.spool with heldCmds := s.spool.heldCmds.filter (· ≠ e.1) } }
  | _ => gone s
/-- A connection lost, with its commands (R372). -/
def State.loseConn (s : State) (conn : Nat) : State :=
  let mine := s.nvme.cmds.filter fun e => e.2.h.src = .tcp conn
  let s := { s with net := { s.net with conns := Tbl.del s.net.conns conn } }
  mine.foldl State.loseCmd ((s.count P.toe 0x048).raise P.toe 0)
/-- TCP_CONNECTION_LOST (R372). -/
def execTcpConnectionLost (conn : Nat) (s : State) : Host.Outcome State Fault Refusal :=
  .next (s.whenB (Tbl.has s.net.conns conn) fun s => s.loseConn conn)
/-- Connections reset by the device. -/
def State.resetConnsOf (s : State) (which : Conn → Bool) : State :=
  (s.net.conns.filter fun e => which e.2).foldl (fun s e => (s.send (.tcpReset e.1)).loseConn e.1) s

/-- TCP_RETRANSMIT_TIMEOUT (R370): the segment goes out again. -/
def execTcpRetransmitTimeout (conn : Nat) (s : State) : Host.Outcome State Fault Refusal :=
  .next (s.whenB (Tbl.has s.net.conns conn) fun s => (s.count P.toe 0x050).send (.tcpSegment conn))

/-! ### Capsules (R370, R371, R372) -/

/-- The data pointer of a command that brings data. -/
def ioPtr : IoCmd → Option DataPtr
  | .write _ _ d | .compare _ _ d | .executeProgram _ d | .memoryWrite _ _ d | .hemAppend _ _ d => some d
  | _ => none
/-- The command with its data in hand. -/
def ioWith (b : List Byte) : IoCmd → IoCmd
  | .write a n _ => .write a n (.inline b)
  | .compare a n _ => .compare a n (.inline b)
  | .executeProgram i _ => .executeProgram i (.inline b)
  | .memoryWrite a n _ => .memoryWrite a n (.inline b)
  | .hemAppend r n _ => .hemAppend r n (.inline b)
  | io => io
/-- The header of a command of a connection. -/
def connHdr (conn : Nat) (c : Conn) (cid nsid rsvd : Nat) : Hdr := ⟨.tcp conn, c.qid, cid, nsid, rsvd⟩

/-- NVME_TCP_CAPSULE (R371): a command of the connection's queue. In-capsule data beyond ICD_MAX is refused with Data SGL Length Invalid; a
command other than a write whose data is still to come waits for it. -/
def State.capsule (s : State) (conn cid nsid rsvd : Nat) (io : IoCmd) (c : Conn) : State :=
  let h := connHdr conn c cid nsid rsvd
  match ioPtr io with
  | some (.inline b) => if s.rd P.toe R.toe_ICD_MAX < b.length then s.fetch h fun _ s => s.reply h 0x00F 0 0 else s.ioRun h io
  | some (.segs _) => s.fetch h fun _ s => s.reply h St.badField 0 0
  | some (.h2c n) =>
    match io with
    | .write _ _ _ => s.ioRun h io
    | _ => s.fetch h fun _ s =>
      let w : Conn := { c with waits := c.waits ++ [⟨cid, nsid, rsvd, io, n, []⟩] }
      { s with net := { s.net with conns := Tbl.put s.net.conns conn w } }
  | none => s.ioRun h io
/-- NVME_TCP_CAPSULE (R371). -/
def execNvmeTcpCapsule (conn cid nsid rsvd : Nat) (io : IoCmd) (s : State) : Host.Outcome State Fault Refusal :=
  .next (match Tbl.at? s.net.conns conn with
    | none => s
    | some c => if s.netUp then s.capsule conn cid nsid rsvd io c else s)

/-- Bytes laid into a table by offset, up to a length. -/
def rxPut (t : Tbl Byte) (off len : Nat) (data : List Byte) : Tbl Byte :=
  (data.mapIdx fun i b => (off + i, b)).foldl (fun (t : Tbl Byte) e => if e.1 < len then Tbl.put t e.1 e.2 else t) t
/-- H2CData of a command that waits for it; whole, the command runs. -/
def State.h2cWait (s : State) (conn off : Nat) (data : List Byte) (c : Conn) (w : CapWait) : State :=
  let t := rxPut w.rxd off w.len data
  let rest := c.waits.filter fun x => x.cid ≠ w.cid
  if w.len ≤ t.length then
    let b := (List.range w.len).map fun i => (Tbl.at? t i).getD 0
    { s with net := { s.net with conns := Tbl.put s.net.conns conn { c with waits := rest } } }.ioRun
      (connHdr conn c w.cid w.nsid w.rsvd) (ioWith b w.io)
  else { s with net := { s.net with conns := Tbl.put s.net.conns conn { c with waits := rest ++ [{ w with rxd := t }] } } }
/-- H2CDATA_PDU (R372): write data received; a write whose data is whole goes on. -/
def execH2cdataPdu (conn cid off : Nat) (data : List Byte) (s : State) : Host.Outcome State Fault Refusal :=
  .next (match Tbl.at? s.net.conns conn with
    | none => s
    | some c =>
      match c.waits.find? fun w => w.cid = cid with
      | some w => s.h2cWait conn off data c w
      | none =>
        let key := cmdKey (connHdr conn c cid 0 0)
        match (Tbl.at? s.nvme.cmds key).map Cmd.dp with
        | some (DataPtr.h2c n) => (s.updCmd key fun x => { x with rxd := rxPut x.rxd off n data }).tryWrites
        | _ => s)

/-! ### Sideband (R373) -/

/-- A sideband command: answered in every state except Off and Fill, over SMBus or a bound I3C; it is a wake event. -/
def State.miCmd (s : State) (f : State → State) : State :=
  let up := s.on P.sbd R.sbd_SMB_EN || (s.on P.sbd R.sbd_I3C_EN && s.on P.sbd R.sbd_I3C_ADDR_VALID)
  s.whenB (up && s.powered && s.dev != Dev.fill) fun s => f (((s.wakeBy 2).count P.sbd 0x040).raise P.sbd 0)
/-- A structure whose bytes are the NVMe-MI standard's. -/
def miBytes (kind n : Nat) : List Byte := (List.range n).map fun i => Config.miByte kind i
/-- Invalid Command Opcode of NVMe-MI. -/
def miBadOpcode : Nat := 0x03

/-- READ_NVME_MI_DATA_STRUCTURE. -/
def execReadNvmeMiDataStructure (dtyp : Nat) (s : State) : Host.Outcome State Fault Refusal :=
  .next (s.miCmd fun s => s.send (.mi 0 (miBytes dtyp 32)))
/-- NVM_SUBSYSTEM_HEALTH_STATUS_POLL. -/
def execNvmSubsystemHealthStatusPoll (s : State) : Host.Outcome State Fault Refusal :=
  .next (s.miCmd fun s => s.send (.mi 0 (miBytes 0x100 8)))
/-- CONTROLLER_HEALTH_STATUS_POLL. -/
def execControllerHealthStatusPoll (s : State) : Host.Outcome State Fault Refusal :=
  .next (s.miCmd fun s => s.send (.mi 0 (miBytes 0x101 16)))
/-- CONFIGURATION_GET: the value set, or the standard's. -/
def execConfigurationGet (cid : Nat) (s : State) : Host.Outcome State Fault Refusal :=
  .next (s.miCmd fun s => s.send (.mi 0 (natLE 4 ((Tbl.at? s.nvme.miConfig cid).getD (leNat (miBytes (0x10000 + cid) 4))))))
/-- CONFIGURATION_SET. -/
def execConfigurationSet (cid val : Nat) (s : State) : Host.Outcome State Fault Refusal :=
  .next (s.miCmd fun s => { s with nvme := { s.nvme with miConfig := Tbl.put s.nvme.miConfig cid (val % 2 ^ 32) } }.send (.mi 0 []))
/-- VPD_READ. -/
def execVpdRead (off len : Nat) (s : State) : Host.Outcome State Fault Refusal :=
  .next (s.miCmd fun s => s.send (.mi 0 ((List.range len).map fun i => Config.vpdByte (off + i))))
/-- MI_TUNNELLED_COMMAND: Identify, Get Features and Get Log Page; others are an invalid opcode. -/
def execMiTunnelledCommand (cmd : MiTunnel) (s : State) : Host.Outcome State Fault Refusal :=
  .next (s.miCmd fun s =>
    let s := s.count P.sbd 0x048
    match cmd with
    | .identify cns => match s.identifyData true 0 0 cns with | some d => s.send (.mi 0 d) | none => s.send (.mi St.badField [])
    | .getFeatures fid => s.send (.mi 0 (natLE 4 (s.feature fid)))
    | .getLogPage lid off len =>
      match s.logPage lid with
      | some d => s.send (.mi 0 (fitTo len (d.drop off)))
      | none => s.send (.mi St.badLogPage [])
    | .other _ => s.send (.mi miBadOpcode []))
/-- I3C_DYNAMIC_ADDRESS_ASSIGNMENT (R373, R374). -/
def execI3cDynamicAddressAssignment (addr : Nat) (s : State) : Host.Outcome State Fault Refusal :=
  .next (s.whenB (s.on P.sbd R.sbd_I3C_EN && s.powered && s.dev != Dev.fill) fun s =>
    (s.wr P.sbd R.sbd_I3C_DYN_ADDR addr).wr P.sbd R.sbd_I3C_ADDR_VALID 1)

end Sys2Proof.Machine
end

