-- ==== Sys2Proof/Machine/Serial.lean ====
section
/-!
DEFINITION. Sys2Proof/Machine/Serial.lean: what Thimble does one request at a time: mode changes, PAN commands and mailbox commands, with
the commands of those families (14_panels.md R376 to R387; 15_modes.md R391 to R399; 19_trust_pattern.md R480 to R486).
-/

namespace Sys2Proof.Machine

/-! ### Mode changes (R391 to R394) -/

/-- MODE_RT_MASK: the run-time modes. -/
def rtModes : Nat := 0xD3A
/-- The check of step 1 of R391, in the order of R394; 0 where the request passes. -/
def State.modeCode (s : State) : Nat :=
  if !s.upState && s.dev != Dev.doze then 0x02
  else if s.on P.pat R.pat_PATTERN_DEFAULTED then 0x03
  else if andNot (Nat.xor (s.rd P.mode R.mode_MODE_REQ) (s.rd P.mode R.mode_MODE_EN)) rtModes ≠ 0 then 0x01
  else 0
/-- A request refused: nothing else changes. -/
def State.modeRefuse (s : State) (code : Nat) : State :=
  let s := (s.wr P.mode R.mode_REQ_BUSY 0).wr P.mode R.mode_REQ_RESULT code
  ((s.err P.mode 0x01 code 0).count P.mode 0x048).raise P.mode 1
/-- CTRL.EN of a page cleared, with CTRL.DRAIN set first where asked. -/
def State.disablePage (s : State) (drain : Bool) (p : Nat) : State :=
  (s.whenB drain fun s => s.wr p R.common_DRAIN 1).wr p R.common_EN 0
/-- The pages whose CTRL.EN a run-time mode governs (R391). -/
def State.modePages (s : State) (b : Nat) : List Nat :=
  if b = M.net then [P.eth, P.toe]
  else if b = M.pink then ((List.range 28).filter s.pnkPresent).map P.pnk
  else if b = M.gauge then [P.gau]
  else []
/-- Step 2 for one mode being cleared. -/
def State.modeClear (s : State) (drain : Bool) (b : Nat) : State :=
  let s := (s.modePages b).foldl (fun s p => s.disablePage drain p) s
  if b = M.pink ∧ drain = false then
    (List.range 28).foldl (fun s u => if s.pnkPresent u then (s.pnkReturn u).pnkUnread u else s) s
  else if b = M.gauge ∧ drain = false then s.gauReturn
  else s
/-- Step 1 and step 2 of a request. -/
def State.startMode (s : State) : State :=
  let code := s.modeCode
  if code ≠ 0 then s.modeRefuse code
  else
    let target := s.rd P.mode R.mode_MODE_REQ
    let drain := s.on P.mode R.mode_REQ_DRAIN
    let off := (List.range 12).filter fun b => s.mode b && !target.testBit b
    off.foldl (fun s b => s.modeClear drain b) { s with serial := { s.serial with mode := some ⟨target, drain, 0⟩ } }
/-- Whether the blocks of a mode have finished their jobs (step 2). -/
def State.modeIdle (s : State) (drain : Bool) (b : Nat) : Bool :=
  if b = M.pleat ∧ drain = true then
    !(s.pleat.queue.any fun e => e.2.any fun j => match j.origin with | .inline _ => true | _ => false)
  else (s.modePages b).all fun p => !s.running p && (!drain || !s.queued p)
/-- The queued inline jobs returned to Seam (R393). -/
def State.dropInline (s : State) : State :=
  (List.range (nPleat s.part)).foldl (fun s e =>
    let inl (j : PleatJob) : Bool := match j.origin with | .inline _ => true | _ => false
    let q := s.pltQueue e
    (q.filter inl).foldl (fun s j => s.pltReturn e j)
      { s with pleat := { s.pleat with queue := Tbl.put s.pleat.queue e (q.filter fun j => !inl j) } }) s
/-- An Unpick before its commit point ended UNIT_DISABLED (R393). -/
def State.disableUnpick (s : State) (u : Unpick) : State :=
  let s := s.restoreUnpick u
  match u.item with | some n => s.cplItem 70 n Cs.disabled 0 | none => s
/-- What clearing a mode does at the commit (R388, R393). -/
def State.modeGone (s : State) (drain : Bool) (b : Nat) : State :=
  if b = M.net then ((s.resetConnsOf fun _ => true).wr P.eth R.eth_PORT_UP 0).domOff 37
  else if b = M.pleat then (if drain then s else s.dropInline)
  else if b = M.pink then s.whenB (s.seam.streams == []) fun s => { s with pink := { s.pink with slots := [] } }
  else if b = M.gauge then { s with gauge := { gaugeEmpty with out := s.gauge.out, nextTag := s.gauge.nextTag } }
  else if b = M.unpick then (s.seam.unpicks.filter fun u => u.step < 4).foldl State.disableUnpick s
  else s
/-- Step 4 for one mode being set. -/
def State.modeSet (s : State) (b : Nat) : State :=
  let s := s.whenB (b == M.net) fun s => s.domPower 37
  let s := s.whenB (b == M.pink) fun s => { s with pink := { s.pink with slots := [] } }
  let s := s.whenB (b == M.gauge) fun s => { s with gauge := { s.gauge with rows := [] } }
  (s.modePages b).foldl (fun s p => if s.pageUp p then s.wr p R.common_EN 1 else s) s
/-- Steps 3 and 4 of a request. -/
def State.commitMode (s : State) (r : ModeRun) : State :=
  let old := s.rd P.mode R.mode_MODE_EN
  let off := (List.range 12).filter fun b => old.testBit b && !r.target.testBit b
  let on := (List.range 12).filter fun b => !old.testBit b && r.target.testBit b
  let s := s.wr P.mode R.mode_MODE_EN r.target
  let s := off.foldl (fun s b => s.modeGone r.drain b) s
  on.foldl State.modeSet { s with serial := { s.serial with mode := some { r with step := 1 } } }

/-! ### PAN commands (R382, R383, R385) -/

/-- A panel's ACTIVE bit. -/
def State.setActive (s : State) (p : Nat) (on : Bool) : State :=
  if p < 32 then s.wr P.pan R.pan_ACTIVE_LO (bitPut (s.rd P.pan R.pan_ACTIVE_LO) p on)
  else s.wr P.pan R.pan_ACTIVE_HI (bitPut (s.rd P.pan R.pan_ACTIVE_HI) (p - 32) on)
/-- Whether an active panel holds a PASID. -/
def State.pasidUsed (s : State) (v : Nat) : Bool :=
  (List.range 64).any fun p => s.panelActive p && s.rdI P.pan R.pan_PASID p == v
/-- A PAN command ended. -/
def State.panEnd (s : State) (code : Nat) : State :=
  let s := (s.wr P.pan R.pan_PAN_BUSY 0).wr P.pan R.pan_PAN_RESULT code
  let s := { s with serial := { s.serial with pan := none } }
  s.raise P.pan (if code = 0 ∨ code = 6 then 0 else 1)
/-- Activation: the bit, the PASID, the shares, the panel's memory and windows (R382). -/
def State.activate (s : State) (p pasid : Nat) : State :=
  let t := (s.setActive p true).wrI P.pan R.pan_PASID p pasid
  if t.panelSpace.isNone then s.panEnd 8
  else ((t.placePanel p).count P.pan 0x040).panEnd 0

/-- Whether nothing of a panel's work is left (R383 step 2): items, commands, streams, engine and Gauge jobs. -/
def State.panelIdle (s : State) (p : Nat) : Bool :=
  !(s.spool.items.any fun e => e.2.panel == p) && !(s.nvme.cmds.any fun e => e.2.panel == p && e.2.op != .aer) &&
    !(s.seam.streams.any fun x => x.panel == p) && !(s.pleat.lanes.any fun e => e.2.panel == p) &&
    !(s.pleat.queue.any fun e => e.2.any fun j => j.panel == p) && !(s.gauge.queue.any fun b => b.panel == p) &&
    !(s.gauge.upd.any fun b => b.panel == p) && !(s.gauge.look.any fun b => b.panel == p)
/-- Step 3: waiting items end SQUASHED, tasks and engine work are aborted, the aperture gate closes. -/
def State.squash (s : State) (p : Nat) : State :=
  let l := (s.spool.items.filter fun e => e.2.panel = p).map (·.1)
  let s := l.foldl (fun s n => (s.cancelItem n Cs.squashed).2) (s.countN P.pan 0x058 ((s.spool.items.filter fun e => e.2.panel = p && !s.itemEnded e.1 e.2).length))
  let s := { s with panels := { s.panels with gated := s.panels.gated ++ [p] } }
  let s := { s with serial := { s.serial with pan := s.serial.pan.map fun (r : PanRun) => { r with step := 3, timeout := true } } }
  (s.err P.pan 0x01 p 0).raise P.pan 2
/-- A range of the global bit space cleared. -/
def State.zeroBits (s : State) (e : Nat × Nat) : State :=
  { s with gbit := s.gbit.filter fun b => !decide (e.1 ≤ b ∧ b < e.1 + e.2) }
/-- A panel above its share given the share at its reset: its memory keeps its upper end, where its programs lie, its bit window its lower
end (R382; DESIGN CHOICE, log entry 20). -/
def State.shrinkPanel (s : State) (p : Nat) : State :=
  let m := (Tbl.at? s.panels.slm p).map fun e => if s.slmShare < e.2 then (e.1 + e.2 - s.slmShare, s.slmShare) else e
  let b := (Tbl.at? s.panels.gbits p).map fun e => (e.1, min e.2 s.gbitShare)
  let slm := match m with | some e => Tbl.put s.panels.slm p e | none => s.panels.slm
  let gb := match b with | some e => Tbl.put s.panels.gbits p e | none => s.panels.gbits
  { s with panels := { s.panels with slm := slm, gbits := gb } }.rebuildWins p
/-- Step 7: reset-complete. -/
def State.panFinish (s : State) (r : PanRun) : State :=
  let s := s.wrI P.pan R.pan_RESETTING r.panel 0
  let s := { s with panels := { s.panels with closed := s.panels.closed.filter (· ≠ r.panel),
                                              gated := s.panels.gated.filter (· ≠ r.panel) } }
  (s.count P.pan (if r.op = 2 then 0x050 else 0x048)).panEnd (if r.timeout then 6 else 0)
/-- Steps 4 and 5: commands ended with SQ Deletion, connections reset, Gauge entries deleted, staging freed; then step 6 of a removal, or
the end. -/
def State.panCleanup (s : State) (r : PanRun) : State :=
  let p := r.panel
  let mine := s.nvme.cmds.filter fun e => e.2.panel = p
  let s := s.countN P.pan 0x058 (mine.filter fun e => e.2.op != .aer && e.2.item.isNone).length
  let s := mine.foldl (State.dropCmd · St.sqDeleted Cs.squashed ·) s
  let s := (s.resetConnsOf fun c => c.panel == p).gauDropPanel p
  let bufs := (s.stg.bufs.filter fun e => e.2.panel = p ∧ (e.2.cls = .program ∨ e.2.cls = .host)).map (·.1)
  let s := { s with stg := { s.stg with waits := s.stg.waits.filter fun w => !decide (w.panel = p ∧ (w.cls = .program ∨ w.cls = .host)) } }
  let s := bufs.foldl State.stgRelease s
  if r.op = 2 then { s with serial := { s.serial with pan := some { r with step := 6 } } }
  else (s.shrinkPanel p).panFinish r
/-- Step 6: memory and bits zeroed, programs deleted, windows withdrawn, SQ_PANEL cleared; the panel is inactive and its namespaces are
panel 0's (R383; 15_modes.md R397 note 20). -/
def State.panRelease (s : State) (r : PanRun) : State :=
  let p := r.panel
  let (a, n) := s.slmOf p
  let s := (s.zeroMem a (a + n)).zeroBits ((Tbl.at? s.panels.gbits p).getD (0, 0))
  let s := { s with
    nvme := { s.nvme with
      progs := s.nvme.progs.filter fun e => e.2.panel ≠ p
      ranges := s.nvme.ranges.filter fun e => e.1 / 65536 ≠ p
      ns := s.nvme.ns.map fun (e : Nat × Ns) => (e.1, if e.2.panel = p then { e.2 with panel := 0 } else e.2)
      sqs := s.nvme.sqs.map fun (e : Nat × Sq) => (e.1, if e.2.panel = p then { e.2 with panel := 0 } else e.2) }
    panels := { s.panels with slm := Tbl.del s.panels.slm p, gbits := Tbl.del s.panels.gbits p, wins := Tbl.del s.panels.wins p } }
  let qs := (List.range 513).filter fun q => s.rdI P.pan R.pan_SQ_PANEL q = p
  let s := qs.foldl (fun s q => s.wrI P.pan R.pan_SQ_PANEL q 0) s
  ((s.setActive p false).wrI P.pan R.pan_PASID p 0).panFinish r
/-- A reset or removal begun: admission closes; with DRAIN_TMO_MS 0 what runs is squashed at once. -/
def State.startReset (s : State) (p op : Nat) : State :=
  let s := s.wrI P.pan R.pan_RESETTING p 1
  let s := { s with panels := { s.panels with closed := s.panels.closed ++ [p] }, serial := { s.serial with pan := some ⟨p, op, 2, false⟩ } }
  s.whenB (s.rd P.pan R.pan_DRAIN_TMO_MS == 0) fun s => s.squash p
/-- A PAN command begun; the first check that fails decides PAN_RESULT. -/
def State.startPan (s : State) (op : Nat) : State :=
  let p := s.rd P.pan R.pan_PAN_ID
  let pasid := s.rd P.pan R.pan_NEW_PASID
  if !s.mode M.panel then s.panEnd 5
  else if op = 0 then
    if s.panelActive p then s.panEnd 1
    else if s.pasidUsed pasid then s.panEnd 3
    else s.activate p pasid
  else if op = 2 ∧ p = 0 then s.panEnd 4
  else if !s.panelActive p then s.panEnd 2
  else s.startReset p op

/-! ### The mailbox (19_trust_pattern.md R481 to R486) -/

/-- A mailbox command ended with its result. -/
def State.mbEnd (s : State) (code : Nat) : State :=
  let s := (s.wr P.thm R.thm_MB_BUSY 0).wr P.thm R.thm_MB_RESULT code
  let s := { s with serial := { s.serial with pat := none } }.count P.thm 0x040
  if code = 0 then s.raise P.thm 0 else (s.count P.thm 0x048).raise P.thm 1
/-- MB_ADDR. -/
def State.mbAddr (s : State) : Nat := s.rd P.thm R.thm_MB_ADDR_LO + s.rd P.thm R.thm_MB_ADDR_HI * 2 ^ 32
/-- Whether an agent may issue a command (R482). -/
def State.mbAllowed (s : State) (ag : Agent) (cmd : Nat) : Bool :=
  match ag with
  | .host => true
  | .bobbin _ => cmd == 1 || (cmd == 2 && patFlag s.trust.pattern 1)
  | .thimble => false
/-- A block with its generation, tag and check put in (R483). -/
def State.patFinish (s : State) (b : List Byte) : List Byte :=
  let b := b.take 8 ++ natLE 4 (s.rd P.pat R.pat_GENERATION + 1) ++ b.drop 12
  let b := b.take 0xFD8 ++ hmac256 s.trust.patternKey (b.take 0xFD8) ++ b.drop 0xFF8
  b.take 0xFFC ++ natLE 4 (crc32c (b.take 0xFFC))
/-- PATTERN_WRITE: checked, then copy B and copy A are programmed. -/
def State.mbPatWrite (s : State) : State :=
  s.blockRead s.mbAddr 4096 fun b s =>
    if patForm b then { s with serial := { s.serial with pat := some ⟨s.patFinish b, 1⟩ } } else s.mbEnd 2
/-- KEY_UNLOCK (R481). -/
def State.mbUnlock (s : State) : State :=
  let n := s.rd P.thm R.thm_MB_ARG0
  if s.on P.pat R.pat_PATTERN_DEFAULTED then s.mbEnd 5
  else if 1024 ≤ n then s.mbEnd 9
  else if 8 ≤ (Tbl.at? s.trust.keyFails n).getD 0 then s.mbEnd 4
  else
    s.blockRead s.mbAddr 32 fun x s =>
      match s.openKey n (some x) with
      | some k => ({ s with trust := { s.trust with keyFails := Tbl.del s.trust.keyFails n } }.kload n k).mbEnd 0
      | none =>
        let f := (Tbl.at? s.trust.keyFails n).getD 0 + 1
        let s := { s with trust := { s.trust with keyFails := Tbl.put s.trust.keyFails n f } }
        ((s.err P.thm 0x02 n 0).count P.thm 0x050).mbEnd 3
/-- KEY_LOCK (R481). -/
def State.mbLock (s : State) : State :=
  let n := s.rd P.thm R.thm_MB_ARG0
  if 1024 ≤ n then s.mbEnd 9 else (s.kzap n).mbEnd 0
/-- KEY_POLICY (R483): an unlocked slot wrapped again. -/
def State.mbPolicy (s : State) : State :=
  let a := s.rd P.thm R.thm_MB_ARG0
  let n := a % 65536
  match Tbl.at? s.trust.keySlots n with
  | none => s.mbEnd 9
  | some k =>
    if 2 ^ 17 ≤ a ∨ 1024 ≤ n then s.mbEnd 9
    else if a.testBit 16 then s.blockRead s.mbAddr 32 fun x s => (s.storeKey n (some x) k).mbEnd 0
    else (s.storeKey n none k).mbEnd 0
/-- HEM_RELEASE (R483). -/
def State.mbHem (s : State) : State :=
  let r := s.rd P.thm R.thm_MB_ARG0
  if patFlag s.trust.pattern 0 = false then s.mbEnd 6
  else if Tbl.has s.seam.hem r then (s.hemDelete r).mbEnd 0 else s.mbEnd 9
/-- FW_WRITE (R483, R474). -/
def State.mbFw (s : State) : State :=
  let n := s.rd P.thm R.thm_MB_ARG1
  let slot := s.rd P.thm R.thm_MB_ARG0
  if 1 < slot ∨ n = 0 ∨ slotSize < n then s.mbEnd 9
  else
    s.blockRead s.mbAddr n fun d s =>
      let (ok, s) := (s.norWrite (norSlot slot) d).commitFw slot
      s.mbEnd (if ok then 0 else 7)
/-- A mailbox command begun. -/
def State.startMailbox (s : State) (ag : Agent) : State :=
  let c := s.rd P.thm R.thm_MB_CMD
  if !s.mbAllowed ag c then s.mbEnd 1
  else
    match c with
    | 1 => (s.fabWrite s.mbAddr s.trust.pattern).mbEnd 0
    | 2 => s.mbPatWrite
    | 3 => s.mbUnlock
    | 4 => s.mbLock
    | 5 => s.mbPolicy
    | 6 => s.mbHem
    | 7 => s.mbFw
    | _ => s.mbEnd 9

/-! ### One at a time (R391, R482) -/

/-- Whether Thimble has a request in progress. -/
def State.serialBusy (s : State) : Bool := s.serial.pat.isSome || s.serial.mode.isSome || s.serial.pan.isSome
/-- Waiting requests begun in order while none is in progress. -/
def State.serialNext : Nat → State → State
  | 0, s => s
  | fuel + 1, s =>
    match s.serial.queue with
    | [] => s
    | r :: rest =>
      if s.serialBusy then s
      else
        let s := { s with serial := { s.serial with queue := rest } }
        State.serialNext fuel (match r with
          | .mailbox ag => s.startMailbox ag
          | .mode _ => s.startMode
          | .panel op => s.startPan op)
/-- A request accepted. -/
def State.serialPut (s : State) (r : ThmReq) : State :=
  State.serialNext 3 { s with serial := { s.serial with queue := s.serial.queue ++ [r] } }
/-- The request in progress over; the next begins. -/
def State.serialOn (s : State) : State := State.serialNext 3 s

/-- MB_GO with the command in MB_CMD: ignored with MB_REJ while one waits or runs. -/
def State.mbGo (s : State) (ag : Agent) : State :=
  if s.on P.thm R.thm_MB_BUSY then s.flag P.thm R.thm_MB_REJ
  else (s.wr P.thm R.thm_MB_BUSY 1).serialPut (.mailbox ag)
/-- A write of MB_CMD and MB_GO. -/
def State.mbCmd (s : State) (ag : Agent) (cmd : Nat) : State :=
  s.gated ag P.thm 0x100 false fun s => (s.wr P.thm R.thm_MB_CMD cmd).mbGo ag
/-- REQ_GO (R391): from the host driver and Bobbin firmware; ignored with REQ_RESULT 0x05 while a request waits or runs. -/
def State.modeGo (s : State) (ag : Agent) : State :=
  if ag = .thimble then s
  else if s.on P.mode R.mode_REQ_BUSY then s.wr P.mode R.mode_REQ_RESULT 0x05
  else (s.wr P.mode R.mode_REQ_BUSY 1).serialPut (.mode ag)
/-- PAN_GO: ignored with PAN_RESULT 0x07 while one waits or runs; a reserved operation does nothing. -/
def State.panGo (s : State) (op : Nat) : State :=
  if s.on P.pan R.pan_PAN_BUSY then s.wr P.pan R.pan_PAN_RESULT 0x07
  else if op = 3 then s
  else (s.wr P.pan R.pan_PAN_BUSY 1).serialPut (.panel op)
/-- A write of PAN_OP and PAN_GO. -/
def State.panCmd (s : State) (ag : Agent) (op : Nat) : State :=
  s.gated ag P.pan 0x10C false fun s => (s.wr P.pan R.pan_PAN_OP op).panGo op

/-! ### The commands: panels -/

/-- PAN_ACTIVATE (R382). -/
def execPanActivate (ag : Agent) (s : State) : Host.Outcome State Fault Refusal := .next (s.panCmd ag 0)
/-- PAN_RESET (R383). -/
def execPanReset (ag : Agent) (s : State) : Host.Outcome State Fault Refusal := .next (s.panCmd ag 1)
/-- PAN_REMOVE (R383). -/
def execPanRemove (ag : Agent) (s : State) : Host.Outcome State Fault Refusal := .next (s.panCmd ag 2)
/-- The PAN command in progress, at a step. -/
def State.panAt (s : State) (step : Nat) (f : PanRun → State → State) : State :=
  match s.serial.pan with
  | some r => if r.step = step then f r s else s
  | none => s
/-- PANEL_DRAIN_DONE (R383 step 2): with all of the panel's work complete. -/
def execPanelDrainDone (s : State) : Host.Outcome State Fault Refusal :=
  .next (s.panAt 2 fun r s => if s.panelIdle r.panel then (s.panCleanup r).serialOn else s)
/-- PANEL_DRAIN_TIMEOUT (R383 step 3): work complete in the same cycle counts as drained (R385). -/
def execPanelDrainTimeout (s : State) : Host.Outcome State Fault Refusal :=
  .next (s.panAt 2 fun r s => if s.panelIdle r.panel then (s.panCleanup r).serialOn else s.squash r.panel)
/-- Whether every item of a panel has ended. -/
def State.squashed (s : State) (p : Nat) : Bool := !(s.spool.items.any fun e => e.2.panel == p)
/-- PANEL_SQUASH_DONE (R383 step 4): every abort has returned. -/
def execPanelSquashDone (s : State) : Host.Outcome State Fault Refusal :=
  .next (s.panAt 3 fun r s => if s.squashed r.panel then (s.panCleanup r).serialOn else s)
/-- PANEL_ZEROING_DONE (R383 steps 6 and 7). -/
def execPanelZeroingDone (s : State) : Host.Outcome State Fault Refusal :=
  .next (s.panAt 6 fun r s => (s.panRelease r).serialOn)
/-- SQ_PANEL set, unless the queue exists (R386). -/
def State.setSqPanel (s : State) (q panel : Nat) : State :=
  if Tbl.has s.nvme.sqs q then s.flag P.pan R.pan_CFG_REJ else s.wrI P.pan R.pan_SQ_PANEL q panel
/-- SQ_PANEL_WRITE (R386). -/
def execSqPanelWrite (ag : Agent) (q panel : Nat) (s : State) : Host.Outcome State Fault Refusal :=
  .next (s.whenB (decide (1 ≤ q ∧ q ≤ 512)) fun s => s.gated ag P.pan (0x400 + 4 * q) false fun s => s.setSqPanel q panel)

/-! ### The commands: modes -/

/-- REQ_GO (R391); the write of MODE_REQ wakes the device from Doze (R394). -/
def execReqGo (ag : Agent) (s : State) : Host.Outcome State Fault Refusal :=
  .next ((s.wakeBy 5).gated ag P.mode 0x104 false fun s => s.modeGo ag)
/-- MODE_DRAIN_DONE (R391 steps 3 and 4): the cleared modes' blocks are idle, MODE_EN is written once, the set ones are enabled. -/
def execModeDrainDone (s : State) : Host.Outcome State Fault Refusal :=
  .next (match s.serial.mode with
    | none => s
    | some r =>
      let off := (List.range 12).filter fun b => s.mode b && !r.target.testBit b
      if r.step = 0 ∧ (off.all fun b => s.modeIdle r.drain b) = true then s.commitMode r else s)
/-- MODE_ENABLE_DONE (R391 step 5). -/
def execModeEnableDone (s : State) : Host.Outcome State Fault Refusal :=
  .next (match s.serial.mode with
    | none => s
    | some r =>
      if r.step = 1 then
        let s := { s with serial := { s.serial with mode := none } }
        let s := (s.wr P.mode R.mode_REQ_BUSY 0).wr P.mode R.mode_REQ_RESULT 0
        ((s.count P.mode 0x040).raise P.mode 0).serialOn
      else s)

/-! ### The commands: mailbox and Bobbin restart -/

/-- PATTERN_READ. -/
def execPatternRead (ag : Agent) (s : State) : Host.Outcome State Fault Refusal := .next (s.mbCmd ag 1)
/-- PATTERN_WRITE. -/
def execPatternWrite (ag : Agent) (s : State) : Host.Outcome State Fault Refusal := .next (s.mbCmd ag 2)
/-- KEY_UNLOCK. -/
def execKeyUnlock (ag : Agent) (s : State) : Host.Outcome State Fault Refusal := .next (s.mbCmd ag 3)
/-- KEY_LOCK. -/
def execKeyLock (ag : Agent) (s : State) : Host.Outcome State Fault Refusal := .next (s.mbCmd ag 4)
/-- KEY_POLICY. -/
def execKeyPolicy (ag : Agent) (s : State) : Host.Outcome State Fault Refusal := .next (s.mbCmd ag 5)
/-- HEM_RELEASE. -/
def execHemRelease (ag : Agent) (s : State) : Host.Outcome State Fault Refusal := .next (s.mbCmd ag 6)
/-- FW_WRITE. -/
def execFwWrite (ag : Agent) (s : State) : Host.Outcome State Fault Refusal := .next (s.mbCmd ag 7)
/-- A pattern copy's programming over: its bytes, or, where it failed, bytes that the spec leaves open. -/
def State.patCopy (s : State) (r : PatWrite) (ok : Bool) : State :=
  if ok then s.norWrite (norPattern r.copy) r.block
  else
    let (v, s) := s.drawFree 32768
    s.norWrite (norPattern r.copy) (natLE 4096 v)
/-- PATTERN_COPY_PROGRAMMED (R483): copy B, then copy A; in Ward the write stops after the copy being programmed. -/
def execPatternCopyProgrammed (ok : Bool) (s : State) : Host.Outcome State Fault Refusal :=
  .next (match s.serial.pat with
    | none => s
    | some r =>
      let s := s.patCopy r ok
      if s.dev = Dev.ward then { s with serial := { s.serial with pat := none } }
      else if !ok then (s.mbEnd 8).serialOn
      else if r.copy = 1 then { s with serial := { s.serial with pat := some { r with copy := 0 } } }
      else (s.mbEnd 0).serialOn)

/-- A Bobbin core as Thimble starts it: registers 0, PC 0, LEVEL firmware; its windows stay (log entry 38). -/
def Core.bobbinStart (c : Core) : Core :=
  { coreZero with psw := 0x1000, ls := c.ls, bits := c.bits, wins := c.wins, st := .run }
/-- A halted Bobbin core started again by RESTART (12_shuttle_spool.md R329). -/
def State.bobRestart (s : State) (core : Nat) : State :=
  match Tbl.at? s.cores (32 + core) with
  | some c => s.whenB c.halted fun s => ((s.setCore (32 + core) c.bobbinStart).count P.thm 0x058).raise P.thm 2
  | none => s.whenB (s.domOn 7 && s.trust.fwRunning) fun s => s.setCore (32 + core) coreZero.bobbinStart
/-- BOBBIN_RESTART (R484): at most 3 restarts in an hour; a fourth, or a wrong digest, is fault 0x05. -/
def execBobbinRestart (core : Nat) (digestOk : Bool) (s : State) : Host.Outcome State Fault Refusal :=
  .next (match Tbl.at? s.cores (32 + core) with
    | none => s
    | some c =>
      if core < 8 ∧ c.halted = true ∧ s.pagesAwake = true ∧ s.dev ≠ Dev.ward then
        let recent := s.trust.restarts.filter fun t => s.rtcUs < t + 3600000000
        if !digestOk || decide (3 ≤ recent.length) then s.fault' 0x05 P.bob 0 0
        else
          let s := { s with trust := { s.trust with restarts := recent ++ [s.rtcUs] } }
          s.bobRestart core
      else s)

end Sys2Proof.Machine
end

