-- ==== Sys2Proof/Machine/Power.lean ====
section
/-!
DEFINITION. Sys2Proof/Machine/Power.lean: entering the low-power states, the first wake steps, domains, DVFS, the power limit, pads, and the
host controller reset (18_power_clocks.md R441 to R461; 12_shuttle_spool.md R328; 13_host_network.md R349, R352).
-/

namespace Sys2Proof.Machine

/-! ### Host controller reset (13_host_network.md R352, R356) -/

/-- A host controller reset: function 0's commands end with Internal Error, its queues and features go; NVMe/TCP, programs and Seam go
on. The items of ended commands are cancelled as on a lost connection (DEDUCED, log entry 42). -/
def State.hostReset (s : State) : State :=
  let mine := s.nvme.cmds.filter fun e => e.2.h.src = .pcie
  let s := mine.foldl (fun s e => (s.count P.nvm 0x050).dropCmd St.internal Cs.cancelled e) s
  let s := { s with nvme := { s.nvme with
    ccEn := false, csts := false, sqs := [], cqs := [], cqHeld := [], aers := [], events := [], features := [] } }
  (s.raise P.nvm 1).count P.rst 0x050

/-! ### Entry (R444 to R449) -/

/-- Doze entry steps 1 and 2: no wake is latched at AP1. -/
def State.startDoze (s : State) : State := { s with power := { s.power with seq := .entry .doze 2, latched := 0 } }.wr P.pwr R.pwr_STATE_BUSY 1
/-- Slumber and Vault entry steps 1 and 2: connections reset, the checkpoint begun. -/
def State.startEntry (s : State) (t : LowPower) : State :=
  let s := (s.wr P.pwr R.pwr_STATE_BUSY 1).resetConnsOf fun _ => true
  { s with power := { s.power with seq := .entry t 2, latched := 0 } }.checkpointDue
/-- A request for a low-power state: ignored while STATE_BUSY, refused with CONDITIONS while a page blocks it. On the ring oscillator a
request for Vault returns the device there (R453). -/
def State.requestLow (s : State) (t : LowPower) : State :=
  let hold : Bool := match s.power.seq with | .wake _ 3 => s.on P.clk R.clk_CLK_DEGRADED | _ => false
  if hold && t == .vault then
    ({ s with power := { s.power with latched := 0 } }.wr P.clk R.clk_CLK_DEGRADED 0).enterLowPower .vault
  else if s.on P.pwr R.pwr_STATE_BUSY || s.power.seq != .run || !s.upState then s
  else
    match s.blocker t with
    | some p => s.refuse 0x3F 3 p
    | none => if t = .doze then s.startDoze else s.startEntry t
/-- A write of STATE_REQ and STATE_GO. -/
def State.stateGo (s : State) (ag : Agent) (t : LowPower) : State :=
  s.gated ag P.pwr 0x100 false fun s => (s.wr P.pwr R.pwr_STATE_REQ (lpCode t)).requestLow t
/-- DOZE_REQUEST (R446). -/
def execDozeRequest (ag : Agent) (s : State) : Host.Outcome State Fault Refusal := .next (s.stateGo ag .doze)
/-- SLUMBER_REQUEST (R447). -/
def execSlumberRequest (ag : Agent) (s : State) : Host.Outcome State Fault Refusal := .next (s.stateGo ag .slumber)
/-- VAULT_REQUEST (R447). -/
def execVaultRequest (ag : Agent) (s : State) : Host.Outcome State Fault Refusal := .next (s.stateGo ag .vault)
/-- DOZE_IDLE_TIMEOUT (R444): automatic Doze; where the entry condition no longer holds nothing happens. -/
def execDozeIdleTimeout (s : State) : Host.Outcome State Fault Refusal :=
  .next (s.whenB (s.on P.pwr R.pwr_DOZE_AUTO && s.upState && s.power.seq == .run && (s.blocker .doze).isNone) State.startDoze)

/-- DOZE_BIAS_SETTLED (R446): at AP2 a latched wake abandons the entry; else Doze is entered. -/
def execDozeBiasSettled (s : State) : Host.Outcome State Fault Refusal :=
  .next (if s.power.seq = .entry .doze 2 then
      if s.power.latched ≠ 0 then s.abandon .doze 2
      else
        let s := { s with power := { s.power with seq := .asleep .doze, asleepSince := s.rtcUs } }
        (((s.setDev Dev.doze).wr P.pwr R.pwr_STATE_BUSY 0).count P.pwr 0x060).raise P.pwr 0
    else s)

/-- SR_STATE of the channels in the set. -/
def State.setSr (s : State) (v : Nat) : State :=
  ((List.range 4).filter fun ch => (s.rd P.drm R.drm_SET).testBit ch).foldl (fun s ch => s.wr (P.drc ch) R.drc_SR_STATE v) s
/-- Step 3 of an entry: self-refresh entry begins. -/
def State.entrySr (s : State) (t : LowPower) : State := { s with power := { s.power with seq := .entry t 3 } }.setSr 1
/-- CHECKPOINT_DURABLE (02_seam_map.md R53): the root stands; an entry that waited for it goes on, or is abandoned at AP2. -/
def execCheckpointDurable (s : State) : Host.Outcome State Fault Refusal :=
  .next (s.whenB s.seam.ckpt.isSome fun s =>
    let s := s.ckptDurable
    match s.power.seq with
    | .entry t 2 =>
      if t = .doze ∨ s.seam.ckpt.isSome = true then s
      else if s.power.latched ≠ 0 then s.abandon t 2
      else s.entrySr t
    | _ => s)
/-- DRAM_SELF_REFRESH_ENTERED (17_dram.md R436): the activation tables are cleared; at AP3 a latched wake abandons the entry, which exits
self-refresh; else the heads are parked. -/
def execDramSelfRefreshEntered (s : State) : Host.Outcome State Fault Refusal :=
  .next (match s.power.seq with
    | .entry t 3 =>
      let s := { s with dram := { s.dram with act := [] } }
      if s.power.latched ≠ 0 then (s.setSr 3).abandon t 3 else (s.setSr 2).entryPark t
    | _ => s)

/-! ### Wake sources (R450) -/

/-- WAKE_EVENT (R449, R450). -/
def execWakeEvent (src : Nat) (s : State) : Host.Outcome State Fault Refusal := .next (s.whenB (decide (src < 8)) fun s => s.wakeBy src)
/-- WAKE_TIMER_EXPIRY (R450): with WAKE_TIMER_S set, in a low-power state. -/
def execWakeTimerExpiry (s : State) : Host.Outcome State Fault Refusal :=
  .next (s.whenB (s.rd P.pwr R.pwr_WAKE_TIMER_S != 0) fun s => s.wakeBy 4)
/-- PCIE_D_STATE_CHANGE (13_host_network.md R349; R451): leaving D3hot wakes the device from Vault and resets the controller. -/
def execPcieDStateChange (d3hot : Bool) (s : State) : Host.Outcome State Fault Refusal :=
  .next (s.whenB ((s.mode M.host || s.dev == Dev.vault) && s.nvme.d3hot != d3hot) fun s =>
    let s := { s with nvme := { s.nvme with d3hot := d3hot } }
    if d3hot then s else s.hostReset.wakeBy 1)
/-- PERST_N_DEASSERT (R450): the link may train again; in Vault the device wakes. -/
def execPerstNDeassert (s : State) : Host.Outcome State Fault Refusal :=
  .next (s.whenB s.nvme.perstLow fun s => { s with nvme := { s.nvme with perstLow := false } }.wakeBy 1)

/-! ### Regulators, crystal, PLLs (R452, R453, R461; 22_pins_electrical.md R519) -/

/-- Whether a regulator feeds a domain (R452). -/
def regFeeds (r d : Nat) : Bool :=
  match r with
  | 2 => decide (16 ≤ d ∧ d ≤ 23)
  | 3 => decide (25 ≤ d ∧ d ≤ 28)
  | 4 => d == 36
  | 5 => d == 37
  | 6 => d == 35
  | _ => d != 0
/-- Whether a domain's regulators are all enabled. -/
def State.supplied (s : State) (d : Nat) : Bool := (List.range 8).all fun r => !regFeeds r d || s.power.regEn.contains r

/-- The next regulator of the power-up sequence, or the crystal (R519 steps 3 and 4). -/
def State.upNext (s : State) (r : Nat) : State :=
  if r < 7 then { s with power := { s.power with seq := .upRegulator (r + 1) } }.regEnable (r + 1) true
  else { s with power := { s.power with seq := .upCrystal } }
/-- The regulator awaited settled one way or the other: the sequence continues. -/
def State.regNext (s : State) (reg : Nat) : State :=
  match s.power.seq with
  | .upRegulator r => if r = reg then s.upNext r else s
  | .wake t 1 =>
    if s.power.regsDue.head? = some reg then { s with power := { s.power with regsDue := s.power.regsDue.drop 1 } }.wakeRegs t else s
  | _ => s
/-- Whether the sequences wait for a regulator. -/
def State.awaits (s : State) (reg : Nat) : Bool :=
  match s.power.seq with
  | .upRegulator r => r == reg
  | .wake _ 1 => s.power.regsDue.head? == some reg
  | _ => false
/-- POWER_ON_DETECT (R519 step 2): power-on reset is released and the first regulator enabled. -/
def execPowerOnDetect (s : State) : Host.Outcome State Fault Refusal :=
  .next (s.whenB (s.power.seq == .heldInReset) fun s =>
    let s := { s with power := { s.power with seq := .upRegulator 0 } }
    ((s.wr P.rst R.rst_RST_CAUSE 1).count P.rst 0x040).regEnable 0 true)
/-- REGULATOR_PGOOD (R452). -/
def execRegulatorPgood (reg : Nat) (s : State) : Host.Outcome State Fault Refusal :=
  .next (s.whenB (decide (reg < 8) && s.power.regEn.contains reg) fun s =>
    (s.wr P.pwr R.pwr_REG_PGOOD (bitPut (s.rd P.pwr R.pwr_REG_PGOOD) reg true)).regNext reg)
/-- A regulator timed out: its enable dropped, REG_FAIL, its domains off with a log entry each. -/
def State.regFailed (s : State) (reg : Nat) : State :=
  let s := (s.regEnable reg false).wr P.pwr R.pwr_REG_FAIL (bitPut (s.rd P.pwr R.pwr_REG_FAIL) reg true)
  let doms := (List.range 38).filter fun d => regFeeds reg d && domainPresent s.part d
  let bad := doms.any s.essential
  let s := doms.foldl (fun s d => ((s.logRef d 2 reg).count P.pwr 0x080).raise P.pwr 3) (s.err P.pwr (if bad then 1 else 2) reg 0)
  let s := { s with power := { s.power with partialWake := true } }
  if bad then
    match s.power.seq with
    | .wake _ _ => (s.captureFault 0x0A P.pwr reg 0).enterWard 0x0A
    | _ => (s.fault' 0x0A P.pwr reg 0).regNext reg
  else (doms.foldl State.domOff s).regNext reg
/-- REGULATOR_PGOOD_TIMEOUT (R452, R519): at power-up indices 0, 1 and 7 have no limit. -/
def execRegulatorPgoodTimeout (reg : Nat) (s : State) : Host.Outcome State Fault Refusal :=
  let free : Bool := match s.power.seq with | .upRegulator _ => reg == 0 || reg == 1 || reg == 7 | _ => false
  .next (s.whenB (decide (reg < 8) && s.awaits reg && !free) fun s => s.regFailed reg)
/-- PWR_PGOOD_LOSS (22_pins_electrical.md R520): fault 0x0A with the regulator; held in Fill, and in Boot until it ends (R28). -/
def execPwrPgoodLoss (reg : Nat) (s : State) : Host.Outcome State Fault Refusal :=
  .next (s.whenB (s.powered && decide (reg < 8) && s.power.regEn.contains reg) fun s =>
    let s := s.wr P.pwr R.pwr_REG_PGOOD (bitPut (s.rd P.pwr R.pwr_REG_PGOOD) reg false)
    if s.dev = Dev.boot ∧ s.on P.flt R.flt_FAULT_VALID = false then
      { s.captureFault 0x0A P.pwr reg 0 with fault := { s.fault with held := true } }
    else s.fault' 0x0A P.pwr reg 0)

/-- CRYSTAL_RUNNING (R453): Fill begins at power-up; a wake goes on at step 3, off the ring oscillator where it was in use. -/
def execCrystalRunning (s : State) : Host.Outcome State Fault Refusal :=
  .next (match s.power.seq with
    | .upCrystal =>
      let s := { s with power := { s.power with seq := .run }, dram := { s.dram with fill := 1 } }
      (s.wr P.clk R.clk_XTAL_OK 1).setDev Dev.fill
    | .wake t 2 =>
      let s := s.wr P.clk R.clk_XTAL_OK 1
      let s := s.whenB (s.on P.clk R.clk_CLK_DEGRADED) fun s => (s.wr P.clk R.clk_CLK_DEGRADED 0).raise P.clk 1
      s.wakePlls t
    | _ => s)
/-- CRYSTAL_TIMEOUT (R453): the ring oscillator takes over and the wake holds at step 3; Thimble, the fabric and Bobbin run on it (DEDUCED,
log entry 43). -/
def execCrystalTimeout (s : State) : Host.Outcome State Fault Refusal :=
  .next (match s.power.seq with
    | .wake t 2 =>
      let s := { s with power := { s.power with seq := .wake t 3 } }
      let s := ((s.setDom 1 true).setDom 2 true).setDom 3 true
      let s := (s.err P.clk 0x01 0 0).count P.clk 0x048
      if s.on P.clk R.clk_CLK_DEGRADED then s else (s.flag P.clk R.clk_CLK_DEGRADED).raise P.clk 0
    | _ => s)
/-- The crystal restarted from the ring oscillator (R453). -/
def State.xtalRetry (s : State) : State :=
  match s.power.seq with
  | .wake t 3 => s.whenB (s.on P.clk R.clk_CLK_DEGRADED) fun s => { s with power := { s.power with seq := .wake t 2 } }.count P.clk 0x040
  | _ => s
/-- XTAL_RETRY (R453, R466). -/
def execXtalRetry (ag : Agent) (s : State) : Host.Outcome State Fault Refusal :=
  .next (s.gated ag P.clk 0x100 false State.xtalRetry)

/-- The PLL of a domain's clocks (R461): the PLLs that its blocks need. -/
def pllDomain (pll : Nat) : Nat :=
  if pll < 8 then 8 + pll else if pll = 8 then 7 else if pll = 9 then 1 else if pll = 10 then 2
  else if pll < 35 then 16 + (pll - 11) / 3 else if pll < 39 then 25 + (pll - 35) else 35
/-- Whether a PLL exists on the part. -/
def State.pllPresent (s : State) (pll : Nat) : Bool :=
  decide (pll < 41) && domainPresent s.part (pllDomain pll) && (pll < 11 || 35 ≤ pll || pll - 11 < nChannels s.part)
/-- Whether a PLL is locked. -/
def State.pllLocked (s : State) (pll : Nat) : Bool :=
  if pll < 32 then (s.rd P.clk R.clk_PLL_LOCK_LO).testBit pll else (s.rd P.clk R.clk_PLL_LOCK_HI).testBit (pll - 32)
/-- Whether a wake powers a domain: what Slumber keeps or switched off, everything in Vault, where its regulators run. -/
def State.wakesDom (s : State) (t : LowPower) (d : Nat) : Bool :=
  domainPresent s.part d && s.supplied d && (t == .vault || s.domOn d || s.power.domsWere.contains d)
/-- Whether step 3 of a wake is over: on the crystal, VDD_CORE settled, every PLL of the domains to be powered locked. -/
def State.pllsReady (s : State) (t : LowPower) : Bool :=
  !s.on P.clk R.clk_CLK_DEGRADED && !s.power.vidWait &&
    ((List.range 41).all fun p => !s.pllPresent p || !s.wakesDom t (pllDomain p) || s.pllLocked p)
/-- Step 3 left where it is over: step 4 waits for the retention check, or for the SRAM fill with DEVSTATE in Fill. -/
def State.wakeStep3 (s : State) : State :=
  match s.power.seq with
  | .wake t 3 =>
    if s.pllsReady t then
      let s := { s with power := { s.power with seq := .wake t 4 } }
      if t = .vault then
        let s := ((s.setDom 1 true).setDom 2 true).setDom 3 true
        { s with dram := { s.dram with fill := 1 } }.setDev Dev.fill
      else s
    else s
  | _ => s

/-! ### DVFS (12_shuttle_spool.md R328; R457) -/

/-- VDD_CORE's code for a DVFS point: 0.85 V for 0b10, never below 0.75 V in Run. -/
def vddFor (point : Nat) : Nat := if point = 2 then 0x46 else 0x32
/-- The code that the clusters need, a change counting with its higher point. -/
def State.vddNeed (s : State) : Nat :=
  let pts := (List.range (nClusters s.part)).map fun c =>
    let cur := s.rd (P.shc c) R.shc_DVFS_CUR
    if !s.domOn (8 + c) then 0 else match Tbl.at? s.power.dvfs c with | some d => max cur d.target | none => cur
  vddFor (pts.foldl max 0)
/-- VDD_CORE changed, with its VID frame (22_pins_electrical.md R518). -/
def State.setVdd (s : State) (code : Nat) : State :=
  if s.power.vddCode = code then s
  else { s with power := { s.power with vddCode := code, vidWait := true } }.send (.vid (0x4000 + code))
/-- A cluster's change put at a phase. -/
def State.dvfsAt (s : State) (c : Nat) (d : Dvfs) : State := { s with power := { s.power with dvfs := Tbl.put s.power.dvfs c d } }
/-- A request of a point: 0b11 is reserved; clamped to DVFS_MAX; while a change is in progress it is ignored (log entry 44). Upward,
VDD_CORE rises first where it must; downward the PLL changes first. -/
def State.dvfsRequest (s : State) (c point : Nat) : State :=
  let p := P.shc c
  if point = 3 ∨ s.on p R.shc_DVFS_BUSY = true then s
  else
    let t := min point (s.rd p R.shc_DVFS_MAX)
    let s := s.whenB (decide (t < point)) fun s => (s.flag p R.shc_DVFS_CLAMP).raise p 1
    let s := s.wr p R.shc_DVFS_REQ t
    let cur := s.rd p R.shc_DVFS_CUR
    if t = cur then s
    else
      let s := s.wr p R.shc_DVFS_BUSY 1
      if cur < t ∧ s.power.vddCode < vddFor t then (s.dvfsAt c ⟨t, 0⟩).setVdd (vddFor t) else s.dvfsAt c ⟨t, 1⟩
/-- DVFS_REQ (R328). -/
def execDvfsReq (ag : Agent) (cluster point : Nat) (s : State) : Host.Outcome State Fault Refusal :=
  .next (s.whenB (decide (cluster < nClusters s.part)) fun s =>
    s.gated ag (P.shc cluster) 0x100 false fun s => s.dvfsRequest cluster (point % 4))
/-- VID_SETTLE_WAIT (22_pins_electrical.md R518): a cluster that waited for VDD_CORE goes on, and so does a wake. -/
def execVidSettleWait (s : State) : Host.Outcome State Fault Refusal :=
  .next (s.whenB s.power.vidWait fun s =>
    { s with power := { s.power with vidWait := false
                                     dvfs := s.power.dvfs.map fun (e : Nat × Dvfs) =>
                                       (e.1, if e.2.phase = 0 then { e.2 with phase := 1 } else e.2) } }.wakeStep3)
/-- DVFS_CORES_STOPPED (R328): the PLL relocks. -/
def execDvfsCoresStopped (cluster : Nat) (s : State) : Host.Outcome State Fault Refusal :=
  .next (match Tbl.at? s.power.dvfs cluster with
    | some d => if d.phase = 1 then s.dvfsAt cluster { d with phase := 2 } else s
    | none => s)
/-- The PLL of a cluster's change locked: the cores run on the new clock, and VDD_CORE falls where no cluster needs it. -/
def State.dvfsLocked (s : State) (plls c : Nat) : State :=
  match Tbl.at? s.power.dvfs c with
  | some d =>
    if d.phase = 2 ∧ plls.testBit c = true then
      let s := s.dvfsAt c { d with phase := 3 }
      s.whenB (decide (d.target < s.rd (P.shc c) R.shc_DVFS_CUR)) fun s =>
        let t := s.wr (P.shc c) R.shc_DVFS_CUR d.target
        s.whenB (decide (t.vddNeed < s.power.vddCode)) fun s => s.setVdd t.vddNeed
    else s
  | none => s
/-- DVFS_DONE (R328): the last voltage has settled. -/
def execDvfsDone (cluster : Nat) (s : State) : Host.Outcome State Fault Refusal :=
  .next (match Tbl.at? s.power.dvfs cluster with
    | some d =>
      if d.phase = 3 ∧ s.power.vidWait = false then
        let p := P.shc cluster
        let s := { s with power := { s.power with dvfs := Tbl.del s.power.dvfs cluster } }
        (((s.wr p R.shc_DVFS_CUR d.target).wr p R.shc_DVFS_BUSY 0).count p 0x070).raise p 0
      else s
    | none => s)
/-- PLL_LOCK_ACQUIRED (R451, R461): the locked PLLs of the mask; a wake in step 3 and a DVFS change that waited go on. -/
def execPllLockAcquired (plls : Nat) (s : State) : Host.Outcome State Fault Refusal :=
  .next (s.whenB (s.powered && !s.on P.clk R.clk_CLK_DEGRADED) fun s =>
    let m := maskOf ((List.range 41).filter fun p => plls.testBit p && s.pllPresent p)
    let s := s.wr P.clk R.clk_PLL_LOCK_LO (Nat.lor (s.rd P.clk R.clk_PLL_LOCK_LO) (m % 2 ^ 32))
    let s := s.wr P.clk R.clk_PLL_LOCK_HI (Nat.lor (s.rd P.clk R.clk_PLL_LOCK_HI) (m / 2 ^ 32))
    ((List.range 8).foldl (fun s c => s.dvfsLocked plls c) s).wakeStep3)
/-- CTRL.EN of a page cleared, by the rule of its chapter; a control page has none to clear (21_register_pages.md R504). -/
def State.disable (s : State) (p : Nat) : State :=
  if !s.en p then s
  else
    match pageInfo p with
    | some (.nfc, _, c) => s.nfcDisable c
    | some (.slv, _, _) => s.slvDisable
    | some (.svo, _, _) => s.svoDisable
    | some (.pnk, _, u) => s.pnkDisable u
    | some (.plt, _, e) => s.pltDisable e
    | some (.gau, _, _) => s.gauDisable
    | some (.spl, _, _) => s.splDisable
    | some (.shc, _, _) => (s.wr p R.common_EN 0).dropCoreless
    | some (k, _, _) => if isControl k then s else s.wr p R.common_EN 0
    | none => s
/-- The blocks of a PLL's domain disabled (R461). A channel in the interleave set ignores it (17_dram.md R438), and of the archive only
the blocks on the lost clock stop. -/
def State.pllStop (s : State) (pll : Nat) : State :=
  let ps := (domPages (pllDomain pll)).filter fun p =>
    match pageInfo p with
    | some (.nfc, _, c) => pll == 11 + c
    | some (.pnk, _, c) => pll == 11 + c
    | some (.slv, _, _) => pll == 40
    | some (.svo, _, _) | some (.trl, _, _) => pll == 39
    | some (.drc, _, c) => !(s.rd P.drm R.drm_SET).testBit c
    | some (k, _, _) => !isControl k
    | none => false
  ps.foldl State.disable s
/-- PLL_LOCK_LOST (R461): the fabric or Thimble PLL is fault 0x09; another stops its domain's clock. -/
def execPllLockLost (pll : Nat) (s : State) : Host.Outcome State Fault Refusal :=
  .next (s.whenB (s.powered && s.pllPresent pll && s.pagesAwake) fun s =>
    let s := if pll < 32 then
        (s.wr P.clk R.clk_PLL_LOCK_LO (bitPut (s.rd P.clk R.clk_PLL_LOCK_LO) pll false)).wr P.clk R.clk_LOCK_LOST_LO
          (bitPut (s.rd P.clk R.clk_LOCK_LOST_LO) pll true)
      else
        (s.wr P.clk R.clk_PLL_LOCK_HI (bitPut (s.rd P.clk R.clk_PLL_LOCK_HI) (pll - 32) false)).wr P.clk R.clk_LOCK_LOST_HI
          (bitPut (s.rd P.clk R.clk_LOCK_LOST_HI) (pll - 32) true)
    let s := ((s.err P.clk 0x02 pll 0).count P.clk 0x050).raise P.clk 2
    if pll = 9 ∨ pll = 10 then s.fault' 0x09 P.clk pll 0 else s.pllStop pll)

/-! ### Domains (R443) -/

/-- The page of a domain that holds work: a running or queued job; the servo with heads not retracted (06_selvedge_servo.md R182). -/
def State.domWork (s : State) (d : Nat) : Option Nat :=
  (domPages d).find? fun p => pagePresent s.part p &&
    (s.running p || s.queued p || (p == P.svo && !(s.rd P.trl R.trl_LAST_STATUS).testBit 2))
/-- One domain of a request to switch off. -/
def State.offOne (s : State) (d : Nat) : State :=
  if s.essential d then s.refuse d 1 0xFF
  else match s.domWork d with
    | some p => s.refuse d 0 p
    | none => s.domOff d
/-- The selected domains. -/
def State.domSel (s : State) : List Nat :=
  let m := s.rd P.pwr R.pwr_DOM_SEL_LO + s.rd P.pwr R.pwr_DOM_SEL_HI * 2 ^ 32
  (List.range 38).filter fun d => m.testBit d && domainPresent s.part d
/-- DOM_OFF_GO: items that no core can take any more end (12_shuttle_spool.md R342). -/
def State.domOffGo (s : State) : State := ((s.domSel.filter s.domOn).foldl State.offOne s).dropCoreless
/-- DOM_ON_GO: a domain whose regulator is off stays off. -/
def State.domOnGo (s : State) : State := (s.domSel.filter s.supplied).foldl State.domPower s
/-- DOM_OFF_GO (R443). -/
def execDomOffGo (ag : Agent) (s : State) : Host.Outcome State Fault Refusal := .next (s.gated ag P.pwr 0x110 false State.domOffGo)
/-- DOM_ON_GO (R443). -/
def execDomOnGo (ag : Agent) (s : State) : Host.Outcome State Fault Refusal := .next (s.gated ag P.pwr 0x110 false State.domOnGo)

/-! ### The power limit (R457) -/

/-- DVFS_MAX of every cluster changed by a function. -/
def State.dvfsMax (s : State) (f : Nat → Nat) : State :=
  ((List.range (nClusters s.part)).filter fun c => s.domOn (8 + c)).foldl (fun s c =>
    s.wr (P.shc c) R.shc_DVFS_MAX (f (s.rd (P.shc c) R.shc_DVFS_MAX))) s
/-- POWER_LIMIT_AVERAGE (R457): a millisecond's average. -/
def execPowerLimitAverage (watts : Nat) (s : State) : Host.Outcome State Fault Refusal :=
  .next (s.whenB (s.power.seq == .run && decide (Dev.boot ≤ s.dev ∧ s.dev ≤ Dev.readOnly)) fun s =>
    let lim := s.rd P.pwr R.pwr_PWR_LIMIT_W
    let s := s.wr P.pwr R.pwr_PWR_MEAS_W (min watts 255)
    if lim < watts then
      ({ s with power := { s.power with underMs := 0 } }.dvfsMax (· - 1) |>.count P.pwr 0x098).raise P.pwr 6
    else if watts * 10 < lim * 9 then { s with power := { s.power with underMs := s.power.underMs + 1 } }
    else { s with power := { s.power with underMs := 0 } })
/-- The highest point that a restored DVFS_MAX may reach: the value loaded at Boot (log entry 45). -/
def State.dvfsTop (s : State) : Nat := (Tbl.at? s.loaded (fkey (P.shc 0) R.shc_DVFS_MAX 0)).getD 2
/-- POWER_LIMIT_RESTORE (R457): 100 ms below 90 % of the limit. -/
def execPowerLimitRestore (s : State) : Host.Outcome State Fault Refusal :=
  .next (s.whenB (decide (100 ≤ s.power.underMs)) fun s =>
    { s with power := { s.power with underMs := 0 } }.dvfsMax fun m => min s.dvfsTop (m + 1))

/-! ### Pads (R458, R459) -/

/-- One domain's release bit: a domain that is off ignores it. -/
def State.tackRel (s : State) (d : Nat) : State :=
  if s.domOn d then
    let lo := s.rd P.pad R.pad_PAD_TACK_LO
    let hi := s.rd P.pad R.pad_PAD_TACK_HI
    if (lo + hi * 2 ^ 32).testBit d then
      (if d < 32 then s.wr P.pad R.pad_PAD_TACK_LO (bitPut lo d false)
        else s.wr P.pad R.pad_PAD_TACK_HI (bitPut hi (d - 32) false)).count P.pad 0x048
    else s
  else s.raise P.pad 0
/-- Release bits written; ignored on the OD-7400 (R459). -/
def State.tackRelease (s : State) (m : Nat) : State :=
  s.whenB (s.part == .od7420) fun s =>
    ((List.range 38).filter fun d => m.testBit d && domainPresent s.part d).foldl State.tackRel s
/-- PAD_TACK_REL (R458). -/
def execPadTackRel (ag : Agent) (lo hi : Nat) (s : State) : Host.Outcome State Fault Refusal :=
  .next (s.gated ag P.pad 0x108 false fun s => s.tackRelease (lo % 2 ^ 32 + hi % 64 * 2 ^ 32))

/-- DRAM_POWER_DOWN_IDLE (17_dram.md R437): in Doze, after 1 µs idle. -/
def execDramPowerDownIdle (ch : Nat) (s : State) : Host.Outcome State Fault Refusal :=
  .next (s.whenB (s.dev == Dev.doze && (s.rd P.drm R.drm_SET).testBit ch && decide (ch < 4) && !s.dram.powerDown.contains ch) fun s =>
    { s with dram := { s.dram with powerDown := s.dram.powerDown ++ [ch] } })

/-! ### NVMe power states (R444) -/

/-- SET_FEATURES (13_host_network.md R353; R444): a power state change completes first and then requests Slumber (1) or Vault (2);
Number of Queues answers with the 512 pairs. -/
def execSetFeatures (h : Hdr) (fid val : Nat) (s : State) : Host.Outcome State Fault Refusal :=
  .next (s.adminCmd h fun _ s =>
    if fid = 0 ∨ 255 < fid then s.reply h St.badField 0 0
    else if fid = 2 then
      let ps := val % 32
      if 2 < ps then s.reply h St.badField 0 0
      else
        let s := { s with nvme := { s.nvme with features := Tbl.put s.nvme.features 2 ps } }.reply h St.ok 0 0
        if ps = 1 then s.requestLow .slumber else if ps = 2 then s.requestLow .vault else s
    else if fid = 7 then s.reply h St.ok 0x01FF01FF 0
    else { s with nvme := { s.nvme with features := Tbl.put s.nvme.features fid (val % 2 ^ 32) } }.reply h St.ok 0 0)

end Sys2Proof.Machine
end

