-- ==== Sys2Proof/Machine/RegSet.lean ====
section
/-!
DEFINITION. Sys2Proof/Machine/RegSet.lean: the fields of a register, the ranges their descriptions state, the storing of a register word
(21_register_pages.md R500, R534; 00_scope.md R8 to R10), and a block's soft reset (18_power_clocks.md R463).
-/

namespace Sys2Proof.Machine

/-- Whether a value lies in a field's range. -/
def Rng.holds : Rng → Nat → Bool
  | .all, _ => true
  | .between lo hi, v => decide (lo ≤ v ∧ v ≤ hi)
  | .oneOf l, v => l.contains v
  | .aligned n, v => v % n == 0

/-- The fields of the register at a page's offset, each with its index. -/
def fieldsAt (p off : Nat) : List (Fld × Nat) :=
  match pageInfo p with
  | none => []
  | some (k, _, _) =>
    (fieldsOf k).filterMap fun f =>
      let i := if f.stride = 0 then 0 else (off - f.off) / f.stride
      if off = f.off + f.stride * i ∧ i < f.count then some (f, i) else none

/-- The rules that hold a field to another of the register word `w`, or to one that stands (R44, R77, R101, R149). -/
def State.pairOk (s : State) (k : PageKind) (f : Fld) (w : Nat) : Bool :=
  match k, f.off, f.lo with
  | .seam, 0x104, 24 => decide (bitsAt w 24 8 ≤ bitsAt w 16 8)
  | .hem, 0x104, 24 => decide (bitsAt w 24 8 ≤ bitsAt w 16 8)
  | .recl, 0x104, 0 => decide (bitsAt w 0 16 < s.rd P.recl R.recl_FG_FREE)
  | .slv, 0x110, 0 => decide (bitsAt w 0 4 * bitsAt w 4 4 ≤ 20)
  | .slv, 0x110, 4 => decide (bitsAt w 0 4 * bitsAt w 4 4 ≤ 20)
  | _, _, _ => true

/-- A value in range stored in a field, with the treatment that the field's chapter gives it. -/
def State.putIn (s : State) (ag : Agent) (k : PageKind) (p n : Nat) (f : Fld) (i v : Nat) : State :=
  match k, f.off, f.lo with
  | .glb, 0x100, 0 => s.setStgMin .media v
  | .glb, 0x104, 0 => s.setStgMin .engine v
  | .glb, 0x108, 0 => s.setStgMin .host v
  | .glb, 0x10C, 0 => s.setStgMin .program v
  | .pwr, 0x114, 0 => s.wr p f (bitPut v 0 true)
  | .pwr, 0x124, 0 => s.wr p f (min v (partLimitW s.part))
  | .pat, 0x10C, 0 => s.wr p f (Nat.lor (s.rd p f) v)
  | .gau, 0x100, 0 => s.setGauWidth v
  | .eth, 0x100, 0 => s.setGrouping v
  | .shc, 0x100, 0 => s.dvfsRequest n v
  | .shc, 0x100, 8 => (s.wr p f v).dropCoreless
  | .bob, 0x100, 16 => ((List.range 8).filter v.testBit).foldl State.bobRestart s
  | .slv, 0x124, 0 => s.whenB (match ag with | .bobbin _ => true | _ => false) fun s => s.wr p f v
  | .pan, 0x400, 0 => s.whenB (i != 0) fun s => s.setSqPanel i v
  | _, _, _ => s.wrI p f i v
/-- One field of the word `w`; a value outside its range leaves it unchanged (R534). -/
def State.putField (s : State) (ag : Agent) (p w : Nat) (e : Fld × Nat) : State :=
  match pageInfo p with
  | none => s
  | some (k, _, n) =>
    let v := bitsAt w e.1.lo e.1.w
    if e.1.rng.holds v && s.pairOk k e.1 w then s.putIn ag k p n e.1 e.2 v else s

/-- Whether a valid zone's SPT is above its SPT_MAX (05_selvedge_channel.md R144). -/
def State.zoneOver (s : State) : Bool :=
  (List.range 32).any fun z =>
    let rate := s.rdI P.slv R.slv_RATE z
    decide (2000 ≤ rate ∧ s.sptMax rate < s.rdI P.slv R.slv_SPT z)
/-- Fields of one register stored from a word: a zone's RATE and SPT together; a change of RPM or WEDGES checks the zones. -/
def State.putFields (s : State) (ag : Agent) (p off w : Nat) (l : List (Fld × Nat)) : State :=
  if p = P.slv ∧ 0x200 ≤ off ∧ off < 0x300 ∧ off % 8 = 0 then
    s.whenB (l ≠ []) fun s => s.setZone ((off - 0x200) / 8) (bitsAt w 0 12) (bitsAt w 12 10)
  else
    let t := l.foldl (fun s e => s.putField ag p w e) s
    t.whenB (p == P.svo && off == 0x100 && t.zoneOver &&
      (t.rd p R.svo_RPM != s.rd p R.svo_RPM || t.rd p R.svo_WEDGES != s.rd p R.svo_WEDGES)) State.zoneRej

/-! ### Soft reset of a block (18_power_clocks.md R463) -/

/-- A block's queues emptied, as the clearing of its CTRL.EN without DRAIN empties them (log entry 46). -/
def State.emptyQueues (s : State) (p : Nat) : State :=
  match pageInfo p with
  | some (.nfc, _, c) => (s.returnOps fun o => o.ch == c).failReads fun x => locCh x.loc == c
  | some (.ldd, _, d) =>
    let l := (Tbl.at? s.nand.soft d).getD []
    let s := { s with nand := { s.nand with soft := Tbl.del s.nand.soft d } }
    l.foldl (fun s (x : SoftJob) =>
      match s.seam.reads.find? fun j => j.id == x.job with
      | some j => (j.slots.filter fun y => y.idx == x.idx).foldl (fun s y => s.slotBad j.id y) s
      | none => s) s
  | some (.slv, _, _) => s.slvReturn
  | some (.pnk, _, u) => (s.pnkReturn u).pnkUnread u
  | some (.plt, _, e) =>
    (s.pltQueue e).foldl (fun s j => s.pltReturn e j) { s with pleat := { s.pleat with queue := Tbl.del s.pleat.queue e } }
  | some (.gau, _, _) => s.gauReturn
  | some (.spl, _, _) =>
    ((s.spool.items.filter fun e => e.2.st = .waiting).map (·.1)).foldl (fun s n => s.completeItem n Cs.disabled 0) s
  | some (.unpk, _, _) => ((s.seam.unpicks.filter fun u => u.step = 0).filterMap (·.item)).foldl (fun s n => s.abortUnpick n) s
  | _ => s
/-- A page's fields from 0x100 upward at their reset values, RWT fields at the loaded ones. -/
def State.resetFields (s : State) (p : Nat) : State :=
  let own : Nat × Nat → Bool := fun e => keyPage e.1 == p && decide (0x100 ≤ e.1 / 32 % 4096)
  let kept : Tbl Nat := s.regs.filter fun e => !own e
  let back : Tbl Nat := s.loaded.filter own
  { s with regs := back.foldl (fun r e => Tbl.put r e.1 e.2) kept }
/-- CTRL.SRESET: with EN and BUSY 0; otherwise SRESET_REJ. A DRC page of the interleave set sets CFG_REJ (17_dram.md R438). -/
def State.softReset (s : State) (p : Nat) : State :=
  match pageInfo p with
  | none => s
  | some (k, _, n) =>
    if isControl k then s
    else if k = .drc ∧ (s.rd P.drm R.drm_SET).testBit n = true then s.flag p R.drc_CFG_REJ
    else if s.en p || s.running p then ((s.flag P.rst R.rst_SRESET_REJ).count P.rst 0x060).raise P.rst 0
    else ((s.emptyQueues p).resetFields p).count P.rst 0x058
/-- SRESET (R463). -/
def execSreset (ag : Agent) (page : Nat) (s : State) : Host.Outcome State Fault Refusal :=
  .next (s.gated ag page 0x008 false fun s => s.softReset page)

/-- TAP_RESET (R462): the test access port alone, of which the device has no state. -/
def execTapReset (s : State) : Host.Outcome State Fault Refusal := .next s

end Sys2Proof.Machine
end

