-- ==== Sys2Proof/Machine/Boot.lean ====
section
/-!
DEFINITION. Sys2Proof/Machine/Boot.lean: Fill and Boot: the SRAM and DRAM fills, the interleave set, the pattern block applied, firmware
verified and released, NAND training (16_memory_integrity.md R410, R411, R421; 17_dram.md R424, R425; 19_trust_pattern.md R475 to R481;
04_nand_channels.md R111; 18_power_clocks.md R451, R455).
-/

namespace Sys2Proof.Machine

/-! ### The pattern block at Boot (R475 to R477, R479) -/

/-- The boot-only modes (15_modes.md R388). -/
def bootModes : Nat := andNot 0xFFF rtModes
/-- One record applied to the RWT fields of its register, and their loaded values noted; or ignored and counted. -/
def State.applyRec (s : State) (r : Nat × Nat × Nat) : State :=
  let (p, off, v) := r
  let l := (fieldsAt p off).filter fun e => e.1.acc == .rwt
  if !pagePresent s.part p || decide (off < 0x100) || off % 4 != 0 || l.isEmpty then
    (s.wr P.pat R.pat_REC_IGNORED (min 511 (s.rd P.pat R.pat_REC_IGNORED + 1))).count P.pat 0x050
  else
    let s := s.putFields .thimble p off v l
    { s with loaded := l.foldl (fun t e => Tbl.put t (fkey p e.1 e.2) (s.rdI p e.1 e.2)) s.loaded }
/-- A field that Thimble loads without a record. -/
def State.loadField (s : State) (p : Nat) (f : Fld) (v : Nat) : State :=
  let s := s.wr p f v
  { s with loaded := Tbl.put s.loaded (fkey p f 0) (s.rd p f) }
/-- Step 2 of Boot: both copies checked, and the block in use chosen. -/
def State.pickPattern (s : State) : State :=
  let a := s.norRead (norPattern 0) 4096
  let b := s.norRead (norPattern 1) 4096
  let aOk := s.patVerified a
  let bOk := s.patVerified b
  let s := (s.count P.pat 0x040).countN P.pat 0x048 ((if aOk then 0 else 1) + (if bOk then 0 else 1))
  let s := (s.wr P.pat R.pat_A_OK (if aOk then 1 else 0)).wr P.pat R.pat_B_OK (if bOk then 1 else 0)
  let s := s.wr P.pat R.pat_PAT_SRC (if aOk then 0 else if bOk then 1 else 2)
  let s := s.wr P.pat R.pat_PATTERN_DEFAULTED (if aOk || bOk then 0 else 1)
  let s := s.whenB (!aOk) fun s => s.err P.pat (if bOk then 1 else 2) 0 0
  let s := s.whenB (!(aOk && bOk)) fun s => s.raise P.pat 0
  let s := s.whenB (!(aOk || bOk)) fun s => s.raise P.pat 1
  { s with trust := { s.trust with pattern := if aOk then a else if bOk then b else blockPattern } }
/-- RATE_MTS of every present channel from the NAND profile (04_nand_channels.md R111). -/
def State.loadRates (s : State) : State :=
  let r := leAt s.trust.pattern 0x842 2
  let v := if r = 0 then 3600 else r
  if 10 ≤ v ∧ v ≤ 3600 then
    (List.range (nChannels s.part)).foldl (fun s c => s.loadField (P.nfc c) R.nfc_RATE_MTS v) s
  else s
/-- The panels of the block activated with their PASIDs, their memory placed and windows built (14_panels.md R376, R382). -/
def State.bootPanels (s : State) : State :=
  let b := s.trust.pattern
  let on := (List.range 64).filter fun p => p == 0 || (s.mode M.panel && (patPanel b p).testBit 31)
  let s := { s with panels := { s.panels with slm := [], gbits := [], wins := [], closed := [], gated := [] } }
  let s := (s.wr P.pan R.pan_ACTIVE_LO 0).wr P.pan R.pan_ACTIVE_HI 0
  let s := on.foldl (fun s p => (s.setActive p true).wrI P.pan R.pan_PASID p (patPanel b p % 2 ^ 20)) s
  on.foldl State.placePanel s
/-- Whether a mode governs a page's block, and is set (21_register_pages.md R504). -/
def State.modeAllows (s : State) (k : PageKind) : Bool :=
  match k with
  | .pci => s.mode M.host
  | .slv | .svo | .trl => s.mode M.arch
  | .pnk => s.mode M.pink
  | .gau => s.mode M.gauge
  | .eth | .toe => s.mode M.net
  | _ => true
/-- CTRL.EN set on every page whose block no mode governs and on the blocks of the modes set. -/
def State.enablePages (s : State) : State :=
  (List.range 0x8E).foldl (fun s p =>
    match pageInfo p with
    | some (k, _, _) => s.whenB (!isControl k && s.pageUp p && s.modeAllows k) fun s => s.wr p R.common_EN 1
    | none => s) s
/-- The domains of modes that are clear switched off (15_modes.md R388). -/
def State.modeDomains (s : State) : State :=
  let s := s.whenB (!s.mode M.arch) fun s => s.domOff 35
  let s := s.whenB (!s.mode M.host) fun s => s.domOff 36
  s.whenB (!s.mode M.net) fun s => s.domOff 37
/-- The mapping that a Boot asks for beside the one that Fill used; a difference repeats the line fill (17_dram.md R425). -/
def State.settleMap (s : State) (grain xor_ : Nat) : State :=
  let g := s.rd P.drm R.drm_GRAIN
  let x := s.rd P.drm R.drm_XOR_EN
  let s := { s with trust := { s.trust with keptGrain := g, keptXor := x, keptGen := patGen s.trust.pattern,
                                            keptModes := Nat.land (s.rd P.mode R.mode_MODE_EN) bootModes } }
  if g = grain ∧ x = xor_ then s else { s with dram := { s.dram with fill := 4 } }
/-- The kept values put back by the Boot of a Vault wake, PAT_PENDING where the block differs (18_power_clocks.md R455). -/
def State.keepMap (s : State) : State :=
  let t := s.trust
  let modes := s.rd P.mode R.mode_MODE_EN
  let same := patGen t.pattern == t.keptGen && s.rd P.drm R.drm_GRAIN == t.keptGrain && s.rd P.drm R.drm_XOR_EN == t.keptXor &&
    Nat.land modes bootModes == t.keptModes
  let s := (s.loadField P.drm R.drm_GRAIN t.keptGrain).loadField P.drm R.drm_XOR_EN t.keptXor
  let s := s.loadField P.mode R.mode_MODE_EN (Nat.lor t.keptModes (Nat.land modes rtModes))
  let s := s.wr P.pat R.pat_GENERATION t.keptGen
  s.whenB (!same) fun s => s.wr P.pat R.pat_PAT_PENDING 1
/-- Steps 1 to 3 of Boot; `wake` in the Boot of a Vault wake. -/
def State.startBoot (s : State) (wake : Bool) : State :=
  let grain := s.rd P.drm R.drm_GRAIN
  let xor_ := s.rd P.drm R.drm_XOR_EN
  let s := { s with loaded := [] }.setDev Dev.boot
  let s := (s.wr P.drm R.drm_GRAIN R.drm_GRAIN.rst).wr P.drm R.drm_XOR_EN R.drm_XOR_EN.rst
  let s := s.pickPattern
  let b := s.trust.pattern
  let s := s.loadField P.mode R.mode_MODE_EN (patModes b)
  let s := (s.wr P.mode R.mode_MODE_PAT (patModes b)).wr P.pat R.pat_GENERATION (patGen b)
  let s := s.whenB (s.on P.pat R.pat_PATTERN_DEFAULTED) fun s => s.loadField P.pwr R.pwr_PWR_LIMIT_W (min 60 (partLimitW s.part))
  let s := ((List.range (min 256 (patNrec b))).map (patRec b)).foldl State.applyRec s.loadRates
  let s := if wake then s.keepMap else s.settleMap grain xor_
  let s := (s.modeDomains.bootPanels).enablePages
  { s with cores := Tbl.put s.cores 40 { coreZero with psw := 0x2000, st := .run }, splTime := 0 }

/-! ### Fill (16_memory_integrity.md R410, R411, R421) -/

/-- Wake step 5: DRAM leaves self-refresh. -/
def State.wakeDram (s : State) (t : LowPower) : State := { s with power := { s.power with seq := .wake t 5 } }.setSr 3
/-- FILL_SRAM_DONE: DRAM training starts; in a wake from Vault the domains are powered and DRAM leaves self-refresh. -/
def execFillSramDone (us : Nat) (s : State) : Host.Outcome State Fault Refusal :=
  .next (if s.dram.fill = 1 then
      match s.power.seq with
      | .wake t 4 =>
        let s := { s with dram := { s.dram with fill := 0, fillUs := us } }
        (((List.range 38).filter (s.wakesDom t)).foldl State.domPower s).wakeDram t
      | _ => { s with dram := { s.dram with fill := 2, fillUs := us, trained := [] } }
    else s)
/-- The trained channels, lowest first. -/
def State.trainedList (s : State) : List Nat := (List.range (nDram s.part)).filter fun c => Tbl.at? s.dram.trained c == some true
/-- The interleave set (17_dram.md R424); with no channel trained the spec gives NCH no value. -/
def State.setInterleave (s : State) : State :=
  let l := s.trainedList
  let l := l.take (if 4 ≤ l.length then 4 else if 2 ≤ l.length then 2 else l.length)
  let s := s.wr P.drm R.drm_SET (maskOf l)
  if l.isEmpty then let (v, s) := s.drawFree 3; s.wr P.drm R.drm_NCH v else s.wr P.drm R.drm_NCH l.length
/-- DRAM_TRAINING_DONE: one channel trained or failed; with the last one the interleave set stands and the line fill begins. -/
def execDramTrainingDone (ch : Nat) (ok : Bool) (s : State) : Host.Outcome State Fault Refusal :=
  .next (s.whenB (s.dram.fill == 2 && decide (ch < nDram s.part) && !Tbl.has s.dram.trained ch) fun s =>
    let b := s.board
    let p := P.drc ch
    let s := { s with dram := { s.dram with trained := Tbl.put s.dram.trained ch ok } }
    let s := s.whenB ok fun s =>
      (((s.wr p R.drc_RANKS_M1 (b.ranks - 1)).wr p R.drc_DENSITY (if b.density32 then 1 else 0)).wr p R.drc_RFM_REQ
        (if b.rfmReq then 1 else 0)).wr p R.drc_RAAIMT b.raaimt
    if s.dram.trained.length = nDram s.part then { s with dram := { s.dram with fill := 3 } }.setInterleave else s)
/-- The FIL page after a line fill of `ms` milliseconds, all lines of DRAM zero. -/
def State.recordFill (s : State) (ms : Nat) : State :=
  let l := s.trainedList
  let s := s.zeroMem dramBase hostBase
  let s := (s.wr P.fil R.fil_FILL_SRAM_US (min 65535 s.dram.fillUs)).wr P.fil R.fil_FILL_DRAM_MS (min 65535 ms)
  let s := s.wr P.fil R.fil_FILL_CH_OK (maskOf l)
  let s := s.wr P.fil R.fil_FILL_CH_FAIL (maskOf ((List.range (nDram s.part)).filter fun c => !l.contains c))
  s.wr P.fil R.fil_FILL_GIB (l.length * s.board.ranks * (if s.board.density32 then 64 else 32))
/-- Step 4 of Fill: the failed channels reported, then Boot, or Ward where a fault was held (01_ledger_path.md R28). -/
def State.fillEnd (s : State) (ms : Nat) : State :=
  let s := { s with dram := { s.dram with fill := 0 } }.setDev Dev.boot
  let s := (s.recordFill ms).count P.fil 0x040
  let bad := (List.range (nDram s.part)).filter fun c => Tbl.at? s.dram.trained c != some true
  let s := bad.foldl (fun s c => (s.err P.fil 0x01 c 0).raise P.fil 0) s
  if s.fault.held then { s with fault := { s.fault with held := false } }.enterWard (s.rd P.flt R.common_ERR_CODE)
  else s.startBoot false
/-- FILL_DRAM_DONE: the line fill of Fill, or its repeat in Boot (17_dram.md R425). -/
def execFillDramDone (ms : Nat) (s : State) : Host.Outcome State Fault Refusal :=
  .next (if s.dram.fill = 3 then s.fillEnd ms
    else if s.dram.fill = 4 then { s with dram := { s.dram with fill := 0 } }.recordFill ms
    else s)

/-! ### The start list (R478) -/

/-- One start entry of the pattern block posted: its image verified, placed as a downloaded program under a number of its own, and posted as
a PROGRAM item of panel 0; one that fails is skipped. -/
def State.postStart (s : State) (i : Nat) : State :=
  let e := patStart s.trust.pattern i
  let img := s.norRead (leAt e 0 4) (min slotSize (leAt e 4 4))
  let n := imgBody img
  let body := sliceOf img 128 n
  let entry := leAt body 0 4
  let fail (s : State) : State := ((s.flag P.pat R.pat_START_FAIL).count P.pat 0x058).raise P.pat 2
  if !s.imageOk 2 img || !zeroAt body 4 12 || decide (n ≤ 16 + entry) then fail s
  else
    match s.imagePlace 0 n with
    | none => fail s
    | some a =>
      let s := s.placeImage (256 + i) 0 body a entry
      let d := itemDesc 1 (leAt e 8 1) (leAt e 10 2) (leAt e 12 4) (leAt e 9 1) (a + 16 + entry) (leAt e 16 8) 0 0
      (s.acceptItem (descItem d 0 .startList)).2
/-- The start list posted by Bobbin firmware after Ready. -/
def State.postStarts (s : State) : State := (List.range (min 8 (leAt s.trust.pattern 0xF 1))).foldl State.postStart s

/-! ### Firmware (R475 steps 4 to 6) -/

/-- The AUTO key slots unlocked. -/
def State.unlockAuto (s : State) : State :=
  ((List.range 1024).filter fun n => s.keyStored n && !s.keySecret n).foldl (fun s n =>
    match s.openKey n none with | some k => s.kload n k | none => s) s
/-- The Bobbin cores started. -/
def State.startBobbin (s : State) : State :=
  (List.range 8).foldl (fun s c => s.setCore (32 + c) (s.core (32 + c)).bobbinStart) s
/-- The channels that training waits for in a wake: present and powered. -/
def State.trainable (s : State) : List Nat := (List.range (nChannels s.part)).filter fun c => s.pageUp (P.nfc c)
/-- Step 8 of a wake, once every channel has been trained (18_power_clocks.md R451). -/
def State.wakeDone (s : State) : State :=
  match s.power.seq with
  | .wake t 7 =>
    if (s.trainable.all fun c => s.power.nandTrained.contains c) then
      let hold := s.power.faultOnWake
      let part := s.power.partialWake
      let aon := s.seam.pfailAon
      let s := { s with power := { s.power with seq := .run, faultOnWake := false, partialWake := false, domsWere := [] }
                        seam := { s.seam with pfailAon := false } }
      let s := ((s.setDev s.upDev).wr P.pwr R.pwr_STATE_BUSY 0).raise P.pwr 1
      let s := s.whenB part fun s => ((s.flag P.pwr R.pwr_WAKE_PARTIAL).count P.pwr 0x088).raise P.pwr 4
      let s := s.whenB aon fun s => s.pfailSeen
      if hold then s.enterWard (s.rd P.flt R.common_ERR_CODE)
      else s.rdyUpdate.checkSpace.whenB (t == .vault) State.postStarts
    else s
  | _ => s
/-- Step 7 of a wake: training, and the spindle with ARCH = 1. -/
def State.wakeTrain (s : State) (t : LowPower) : State :=
  let s := { s with power := { s.power with seq := .wake t 7 } }
  (s.whenB (s.mode M.arch) State.svoStart).wakeDone
/-- Bobbin released: Rebuild, where the watchdog period begins; a fault held in Boot enters Ward; in a wake the start list is posted after
it, without Rebuild. -/
def State.release (s : State) : State :=
  let s := { s with trust := { s.trust with fwRunning := true } }.startBobbin
  match s.power.seq with
  | .wake t 6 => s.wakeTrain t
  | _ =>
    if s.fault.held then { s with fault := { s.fault with held := false } }.enterWard (s.rd P.flt R.common_ERR_CODE)
    else
      let s := { s with trust := { s.trust with rebuild := 1 } }.setDev Dev.rebuild
      s.kick.whenB (s.mode M.arch) State.svoStart
/-- BOOT_FIRMWARE_VERIFIED (R475): the valid slot with the higher VERSION, slot 0 on a tie. The copy's place in DRAM is not given, and no
bytes are placed (log entry 47). -/
def execBootFirmwareVerified (s : State) : Host.Outcome State Fault Refusal :=
  .next (s.whenB (s.dev == Dev.boot && s.dram.fill == 0 && !s.trust.fwRunning) fun s =>
    let img0 := s.slotImage 0
    let img1 := s.slotImage 1
    let ok0 := s.imageOk 1 img0
    let ok1 := s.imageOk 1 img1
    let s := s.countN P.pat 0x058 ((if ok0 then 0 else 1) + (if ok1 then 0 else 1))
    if !(ok0 || ok1) then (s.wr P.pat R.pat_NO_FIRMWARE 1).err P.pat 0x03 0 0
    else
      let slot := if ok1 && (!ok0 || decide (imgVersion img0 < imgVersion img1)) then 1 else 0
      let img := if slot = 1 then img1 else img0
      let s := (s.wr P.pat R.pat_FW_SLOT slot).wr P.pat R.pat_FW_VERSION (imgVersion img)
      let s := { s with trust := { s.trust with bootDigest := sha384 img } }
      (s.whenB (!s.on P.pat R.pat_PATTERN_DEFAULTED) State.unlockAuto).release)

/-! ### NAND training (04_nand_channels.md R111) -/

/-- NAND_TRAINING_DONE: what the parameter pages reported and the rate reached; a second failure leaves SDR timing mode 0. -/
def execNandTrainingDone (ch : Nat) (info : NandInfo) (result : TrainResult) (s : State) : Host.Outcome State Fault Refusal :=
  .next (s.whenB (s.trust.fwRunning && decide (ch < nChannels s.part) && s.pageUp (P.nfc ch) && s.dev != Dev.ward) fun s =>
    let p := P.nfc ch
    let rate := min (s.rd p R.nfc_RATE_MTS) info.fastest
    let s := ((s.wr p R.nfc_CE_PRESENT info.cePresent).wr p R.nfc_LUNS_M1 info.lunsM1).wr p R.nfc_IFACE info.iface
    let s := s.wr p R.nfc_TRAINED_MTS (match result with | .full => rate | .half => rate / 2 | .failed => 0x00A)
    let s := s.wr p R.nfc_TRAIN_FAIL (if result = .failed then 1 else 0)
    let s := s.whenB (result == .failed) fun s => (s.err p 0x04 0 0).raise p 3
    match s.power.seq with
    | .wake _ 7 => { s with power := { s.power with nandTrained := ch :: s.power.nandTrained } }.wakeDone
    | _ => s)

end Sys2Proof.Machine
end

