-- ==== Sys2Proof/Machine/Rebuild.lean ====
section
/-!
DEFINITION. Sys2Proof/Machine/Rebuild.lean: Rebuild phase by phase (02_seam_map.md R56 to R60, R63; 03_seam_reclaim.md R93, R99), and
entry to Ready.
-/

namespace Sys2Proof.Machine

/-! ### Phases 1 and 2: the root and the flush record -/

/-- The rows that phase 1 reads: the first 16 of LUN 0 of the lowest CE of every present channel (R53). -/
def State.rootSearch (s : State) : List Nat :=
  s.chans.flatMap fun c => (List.range (min 16 s.board.blocks)).map fun b => locRow (mkLoc c 0 0 0 b 0 0)
/-- Blank media: no root and no programmed page in those rows (R59). -/
def State.blank (s : State) : Bool :=
  s.seam.rootA.isNone && s.seam.rootB.isNone && !(s.nand.slots.any fun e => s.rootSearch.contains (locRow e.1))
/-- The root with the higher SEQ_CUT, the later one on a tie: its area (0: A, 1: B) and its contents. -/
def State.rootSel (s : State) : Option (Nat × Root) :=
  match s.seam.rootA, s.seam.rootB with
  | none, none => none
  | some a, none => some (0, a)
  | none, some b => some (1, b)
  | some a, some b => some (if b.seqCut < a.seqCut ∨ (a.seqCut = b.seqCut ∧ b.number < a.number) then (0, a) else (1, b))
/-- Blank media formatted: root rows on the first two present channels, an empty map, no namespace, a first checkpoint (R53, R59). -/
def State.formatMedia (s : State) : State :=
  let rows := s.rootSearch.filter fun r => (s.chans.take 2).contains (rowCh r)
  let s := rows.foldl (fun (s : State) r => s.updRow r fun x => { x with st := .system }) s
  let s := { s with seam := { s.seam with formatted := true, map := [], fine := [], ranges := [], hem := [], archive := [], lists := s.newLists }
                    nvme := { s.nvme with ns := [] }
                    trust := { s.trust with rebuild := 6 } }
  s.freeChanged.checkpointDue
/-- Phase 1 over: blank media formatted, or the root chosen; with neither valid the whole media is scanned. -/
def State.rbRoot (s : State) : State :=
  if s.blank then s.formatMedia
  else
    let s := { s with trust := { s.trust with rebuild := 2 } }
    match s.rootSel with
    | some (a, _) => s.wr P.seam R.seam_RB_ROOT a
    | none => (s.err P.seam 0x02 0 0).flag P.seam R.seam_RB_OVERRUN
/-- SEQ_CUT of the root chosen; 0 where the whole media is scanned. -/
def State.rootCut (s : State) : Nat := (s.rootSel.map fun (e : Nat × Root) => e.2.seqCut).getD 0
/-- Phase 2 over: the flush record used, bad, or superseded (R63). -/
def State.rbFlush (s : State) : State :=
  let s := { s with trust := { s.trust with rebuild := 3 } }
  match s.seam.flush with
  | none => s
  | some f =>
    if !s.mode M.compat then s
    else if !(f.okA || f.okB) then ((s.err P.seam 0x03 0 0).flag P.seam R.seam_RB_FLUSH_BAD).raise P.seam 2
    else if f.seqCut ≤ s.rootCut then s
    else (s.wr P.seam R.seam_RB_FLUSH_USED 1).wr P.seam R.seam_FLUSH_MS f.ms
/-- The flush record that this Rebuild uses. -/
def State.flushUsed (s : State) : Option FlushRec := if s.on P.seam R.seam_RB_FLUSH_USED then s.seam.flush else none

/-! ### Phases 3 and 4: the map loaded, the tag scan -/

/-- A region as its checkpoint recorded it: its chain as far as its units had passed, nothing open (R96). -/
def State.hemLoad (s : State) (r : Nat) (h : HemRegion) : HemRegion :=
  let n := h.passedTo
  let tail :=
    if n = h.nextIdx then h.tail
    else if n = 0 then hemSeed r h.ns h.first h.seq
    else sha256 ((s.hemBytes r h (n - 1)).getD [])
  { h with nextIdx := n, tail := tail, openData := [], openIdx := none, appends := [], passed := [], migrating := false,
           sealedAt := h.sealedAt.filter fun e => e.1 < n }
/-- The Unpicks that go on (R93): the rows of the recorded erase set that still hold what they held; a set not yet recorded is formed
anew from the rows opened by the cut. -/
def State.loadUnpicks (s : State) (cut : Nat) (l : List (Nat × Nat × Nat × List Nat × List Nat)) : List Unpick :=
  l.map fun (ns, first, count, rows, cold) =>
    let mine := (s.eraseSet ns first count).filter fun r => (s.row r).openSeq ≤ cut
    { item := none, ns := ns, first := first, count := count, step := 4, cold := cold, residue := false, aborted := false, saved := []
      rows := if rows = [] then mine else mine.filter rows.contains }
/-- Phase 3 over: segments of the root loaded, with the flush record's deltas where it is used. -/
def State.rbLoad (s : State) : State :=
  let s := { s with trust := { s.trust with rebuild := 4 } }
  match s.rootSel with
  | none => { s with seam := { s.seam with lists := s.newLists } }
  | some (_, r) =>
    let cut := (s.flushUsed.map FlushRec.seqCut).getD r.seqCut
    let s := { s with seam := { s.seam with
      map := (s.flushUsed.map FlushRec.map).getD r.map
      fine := (s.flushUsed.map FlushRec.fine).getD r.fine
      ranges := r.ranges
      lists := r.lists
      archive := r.archive } }
    let us := s.loadUnpicks cut ((s.flushUsed.map FlushRec.unpicks).getD r.unpicks)
    let hem := r.hem.map fun (e : Nat × HemRegion) => (e.1, s.hemLoad e.1 e.2)
    { s with seam := { s.seam with unpicks := us, hem := hem } }
/-- The slots whose tags phase 4 reads (R56): in the rows open at the root from their write pointers, and in the rows of the
next-open lists; with no root every slot (R59). -/
def State.scanned (s : State) : List Nat :=
  match s.rootSel with
  | none => s.nand.slots.map (·.1)
  | some (_, r) =>
    let listed := r.lists.flatMap (·.2)
    (s.nand.slots.filter fun e =>
      match Tbl.at? r.ptrs (locRow e.1) with
      | some p => decide (p / 16 ≤ locPage e.1)
      | none => listed.contains (locRow e.1)).map (·.1)
/-- Phase 4 over: the slots above the cut, but for those that fail under R57, which are counted. A flush record spares the scan. -/
def State.rbScan (s : State) (bad : List Nat) : State :=
  let s := { s with trust := { s.trust with rebuild := 5 } }
  if s.flushUsed.isSome then s.wr P.seam R.seam_RB_SLOTS 0
  else
    let l := (s.nand.slots.filter fun e => s.rootSel.isNone || decide (s.rootCut < e.2.tag.seq)).map (·.1)
    let bad := bad.dedup
    let s := s.countN P.seam 0x078 bad.length
    let read := s.scanned
    let s := s.wr P.seam R.seam_RB_SLOTS (min (2 ^ 32 - 1) (read.length + (bad.filter fun b => !read.contains b).length))
    { s with seam := { s.seam with scan := l.filter fun x => !bad.contains x } }

/-! ### Phase 5: the tags applied, Hem chains settled -/

/-- A unit of the scan: its first slot's tag, its slots in order of SLOT_IDX. -/
def State.scanUnits (s : State) : List (Tag × List Nat) :=
  let l := s.seam.scan.filterMap fun x => (s.slotAt x).map fun y => (x, y.tag)
  let firsts := l.filter fun e => e.2.fine || e.2.idx == 0
  let units := firsts.filterMap fun (_, t) =>
    let mine := l.filter fun e => e.2.seq = t.seq ∧ e.2.lba = t.lba ∧ e.2.ns = t.ns
    let locs := (List.range (if t.fine then 1 else t.extLen + 1)).filterMap fun k =>
      (mine.find? fun e => t.fine || e.2.idx == k).map (·.1)
    if locs.length = (if t.fine then 1 else t.extLen + 1) then some (t, locs) else none
  sortBy (fun a b => decide (a.1.seq ≤ b.1.seq)) units
/-- Two valid tags with the same SEQ and different units: the second slot's place (R70). -/
def State.scanClash (s : State) : Option Nat :=
  let l := s.seam.scan.filterMap fun x => (s.slotAt x).map fun y => (x, y.tag)
  (l.find? fun e => l.any fun f => decide (f.1 < e.1 ∧ f.2.seq = e.2.seq ∧ f.2.lba ≠ e.2.lba)).map (·.1)
/-- One unit applied to the map: a coarse unit replaces what the entry named, a fine unit splits the coarse unit it meets. -/
def State.applyTag (s : State) (u : Tag × List Nat) : State :=
  let t := u.1
  let e := s.entry t.ns t.lba
  let new := mkEntry (u.2.headD 0) t.cmp t.hem
  let drop (s : State) : State := { s with seam := { s.seam with archive := Tbl.del s.seam.archive (mapKey t.ns t.lba) } }
  if !t.fine then
    let s := if eFine e && !eUnmapped e then { s with seam := { s.seam with fine := Tbl.del s.seam.fine (eGroup e) } } else s
    (drop s).setEntry t.ns t.lba new
  else if eFine e && !eUnmapped e then s.updGroup (eGroup e) fun g => { g with entries := g.entries.set t.idx new }
  else
    let g := Tbl.freeKey s.seam.fine (s.seam.fine.length + 1) 0
    let old := (List.range 16).map fun k => if eUnmapped e then unmapped else mkEntry (locStep (eLoc e) k) false false
    let x : FineGroup := ⟨old.set t.idx new, t.ns, t.lba, s.seam.order, false, false⟩
    { s with seam := { s.seam with fine := Tbl.put s.seam.fine g x, order := s.seam.order + 1 } }.setEntry t.ns t.lba (groupEntry g)
/-- A chain extended by consecutive units whose PREV_HASH matches, at most `fuel` of them (R99). -/
def State.hemExtend (s : State) (r : Nat) : Nat → HemRegion → HemRegion
  | 0, h => h
  | fuel + 1, h =>
    let e := s.entry h.ns (h.first + h.nextIdx)
    match (if eUnmapped e then none else s.slotAt (eLoc e)) with
    | none => h
    | some x =>
      let b := (s.hemBytes r h h.nextIdx).getD []
      if x.tag.kind = 3 ∧ x.tag.hemReg = r ∧ x.tag.hemIdx = h.nextIdx ∧ h.nextIdx < h.count ∧ hemPrev b = h.tail then
        s.hemExtend r fuel { h with nextIdx := h.nextIdx + 1, passedTo := h.nextIdx + 1, tail := sha256 b
                                    sealedAt := Tbl.put h.sealedAt h.nextIdx (leAt b (65472 + 16) 8) }
      else h
/-- A region settled: units past its chain's end are discarded and counted. -/
def State.hemSettle (s : State) (r : Nat) : State :=
  match Tbl.at? s.seam.hem r with
  | none => s
  | some h =>
    let lo := mapKey h.ns h.first
    let units (s : State) (from_ : Nat) : List Nat :=
      (s.seam.map.filter fun e => decide (lo + from_ ≤ e.1 ∧ e.1 < lo + h.count) && !eUnmapped e.2.entry).map fun e => e.1 - lo
    let h := s.hemExtend r (units s h.nextIdx).length h
    let s := { s with seam := { s.seam with hem := Tbl.put s.seam.hem r h } }
    let late := units s h.nextIdx
    if late = [] then s
    else
      let s := late.foldl (fun (s : State) k => s.setEntry h.ns (h.first + k) unmapped) s
      (s.countN P.hem 0x058 late.length).err P.hem 0x03 0 0
/-- Phase 5 over: the map settled, and the checkpoint of phase 6 begun. -/
def State.rbApply (s : State) : State :=
  match s.scanClash with
  | some x => (s.err P.seam 0x04 0 (x * 128)).fault' 0x07 P.seam 0 (x * 128)
  | none =>
    let s := s.scanUnits.foldl State.applyTag s
    let s := { s with seam := { s.seam with scan := [] } }
    let s := (s.seam.hem.map (·.1)).foldl State.hemSettle s
    ({ s with trust := { s.trust with rebuild := 6 } }.freeChanged).checkpointDue

/-! ### Phase 6: Ready -/

/-- An Unpick resumed at its step 4 (R93). -/
def State.resumeUnpick (s : State) (u : Unpick) : State :=
  let s := u.cold.foldl (fun (s : State) p => s.startScramble u p) s
  if u.rows = [] ∧ u.cold = [] then s.endUnpick u
  else
    let s := u.rows.foldl (fun (s : State) r => s.updRow r fun x => { x with st := .full }) s
    (u.rows.filter fun r => !(s.seam.victims.any fun w => w.row = r)).foldl (fun (s : State) r => s.startVictim r true) s
/-- Ready or Read-only after Rebuild: the capacity reported, CSTS.RDY, discards resumed, the start list posted. -/
def State.goReady (s : State) : State :=
  let s := { s with trust := { s.trust with rebuild := 0 }, seam := { s.seam with flush := none } }.setDev Dev.ready
  let s := s.wr P.seam R.seam_CAP_GIB (min (2 ^ 20 - 1) (s.capOffer / gib))
  let s := s.wr P.seam R.seam_CAP_LIMITED (if s.capLimited then 1 else 0)
  let s := s.whenB s.capLimited fun s => s.raise P.seam 3
  let s := s.checkSpace.rdyUpdate
  let s := (s.seam.unpicks.filter fun u => u.step = 4).foldl State.resumeUnpick s
  s.advanceVictims.postStarts
/-- RB_MS grows by a phase's milliseconds; the first phase begins it. -/
def State.rbTime (s : State) (ms : Nat) : State :=
  let was := if s.trust.rebuild = 1 then 0 else s.rd P.seam R.seam_RB_MS
  s.wr P.seam R.seam_RB_MS (min 65535 (was + ms))
/-- REBUILD_PHASE_DONE (R56): the phase running ends and the next begins. A phase needs a trained channel; PFAIL_N holds it (R66). -/
def execRebuildPhaseDone (ms : Nat) (badSlots : List Nat) (s : State) : Host.Outcome State Fault Refusal :=
  .next (s.whenB (s.dev == Dev.rebuild && !s.seam.pfailHold && s.chans != []) fun s =>
    let n := s.trust.rebuild
    let s := s.rbTime ms
    if n = 1 then (s.wr P.seam R.seam_RB_FLUSH_USED 0).rbRoot
    else if n = 2 then s.rbFlush
    else if n = 3 then s.rbLoad
    else if n = 4 then s.rbScan badSlots
    else if n = 5 then s.rbApply
    else if n = 6 then s.ckptDurable.goReady
    else s)
/-- REBUILD_OVERRUN (R58). -/
def execRebuildOverrun (s : State) : Host.Outcome State Fault Refusal :=
  .next (s.whenB (s.dev == Dev.rebuild) fun s => (s.flag P.seam R.seam_RB_OVERRUN).raise P.seam 1)

end Sys2Proof.Machine
end

