-- ==== Sys2Proof/Machine/Reset.lean ====
section
/-!
DEFINITION. Sys2Proof/Machine/Reset.lean: the device controller reset, host resets, power loss, and the checks of a wake that may turn into
a reset (18_power_clocks.md R451, R454, R462, R464; 13_host_network.md R352; 20_faults.md R493; 22_pins_electrical.md R519).
-/

namespace Sys2Proof.Machine

/-! ### Work cut short on the media -/

/-- Slots whose program was cut: each was written, as in `t`, or not. -/
def State.cutSlots (s t : State) (locs : List Nat) : State :=
  locs.foldl (fun (s : State) l =>
    let (b, s) := s.drawFree 1
    match t.slotAt l with
    | some x => s.whenB (b == 1) fun s => { s with nand := { s.nand with slots := Tbl.put s.nand.slots l x } }
    | none => s) s
/-- A started NAND operation cut short. -/
def State.cutOp (s : State) (o : NandOp) : State :=
  match o.kind with
  | .programUnits seqs =>
    (s.seam.flight.filter fun u => seqs.contains u.seq).foldl (fun (s : State) u => s.cutSlots (s.writeSlots u) u.locs) s
  | .programCopy id =>
    match s.seam.copies.find? fun c => c.id = id with
    | some c => s.cutSlots (s.passCopy c) c.locs
    | none => s
  | .programRoot _ =>
    match s.seam.ckpt with
    | some c =>
      let (b, s) := s.drawFree 1
      let r := c.root
      s.whenB (b == 1) fun s => { s with seam := { s.seam with
        rootA := if r.number % 2 = 0 then some r else s.seam.rootA
        rootB := if r.number % 2 = 0 then s.seam.rootB else some r } }
    | none => s
  | .erase =>
    let (b, s) := s.drawFree 1
    s.whenB (b == 1) fun s => s.rowErased o.row
/-- The flush record of a flush cut short: absent, or present with each copy passing or not (02_seam_map.md R63). -/
def State.cutFlush (s : State) : State :=
  if s.seam.flushing then
    let (v, s) := s.drawFree 3
    let f : FlushRec := ⟨s.seqCut, s.seam.map, s.seam.fine, 0, v.testBit 1, v.testBit 2, []⟩
    s.whenB (v.testBit 0) fun s => { s with seam := { s.seam with flush := some f } }
  else s
/-- A sector being written is cut: its bits are open, and it is not whole. -/
def State.cutSector (s : State) : State :=
  match s.selv.run with
  | some r =>
    if s.on P.slv R.slv_WG_STATE then
      let (v, s) := s.drawFree 37150
      let place := diskPlace r.req.head r.req.track (r.req.sector + r.at_)
      { s with selv := { s.selv with disk := Tbl.put s.selv.disk place ⟨v, false⟩ } }
    else s
  | none => s
/-- Everything being written to NAND, NOR and disk cut short. -/
def State.cutMedia (s : State) : State :=
  let s := (s.nand.ops.filter fun o => o.started).foldl State.cutOp s.cutFlush
  let s := match s.serial.pat with | some r => s.patCopy r false | none => s
  s.cutSector

/-! ### The device controller reset (R26, R462) -/

/-- What survives a loss of the supplies: the part, the board, the media, SPI NOR, OTP, what has left the device, the host's memory, the
commands that wait. -/
def State.survivors (s : State) : State :=
  let r := State.reset
  { r with
    part := s.part
    board := s.board
    mem := s.mem.filter fun e => hostBase ≤ e.1
    nor := s.nor
    free := s.free
    outbox := s.outbox
    pending := s.pending
    regs := s.regs.filter fun e => e.1 = fkey P.pat R.pat_KEY_REVOKE 0 ∨ e.1 = fkey P.pat R.pat_MIN_FW_VER 0 ∨
      e.1 = fkey P.unpk R.unpk_RESIDUE_ROWS 0
    trust := { r.trust with keyHashes := s.trust.keyHashes, patternKey := s.trust.patternKey, rootKey := s.trust.rootKey }
    seam := { r.seam with
      seq := s.seam.seq
      rows := s.seam.rows
      rootA := s.seam.rootA
      rootB := s.seam.rootB
      flush := s.seam.flush
      formatted := s.seam.formatted
      residue := s.seam.residue
      diskNext := s.seam.diskNext }
    nand := { r.nand with slots := s.nand.slots }
    selv := { r.selv with disk := s.selv.disk }
    nvme := { r.nvme with ns := s.nvme.ns.map fun (e : Nat × Ns) => (e.1, { e.2 with legacy := none }) } }
/-- The register fields that the AON domain keeps through a device controller reset, beside those of the GPIO page. -/
def aonFields : List Nat :=
  [fkey P.drm R.drm_GRAIN 0, fkey P.drm R.drm_XOR_EN 0, fkey P.rst R.rst_RST_CAUSE 0, fkey P.clk R.clk_XTAL_OK 0,
   fkey P.pwr R.pwr_REG_PGOOD 0, fkey P.clk R.clk_PLL_LOCK_LO 0, fkey P.clk R.clk_PLL_LOCK_HI 0]
/-- The device controller reset: everything but AON; Fill begins, on the crystal. A domain without its regulators stays off. -/
def State.devReset (s : State) : State :=
  let s := s.cutMedia
  let t := s.survivors
  let kept := s.regs.filter fun e => aonFields.contains e.1 || pageDomain (keyPage e.1) == 0
  let t := { t with
    regs := kept.foldl (fun l e => Tbl.put l e.1 e.2) t.regs
    rtcUs := s.rtcUs
    cycFrac := s.cycFrac
    power := { t.power with seq := .upCrystal, regEn := s.power.regEn }
    trust := { t.trust with keptGen := s.trust.keptGen, keptGrain := s.trust.keptGrain, keptXor := s.trust.keptXor,
                            keptModes := s.trust.keptModes }
    seam := { t.seam with pfailLow := s.seam.pfailLow }
    selv := { t.selv with fltLow := s.selv.fltLow }
    servo := { t.servo with attn := s.servo.attn }
    nvme := { t.nvme with perstLow := s.nvme.perstLow } }
  let off := (List.range 38).filter fun d => domainPresent t.part d && !t.supplied d
  let t := (off.foldl (fun (s : State) d => s.setDom d false) t).count P.rst 0x048
  let t := t.whenB (s.power.vddCode != 0x32) fun t => t.send (.vid 0x4032)
  t.whenB (t.on P.clk R.clk_XTAL_OK) fun t =>
    { t with power := { t.power with seq := .run }, dram := { t.dram with fill := 1 } }.setDev Dev.fill
/-- A device controller reset with its cause. -/
def State.resetFor (s : State) (cause : Nat) : State := (s.wr P.rst R.rst_RST_CAUSE cause).devReset
/-- The effect of 0xA5 written to DEV_RST: outside Ward a fault first (R464). -/
def State.rstGo (s : State) : State := (s.whenB (s.dev != Dev.ward) fun s => s.fault' 0x0D P.rst 0 0).resetFor 3
/-- A write of DEV_RST; other values are ignored. -/
def State.devRst (s : State) (val : Nat) : State := s.whenB (val % 256 == 0xA5) State.rstGo
/-- DEV_RST (R464). -/
def execDevRst (ag : Agent) (val : Nat) (s : State) : Host.Outcome State Fault Refusal :=
  .next (s.gated ag P.rst 0x104 true fun s => s.devRst val)
/-- WARD_RESET_TIMER (20_faults.md R493): counted from QUIESCED, where a period applies. -/
def execWardResetTimer (s : State) : Host.Outcome State Fault Refusal :=
  .next (s.whenB (s.dev == Dev.ward && s.on P.flt R.flt_QUIESCED && (s.rd P.flt R.flt_WARD_RESET_S != 0 || !s.mode M.host)) State.rstGo)

/-! ### Host resets (13_host_network.md R352) -/

/-- A reset of function 0 by the host: in Ward of the device, else of the controller. In a low-power state the access only wakes. -/
def State.hostRst (s : State) (retrain : Bool) : State :=
  let s := s.accessWake .host
  s.whenB (s.mode M.host && s.pagesAwake) fun s =>
    if s.dev = Dev.ward then s.resetFor 2
    else s.hostReset.whenB (retrain && s.nvme.linkUp) State.linkDown
/-- HOST_CONTROLLER_RESET: CC.EN from 1 to 0. -/
def execHostControllerReset (s : State) : Host.Outcome State Fault Refusal :=
  .next (s.whenB (s.hostUp && s.nvme.ccEn) fun s => s.hostRst false)
/-- FLR_FUNCTION0. -/
def execFlrFunction0 (s : State) : Host.Outcome State Fault Refusal := .next (s.whenB (s.mode M.host && s.nvme.linkUp) fun s => s.hostRst false)
/-- FLR_FUNCTION1: its interrupts masked, its locks released (21_register_pages.md R507); nothing in Ward. -/
def execFlrFunction1 (s : State) : Host.Outcome State Fault Refusal :=
  .next (s.whenB (s.mode M.host && s.nvme.linkUp && s.dev != Dev.ward) fun s =>
    let held := (List.range 0x8E).filter fun p => s.rd p R.common_OWNER == 1
    held.foldl (fun (s : State) p => s.wr p R.common_OWNER 0) { s with nvme := { s.nvme with fn1Masked := true } })
/-- NVM_SUBSYSTEM_RESET: the link retrains. -/
def execNvmSubsystemReset (s : State) : Host.Outcome State Fault Refusal :=
  .next (s.whenB (s.mode M.host && s.nvme.linkUp) fun s => s.hostRst true)
/-- PERST_N_ASSERT: the link goes down with the pin. -/
def execPerstNAssert (s : State) : Host.Outcome State Fault Refusal :=
  .next (s.whenB (s.powered && !s.nvme.perstLow) fun s =>
    { s with nvme := { s.nvme with perstLow := true } }.whenB (s.mode M.host) fun s => s.hostRst true)

/-! ### Power loss (22_pins_electrical.md R519) -/

/-- POWER_LOSS: the device is off; what was being written is cut short, and the rest of the unfinished work is lost. -/
def execPowerLoss (s : State) : Host.Outcome State Fault Refusal := .next s.cutMedia.survivors

/-! ### Checks of a wake (18_power_clocks.md R451, R454) -/

/-- A retained bank lost: filled with zeros, reported; the items that are not running and name it complete MEM_LOST
(12_shuttle_spool.md R341). -/
def State.bankLost (s : State) (b : Nat) : State :=
  let s := s.zeroMem (stgBase + b * 0x200000) (stgBase + (b + 1) * 0x200000)
  let s := s.wr P.pwr R.pwr_RETAIN_LOST (bitPut (s.rd P.pwr R.pwr_RETAIN_LOST) b true)
  let s := (s.count P.pwr 0x090).raise P.pwr 5
  let due := s.spool.items.filter fun e => e.2.st ≠ .running ∧ e.2.st ≠ .done ∧ e.2.banks.testBit b = true
  let s := due.foldl (fun (s : State) e => s.completeItem e.1 Cs.memLost b) s
  s.whenB (due != []) fun s => (s.err P.spl 0x01 b 0).raise P.spl 2
/-- RETENTION_CHECK_DONE (R454): the failed banks of those retained, whether a FAB or THM array lost a word, and the words corrected. The
domains are then powered, and DRAM leaves self-refresh. -/
def execRetentionCheckDone (failed : Nat) (arrayLost : Bool) (corrected : Nat) (s : State) : Host.Outcome State Fault Refusal :=
  .next (match s.power.seq with
    | .wake .slumber 4 =>
      let lost := (List.range 32).filter fun b => failed.testBit b && (b == 0 || (s.rd P.pwr R.pwr_SLUMBER_BANKS).testBit b)
      let s := (List.replicate corrected ()).foldl (fun (s : State) _ => s.bucket P.glb) s
      let s := lost.foldl State.bankLost s
      let s := s.whenB (lost.contains 0 || arrayLost) fun s =>
        let s := s.err P.pwr 0x03 0 0
        if s.on P.flt R.flt_FAULT_VALID then s.wr P.flt R.flt_FAULT_MORE (min 255 (s.rd P.flt R.flt_FAULT_MORE + 1))
        else { s.captureFault 0x0B P.pwr 0 0 with power := { s.power with faultOnWake := true } }
      ((s.power.domsWere.filter s.supplied).foldl State.domPower s).wakeDram .slumber
    | _ => s)
/-- BOBBIN_IMAGE_CHECKED (R451 step 6): Bobbin restarted on its image in DRAM; an image that fails its digest is fault 0x05
(19_trust_pattern.md R484). -/
def execBobbinImageChecked (ok : Bool) (s : State) : Host.Outcome State Fault Refusal :=
  .next (match s.power.seq with
    | .wake .slumber 6 => (if ok then s.startBobbin else s.fault' 0x05 P.thm 0 0).wakeTrain .slumber
    | _ => s)

end Sys2Proof.Machine
end

