-- ==== Sys2Proof/Machine/RegRead.lean ====
section
/-!
DEFINITION. Sys2Proof/Machine/RegRead.lean: what a read of a register page returns (21_register_pages.md R499 to R505, R508;
00_scope.md R8, R9; 18_power_clocks.md R443): stored fields, and the status fields that show the state of a block.
-/

namespace Sys2Proof.Machine

/-- Whether a page's ERR_CODE holds a code that its chapter names a device fault (STAT.FAULT of R503). -/
def State.statFault (s : State) (k : PageKind) (p : Nat) : Bool :=
  let c := s.rd p R.common_ERR_CODE
  match k with
  | .seam => c == 1 || c == 4
  | .pwr => c == 1 || c == 3
  | .thm | .eic => c == 1
  | .drc => c == 2 || c == 3
  | .clk => c == 2 && (s.rd p R.common_ERR_INFO == 9 || s.rd p R.common_ERR_INFO == 10)
  | .flt => c != 0
  | _ => false

/-- The mask of the numbers below `n` that satisfy a condition. -/
def maskWhere (n : Nat) (c : Nat → Bool) : Nat := maskOf ((List.range n).filter c)

/-- Status fields of the common header: BUSY, IDLE, FAULT, BLK3 (MULTI of the GAU page, 09_gauge.md R243) and INT_PEND. -/
def State.headField (s : State) (k : PageKind) (p : Nat) (f : Fld) : Option Nat :=
  match f.off, f.lo with
  | 0x00C, 0 => some (s.running p).toNat
  | 0x00C, 1 => some (!s.running p && !s.queued p).toNat
  | 0x00C, 2 => some (s.statFault k p).toNat
  | 0x00C, 3 => some (k == .gau && s.gauge.multi).toNat
  | 0x018, _ => some (s.intPend p)
  | _, _ => none

/-- Milliseconds since the last durable checkpoint, saturating. -/
def State.ckptAge (s : State) : Nat := min 65535 ((s.rtcUs - s.seam.ckptAt) / 1000)
/-- The item a Shuttle core runs. -/
def State.coreRuns (s : State) (k : Nat) : Option (Nat × Item) :=
  match Tbl.at? s.spool.coreItem k with
  | some n => (s.item? n).map fun i => (n, i)
  | none => none
/-- The sources of Take-up that hold a completion, among `n` from `lo`. -/
def State.tkuHeld (s : State) (lo n : Nat) : Nat := maskWhere n fun i => s.spool.cpls.any fun c => c.src = lo + i
/-- The entries of the hard-word list that HW_SEL shows (16_memory_integrity.md R416). -/
def State.hwShown (s : State) : List Nat := (Tbl.at? s.integ.hard (s.rd P.eic R.eic_HW_SEL)).getD []

/-- Status fields that a chapter defines by the state of its block, read when they are read; `n` is the page's number within its
kind and `i` the field's index. -/
def State.liveField (s : State) (k : PageKind) (n : Nat) (f : Fld) (i : Nat) : Option Nat :=
  match k, f.off, f.lo with
  | .glb, 0x110, 0 => some s.stgFree
  | .glb, 0x110, 16 => some s.stg.waits.length
  | .glb, 0x140, _ => some (maskWhere 32 fun b => s.interrupts (i * 32 + b))
  | .thm, 0x114, _ => some s.trust.keySlots.length
  | .ldd, 0x104, 0 => some ((Tbl.at? s.nand.soft n).getD []).length
  | .seam, 0x110, _ => some s.seam.fine.length
  | .seam, 0x118, _ => some (s.seam.seq % 2 ^ 32)
  | .seam, 0x11C, _ => some (s.seam.seq / 2 ^ 32)
  | .seam, 0x128, 0 => some s.ckptAge
  | .seam, 0x13C, _ => some s.seam.ranges.length
  | .hem, 0x100, 0 => some s.seam.hem.length
  | .unpk, 0x100, 0 => some (s.seam.unpicks.filter fun u => u.step ≠ 0).length
  | .unpk, 0x104, _ => some s.rowsLeft
  | .plt, 0x108, 8 => some (s.pltQueue n).length
  | .plt, 0x108, 16 => some (maskWhere 4 fun l => Tbl.has s.pleat.lanes (n * 4 + l))
  | .pnk, 0x108, 16 => some (maskWhere 4 fun l => Tbl.has s.pink.slots (n * 4 + l))
  | .pnk, 0x108, 20 => some (maskWhere 4 s.slotBusy)
  | .pnk, 0x10C, 0 => some (min 16 ((s.pnkQueue n).length - 1))
  | .pnk, 0x10C, 5 => some (((s.pnkQueue n).head?.bind fun u => (s.stream? u.stream).map (·.slot)).getD 0)
  | .gau, 0x10C, 1 => some s.gauge.queue.length
  | .gau, 0x110, _ => some s.gauge.rows.length
  | .gau, 0x114, 0 => some s.gauQuota
  | .gau, 0x114, 18 => some (if s.mode M.panel then s.nActive else 1)
  | .gau, 0x118, 0 => some ((s.gauge.move.map fun m => m.length * s.gauRows).getD 0)
  | .gau, 0x118, 18 => some s.gauge.move.isSome.toNat
  | .gcb, 0x104, 3 => some s.gauge.out.length
  | .shc, 0x104, 0 => some (((s.coreRuns (n * 4 + i)).map (·.1)).getD 0)
  | .shc, 0x104, 16 => some (((s.coreRuns (n * 4 + i)).map (·.2.panel)).getD 0)
  | .shc, 0x104, 22 => some (s.coreRuns (n * 4 + i)).isSome.toNat
  | .bob, 0x100, 0 =>
    some (maskWhere 8 fun c => ((Tbl.at? s.cores (32 + c)).map fun x => x.st != .stopped && !x.halted).getD false)
  | .bob, 0x100, 8 => some (maskWhere 8 fun c => ((Tbl.at? s.cores (32 + c)).map (·.halted)).getD false)
  | .spl, 0x104, _ => some s.spool.items.length
  | .spl, 0x110, _ => some (s.splTime % 2 ^ 32)
  | .spl, 0x114, _ => some (s.splTime / 2 ^ 32)
  | .spl, 0x118, _ => some s.flowsOpen
  | .spl, 0x140, _ => some (s.spool.items.filter fun e => e.2.list = i ∧ e.2.st = .waiting).length
  | .tku, 0x104, _ => some (s.tkuHeld 0 32)
  | .tku, 0x108, _ => some (s.tkuHeld 32 32)
  | .tku, 0x10C, _ => some (s.tkuHeld 64 8)
  | .nvm, 0x100, 0 => some (s.nvme.sqs.filter fun e => e.1 ≠ 0).length
  | .nvm, 0x100, 10 => some (s.net.conns.map fun e => e.2.ctrl).dedup.length
  | .nvm, 0x104, 0 => some s.nvme.cmds.length
  | .nvm, 0x108, 0 => some (maskWhere 16 fun q => Tbl.has s.nvme.profiles q)
  | .nvm, 0x108, 16 => some (s.mode M.compat).toNat
  | .pan, 0x108, _ => some s.nActive
  | .toe, 0x100, 0 => some s.net.conns.length
  | .eic, 0x134, 0 => some s.hwShown.length
  | .eic, 0x134, 5 => some (decide (16 ≤ s.hwShown.length)).toNat
  | .eic, 0x140, _ => some (s.hwShown.getD i 0 % 2 ^ 32)
  | .eic, 0x144, _ => some (s.hwShown.getD i 0 / 2 ^ 32)
  | .dbg, 0x104, 8 => some (decide (16 ≤ s.uartTx.length)).toNat
  | .dbg, 0x108, 0 => some (s.uartRx.headD 0)
  | .dbg, 0x108, 8 => some (s.uartRx ≠ [] : Bool).toNat
  | _, _, _ => none

/-- What a field reads as to an agent (R8): WO and INT_CLR read 0, a TO field reads 0 to all but Thimble. -/
def State.fieldRead (s : State) (ag : Agent) (p : Nat) (e : Fld × Nat) : Nat :=
  match pageInfo p with
  | none => 0
  | some (k, _, n) =>
    let f := e.1
    if f.acc = .wo ∨ f.off = 0x01C then 0
    else if f.acc = .to ∧ ag ≠ .thimble then 0
    else
      ((if f.off < 0x100 then s.headField k p f else s.liveField k n f e.2).getD (s.rdI p f e.2)) % 2 ^ f.w

/-- The word that a field list composes. -/
def State.composed (s : State) (ag : Agent) (p : Nat) (l : List (Fld × Nat)) : Nat :=
  l.foldl (fun w e => w + s.fieldRead ag p e * 2 ^ e.1.lo) 0
/-- The counter that an offset lies in, with the offset within it. -/
def counterAt (p off : Nat) : Option (Nat × Nat) :=
  match pageInfo p with
  | some (k, _, _) =>
    let c := off - off % 8
    if 0x040 ≤ off ∧ (c - 0x040) / 8 < counterCount k then some (c, off % 8) else none
  | none => none

/-- A 32-bit register as an agent reads it, at an aligned offset: a dark page shows its ID alone (R443), a page that does not answer 0.
A counter's words come from the counter. -/
def State.regWord (s : State) (ag : Agent) (p off : Nat) : Nat :=
  if s.pageOpen p then
    match counterAt p off with
    | some (c, o) => s.ctr p c / 2 ^ (8 * o) % 2 ^ 32
    | none => s.composed ag p (fieldsAt p off)
  else if off = 0 ∧ s.pagesAwake ∧ s.dev ≠ Dev.fill ∧ pagePresent s.part p then s.composed ag p (fieldsAt p 0)
  else 0

/-- The reads that change state: the low word of a counter latches the high one, which answers the next read of the agent's high word
(R501), and RX_DATA is consumed (R511). -/
def State.readWord (s : State) (ag : Agent) (p off size : Nat) : Nat × State :=
  let w := s.regWord ag p (off - off % 4)
  if p = P.dbg ∧ off = 0x108 ∧ s.pageOpen p then (w, { s with uartRx := [] })
  else if size ≠ 4 ∨ !s.pageOpen p then (w, s)
  else
    match counterAt p off with
    | none => (w, s)
    | some (c, 0) =>
      (w, { s with shadow := Tbl.put s.shadow (shadowKey ag p) (c * 2 ^ 32 + s.ctr p c / 2 ^ 32) })
    | some (c, _) =>
      match Tbl.at? s.shadow (shadowKey ag p) with
      | some v =>
        if v / 2 ^ 32 = c then (v % 2 ^ 32, { s with shadow := Tbl.del s.shadow (shadowKey ag p) }) else (w, s)
      | none => (w, s)

/-- Whether an access is of a legal size and aligned (R500). -/
def accessOk (addr size : Nat) : Bool := [1, 2, 4, 8].contains size && addr % size == 0

/-- A read of `size` bytes at an offset of the register space: its value, none for Completer Abort (R500). A counter is read whole by
8 bytes. -/
def State.regRead (s : State) (ag : Agent) (addr size : Nat) : Option Nat × State :=
  let p := addr / 4096
  let off := addr % 4096
  if !accessOk addr size then (none, s.count P.glb 0x040)
  else if size = 8 then
    let (lo, s) := s.readWord ag p off 8
    let (hi, s) := s.readWord ag p (off + 4) 8
    (some (lo + hi * 2 ^ 32), s)
  else
    let (w, s) := s.readWord ag p off size
    (some (w / 2 ^ (8 * (addr % 4)) % 2 ^ (8 * size)), s)

end Sys2Proof.Machine
end

