-- ==== Sys2Proof/Machine/RegWrite.lean ====
section
/-!
DEFINITION. Sys2Proof/Machine/RegWrite.lean: a register write (21_register_pages.md R500, R502, R504, R507, R534; 00_scope.md R8 to R10;
20_faults.md R493): byte enables, access codes, ranges, the header's fields, and the triggers after every other field.
-/

namespace Sys2Proof.Machine

/-- A write to one 32-bit register: its agent, page, offset, value, and the mask of the bits its byte enables cover. -/
structure RegWr where
  ag   : Agent
  p    : Nat
  off  : Nat
  val  : Nat
  mask : Nat
deriving DecidableEq, Repr

/-- The bits written, zero where not enabled. -/
def RegWr.bits (w : RegWr) : Nat := Nat.land w.val w.mask
/-- The word of the RW fields: the written bits, and the current ones where not enabled. -/
def RegWr.merged (w : RegWr) (old : Nat) : Nat := Nat.lor w.bits (andNot old w.mask)
/-- Whether a field's bits are touched. -/
def RegWr.touches (w : RegWr) (f : Fld) : Bool := bitsAt w.mask f.lo f.w != 0
/-- Whether a trigger bit is written as 1. -/
def RegWr.bit (w : RegWr) (b : Nat) : Bool := w.bits.testBit b

/-- Whether an agent may write a field: RW by all; RWT and TO by Thimble, the zone table by Bobbin firmware too (05_selvedge_channel.md
R144; log entry 27). -/
def RegWr.may (w : RegWr) (f : Fld) : Bool :=
  match f.acc with
  | .rw => true
  | .rwt | .to => w.ag == .thimble || (w.p == P.slv && decide (0x200 ≤ f.off) && w.ag != .host)
  | _ => false

/-- A W1C field: the bits written as 1 clear. PA_FAULT cleared stands for the release of ARC_FLT_N (log entry 28). -/
def State.clearBits (s : State) (w : RegWr) (e : Fld × Nat) : State :=
  let v := bitsAt w.bits e.1.lo e.1.w
  let s := s.whenB (w.p == P.slv && e.1.off == 0x12C && e.1.lo == 3 && v == 1) fun s => { s with selv := { s.selv with fltLow := false } }
  s.whenB (v != 0) fun s => s.wrI w.p e.1 e.2 (andNot (s.rdI w.p e.1 e.2) v)

/-- The fields of a register that take plain writes. -/
def State.putPlain (s : State) (w : RegWr) : State :=
  let l := fieldsAt w.p w.off
  let old := l.foldl (fun (n : Nat) e => n + s.rdI w.p e.1 e.2 * 2 ^ e.1.lo) 0
  let s := (l.filter fun e => e.1.acc == .w1c).foldl (fun s e => s.clearBits w e) s
  s.putFields w.ag w.p w.off (w.merged old) (l.filter fun e => w.may e.1 && w.touches e.1)

/-! ### The triggers (R502) -/

/-- The low-power state that STATE_REQ names. -/
def lpOf : Nat → Option LowPower | 1 => some .doze | 2 => some .slumber | 3 => some .vault | _ => none

/-- The WO triggers of a register, on the new values of its other fields. -/
def State.triggers (s : State) (w : RegWr) : State :=
  match pageInfo w.p with
  | none => s
  | some (k, _, n) =>
    match k, w.off with
    | .mode, 0x104 => s.whenB (w.bit 16) fun s => s.modeGo w.ag
    | .pwr, 0x100 => s.whenB (w.bit 2) fun s =>
        match lpOf (s.rd P.pwr R.pwr_STATE_REQ) with | some t => s.requestLow t | none => s
    | .pwr, 0x110 => (s.whenB (w.bit 8) State.domOffGo).whenB (w.bit 9) State.domOnGo
    | .clk, 0x100 => s.whenB (w.bit 5) State.xtalRetry
    | .rst, 0x104 => s.devRst w.bits
    | .pad, 0x108 => s.whenB (w.bits != 0) fun s => s.tackRelease w.bits
    | .pad, 0x10C => s.whenB (w.bits % 64 != 0) fun s => s.tackRelease (w.bits % 64 * 2 ^ 32)
    | .thm, 0x100 => s.whenB (w.bit 8) fun s => s.mbGo w.ag
    | .flt, 0x110 => s.whenB (w.bit 16) State.kick
    | .hem, 0x110 => s.whenB (w.bit 12) fun s => s.vfyGo (s.rd P.hem R.hem_VFY_REGION)
    | .slv, 0x114 => s.whenB (w.bit 16) State.paGo
    | .svo, 0x104 => s.whenB (w.bit 28) State.seekGo
    | .svo, 0x114 =>
        let s := s.whenB (w.bit 20 && s.en P.svo) State.svoStart
        let s := s.whenB (w.bit 21) fun s => s.svoStop.inhibit false
        s.whenB (w.bit 22) fun s => s.svoPark.inhibit false
    | .trl, 0x104 => s.whenB (w.bit 20) fun s => s.swGo (s.rd P.trl R.trl_SW_CMD)
    | .plt, 0x108 => s.whenB (w.bit 0) fun s => s.pltGo n
    | .pnk, 0x108 => s.whenB (w.bit 2) fun s => s.loadGo n
    | .gau, 0x10C => s.whenB (w.bit 0) State.gauGo
    | .spl, 0x108 => s.whenB (w.bit 16) State.cancelGo
    | .spl, 0x124 => s.whenB (w.bit 16) State.stgRelGo
    | .pan, 0x10C => s.whenB (w.bit 8) fun s => s.panGo (s.rd P.pan R.pan_PAN_OP)
    | .eic, 0x1E0 => s.whenB (w.bit 0) fun s => (s.wr P.eic R.eic_CE_VALID 0).wr P.eic R.eic_UE_VALID 0
    | .dbg, 0x104 => s.whenB (w.mask % 256 != 0) fun s => s.txByte w.ag w.bits
    | _, _ => s

/-! ### The header -/

/-- CTRL: DRAIN and FREEZE, then EN, then SRESET; on a control page FREEZE alone (R504). A DRAM channel of the interleave set ignores the
clearing of EN and sets CFG_REJ (17_dram.md R438). -/
def State.writeCtrl (s : State) (w : RegWr) (k : PageKind) (n : Nat) : State :=
  if !w.touches R.common_EN then s
  else
    let v := w.val
    let s := s.wr w.p R.common_FREEZE (bitsAt v 3 1)
    if isControl k then s
    else
      let s := s.wr w.p R.common_DRAIN (bitsAt v 2 1)
      let s :=
        if v.testBit 0 then
          let s := s.wr w.p R.common_EN 1
          let s := s.whenB (k == .spl) fun s => { s with spool := { s.spool with draining := false } }
          let s := s.whenB (k == .slv) fun s => { s with selv := { s.selv with draining := false } }
          s.whenB (k == .nfc) fun s => s.chanEnabled n
        else if k = .drc ∧ (s.rd P.drm R.drm_SET).testBit n = true then s.flag w.p R.drc_CFG_REJ
        else s.disable w.p
      s.whenB (v.testBit 1) fun s => s.softReset w.p

/-- LOCK: TAKE of a free lock; RELEASE by the holder or Thimble; LOCK_REJ (R507). -/
def State.writeLock (s : State) (w : RegWr) : State :=
  let s := s.whenB (w.bit 10) fun s => s.wr w.p R.common_LOCK_REJ 0
  let s := s.whenB (w.bit 8 && s.rd w.p R.common_OWNER == 0) fun s => s.wr w.p R.common_OWNER (agCode w.ag)
  s.whenB (w.bit 9 && (s.rd w.p R.common_OWNER == agCode w.ag || w.ag == .thimble)) fun s => s.wr w.p R.common_OWNER 0

/-- A write to INT_EN: undefined bits are reserved (R503, R509). -/
def State.writeIntEn (s : State) (w : RegWr) : State :=
  (s.wr w.p R.common_INT_EN (Nat.land (w.merged (s.rd w.p R.common_INT_EN)) (pageIntBits w.p))).reannounce w.p
/-- A write to INT_CLR. -/
def State.writeIntClr (s : State) (w : RegWr) : State :=
  (s.wr w.p R.common_INT_RAW (andNot (s.rd w.p R.common_INT_RAW) w.bits)).reannounce w.p
/-- A write to ERR_CODE: 0xFF clears the capture, on every page but FLT (R505). -/
def State.writeErr (s : State) (w : RegWr) : State :=
  s.whenB (w.bits % 256 == 0xFF && w.p != P.flt) fun s =>
    ((((s.wr w.p R.common_ERR_CODE 0).wr w.p R.common_ERR_MORE 0).wr w.p R.common_ERR_INFO 0).wr w.p
      R.common_ERR_ADDR_LO 0).wr w.p R.common_ERR_ADDR_HI 0

/-- A write outside Ward, or to FLT in Ward, past its lock. -/
def State.writeReg (s : State) (w : RegWr) : State :=
  match pageInfo w.p with
  | none => s
  | some (k, _, n) =>
    if w.off = 0x008 then s.writeCtrl w k n
    else if w.off = 0x014 then s.writeIntEn w
    else if w.off = 0x01C then s.writeIntClr w
    else if w.off = 0x020 then s.writeErr w
    else if w.off = 0x038 then s.writeLock w
    else if k = .glb ∧ 0x200 ≤ w.off ∧ w.off < 0x200 + 4 * 0x8E then
      let r := (w.off - 0x200) / 4
      s.routeWrite w.ag r (w.merged (s.composed .thimble w.p (fieldsAt w.p w.off)))
    else if 0x040 ≤ w.off ∧ w.off < 0x100 then s
    else (s.putPlain w).triggers w
/-- The writes that Ward leaves: INT_CLR, ERR_CODE, W1C fields, DEV_RST. -/
def State.writeInWard (s : State) (w : RegWr) : State :=
  if w.off = 0x01C then s.writeIntClr w
  else if w.off = 0x020 then s.writeErr w
  else if w.p = P.rst ∧ w.off = 0x104 then s.devRst w.bits
  else ((fieldsAt w.p w.off).filter fun e => e.1.acc == .w1c).foldl (fun s e => s.clearBits w e) s
/-- A write to one register. -/
def State.write32 (s : State) (w : RegWr) : State :=
  if !s.pageOpen w.p then s
  else if s.lockedOut w.ag w.p && (w.off == 0x008 || decide (0x100 ≤ w.off)) then
    s.whenB (s.dev != Dev.ward || w.p == P.flt) fun s => s.flag w.p R.common_LOCK_REJ
  else if s.dev == Dev.ward && w.p != P.flt then s.writeInWard w
  else s.writeReg w

/-- A write of `size` bytes to the register space; a misaligned one is dropped and counted (R500). -/
def State.regWrite (s : State) (ag : Agent) (addr size val : Nat) : State :=
  let p := addr / 4096
  let off := addr % 4096
  if !accessOk addr size then s.count P.glb 0x040
  else if size = 8 then
    (s.write32 ⟨ag, p, off, val % 2 ^ 32, 2 ^ 32 - 1⟩).write32 ⟨ag, p, off + 4, val / 2 ^ 32 % 2 ^ 32, 2 ^ 32 - 1⟩
  else
    let sh := 2 ^ (8 * (off % 4))
    s.write32 ⟨ag, p, off - off % 4, val % 2 ^ (8 * size) * sh, (2 ^ (8 * size) - 1) * sh⟩

/-- REGISTER_WRITE. A write of MODE_REQ is the wake event of 18_power_clocks.md R450 bit 5 (15_modes.md R394). -/
def execRegisterWrite (ag : Agent) (addr size val : Nat) (s : State) : Host.Outcome State Fault Refusal :=
  let s := s.whenB (addr / 4 == (P.mode * 4096 + 0x104) / 4) fun s => s.wakeBy 5
  let s := s.accessWake ag
  .next (s.whenB (s.agentUp ag && s.pagesAwake) fun s => s.regWrite ag addr size val)

end Sys2Proof.Machine
end

