-- ==== Sys2Proof/Machine/AgrekMem.lean ====
section
/-!
DEFINITION. Sys2Proof/Machine/AgrekMem.lean: what an Agrek core sees: the register block, local store, ROM, windows and bit spaces
(10_agrek_model.md R262 to R267, R275 to R280; 16_memory_integrity.md R407 to R409; 19_trust_pattern.md R468, R470).
-/

namespace Sys2Proof.Machine

/-! ### The register block (R263, R265) -/

/-- The value of register slot `j` of the register block: B0 to B7, PC, PSW, RCNT, FP. -/
def Core.slot (c : Core) (j : Nat) : Nat :=
  if j < 8 then (c.b.getD j 0).toNat
  else if j = 8 then c.pc else if j = 9 then c.psw else if j = 10 then c.rcnt else c.fp.toNat
/-- A base register. -/
def Core.breg (c : Core) (n : Nat) : Nat := (c.b.getD n 0).toNat
/-- A base register set. -/
def Core.setB (c : Core) (n v : Nat) : Core := { c with b := c.b.set n (BitVec.ofNat 64 v) }
/-- A register slot set: the PC and RCNT to their widths; the PSW whole. -/
def Core.setSlot (c : Core) (j v : Nat) : Core :=
  if j < 8 then c.setB j v
  else if j = 8 then { c with pc := v % 2 ^ 48 }
  else if j = 9 then { c with psw := v % 2 ^ 64 }
  else if j = 10 then { c with rcnt := v % 2 ^ 32 }
  else { c with fp := BitVec.ofNat 64 v }
/-- A byte of local store, the register block included. -/
def Core.lsByte (c : Core) (o : Nat) : Byte := if o < 96 then BitVec.ofNat 8 (c.slot (o / 8) / 256 ^ (o % 8)) else memAt c.ls o
/-- Bytes of local store. -/
def Core.lsRead (c : Core) (o n : Nat) : List Byte := (List.range n).map fun i => c.lsByte (o + i)
/-- A byte of local store written. -/
def Core.lsPut (c : Core) (o : Nat) (v : Byte) : Core :=
  if o < 96 then c.setSlot (o / 8) (bitsPut (c.slot (o / 8)) (8 * (o % 8)) 8 v.toNat) else { c with ls := memSet c.ls o v }
/-- Bytes of local store written. -/
def Core.lsWrite (c : Core) (o : Nat) (l : List Byte) : Core := (l.zipIdx).foldl (fun c e => c.lsPut (o + e.2) e.1) c

/-- The address part of a register: 48 bits. -/
def addr48 (v : Nat) : Nat := v % 2 ^ 48

/-! ### The address space (R278, R279) -/

/-- The bytes of a core's local store (R262). -/
def lsSize : CoreId → Nat | .shuttle _ => 0x40000 | .bobbin _ => 0x80000 | .thimble => 0x20000
/-- Thimble's ROM. -/
def romBase : Nat := 0xFFFF80000000
/-- PSW.LEVEL by core kind. -/
def levelOf : CoreId → Nat | .shuttle _ => 0 | .bobbin _ => 1 | .thimble => 2
/-- Whether a core is a Shuttle core. -/
def isShuttle : CoreId → Bool | .shuttle _ => true | _ => false
/-- The agent of a core's register accesses; Shuttle cores have none (21_register_pages.md R498). -/
def agentOf : CoreId → Agent | .bobbin n => .bobbin n | _ => .thimble

/-- Where an address leads: local store at an offset, ROM at an offset, or the fabric, for a panel, cacheable or not. -/
inductive Place where
  | ls (off : Nat)
  | rom (off : Nat)
  | fab (a panel : Nat) (ca : Bool)
deriving DecidableEq, Repr

/-- Whether a fabric range touches the register space. -/
def inRegs (a n : Nat) : Bool := decide (regBase < a + n ∧ a < regBase + 0x1000000)

/-- The place of a range of bytes, none where a need meets Access Violation: the range whole in local store outside the reserved bytes, in
ROM, or in one window with the permission. -/
def placeOf (id : CoreId) (c : Core) (va n : Nat) (need : Need) : Option Place :=
  if lsBase ≤ va then
    if va + n ≤ lsBase + lsSize id then
      let o := va - lsBase
      if (o < 0x100 ∧ 0x60 < o + n) ∨ (need = .ex ∧ o < 0x60) then none else some (.ls o)
    else if id = .thimble ∧ romBase ≤ va ∧ va + n ≤ romBase + 0x40000 ∧ need ≠ .wr then some (.rom (va - romBase))
    else none
  else
    match winFor c.wins va n need with
    | some w =>
      let a := w.target + (va - w.vbase)
      if isShuttle id && inRegs a n then none else some (.fab a w.panel w.ca)
    | none => none

/-- What an access to memory ends in: bytes, or the bad word of a Machine Check. -/
abbrev MemRes := Except (Nat × Nat) (List Byte)

/-- A core's read of the register space: one access of 1, 2, 4 or 8 bytes, other lengths byte by byte; a Completer Abort returns a value the
spec leaves open (R500). -/
def State.coreRegRead (s : State) (id : CoreId) (a n : Nat) : List Byte × State :=
  let one (s : State) (a n : Nat) : List Byte × State :=
    match s.regRead (agentOf id) (a - regBase) n with
    | (some v, s) => (natLE n v, s)
    | (none, s) => let (v, s) := s.drawFree (8 * n); (natLE n v, s)
  if [1, 2, 4, 8].contains n then one s a n
  else (List.range n).foldl (fun (r : List Byte × State) i => let (b, s) := one r.2 (a + i) 1; (r.1 ++ b, s)) ([], s)
/-- A read of `n` bytes within one line through a data cache: from the line held, stale or not, else from memory, and the line is held; a
miss is counted. -/
def State.lineRead (s : State) (k a n : Nat) : MemRes × State :=
  let line := a / 64
  match s.heldLine k line with
  | some b => (.ok ((b.drop (a % 64)).take n), s)
  | none =>
    match s.poison (64 * line) 64 with
    | some e => (.error e, s)
    | none => (.ok (memRead s.mem a n), (s.count (P.shc (k / 4)) 0x060).cacheLine k line (memRead s.mem (64 * line) 64))
/-- A read through a data cache, line by line. -/
def State.cachedRead (s : State) (k a n : Nat) : MemRes × State :=
  (List.range ((a + n - 1) / 64 + 1 - a / 64)).foldl (fun (r : MemRes × State) i =>
    match r with
    | (.error e, s) => (.error e, s)
    | (.ok l, s) =>
      let lo := max a (64 * (a / 64 + i))
      let hi := min (a + n) (64 * (a / 64 + i) + 64)
      match s.lineRead k lo (hi - lo) with
      | (.error e, s) => (.error e, s)
      | (.ok b, s) => (.ok (l ++ b), s)) (.ok [], s)
/-- A core's own write as its data cache sees it: written through, and into the lines held; no line is allocated. -/
def State.cacheStore (s : State) (id : CoreId) (a : Nat) (l : List Byte) : State :=
  match cacheOf id with
  | none => s
  | some k =>
    { s with caches := { s.caches with data := Tbl.upd s.caches.data k fun t => t.map fun e =>
      if 64 * e.1 < a + l.length ∧ a < 64 * e.1 + 64 then
        (e.1, (List.range 64).map fun i => let x := 64 * e.1 + i
                                           if a ≤ x ∧ x < a + l.length then l.getD (x - a) 0 else e.2.getD i 0)
      else e } }
/-- A byte of the fabric as a core would read it. -/
def State.fabByte (s : State) (id : CoreId) (ca : Bool) (a : Nat) : Byte :=
  match (if ca then cacheOf id else none).bind fun k => s.heldLine k (a / 64) with
  | some b => b.getD (a % 64) 0
  | none => memAt s.mem a
/-- A core's read of a place. -/
def State.coreRead (s : State) (id : CoreId) (c : Core) (p : Place) (n : Nat) : MemRes × State :=
  match p with
  | .ls o => (.ok (c.lsRead o n), s)
  | .rom o => (.ok ((List.range n).map fun i => Config.romByte (o + i)), s)
  | .fab a panel ca =>
    if hostBase ≤ a then let (b, s) := s.hostRead panel (a - hostBase) n; (.ok b, s)
    else if inRegs a n then let (b, s) := s.coreRegRead id a n; (.ok b, s)
    else match (if ca then cacheOf id else none) with
      | some k => s.cachedRead k a n
      | none =>
        match s.poison a n with
        | some e => (.error e, s)
        | none => (.ok (memRead s.mem a n), s)
/-- The bad word that a write of part of a word reads first (R409). -/
def State.writePoison (s : State) (p : Place) (n : Nat) : Option (Nat × Nat) :=
  match p with
  | .fab a _ _ => (s.poison a n).filter fun e => !decide (a ≤ e.2 ∧ e.2 + wordSpan e ≤ a + n)
  | _ => none
/-- A core's write to the fabric. -/
def State.coreWrite (s : State) (id : CoreId) (a panel : Nat) (l : List Byte) : State :=
  if hostBase ≤ a then s.hostWrite panel (a - hostBase) l
  else if inRegs a l.length then
    if [1, 2, 4, 8].contains l.length then s.regWrite (agentOf id) (a - regBase) l.length (leNat l)
    else (l.zipIdx).foldl (fun s e => s.regWrite (agentOf id) (a + e.2 - regBase) 1 e.1.toNat) s
  else (s.fabWrite a l).cacheStore id a l

/-! ### Bit spaces (R275 to R277) -/

/-- A bit of a bit space: of the core's private space, or of the global space. -/
inductive BitPlace where
  | own (i : Nat)
  | shared (i : Nat)
deriving DecidableEq, Repr

/-- The global bit window of the task on a Shuttle core: base and size. -/
def State.bitWin (s : State) (id : CoreId) : Nat × Nat :=
  match id with
  | .shuttle k =>
    match s.coreRuns k with
    | some (_, i) => (Tbl.at? s.panels.gbits i.panel).getD (0, 0)
    | none => (0, 0)
  | _ => (0, 0)
/-- The place of `n` bits from a bit address; none where the range leaves its space or window. -/
def State.bitPlace (s : State) (id : CoreId) (ba n : Nat) : Option BitPlace :=
  if ba < 2 ^ 20 then if ba + n ≤ 2 ^ 18 then some (.own ba) else none
  else
    let (base, size) := s.bitWin id
    if ba - 2 ^ 20 + n ≤ size then some (.shared (base + (ba - 2 ^ 20))) else none
/-- A set of numbers, rising, with one put in or taken out. -/
def setIn : List Nat → Nat → List Nat
  | [], i => [i]
  | a :: r, i => if i < a then i :: a :: r else if i = a then a :: r else a :: setIn r i
def setBit (l : List Nat) (i : Nat) (v : Bool) : List Nat := if v then setIn l i else l.filter (· ≠ i)
/-- `n` bits read from a place upward, each as a byte 0 or 1. -/
def State.bitRead (s : State) (c : Core) (p : BitPlace) (n : Nat) : List Byte :=
  (List.range n).map fun j =>
    match p with
    | .own i => if c.bits.contains (i + j) then 1 else 0
    | .shared i => if s.gbit.contains (i + j) then 1 else 0

/-! ### Windows of a core (R279, R280, R315) -/

/-- A window from its 32-byte descriptor. -/
def winOf (l : List Byte) : Win :=
  { vbase := dField l 0 6, target := dField l 8 6, size := dField l 16 6, rd := bitsAt (dField l 22 1) 0 1 == 1,
    wr := bitsAt (dField l 22 1) 1 1 == 1, ex := bitsAt (dField l 22 1) 2 1 == 1, ca := bitsAt (dField l 22 1) 3 1 == 1,
    panel := dField l 24 1 % 64 }
/-- The descriptor of a window. -/
def Win.desc (w : Win) : List Byte :=
  natLE 6 w.vbase ++ natLE 2 0 ++ natLE 6 w.target ++ natLE 2 0 ++ natLE 6 w.size ++
    natLE 1 (w.rd.toNat + 2 * w.wr.toNat + 4 * w.ex.toNat + 8 * w.ca.toNat) ++ natLE 1 0 ++ natLE 1 w.panel ++ natLE 7 0
/-- A window that is off. -/
def winOff : Win := { vbase := 0, target := 0, size := 0, rd := false, wr := false, ex := false, ca := false, panel := 0 }
/-- Whether a descriptor sets a reserved bit. -/
def winReserved (l : List Byte) : Bool :=
  dField l 0 2 != 0 || dField l 6 2 != 0 || dField l 8 2 != 0 || dField l 14 2 != 0 || dField l 16 2 != 0 ||
    16 ≤ dField l 22 1 || dField l 23 1 != 0 || 64 ≤ dField l 24 1 || dField l 25 7 != 0
/-- Whether two windows overlap; one that is off overlaps none. -/
def Win.meets (a b : Win) : Bool :=
  decide (a.size ≠ 0 ∧ b.size ≠ 0 ∧ a.vbase < b.vbase + b.size ∧ b.vbase < a.vbase + a.size)
/-- Whether a window lies in the resources of its panel, with the permissions each allows (19_trust_pattern.md R470). With PANEL 0 it is a
window of the device itself, which reaches all memory (R468; log entry 61). -/
def State.winMay (s : State) (w : Win) : Bool :=
  let holds (b n : Nat) : Bool := decide (b ≤ w.target ∧ w.target + w.size ≤ b + n)
  let (m, n) := s.slmOf w.panel
  w.panel == 0 || (holds m n && !w.ex) || (s.nvme.progs.any fun e => e.2.panel == w.panel && holds e.2.addr e.2.len && !w.wr && !w.ca) ||
    (holds (stgBase + 0x200000) (31 * 0x200000) && !w.ex && !w.ca) || (holds hostBase (2 ^ 47) && !w.ex && !w.ca)
/-- Whether WINSET refuses a descriptor for window `n` of a core (R280). -/
def State.winRefused (s : State) (c : Core) (n : Nat) (l : List Byte) : Bool :=
  let w := winOf l
  winReserved l || decide (2 ^ 47 < w.vbase + w.size ∨ 2 ^ 48 < w.target + w.size) ||
    (c.wins.any fun e => e.1 ≠ n ∧ e.2.meets w = true) || (w.size != 0 && !s.winMay w)

end Sys2Proof.Machine
end

