-- ==== Sys2Proof/Machine/Flags.lean ====
section
/-!
DEFINITION. Sys2Proof/Machine/Flags.lean: the PSW and the flags that Agrek instructions compute (10_agrek_model.md R266, R267;
11_agrek_instructions.md R299 to R302, R307).
-/

namespace Sys2Proof.Machine

/-- The flags an instruction writes; none leaves a flag unchanged. -/
structure FlagW where
  c : Option Bool := none
  z : Option Bool := none
  n : Option Bool := none
  v : Option Bool := none
  d : Option Bool := none
deriving DecidableEq, Repr

/-! ### PSW -/

/-- The bits of the PSW by number. -/
def Psw.c : Nat := 0
def Psw.z : Nat := 1
def Psw.n : Nat := 2
def Psw.v : Nat := 3
def Psw.d : Nat := 4
def Psw.vt : Nat := 5
def Psw.dt : Nat := 6
def Psw.pf : Nat := 7
def Psw.zn : Nat := 8
def Psw.ie : Nat := 9
def Psw.tr : Nat := 10

/-- A flag written where the instruction writes it. -/
def pswPut (psw bit : Nat) : Option Bool → Nat
  | none => psw
  | some b => bitPut psw bit b
/-- The flags of an instruction put into the PSW. -/
def FlagW.into (f : FlagW) (psw : Nat) : Nat :=
  pswPut (pswPut (pswPut (pswPut (pswPut psw Psw.c f.c) Psw.z f.z) Psw.n f.n) Psw.v f.v) Psw.d f.d
/-- The PSW after a write of it: the fields that the level may write (R266, R267): not IE and TR at level task, never LEVEL and the
reserved bits. -/
def pswWritten (level old new : Nat) : Nat :=
  let low := if level = 0 then 9 else 11
  bitsPut old 0 low new

/-! ### Integer results (R299 to R302) -/

/-- N and Z of a result of `w` bits, with C and V. -/
def flagsOf (w r : Nat) (c v : Option Bool) : FlagW := { c := c, v := v, n := some (r.testBit (w - 1)), z := some (r == 0) }
/-- Whether an integer lies outside the signed range of `w` bits. -/
def outOfSigned (w : Nat) (x : Int) : Bool := decide (x < -(2 ^ (w - 1) : Int) ∨ (2 ^ (w - 1) : Int) ≤ x)

/-- A result with its flags. -/
abbrev ResF := Nat × FlagW

/-- MOV, and the results that keep C and clear V. -/
def aluMov (w x : Nat) : ResF := (x, flagsOf w x none (some false))
/-- dst + src + carry. -/
def aluAdd (w a b cin : Nat) : ResF :=
  let r := (a + b + cin) % 2 ^ w
  (r, flagsOf w r (some (decide (2 ^ w ≤ a + b + cin))) (some (outOfSigned w (toSigned w a + toSigned w b + cin))))
/-- dst − src − borrow. -/
def aluSub (w a b cin : Nat) : ResF :=
  let r := (a + 2 * 2 ^ w - b - cin) % 2 ^ w
  (r, flagsOf w r (some (decide (a < b + cin))) (some (outOfSigned w (toSigned w a - toSigned w b - cin))))
/-- MUL: the low bits of the signed product. -/
def aluMul (w a b : Nat) : ResF :=
  let p := toSigned w a * toSigned w b
  let r := ofSigned w p
  (r, flagsOf w r none (some (outOfSigned w p)))
/-- DIV, truncated toward zero; the most negative value by −1 is itself with V. -/
def aluDiv (w a b : Nat) : ResF :=
  let q := Int.tdiv (toSigned w a) (toSigned w b)
  let r := ofSigned w q
  (r, flagsOf w r none (some (outOfSigned w q)))
/-- REM, with the sign of dst. -/
def aluRem (w a b : Nat) : ResF :=
  let r := ofSigned w (Int.tmod (toSigned w a) (toSigned w b))
  (r, flagsOf w r none (some false))

/-- SHL and SHR: C is the last bit shifted out, 0 when the count exceeds the width. -/
def aluShl (w x n : Nat) : ResF :=
  let r := if n < w then x * 2 ^ n % 2 ^ w else 0
  if n = 0 then (x, flagsOf w x none none) else (r, flagsOf w r (some (decide (n ≤ w) && x.testBit (w - n))) (some false))
def aluShr (w x n : Nat) : ResF :=
  let r := x / 2 ^ n
  if n = 0 then (x, flagsOf w x none none) else (r, flagsOf w r (some (x.testBit (n - 1))) (some false))
/-- SAL: V when the exact product lies outside the signed range. -/
def aluSal (w x n : Nat) : ResF :=
  if n = 0 then (x, flagsOf w x none none)
  else
    let r := if n < w then x * 2 ^ n % 2 ^ w else 0
    (r, flagsOf w r (some (decide (n ≤ w) && x.testBit (w - n))) (some (outOfSigned w (toSigned w x * 2 ^ n))))
/-- SAR: C is the last bit shifted out, the sign when the count is the width or more. -/
def aluSar (w x n : Nat) : ResF :=
  if n = 0 then (x, flagsOf w x none none)
  else
    let r := ofSigned w (Int.fdiv (toSigned w x) (2 ^ n))
    (r, flagsOf w r (some (x.testBit (min (n - 1) (w - 1)))) (some false))
/-- ROL and ROR by the count modulo the width. -/
def aluRol (w x n : Nat) : ResF :=
  let m := n % w
  let r := (x * 2 ^ m + x / 2 ^ (w - m)) % 2 ^ w
  if m = 0 then (x, flagsOf w x none none) else (r, flagsOf w r (some (r.testBit 0)) (some false))
def aluRor (w x n : Nat) : ResF :=
  let m := n % w
  let r := (x / 2 ^ m + x * 2 ^ (w - m)) % 2 ^ w
  if m = 0 then (x, flagsOf w x none none) else (r, flagsOf w r (some (r.testBit (w - 1))) (some false))

/-! ### Decimal results (R273, R304, R307) -/

/-- A decimal value cut to `n` digits: the magnitude kept, its sign (a zero is positive), and whether digits were lost. -/
def cutDigits (n : Nat) (v : Int) : Nat × Bool × Bool :=
  let m := v.natAbs % 10 ^ n
  (m, decide (v < 0) && m != 0, decide (10 ^ n ≤ v.natAbs))
/-- The sign nibble of a result under PSW.PF. -/
def signNibble (psw : Nat) (neg : Bool) : Nat := if neg then 0xD else if psw.testBit Psw.pf then 0xF else 0xC
/-- A decimal result of `len` bytes, with the flags of R307. -/
def decResult (zoned : Bool) (psw len : Nat) (v : Int) : List Byte × FlagW :=
  let digits := if zoned then len else 2 * len - 1
  let (m, neg, lost) := cutDigits digits v
  let bytes := if zoned then zonedOf len m (if psw.testBit Psw.zn then 3 else 0xF) (signNibble psw neg)
    else packedOf len m (signNibble psw neg)
  (bytes, { n := some neg, z := some (m == 0), v := some false, d := some lost })
/-- The flags of DCMP and ZCMP. -/
def decCompare (a b : Int) : FlagW := { n := some (decide (a < b)), z := some (decide (a = b)), v := some false, c := some false }
/-- A value divided by a power of ten, rounded half away from zero. -/
def shiftRight10 (v : Int) (k : Nat) : Int :=
  let q := (v.natAbs + 5 * 10 ^ (k - 1)) / 10 ^ k
  if v < 0 then -(q : Int) else q

end Sys2Proof.Machine
end

