-- ==== Sys2Proof/Machine/Operands.lean ====
section
/-!
DEFINITION. Sys2Proof/Machine/Operands.lean: the operands of every Agrek instruction, their specifiers, and the checks on them
(10_agrek_model.md R281 to R289, R295 to R298; 11_agrek_instructions.md R303, R306, R308, R314 to R316, R320, R322).
-/

namespace Sys2Proof.Machine

/-! ### The operands of an instruction (R295, R297, R298) -/

/-- The type of an operand: an integer of `n` bytes, the length operand r.n, a decimal (zoned or packed, the second or the first of its
instruction), a bit, a bit field, a string, a block of `n` bytes, or a plain address. -/
inductive Ty where
  | int (n : Nat)
  | len
  | dec (zoned second : Bool)
  | bit
  | field
  | str
  | blk (n : Nat)
  | addr
deriving DecidableEq, Repr

/-- An operand of the opcode map: whether its bytes are read and written, whether its access is `a`, and its type. -/
structure Form where
  rd : Bool
  wr : Bool
  a  : Bool
  ty : Ty
deriving DecidableEq, Repr

def Form.r (t : Ty) : Form := ⟨true, false, false, t⟩
def Form.w (t : Ty) : Form := ⟨false, true, false, t⟩
def Form.m (t : Ty) : Form := ⟨true, true, false, t⟩
/-- An operand of access `a` whose bytes the instruction reads, writes, or leaves alone. -/
def Form.ar (t : Ty) : Form := ⟨true, false, true, t⟩
def Form.aw (t : Ty) : Form := ⟨false, true, true, t⟩
def Form.am (t : Ty) : Form := ⟨true, true, true, t⟩
def Form.at : Form := ⟨false, false, true, .addr⟩

/-- The bytes of an integer size. -/
def szBytes : Sz → Nat | .b => 1 | .h => 2 | .w => 4 | .l => 8
/-- A packed first or second decimal operand, and a zoned one. -/
def tp (second : Bool) : Ty := .dec false second
def tz (second : Bool) : Ty := .dec true second

/-- The operands of an instruction, in specifier order. -/
def formsOf (mn : Mn) (z : Sz) : List Form :=
  let x := Ty.int (szBytes z)
  let i := Ty.int
  match mn with
  | .mov | .neg | .not => [.r x, .w x]
  | .clr => [.w x]
  | .add | .sub | .adc | .sbc | .mul | .div | .divu | .rem | .remu | .and | .or | .xor | .andn => [.r x, .m x]
  | .shl | .shr | .sar | .sal | .rol | .ror => [.r (i 1), .m x]
  | .cmp => [.r x, .r x]
  | .tst => [.r x]
  | .inc | .dec => [.m x]
  | .xchg => [.m x, .m x]
  | .sxtbh => [.r (i 1), .w (i 2)]
  | .sxtbw => [.r (i 1), .w (i 4)]
  | .sxtbl | .zxtbl => [.r (i 1), .w (i 8)]
  | .sxthw => [.r (i 2), .w (i 4)]
  | .sxthl | .zxthl => [.r (i 2), .w (i 8)]
  | .sxtwl | .zxtwl => [.r (i 4), .w (i 8)]
  | .nrwlw => [.r (i 8), .w (i 4)]
  | .nrwlh => [.r (i 8), .w (i 2)]
  | .nrwlb => [.r (i 8), .w (i 1)]
  | .eal => [.at, .w (i 8)]
  | .pushe => [.at]
  | .push => [.r (i 8)]
  | .pop => [.w (i 8)]
  | .bset | .bclr | .bcom | .btas | .btac => [.m .bit]
  | .bmov => [.r .bit, .w .bit]
  | .btst => [.r .bit]
  | .band | .bor | .bxor => [.r .bit, .m .bit]
  | .bscan => [.ar .field, .r (i 4), .w (i 8)]
  | .bfex => [.ar .field, .r (i 1), .w (i 8)]
  | .bfin => [.r (i 8), .r (i 1), .aw .field]
  | .bbt | .bbf => [.r .bit, .at]
  | .dadd | .dsub | .dmul | .ddiv => [.r .len, .r (tp false), .m (tp true)]
  | .dmov => [.r .len, .r (tp false), .w (tp true)]
  | .dcmp => [.r .len, .r (tp false), .r (tp true)]
  | .dshf => [.r .len, .r (i 1), .m (tp false)]
  | .dtst => [.r .len, .r (tp false)]
  | .dtol => [.r .len, .r (tp false), .w (i 8)]
  | .ltod => [.r .len, .r (i 8), .w (tp false)]
  | .ztod => [.r .len, .r (tz false), .w (tp true)]
  | .dtoz => [.r .len, .r (tp false), .w (tz true)]
  | .zadd | .zsub => [.r .len, .r (tz false), .m (tz true)]
  | .zcmp => [.r .len, .r (tz false), .r (tz true)]
  | .zmov => [.r .len, .r (tz false), .w (tz true)]
  | .smov => [.r .len, .ar .str, .aw .str]
  | .sfil => [.r .len, .r (i 1), .aw .str]
  | .scmp => [.r .len, .ar .str, .ar .str]
  | .sxlt => [.r .len, .ar (.blk 256), .am .str]
  | .sfnd | .sskp => [.r .len, .r (i 1), .ar .str]
  | .sscn => [.r .len, .ar (.blk 256), .ar .str]
  | .scrc => [.r .len, .ar .str, .m (i 4)]
  | .br | .beq | .bne | .blt | .bge | .ble | .bgt | .bltu | .bgeu | .bleu | .bgtu | .bvs | .bvc | .bds | .call => [.at]
  | .dbp => [.m (i 4), .at]
  | .cas => [.r x, .m x, .m x]
  | .xadd => [.m x, .m x]
  | .post => [.ar (.blk 64), .w (i 4)]
  | .wcpl | .rcpl => [.w (i 8)]
  | .trap => [.r (i 1)]
  | .chkrd | .chkwr => [.at, .r .len]
  | .winset => [.r (i 1), .ar (.blk 32)]
  | .winget => [.r (i 1), .aw (.blk 32)]
  | .kload => [.r (i 2), .ar (.blk 64)]
  | .kzap => [.r (i 2)]
  | .nop | .halt | .ret | .rte | .fence | .exit | .yield | .wfi | .bkpt => []

/-- Whether the first operand is the length operand of a decimal or string instruction. -/
def hasLen (mn : Mn) : Bool := (formsOf mn .b).head? == some (.r .len)
/-- Whether the instruction is a string instruction. -/
def isStr (mn : Mn) : Bool := hasLen mn && (formsOf mn .b).any fun f => f.ty == .str
/-- Whether an opcode has two bytes, and whether its first is 0xFF (R298). -/
def escFE (mn : Mn) : Bool := [Mn.chkrd, .chkwr, .winset, .winget, .kload, .kzap].contains mn
def escFF (mn : Mn) : Bool := [Mn.nop, .halt, .ret, .rte, .fence, .exit, .yield, .wfi, .bkpt].contains mn
/-- The lowest level that may run an instruction: class T, F or W (R262, R297). -/
def classOf : Mn → Nat
  | .winget | .halt | .wfi => 1
  | .winset | .kload | .kzap => 2
  | _ => 0
/-- The opcodes that may not be repeated (R320). -/
def noRepeat : Mn → Bool
  | .bbt | .bbf | .br | .beq | .bne | .blt | .bge | .ble | .bgt | .bltu | .bgeu | .bleu | .bgtu | .bvs | .bvc | .bds
  | .call | .dbp | .trap => true
  | _ => false

/-! ### Specifiers (R281, R287) -/

/-- The bytes of a specifier. -/
def specLen : Spec → Nat
  | .imm4 _ | .postInc _ | .preDec _ | .reserved _ => 1
  | .disp8 _ _ | .index _ _ | .lsShort _ => 2
  | .disp16 _ _ | .memInd _ _ | .fpRel _ | .bitBase _ _ => 3
  | .bitAbs _ => 4
  | .abs32 _ | .disp32 _ _ | .pcRel _ => 5
  | .abs48 _ => 7
  | .imm l => 1 + l.length
/-- Whether a specifier is a reserved combination, at which the instruction ends. -/
def specReserved : Spec → Bool | .reserved _ => true | _ => false
/-- The bytes of a list of specifiers, up to the first reserved one. -/
def specsLen : List Spec → Nat
  | [] => 0
  | p :: r => if specReserved p then 1 else specLen p + specsLen r
/-- The bytes of an opcode. -/
def opcodeLen (mn : Mn) : Nat := if escFE mn ∨ escFF mn then 2 else 1
/-- The bytes of an instruction without its prefix. -/
def insnLen (i : AgInsn) : Nat := opcodeLen i.mn + specsLen i.ops

/-- Whether a specifier may stand for an operand, as far as its bits tell (R282, R285, R286). -/
def specLegal (f : Form) : Spec → Bool
  | .reserved _ => false
  | .imm4 v => f.rd && !f.wr && !f.a && (f.ty != .bit || decide (v < 2))
  | .imm l =>
    f.rd && !f.wr && !f.a &&
      (match f.ty with | .int n => l.length == n | .len => l.length == 2 | .dec _ _ => true | _ => false)
  | .bitAbs x => (f.ty == .bit || f.ty == .field) && decide (x < 2 ^ 21)
  | .bitBase _ _ => f.ty == .bit || f.ty == .field
  | .index _ x => f.ty != .bit && f.ty != .field && decide (x < 64) && (!x.testBit 5 || bitsAt x 3 2 == 0)
  | .postInc _ | .preDec _ => f.ty != .bit && f.ty != .field && (!f.a || f.ty == .str)
  | _ => f.ty != .bit && f.ty != .field

/-! ### Exceptions of an instruction (R322) -/

/-- An exception: its priority, the specifier that met it, its vector, INFO, and the bad word of a Machine Check. -/
structure Exc where
  prio : Nat
  idx  : Nat
  vec  : Nat
  info : Nat
  bad  : Option (Nat × Nat) := none
deriving DecidableEq, Repr

def Exc.machineCheck (idx : Nat) (e : Nat × Nat) : Exc := { prio := 1, idx := idx, vec := 1, info := e.2, bad := some e }
def Exc.fetch (a : Nat) : Exc := { prio := 2, idx := 0, vec := 2, info := a }
def Exc.opcode : Exc := { prio := 3, idx := 0, vec := 3, info := 0 }
def Exc.privileged : Exc := { prio := 4, idx := 0, vec := 4, info := 0 }
def Exc.operand (idx : Nat) : Exc := { prio := 5, idx := idx, vec := 5, info := idx }
def Exc.illegalRepeat : Exc := { prio := 6, idx := 0, vec := 6, info := 0 }
/-- Access Violation on an operand: kind 1 read, 2 write, 3 bit. -/
def Exc.access (idx kind a : Nat) : Exc := { prio := 7, idx := idx, vec := 2, info := kind * 2 ^ 48 + a }
def Exc.breakpoint : Exc := { prio := 8, idx := 0, vec := 7, info := 0 }
def Exc.data (idx a : Nat) : Exc := { prio := 9, idx := idx, vec := 8, info := a }
def Exc.divide : Exc := { prio := 10, idx := 0, vec := 9, info := 0 }

/-- The exception of several conditions that is raised: the lowest priority number, then the first specifier. -/
def firstExc (l : List Exc) : Option Exc := leastBy (fun e : Exc => e.prio * 16 + e.idx) l

/-! ### Phase 2 (R281, R283, R284, R290) -/

/-- Where an operand lies: an immediate's bytes with the address of its first, a short immediate, an address, a bit address, or nowhere
(its specifier met an exception). -/
inductive Loc where
  | imm (a : Nat) (bytes : List Byte)
  | short (v : Nat)
  | mem (a : Nat)
  | bit (a : Nat)
  | bad
deriving DecidableEq, Repr

/-- The evaluation of specifiers: the state and the core as left so far, the length operand, the operands, the exceptions met. -/
structure Ev where
  s    : State
  c    : Core
  n    : Nat
  locs : List Loc
  errs : List Exc

/-- The bytes of an operand; those of a decimal come from the length operand. -/
def Ty.bytes (t : Ty) (n : Nat) : Nat :=
  match t with
  | .int k => k
  | .len => 2
  | .dec _ second => if second then n / 256 else n % 256
  | .str => n
  | .blk k => k
  | .bit | .field | .addr => 0

/-- An address plus a two's complement displacement of `w` bits. -/
def addDisp (a w d : Nat) : Nat := ofSigned 48 ((a : Int) + toSigned w d)

/-- An operand put after those before it. -/
def Ev.put (e : Ev) (l : Loc) : Ev := { e with locs := e.locs ++ [l] }
/-- An operand that met an exception. -/
def Ev.fail (e : Ev) (x : Exc) : Ev := { e with locs := e.locs ++ [.bad], errs := e.errs ++ [x] }

/-- The pointer of MODE 0xA, read as data of the instruction. -/
def Ev.pointer (e : Ev) (id : CoreId) (j a : Nat) : Ev :=
  match placeOf id e.c a 8 .rd with
  | none => e.fail (Exc.access j 1 a)
  | some p =>
    match e.s.coreRead id e.c p 8 with
    | (.ok b, s) => { e with s := s }.put (.mem (addr48 (leNat b)))
    | (.error w, _) => e.fail (Exc.machineCheck j w)

/-- The scale of a scaled index with SZ: the operand's length, which the spec does not state for a plain address (log entry 64). -/
def Ev.scale (e : Ev) (f : Form) (x : Nat) : Nat × State :=
  if x.testBit 5 then
    if f.ty = .addr then e.s.drawFree 48 else (f.ty.bytes e.n, e.s)
  else (2 ^ bitsAt x 3 2, e.s)

/-- One specifier evaluated; `pc` is the instruction's first byte and `at_` the specifier's. -/
def Ev.spec (e : Ev) (id : CoreId) (pc at_ j : Nat) (f : Form) (p : Spec) : Ev :=
  let b (n : Nat) : Nat := addr48 (e.c.breg n)
  match p with
  | .imm4 v => e.put (.short v)
  | .imm l =>
    let short := match f.ty with | .dec _ _ => l.length != f.ty.bytes e.n | _ => false
    if short then e.fail (Exc.operand j) else e.put (.imm (at_ + 1) l)
  | .abs32 a | .abs48 a => e.put (.mem a)
  | .disp8 n d => e.put (.mem (addDisp (b n) 8 d))
  | .disp16 n d => e.put (.mem (addDisp (b n) 16 d))
  | .disp32 n d => e.put (.mem (addDisp (b n) 32 d))
  | .index n x =>
    let (k, s) := e.scale f x
    { e with s := s }.put (.mem (ofSigned 48 ((b n : Int) + toSigned 48 (b (x % 8)) * k)))
  | .postInc n => { e with c := e.c.setB n (e.c.breg n + f.ty.bytes e.n) }.put (.mem (b n))
  | .preDec n =>
    let v := e.c.breg n + 2 ^ 64 - f.ty.bytes e.n
    { e with c := e.c.setB n v }.put (.mem (addr48 v))
  | .memInd n d => e.pointer id j (addDisp (b n) 16 d)
  | .pcRel d => e.put (.mem (addDisp pc 32 d))
  | .fpRel d => e.put (.mem (addDisp (addr48 e.c.fp.toNat) 16 d))
  | .bitAbs x => e.put (.bit x)
  | .bitBase n d => e.put (.bit (ofSigned 21 (((e.c.breg n % 2 ^ 21 : Nat) : Int) + toSigned 16 d)))
  | .lsShort o => e.put (.mem (lsBase + o))
  | .reserved _ => e.fail (Exc.operand j)

/-! ### Values of operands -/

/-- The bytes of an operand of `len` bytes: read from its place, or of an immediate; `idx` is its specifier. -/
def readLoc (s : State) (id : CoreId) (c : Core) (idx : Nat) (t : Ty) (l : Loc) (len : Nat) : Except Exc (List Byte) × State :=
  match l with
  | .imm _ b => (.ok b, s)
  | .short v => (.ok (natLE (if t = .bit then 1 else max len 1) v), s)
  | .mem a =>
    if len = 0 then (.ok [], s)
    else
      match placeOf id c a len .rd with
      | none => (.error (Exc.access idx 1 a), s)
      | some p =>
        match s.coreRead id c p len with
        | (.ok b, s) => (.ok b, s)
        | (.error e, s) => (.error (Exc.machineCheck idx e), s)
  | .bit a =>
    match s.bitPlace id a len with
    | some p => (.ok (s.bitRead c p len), s)
    | none => (.error (Exc.access idx 3 a), s)
  | .bad => (.ok [], s)

/-- The specifiers that the length operand's value makes illegal: its own where a byte that belongs to no decimal is not 0, and each decimal
whose length is out of its type's range (R289; log entry 65). A short immediate ignores its length (R286). -/
def lenIllegal (forms : List Form) (ops : List Spec) (n : Nat) : List Nat :=
  let used (second : Bool) : Bool := forms.any fun f => match f.ty with | .dec _ b => b == second | _ => false
  (if 256 ≤ n ∧ used true = false then [0] else []) ++
    ((forms.zip ops).zipIdx.filter fun e =>
      match e.1.1.ty, e.1.2 with
      | .dec _ _, .imm4 _ => false
      | .dec zoned second, _ =>
        let k := Ty.bytes (.dec zoned second) n
        decide (k = 0 ∨ (if zoned then 31 else 16) < k)
      | _, _ => false).map (·.2)

/-- The length operand of a decimal or string instruction read, as soon as its specifier is evaluated (log entry 65). -/
def Ev.readLen (e : Ev) (id : CoreId) (mn : Mn) (forms : List Form) (ops : List Spec) : Ev :=
  match e.locs with
  | [l] =>
    match readLoc e.s id e.c 0 .len l 2 with
    | (.ok b, s) =>
      let n := leNat b
      let bad := if isStr mn then [] else lenIllegal forms ops n
      { e with s := s, n := n, errs := e.errs ++ bad.map Exc.operand }
    | (.error x, _) => { e with errs := e.errs ++ [x] }
  | _ => e

/-- The specifiers evaluated in order. -/
def evalSpecs (id : CoreId) (pc : Nat) (mn : Mn) (forms : List Form) (all : List Spec) : Nat → Nat → List (Form × Spec) → Ev → Ev
  | _, _, [], e => e
  | j, at_, (f, p) :: r, e =>
    let e := e.spec id pc at_ j f p
    let e := if j = 0 ∧ hasLen mn then e.readLen id mn forms all else e
    evalSpecs id pc mn forms all (j + 1) (at_ + specLen p) r e

/-! ### Checks on the evaluated operands -/

/-- The bytes that an operand covers; the table of a string instruction is not touched where the length is 0 (R308). -/
def coverOf (mn : Mn) (f : Form) (n : Nat) : Nat :=
  match f.ty with
  | .blk k => if isStr mn ∧ n = 0 then 0 else k
  | .bit => 1
  | t => t.bytes n

/-- Whether an address range touches register slot `j` of the register block (R265). -/
def namesSlot (a len j : Nat) : Bool := decide (len ≠ 0 ∧ a < lsBase + 8 * j + 8 ∧ lsBase + 8 * j < a + len)
/-- Whether an operand of a repeated instruction names RCNT, or is written and names PSW or PC (R320). -/
def repeatNames (f : Form) (l : Loc) (len : Nat) : Bool :=
  match l with
  | .mem a => namesSlot a len 10 || (f.wr && (namesSlot a len 8 || namesSlot a len 9))
  | _ => false

/-- The access rights of an operand (phase 3). -/
def rightsExc (s : State) (id : CoreId) (c : Core) (idx : Nat) (f : Form) (l : Loc) (len : Nat) : List Exc :=
  if len = 0 then []
  else
    match l with
    | .mem a =>
      (if f.rd && (placeOf id c a len .rd).isNone then [Exc.access idx 1 a] else []) ++
        (if f.wr && (placeOf id c a len .wr).isNone then [Exc.access idx 2 a] else [])
    | .bit a => if (s.bitPlace id a len).isNone then [Exc.access idx 3 a] else []
    | _ => []

/-- Whether two operands overlap in memory. -/
def locsMeet (l m : Loc) (len : Nat) : Bool :=
  match l, m with
  | .mem a, .mem b => decide (a < b + len ∧ b < a + len)
  | _, _ => false
/-- Whether an operand's address is a multiple of `n`. -/
def locAligned (l : Loc) (n : Nat) : Bool := match l with | .mem a => a % n == 0 | _ => true

/-- The Illegal Operand conditions on addresses and values (R269, R303, R306, R314 to R316): the specifier that meets one. `val` gives the
value of an operand that can be read. -/
def valueIllegal (mn : Mn) (z : Sz) (locs : List Loc) (val : Nat → Option Nat) : List Nat :=
  let loc (i : Nat) : Loc := locs.getD i .bad
  let bad (i : Nat) (c : Nat → Bool) : List Nat := match val i with | some v => if c v then [i] else [] | none => []
  let k := szBytes z
  match mn with
  | .bfex | .bfin => bad 1 fun v => v == 0 || decide (64 < v)
  | .dshf => bad 1 fun v => decide (31 < v ∧ v < 225)
  | .winset | .winget => bad 0 fun v => decide (15 < v)
  | .kload | .kzap => bad 0 fun v => decide (1023 < v)
  | .post => if locAligned (loc 0) 64 then [] else [0]
  | .cas => (if locsMeet (loc 1) (loc 2) k then [1] else []) ++ (if locAligned (loc 2) k then [] else [2])
  | .xadd => (if locsMeet (loc 0) (loc 1) k then [0] else []) ++ (if locAligned (loc 1) k then [] else [1])
  | _ => []

/-- The bits of a field operand: the width, or the count of BSCAN. -/
def fieldBits (mn : Mn) (val : Nat → Option Nat) : Nat :=
  match mn with
  | .bscan | .bfex | .bfin => (val 1).getD 0
  | _ => 0

end Sys2Proof.Machine
end

