-- ==== Sys2Proof/Machine/AgrekRun.lean ====
section
/-!
DEFINITION. Sys2Proof/Machine/AgrekRun.lean: how an Agrek instruction runs: fetch and decode checks, the five phases, exceptions and their
entry, traps, repeat prefixes, interrupts (10_agrek_model.md R262, R264, R266, R288, R290 to R294; 11_agrek_instructions.md R318 to R324;
21_register_pages.md R510; 12_shuttle_spool.md R329, R337; 16_memory_integrity.md R408).
-/

namespace Sys2Proof.Machine

/-! ### What an instruction computes with -/

/-- What an instruction's effect is computed from: the state, the core after phase 2, its size, the length operand, its operands' places,
lengths and values, the values at the stack, the instruction's address and the next one's. -/
structure AgIn where
  s    : State
  c    : Core
  id   : CoreId
  z    : Sz
  n    : Nat
  locs : List Loc
  lens : List Nat
  vals : List (List Byte)
  stk  : List Byte
  pc   : Nat
  next : Nat

/-- The value of an operand. -/
def AgIn.v (x : AgIn) (i : Nat) : Nat := leNat (x.vals.getD i [])
/-- The bytes of an operand. -/
def AgIn.bytes (x : AgIn) (i : Nat) : List Byte := x.vals.getD i []
/-- The address of an operand. -/
def AgIn.ea (x : AgIn) (i : Nat) : Nat := match x.locs.getD i .bad with | .mem a => a | .bit a => a | _ => 0
/-- The width of the instruction's integers in bits. -/
def AgIn.w (x : AgIn) : Nat := 8 * szBytes x.z

/-- What an instruction leaves: the state and the core before the operands are written, the operands' bytes, its flags, a jump, a PSW
restored by RTE, a trap of TRAP, a long to push, whether its V raises no trap (WINSET), and what follows the writes. -/
structure AgOut where
  s     : State
  c     : Core
  outs  : List (Nat × List Byte) := []
  flags : FlagW := {}
  jump  : Option Nat := none
  psw   : Option Nat := none
  trap  : Option Nat := none
  push  : Option Nat := none
  quiet : Bool := false
  fin   : State → State := id

/-- The outcome of phases 4 and 5: an exception, a wait, or completion. -/
inductive AgRes where
  | exc (e : Exc)
  | wait
  | done (o : AgOut)

/-- Completion with nothing changed but the flags and the operands' bytes. -/
def AgIn.out (x : AgIn) (outs : List (Nat × List Byte)) (flags : FlagW) : AgRes :=
  .done { s := x.s, c := x.c, outs := outs, flags := flags }

/-- The effect of an instruction. -/
abbrev Sem := AgIn → AgRes

/-! ### The stack (R264) -/

/-- What an instruction does at the stack: 1 pushes a long, 2 reads one at B7, 3 reads two at B7 + 8 (RTE). -/
def stackUse : Mn → Nat
  | .pushe | .push | .call => 1
  | .pop | .ret => 2
  | .rte => 3
  | _ => 0
/-- The stack access of an instruction: address, length, need. -/
def stackSpan (mn : Mn) (c : Core) : Option (Nat × Nat × Need) :=
  match stackUse mn with
  | 1 => some (addr48 (c.breg 7 + 2 ^ 64 - 8), 8, .wr)
  | 2 => some (addr48 (c.breg 7), 8, .rd)
  | 3 => some (addr48 (c.breg 7 + 8), 16, .rd)
  | _ => none

/-! ### Writing operands (R266, R292) -/

/-- Bytes stored to local store: a write of the PSW changes the fields the level may write. -/
def Core.store (c : Core) (id : CoreId) (o : Nat) (l : List Byte) : Core :=
  let d := c.lsWrite o l
  { d with psw := pswWritten (levelOf id) c.psw d.psw }

/-- What the writes of an instruction have done: the core, the fabric writes in order, whether the PC and the PSW were written. -/
structure Wr where
  c     : Core
  fab   : List (Nat × Nat × List Byte)
  pcW   : Bool
  pswW  : Bool
  gbits : List (Nat × Bool)

/-- One operand written; of no bytes, nothing (R308). -/
def Wr.put (w : Wr) (s : State) (id : CoreId) (l : Loc) (b : List Byte) : Wr :=
  match l with
  | .mem a =>
    match (if b = [] then none else placeOf id w.c a b.length .wr) with
    | some (.ls o) =>
      { w with c := w.c.store id o b, pcW := w.pcW || namesSlot a b.length 8, pswW := w.pswW || namesSlot a b.length 9 }
    | some (.fab f p _) => { w with fab := w.fab ++ [(f, p, b)] }
    | _ => w
  | .bit a =>
    match s.bitPlace id a b.length with
    | some (.own i) => { w with c := { w.c with bits := (b.zipIdx).foldl (fun l e => setBit l (i + e.2) (e.1 != 0)) w.c.bits } }
    | some (.shared i) => { w with gbits := w.gbits ++ (b.zipIdx).map fun e => (i + e.2, e.1 != 0) }
    | none => w
  | _ => w

/-! ### Where cores run -/

/-- The key of a core in the table of cores. -/
def keyOf (id : CoreId) : Nat := coreKey id
/-- Whether a core executes now: running, its cluster's clock not stopped for a relock (12_shuttle_spool.md R328), the device awake. -/
def State.coreRuns? (s : State) (id : CoreId) : Bool :=
  ((Tbl.at? s.cores (keyOf id)).map fun c => c.st == .run && !c.halted).getD false && s.powered &&
    (match s.power.seq with | .asleep _ => false | _ => true) &&
    (match id with
     | .shuttle k => ((Tbl.at? s.power.dvfs (k / 4)).map fun d => d.phase != 2).getD true
     | _ => true)
/-- A change to a core that exists. -/
def State.updCore (s : State) (id : CoreId) (f : Core → Core) : State := { s with cores := Tbl.upd s.cores (keyOf id) f }

/-! ### Exceptions (R323, R324) -/

/-- The locks of a stopped Bobbin core released (21_register_pages.md R507). -/
def State.dropLocks (s : State) (ag : Agent) : State :=
  ((List.range 0x8E).filter fun p => s.rd p R.common_OWNER == agCode ag).foldl (fun (s : State) p => s.wr p R.common_OWNER 0) s
/-- A Bobbin core stopped, as CORE_HALT shows. -/
def State.haltBobbin (s : State) (n : Nat) : State :=
  let s := (s.updCore (.bobbin n) fun c => { c with st := .stopped, halted := true }).dropLocks (.bobbin n)
  (s.count P.bob 0x048).raise P.bob 0
/-- An exception without a handler: the task ends FAULTED, the Bobbin core stops, or Thimble is a device fault. -/
def State.noHandler (s : State) (id : CoreId) (vec info : Nat) : State :=
  match id with
  | .shuttle k => (((s.err (P.shc (k / 4)) 0x01 vec (info % 2 ^ 48)).raise (P.shc (k / 4)) 2)).endTask k Cs.faulted vec
  | .bobbin n => (s.err P.bob 0x01 n 0).haltBobbin n
  | .thimble => s.fault' 0x02 P.thm vec info

/-- A long pushed: the state, or the address of the Access Violation. -/
def State.pushLong (s : State) (id : CoreId) (v : Nat) : Except Nat State :=
  let c := s.core (keyOf id)
  let c := c.setB 7 (c.breg 7 + 2 ^ 64 - 8)
  let a := addr48 (c.breg 7)
  match placeOf id c a 8 .wr with
  | some (.ls o) => .ok (s.updCore id fun _ => c.store id o (natLE 8 v))
  | some (.fab f p _) => .ok ((s.updCore id fun _ => c).coreWrite id f p (natLE 8 v))
  | _ => .error a
/-- Entry to an exception: PSW, the saved PC and INFO pushed; IE and TR cleared; PC at the handler. -/
def State.enterExc (s : State) (id : CoreId) (vec info saved : Nat) : State :=
  let c := s.core (keyOf id)
  let handler := leNat (c.lsRead (0x100 + 8 * vec) 8) % 2 ^ 48
  if handler = 0 then s.noHandler id vec info
  else
    match ((s.pushLong id c.psw).bind fun s => s.pushLong id saved).bind fun s => s.pushLong id info with
    | .error a => s.noHandler id 2 (2 * 2 ^ 48 + a)
    | .ok s =>
      s.updCore id fun c =>
        { c with psw := bitPut (bitPut c.psw Psw.ie false) Psw.tr false, pc := handler, st := .run }

/-- A Machine Check: counted and captured; a device fault where the word is control memory, and on Bobbin and Thimble cores always. -/
def State.machineCheck (s : State) (id : CoreId) (e : Nat × Nat) : State :=
  if e.1 = P.glb ∧ e.2 < stgBase + 0x200000 then
    let (x, s) := s.drawFree 32
    (s.noteUe e.1 e.2 x).ueFault e.1 e.2
  else
    let s := s.noteBadRead e
    if isShuttle id then s else s.fault' 0x06 P.eic e.1 e.2
/-- A fault of an instruction: the state is as before it, and the exception is entered with the instruction's address. -/
def State.raiseExc (s : State) (id : CoreId) (x : Exc) : State :=
  let s := match x.bad with | some e => s.machineCheck id e | none => s
  if s.coreRuns? id then s.enterExc id x.vec x.info (s.core (keyOf id)).pc else s

/-- Traps taken after completion, in priority order, while the core runs on. -/
def State.takeTraps (s : State) (id : CoreId) (l : List (Nat × Nat)) : State :=
  l.foldl (fun s t => if s.coreRuns? id then s.enterExc id t.1 t.2 (s.core (keyOf id)).pc else s) s

/-! ### Phases 2 to 5 -/

/-- A byte of memory as a string instruction looks ahead; 0 where a look would change something. -/
def peekByte (s : State) (id : CoreId) (c : Core) (l : Loc) (len i : Nat) : Byte :=
  match l with
  | .mem a =>
    match placeOf id c a len .rd with
    | some (.ls o) => c.lsByte (o + i)
    | some (.rom o) => Config.romByte (o + i)
    | some (.fab f _ ca) => s.fabByte id ca (f + i)
    | none => 0
  | _ => 0
/-- Whether an operand lies in the register space. -/
def locInRegs (id : CoreId) (c : Core) (l : Loc) (len : Nat) : Bool :=
  match l with
  | .mem a => match placeOf id c a len .rd with | some (.fab f _ _) => inRegs f len | _ => false
  | _ => false
/-- How many bytes of its strings an instruction that stops at a byte examines (R293, R308). -/
def examined (s : State) (id : CoreId) (c : Core) (mn : Mn) (n : Nat) (locs : List Loc) : Nat :=
  let l (i : Nat) : Loc := locs.getD i .bad
  let stop (f : Nat → Bool) : Nat := match (List.range n).find? f with | some i => i + 1 | none => n
  if (l 1 :: [l 2]).any fun x => locInRegs id c x n then n
  else
    let key : Byte := (match l 1 with | .short v => BitVec.ofNat 8 v | .imm _ b => b.getD 0 0 | x => peekByte s id c x 1 0)
    match mn with
    | .scmp => stop fun i => peekByte s id c (l 1) n i != peekByte s id c (l 2) n i
    | .sfnd => stop fun i => peekByte s id c (l 2) n i == key
    | .sskp => stop fun i => peekByte s id c (l 2) n i != key
    | .sscn => stop fun i => peekByte s id c (l 1) 256 (peekByte s id c (l 2) n i).toNat != 0
    | _ => n

/-- The operands read, in specifier order, each for as many bytes as it reads. -/
def readAll (id : CoreId) (c : Core) : Nat → List (Form × Loc × Nat) → State → List (List Byte) → Except Exc (List (List Byte)) × State
  | _, [], s, acc => (.ok acc, s)
  | j, (f, l, len) :: r, s, acc =>
    if f.rd then
      match readLoc s id c j f.ty l len with
      | (.ok b, s) => readAll id c (j + 1) r s (acc ++ [b])
      | (.error e, s) => (.error e, s)
    else readAll id c (j + 1) r s (acc ++ [[]])

/-- The bad word that a write of part of a word would read first, as a Machine Check (R409). -/
def partExc (s : State) (id : CoreId) (c : Core) (idx : Nat) (f : Form) (l : Loc) (len : Nat) : List Exc :=
  match l with
  | .mem a =>
    if f.wr ∧ len ≠ 0 then
      match (placeOf id c a len .wr).bind fun p => s.writePoison p len with
      | some e => [Exc.machineCheck idx e]
      | none => []
    else []
  | _ => []

/-- Phase 5: the operands written in specifier order, then the flags, the PSW and the PC; then the fabric; then the traps of VT, DT and
TRAP. -/
def finishInsn (id : CoreId) (x : AgIn) (o : AgOut) : State × List (Nat × Nat) :=
  let o := match o.push with
    | some v => { o with c := o.c.setB 7 (o.c.breg 7 + 2 ^ 64 - 8), outs := o.outs ++ [(9, natLE 8 v)] }
    | none => o
  let loc (i : Nat) : Loc := if i = 9 then .mem (addr48 (o.c.breg 7)) else x.locs.getD i .bad
  let pswWas := x.c.psw
  let w0 : Wr := { c := { o.c with pc := x.pc }, fab := [], pcW := false, pswW := false, gbits := [] }
  let w := o.outs.foldl (fun w e => w.put o.s id (loc e.1) e.2) w0
  let psw := match o.psw with
    | some v => pswWritten (levelOf id) w.c.psw v
    | none => if w.pswW then w.c.psw else o.flags.into w.c.psw
  let pc := if w.pcW then w.c.pc else addr48 (o.jump.getD x.next)
  let c := { w.c with psw := psw, pc := pc }
  let s := { o.s with cores := Tbl.upd o.s.cores (keyOf id) fun _ => c
                      gbit := w.gbits.foldl (fun l e => setBit l e.1 e.2) o.s.gbit }
  let s := w.fab.foldl (fun (s : State) e => s.coreWrite id e.1 e.2.1 e.2.2) s
  let traps :=
    (if !w.pswW && !o.quiet && o.flags.v == some true && pswWas.testBit Psw.vt then [(10, 0)] else []) ++
      (if !w.pswW && o.flags.d == some true && pswWas.testBit Psw.dt then [(11, 0)] else []) ++
      (match o.trap with | some v => [(12, v)] | none => [])
  (s, traps)

/-- What one execution of an instruction comes to. -/
inductive Once where
  | exc (e : Exc)
  | wait
  | done (s : State) (traps : List (Nat × Nat)) (fin : State → State)

/-- Phases 1 to 4 of an instruction: its specifiers evaluated, its checks made, its operands read (those of an atomic one in memory itself); `next` is the address after it, `rep`
whether a prefix repeats it, and `len0` the bytes before its first specifier. -/
def State.operandsOf (s : State) (id : CoreId) (i : AgInsn) (rep : Bool) (next len0 : Nat) : Except Exc AgIn :=
  let forms := formsOf i.mn i.z
  let c0 := s.core (keyOf id)
  let e0 : Ev := { s := s, c := c0, n := 0, locs := [], errs := [] }
  let e := evalSpecs id c0.pc i.mn forms i.ops 0 (c0.pc + len0) (forms.zip i.ops) e0
  let c := e.c
  let rows := (forms.zip e.locs).zipIdx.map fun p => (p.2, p.1.1, p.1.2, coverOf i.mn p.1.1 e.n)
  let val (j : Nat) : Option Nat :=
    match rows.find? fun r => r.1 = j with
    | some (_, f, l, len) => match (readLoc e.s id c j f.ty l len).1 with | .ok b => some (leNat b) | .error _ => none
    | none => none
  let fb := fieldBits i.mn val
  let rows := rows.map fun r => (r.1, r.2.1, r.2.2.1, if r.2.1.ty = .field then fb else r.2.2.2)
  let bad := (valueIllegal i.mn i.z e.locs val).map Exc.operand
  let reps := if rep ∧ (rows.any fun r => repeatNames r.2.1 r.2.2.1 r.2.2.2) = true then [Exc.illegalRepeat] else []
  let rights := rows.flatMap fun r => rightsExc e.s id c r.1 r.2.1 r.2.2.1 r.2.2.2
  let stack := stackSpan i.mn c
  let stackExc := match stack with
    | some (a, n, need) => if (placeOf id c a n need).isNone then [Exc.access 3 (if need = .wr then 2 else 1) a] else []
    | none => []
  match firstExc (e.errs ++ bad ++ reps ++ rights ++ stackExc) with
  | some x => .error x
  | none =>
    let ex := examined e.s id c i.mn e.n e.locs
    let reads := rows.map fun r => (r.2.1, r.2.2.1, if r.2.1.ty = .str then min ex r.2.2.2 else r.2.2.2)
    let s0 := if i.mn = .cas ∨ i.mn = .xadd then e.s.dropLines id else e.s
    match readAll id c 0 reads s0 [] with
    | (.error x, _) => .error x
    | (.ok vals, s1) =>
      let stk : Except Exc (List Byte) × State := match stack with
        | some (a, n, .rd) => readLoc s1 id c 3 (.int 8) (.mem a) n
        | _ => (.ok [], s1)
      match stk with
      | (.error x, _) => .error x
      | (.ok stkB, s2) =>
        match firstExc (rows.flatMap fun r => partExc s2 id c r.1 r.2.1 r.2.2.1 r.2.2.2) with
        | some x => .error x
        | none =>
          .ok { s := s2, c := c, id := id, z := i.z, n := e.n, locs := e.locs, lens := rows.map fun r => r.2.2.2,
                vals := vals, stk := stkB, pc := c0.pc, next := next }

/-- An instruction executed once: phases 1 to 4, then its effect and phase 5. -/
def State.once (s : State) (id : CoreId) (i : AgInsn) (sem : Sem) (rep : Bool) (next len0 : Nat) : Once :=
  match s.operandsOf id i rep next len0 with
  | .error x => .exc x
  | .ok x =>
    match sem x with
    | .exc y => .exc y
    | .wait => .wait
    | .done o =>
      let (t, traps) := finishInsn id x o
      .done t traps o.fin

/-! ### One instruction as a command -/

/-- The repeat prefixes. -/
inductive Rp where
  | rep | repz | repnz | repu
deriving DecidableEq, Repr

/-- The checks of fetch and decode on `len` bytes at the PC: Access Violation and Machine Check at fetch, then what the decoder finds. -/
def State.fetchExc (s : State) (id : CoreId) (len : Nat) (found : List Exc) : Option Exc :=
  let c := s.core (keyOf id)
  match placeOf id c c.pc len .ex with
  | none => some (Exc.fetch c.pc)
  | some p =>
    let bad := match p with | .fab a _ _ => s.poison a len | _ => none
    match bad with
    | some e => some (Exc.machineCheck 0 e)
    | none => firstExc found
/-- What the decoder finds wrong with an instruction (R262, R282, R287): its class, and the first specifier whose bits may not stand for its
operand (log entry 66). -/
def decodeExc (id : CoreId) (i : AgInsn) : List Exc :=
  (if levelOf id < classOf i.mn then [Exc.privileged] else []) ++
    (match ((formsOf i.mn i.z).zip i.ops).zipIdx.find? fun p => !specLegal p.1.1 p.1.2 with | some p => [Exc.operand p.2] | none => [])
/-- Specifiers as many as the instruction has; one that is missing counts as reserved. -/
def fullInsn (i : AgInsn) : AgInsn :=
  { i with ops := (List.range (formsOf i.mn i.z).length).map fun j => i.ops.getD j (.reserved 0x18) }

/-- The Trace exception where PSW.TR was set before the instruction. -/
def traceTrap (psw : Nat) : List (Nat × Nat) := if psw.testBit Psw.tr then [(13, 0)] else []

/-- An instruction without a prefix executed by a core: nothing where the core does not run. -/
def State.agRun (s : State) (id : CoreId) (i : AgInsn) (sem : Sem) : State :=
  if !s.coreRuns? id then s
  else
    let i := fullInsn i
    let c := s.core (keyOf id)
    let len := insnLen i
    match s.fetchExc id len (decodeExc id i) with
    | some x => s.raiseExc id x
    | none =>
      match s.once id i sem false (addr48 (c.pc + len)) (opcodeLen i.mn) with
      | .exc x => s.raiseExc id x
      | .wait => s.updCore id fun c => { c with st := .waitCpl }
      | .done t traps fin => fin (t.takeTraps id (traps ++ traceTrap c.psw))

/-- One iteration of a repeated instruction, RCNT not 0: the state, and whether the repetition goes on. -/
def State.repOnce (s : State) (id : CoreId) (p : Rp) (i : AgInsn) (sem : Sem) (next : Nat) (tr : Nat) : State × Bool :=
  let c := s.core (keyOf id)
  match s.once id i sem true next (1 + opcodeLen i.mn) with
  | .exc x => (s.raiseExc id x, false)
  | .wait => (s.updCore id fun c => { c with st := .waitCpl }, false)
  | .done t traps fin =>
    let left := c.rcnt - 1
    let z := (t.core (keyOf id)).psw.testBit Psw.z
    let more := left != 0 && !(p == .repz && !z) && !(p == .repnz && z)
    let t := t.updCore id fun d => { d with rcnt := left, pc := if more then c.pc else d.pc }
    let traps := traps ++ (if more then [] else traceTrap tr)
    (fin (t.takeTraps id traps), more && traps == [])
/-- The iterations of REPU: it takes no interrupt until it ends. -/
def State.repAll (id : CoreId) (i : AgInsn) (sem : Sem) (next tr : Nat) : Nat → State → State
  | 0, s => s
  | fuel + 1, s =>
    if s.coreRuns? id then
      let (t, more) := s.repOnce id .repu i sem next tr
      if more then State.repAll id i sem next tr fuel t else t
    else s

/-- What the decoder finds wrong with a prefix before an instruction (R288, R319, R320). -/
def repeatExc (s : State) (id : CoreId) (p : Rp) (i : AgInsn) : List Exc :=
  if escFF i.mn then [Exc.opcode]
  else if noRepeat i.mn || (p == .repu && decide (256 < (s.core (keyOf id)).rcnt)) then [Exc.illegalRepeat] else []
/-- A repeated instruction: one iteration of REP, REPZ or REPNZ, after which an interrupt may be taken; REPU whole. -/
def State.agRep (s : State) (id : CoreId) (p : Rp) (i : AgInsn) (sem : Sem) : State :=
  if !s.coreRuns? id then s
  else
    let i := fullInsn i
    let c := s.core (keyOf id)
    let len := if escFF i.mn then 2 else 1 + insnLen i
    let next := addr48 (c.pc + len)
    match s.fetchExc id len (decodeExc id i ++ repeatExc s id p i) with
    | some x => s.raiseExc id x
    | none =>
      if c.rcnt = 0 then (s.updCore id fun c => { c with pc := next }).takeTraps id (traceTrap c.psw)
      else if p = .repu then State.repAll id i sem next c.psw 256 s
      else (s.repOnce id p i sem next c.psw).1

/-- An instruction that is no instruction: a reserved opcode, a prefix before a prefix or before 0xFF (R288). -/
def State.agIllegal (s : State) (id : CoreId) (len : Nat) : State :=
  if !s.coreRuns? id then s
  else match s.fetchExc id len [Exc.opcode] with
    | some x => s.raiseExc id x
    | none => s

/-! ### Interrupts (21_register_pages.md R510) -/

/-- The vectors pending for a core, each with the page that interrupts. -/
def State.pendingVecs (s : State) (id : CoreId) : List (Nat × Nat) :=
  ((List.range 0x8E).filter s.interrupts).filterMap fun p =>
    match id with
    | .bobbin n =>
      if s.rdI P.glb R.glb_BOB_EN p = 1 ∧ s.rdI P.glb R.glb_BOB_CORE p = n then some (16 + s.rdI P.glb R.glb_BOB_VEC p, p) else none
    | .thimble => if s.rdI P.glb R.glb_THM_EN p = 1 then some (16 + s.rdI P.glb R.glb_THM_VEC p, p) else none
    | .shuttle _ => none
/-- The interrupt taken first: the lowest vector, with its lowest page. -/
def State.nextVec (s : State) (id : CoreId) : Option (Nat × Nat) := leastBy (fun e : Nat × Nat => e.1 * 1024 + e.2) (s.pendingVecs id)

/-- INTERRUPT_ENTRY (R294, R322): the lowest pending vector, with IE = 1, between instructions or iterations, or in a wait; with IE = 0 a core
in WFI goes on. -/
def execInterruptEntry (c : CoreId) (s : State) : Host.Outcome State Fault Refusal :=
  .next (match s.nextVec c, Tbl.at? s.cores (keyOf c) with
    | some (v, p), some k =>
      let t := s.updCore c fun k => { k with st := .run }
      if k.st = .stopped ∨ k.halted = true ∨ t.coreRuns? c = false then s
      else if k.psw.testBit Psw.ie then t.enterExc c v p k.pc
      else if k.st = .waitInt then t
      else s
    | _, _ => s)

end Sys2Proof.Machine
end

