-- ==== Sys2Proof/Machine/AgrekBit.lean ====
section
/-!
DEFINITION. Sys2Proof/Machine/AgrekBit.lean: the bit instructions of Agrek (11_agrek_instructions.md R303).
-/

namespace Sys2Proof.Machine

/-! ### The effects -/

/-- Z set where a bit is 0. -/
def zIfZero (b : Bool) : FlagW := { z := some (!b) }
/-- The bit of an operand. -/
def AgIn.bit (x : AgIn) (i : Nat) : Bool := x.v i % 2 == 1
/-- A bit as an operand's byte. -/
def bitByte (b : Bool) : List Byte := [if b then 1 else 0]
/-- A bit changed; Z shows what it was. -/
def semBitChange (f : Bool → Bool) : Sem := fun x => x.out [(0, bitByte (f (x.bit 0)))] (zIfZero (x.bit 0))
def semBset : Sem := semBitChange fun _ => true
def semBclr : Sem := semBitChange fun _ => false
def semBcom : Sem := semBitChange fun b => !b
/-- A bit changed under a full fence (R313). -/
def semFenced (f : Sem) : Sem := fun x =>
  f { x with s := match x.id with | .shuttle k => x.s.count (P.shc (k / 4)) 0x068 | _ => x.s }
def semBtas : Sem := semFenced semBset
def semBtac : Sem := semFenced semBclr
def semBmov : Sem := fun x => x.out [(1, bitByte (x.bit 0))] (zIfZero (x.bit 0))
def semBtst : Sem := fun x => x.out [] (zIfZero (x.bit 0))
/-- Two bits combined into the second. -/
def semBitOp (f : Bool → Bool → Bool) : Sem := fun x =>
  let r := f (x.bit 1) (x.bit 0)
  x.out [(1, bitByte r)] (zIfZero r)
def semBand : Sem := semBitOp (· && ·)
def semBor : Sem := semBitOp (· || ·)
def semBxor : Sem := semBitOp fun a b => a != b
/-- BSCAN: the offset of the first 1 of the field, or its length. -/
def semBscan : Sem := fun x =>
  let r := (x.bytes 0).findIdx fun b => b != 0
  x.out [(2, natLE 8 r)] { z := some (decide ((x.bytes 0).length ≤ r)) }
/-- The number whose bit i is element i. -/
def bitsVal (l : List Byte) : Nat := l.foldr (fun b a => (if b = 0 then 0 else 1) + 2 * a) 0
def semBfex : Sem := fun x =>
  let r := bitsVal (x.bytes 0)
  x.out [(2, natLE 8 r)] { n := some false, z := some (r == 0) }
def semBfin : Sem := fun x =>
  x.out [(2, (List.range (x.lens.getD 2 0)).map fun i => if (x.v 0).testBit i then 1 else 0)] {}
/-- A branch on a bit. -/
def semBitBranch (on : Bool) : Sem := fun x => .done { s := x.s, c := x.c, jump := if x.bit 0 = on then some (x.ea 1) else none }

/-! ### The commands -/

/-- BSET. -/
def execBset (c : CoreId) (bit : Spec) (s : State) : Host.Outcome State Fault Refusal :=
  .next (s.agRun c ⟨.bset, .b, [bit]⟩ semBset)
/-- BCLR. -/
def execBclr (c : CoreId) (bit : Spec) (s : State) : Host.Outcome State Fault Refusal :=
  .next (s.agRun c ⟨.bclr, .b, [bit]⟩ semBclr)
/-- BCOM. -/
def execBcom (c : CoreId) (bit : Spec) (s : State) : Host.Outcome State Fault Refusal :=
  .next (s.agRun c ⟨.bcom, .b, [bit]⟩ semBcom)
/-- BMOV. -/
def execBmov (c : CoreId) (src dst : Spec) (s : State) : Host.Outcome State Fault Refusal :=
  .next (s.agRun c ⟨.bmov, .b, [src, dst]⟩ semBmov)
/-- BTST. -/
def execBtst (c : CoreId) (bit : Spec) (s : State) : Host.Outcome State Fault Refusal :=
  .next (s.agRun c ⟨.btst, .b, [bit]⟩ semBtst)
/-- BTAS: as BSET, with a full fence. -/
def execBtas (c : CoreId) (bit : Spec) (s : State) : Host.Outcome State Fault Refusal :=
  .next (s.agRun c ⟨.btas, .b, [bit]⟩ semBtas)
/-- BTAC: as BCLR, with a full fence. -/
def execBtac (c : CoreId) (bit : Spec) (s : State) : Host.Outcome State Fault Refusal :=
  .next (s.agRun c ⟨.btac, .b, [bit]⟩ semBtac)
/-- BAND. -/
def execBand (c : CoreId) (src dst : Spec) (s : State) : Host.Outcome State Fault Refusal :=
  .next (s.agRun c ⟨.band, .b, [src, dst]⟩ semBand)
/-- BOR. -/
def execBor (c : CoreId) (src dst : Spec) (s : State) : Host.Outcome State Fault Refusal :=
  .next (s.agRun c ⟨.bor, .b, [src, dst]⟩ semBor)
/-- BXOR. -/
def execBxor (c : CoreId) (src dst : Spec) (s : State) : Host.Outcome State Fault Refusal :=
  .next (s.agRun c ⟨.bxor, .b, [src, dst]⟩ semBxor)
/-- BSCAN. -/
def execBscan (c : CoreId) (field count dst : Spec) (s : State) : Host.Outcome State Fault Refusal :=
  .next (s.agRun c ⟨.bscan, .b, [field, count, dst]⟩ semBscan)
/-- BFEX: a field read. -/
def execBfex (c : CoreId) (field width dst : Spec) (s : State) : Host.Outcome State Fault Refusal :=
  .next (s.agRun c ⟨.bfex, .b, [field, width, dst]⟩ semBfex)
/-- BFIN: a field written. -/
def execBfin (c : CoreId) (src width field : Spec) (s : State) : Host.Outcome State Fault Refusal :=
  .next (s.agRun c ⟨.bfin, .b, [src, width, field]⟩ semBfin)
/-- BBT. -/
def execBbt (c : CoreId) (bit target : Spec) (s : State) : Host.Outcome State Fault Refusal :=
  .next (s.agRun c ⟨.bbt, .b, [bit, target]⟩ (semBitBranch true))
/-- BBF. -/
def execBbf (c : CoreId) (bit target : Spec) (s : State) : Host.Outcome State Fault Refusal :=
  .next (s.agRun c ⟨.bbf, .b, [bit, target]⟩ (semBitBranch false))

end Sys2Proof.Machine
end

