-- ==== Sys2Proof/Machine/AgrekDec.lean ====
section
/-!
DEFINITION. Sys2Proof/Machine/AgrekDec.lean: the decimal instructions of Agrek (10_agrek_model.md R270 to R273; 11_agrek_instructions.md
R301, R304 to R307).
-/

namespace Sys2Proof.Machine

/-! ### The effects -/

/-- Whether byte `k` of a decimal of `l.length` bytes is valid (R272). -/
def decByteOk (zoned : Bool) (l : List Byte) (k : Nat) : Bool :=
  let b := (l.getD k 0).toNat
  let lastOne := k + 1 == l.length
  if zoned then decide (b % 16 ≤ 9) && (!lastOne || (signOf true (b / 16)).isSome)
  else decide (b / 16 ≤ 9) && (if lastOne then (signOf false (b % 16)).isSome else decide (b % 16 ≤ 9))
/-- A decimal operand's value, or Data Check with the address of its first invalid byte. -/
def AgIn.dec (x : AgIn) (zoned : Bool) (i : Nat) : Except Exc Int :=
  let l := x.bytes i
  match x.locs.getD i .bad with
  | .short v => .ok v
  | loc =>
    match (List.range l.length).find? fun k => !decByteOk zoned l k with
    | some k => .error (Exc.data i ((match loc with | .mem a => a | .imm a _ => a | _ => 0) + k))
    | none => .ok (((if zoned then zonedVal l else packedVal l)).getD 0)
/-- A result written to a decimal operand, with the flags of R307. -/
def AgIn.decOut (x : AgIn) (zoned : Bool) (i : Nat) (v : Int) : AgRes :=
  let r := decResult zoned x.c.psw (x.lens.getD i 0) v
  x.out [(i, r.1)] r.2
/-- Two decimals combined into the second. -/
def semDec2 (zoned : Bool) (f : Int → Int → Int) : Sem := fun x =>
  match x.dec zoned 1, x.dec zoned 2 with
  | .error e, _ => .exc e
  | _, .error e => .exc e
  | .ok a, .ok b => x.decOut zoned 2 (f b a)
/-- The first decimal written to the second, in the second's form. -/
def semDecMove (fromZoned toZoned : Bool) : Sem := fun x =>
  match x.dec fromZoned 1 with
  | .error e => .exc e
  | .ok v => x.decOut toZoned 2 v
/-- Two decimals compared. -/
def semDecCmp (zoned : Bool) : Sem := fun x =>
  match x.dec zoned 1, x.dec zoned 2 with
  | .error e, _ => .exc e
  | _, .error e => .exc e
  | .ok a, .ok b => x.out [] (decCompare a b)
def semDadd : Sem := semDec2 false (· + ·)
def semDsub : Sem := semDec2 false (· - ·)
def semDmul : Sem := semDec2 false (· * ·)
/-- DDIV: truncated toward zero; Divide Check where the divisor is 0, after the checks of both operands. -/
def semDdiv : Sem := fun x =>
  match x.dec false 1, x.dec false 2 with
  | .error e, _ => .exc e
  | _, .error e => .exc e
  | .ok a, .ok b => if a = 0 then .exc Exc.divide else x.decOut false 2 (Int.tdiv b a)
/-- DSHF: a shift by the signed digit count (R306). -/
def semDshf : Sem := fun x =>
  match x.dec false 2 with
  | .error e => .exc e
  | .ok v =>
    let k := toSigned 8 (x.v 1)
    x.decOut false 2 (if 0 ≤ k then v * 10 ^ k.toNat else shiftRight10 v k.natAbs)
def semDtst : Sem := fun x =>
  match x.dec false 1 with
  | .error e => .exc e
  | .ok v => x.out [] { n := some (decide (v < 0)), z := some (decide (v = 0)) }
/-- DTOL: the low 64 bits in two's complement; V where the value lies outside (R307). -/
def semDtol : Sem := fun x =>
  match x.dec false 1 with
  | .error e => .exc e
  | .ok v =>
    let r := ofSigned 64 v
    x.out [(2, natLE 8 r)] (flagsOf 64 r none (some (outOfSigned 64 v)))
def semLtod : Sem := fun x => x.decOut false 2 (toSigned 64 (x.v 1))

/-! ### The commands -/

/-- DADD. -/
def execDadd (c : CoreId) (len src dst : Spec) (s : State) : Host.Outcome State Fault Refusal :=
  .next (s.agRun c ⟨.dadd, .b, [len, src, dst]⟩ semDadd)
/-- DSUB. -/
def execDsub (c : CoreId) (len src dst : Spec) (s : State) : Host.Outcome State Fault Refusal :=
  .next (s.agRun c ⟨.dsub, .b, [len, src, dst]⟩ semDsub)
/-- DMUL. -/
def execDmul (c : CoreId) (len src dst : Spec) (s : State) : Host.Outcome State Fault Refusal :=
  .next (s.agRun c ⟨.dmul, .b, [len, src, dst]⟩ semDmul)
/-- DDIV. -/
def execDdiv (c : CoreId) (len src dst : Spec) (s : State) : Host.Outcome State Fault Refusal :=
  .next (s.agRun c ⟨.ddiv, .b, [len, src, dst]⟩ semDdiv)
/-- DMOV. -/
def execDmov (c : CoreId) (len src dst : Spec) (s : State) : Host.Outcome State Fault Refusal :=
  .next (s.agRun c ⟨.dmov, .b, [len, src, dst]⟩ (semDecMove false false))
/-- DCMP. -/
def execDcmp (c : CoreId) (len src dst : Spec) (s : State) : Host.Outcome State Fault Refusal :=
  .next (s.agRun c ⟨.dcmp, .b, [len, src, dst]⟩ (semDecCmp false))
/-- DSHF. -/
def execDshf (c : CoreId) (len shift dst : Spec) (s : State) : Host.Outcome State Fault Refusal :=
  .next (s.agRun c ⟨.dshf, .b, [len, shift, dst]⟩ semDshf)
/-- DTST. -/
def execDtst (c : CoreId) (len src : Spec) (s : State) : Host.Outcome State Fault Refusal :=
  .next (s.agRun c ⟨.dtst, .b, [len, src]⟩ semDtst)
/-- DTOL. -/
def execDtol (c : CoreId) (len src dst : Spec) (s : State) : Host.Outcome State Fault Refusal :=
  .next (s.agRun c ⟨.dtol, .b, [len, src, dst]⟩ semDtol)
/-- LTOD. -/
def execLtod (c : CoreId) (len src dst : Spec) (s : State) : Host.Outcome State Fault Refusal :=
  .next (s.agRun c ⟨.ltod, .b, [len, src, dst]⟩ semLtod)
/-- ZTOD. -/
def execZtod (c : CoreId) (len src dst : Spec) (s : State) : Host.Outcome State Fault Refusal :=
  .next (s.agRun c ⟨.ztod, .b, [len, src, dst]⟩ (semDecMove true false))
/-- DTOZ. -/
def execDtoz (c : CoreId) (len src dst : Spec) (s : State) : Host.Outcome State Fault Refusal :=
  .next (s.agRun c ⟨.dtoz, .b, [len, src, dst]⟩ (semDecMove false true))
/-- ZADD. -/
def execZadd (c : CoreId) (len src dst : Spec) (s : State) : Host.Outcome State Fault Refusal :=
  .next (s.agRun c ⟨.zadd, .b, [len, src, dst]⟩ (semDec2 true (· + ·)))
/-- ZSUB. -/
def execZsub (c : CoreId) (len src dst : Spec) (s : State) : Host.Outcome State Fault Refusal :=
  .next (s.agRun c ⟨.zsub, .b, [len, src, dst]⟩ (semDec2 true (· - ·)))
/-- ZCMP. -/
def execZcmp (c : CoreId) (len src dst : Spec) (s : State) : Host.Outcome State Fault Refusal :=
  .next (s.agRun c ⟨.zcmp, .b, [len, src, dst]⟩ (semDecCmp true))
/-- ZMOV. -/
def execZmov (c : CoreId) (len src dst : Spec) (s : State) : Host.Outcome State Fault Refusal :=
  .next (s.agRun c ⟨.zmov, .b, [len, src, dst]⟩ (semDecMove true true))

end Sys2Proof.Machine
end

