-- ==== Sys2Proof/Machine/AgrekInt.lean ====
section
/-!
DEFINITION. Sys2Proof/Machine/AgrekInt.lean: the integer instructions of Agrek (11_agrek_instructions.md R300 to R302) and the atomic ones
(R313, R314).
-/

namespace Sys2Proof.Machine

/-! ### The effects -/

/-- A result written to the last operand. -/
def AgIn.last (x : AgIn) (i : Nat) (r : ResF) : AgRes := x.out [(i, natLE (x.lens.getD i 0) r.1)] r.2
/-- One source, one destination. -/
def sem1 (f : Nat → Nat → ResF) : Sem := fun x => x.last 1 (f x.w (x.v 0))
/-- Source and destination: the destination's value is the first argument. -/
def sem2 (f : Nat → Nat → Nat → ResF) : Sem := fun x => x.last 1 (f x.w (x.v 1) (x.v 0))
/-- A division: Divide Check where the divisor is 0 (R301). -/
def semDivide (f : Nat → Nat → Nat → ResF) : Sem := fun x => if x.v 0 = 0 then .exc Exc.divide else x.last 1 (f x.w (x.v 1) (x.v 0))
/-- The carry of the PSW. -/
def AgIn.carry (x : AgIn) : Nat := (x.c.psw.testBit Psw.c).toNat

def semMov : Sem := sem1 aluMov
def semClr : Sem := fun x => x.last 0 (aluMov x.w 0)
def semNeg : Sem := sem1 fun w a => aluSub w 0 a 0
def semNot : Sem := sem1 fun w a => aluMov w (2 ^ w - 1 - a)
def semAdd : Sem := sem2 fun w d a => aluAdd w d a 0
def semSub : Sem := sem2 fun w d a => aluSub w d a 0
def semAdc : Sem := fun x => x.last 1 (aluAdd x.w (x.v 1) (x.v 0) x.carry)
def semSbc : Sem := fun x => x.last 1 (aluSub x.w (x.v 1) (x.v 0) x.carry)
def semMul : Sem := sem2 aluMul
def semDiv : Sem := semDivide aluDiv
def semDivu : Sem := semDivide fun w d a => aluMov w (d / a)
def semRem : Sem := semDivide aluRem
def semRemu : Sem := semDivide fun w d a => aluMov w (d % a)
def semAnd : Sem := sem2 fun w d a => aluMov w (Nat.land d a)
def semOr : Sem := sem2 fun w d a => aluMov w (Nat.lor d a)
def semXor : Sem := sem2 fun w d a => aluMov w (Nat.xor d a)
def semAndn : Sem := sem2 fun w d a => aluMov w (andNot d a)
def semShl : Sem := sem2 aluShl
def semShr : Sem := sem2 aluShr
def semSar : Sem := sem2 aluSar
def semSal : Sem := sem2 aluSal
def semRol : Sem := sem2 aluRol
def semRor : Sem := sem2 aluRor
def semCmp : Sem := fun x => x.out [] (aluSub x.w (x.v 0) (x.v 1) 0).2
def semTst : Sem := fun x => x.out [] (flagsOf x.w (x.v 0) (some false) (some false))
def semInc : Sem := fun x => x.last 0 (aluAdd x.w (x.v 0) 1 0)
def semDec : Sem := fun x => x.last 0 (aluSub x.w (x.v 0) 1 0)
def semXchg : Sem := fun x => x.out [(0, x.bytes 1), (1, x.bytes 0)] {}
/-- Sign extension from `a` bits to `b`. -/
def semSxt (a b : Nat) : Sem := fun x => x.last 1 (aluMov b (ofSigned b (toSigned a (x.v 0))))
/-- Zero extension to `b` bits. -/
def semZxt (b : Nat) : Sem := fun x => x.last 1 (aluMov b (x.v 0))
/-- Narrowing of a long to `b` bits. -/
def semNrw (b : Nat) : Sem := fun x =>
  let r := x.v 0 % 2 ^ b
  x.last 1 (r, flagsOf b r none (some (outOfSigned b (toSigned 64 (x.v 0)))))
def semEal : Sem := fun x => x.out [(1, natLE 8 (x.ea 0))] {}
def semPushe : Sem := fun x => .done { s := x.s, c := x.c, push := some (x.ea 0) }
def semPush : Sem := fun x => .done { s := x.s, c := x.c, push := some (x.v 0) }
/-- POP: the long at B7 read, then B7 advanced, then the destination written. -/
def semPop : Sem := fun x => .done { s := x.s, c := x.c.setB 7 (x.c.breg 7 + 8), outs := [(0, x.stk)] }

/-- The data cache of a Shuttle core invalidated, and counted (12_shuttle_spool.md R326). -/
def AgIn.fenced (x : AgIn) : State :=
  match x.id with
  | .shuttle k => (x.s.dropLines x.id).count (P.shc (k / 4)) 0x068
  | _ => x.s
def semCas : Sem := fun x =>
  let old := x.bytes 2
  let same := old == x.bytes 1
  .done { s := x.fenced, c := x.c, outs := if same then [(1, old), (2, x.bytes 0)] else [(1, old)], flags := { z := some same } }
def semXadd : Sem := fun x =>
  let r := aluAdd x.w (x.v 1) (x.v 0) 0
  .done { s := x.fenced, c := x.c, outs := [(0, x.bytes 1), (1, natLE (szBytes x.z) r.1)], flags := r.2 }

/-! ### The commands -/

/-- MOV: dst := src. -/
def execMov (c : CoreId) (z : Sz) (src dst : Spec) (s : State) : Host.Outcome State Fault Refusal :=
  .next (s.agRun c ⟨.mov, z, [src, dst]⟩ semMov)
/-- CLR: dst := 0. -/
def execClr (c : CoreId) (z : Sz) (dst : Spec) (s : State) : Host.Outcome State Fault Refusal :=
  .next (s.agRun c ⟨.clr, z, [dst]⟩ semClr)
/-- NEG: dst := 0 − src. -/
def execNeg (c : CoreId) (z : Sz) (src dst : Spec) (s : State) : Host.Outcome State Fault Refusal :=
  .next (s.agRun c ⟨.neg, z, [src, dst]⟩ semNeg)
/-- NOT. -/
def execNot (c : CoreId) (z : Sz) (src dst : Spec) (s : State) : Host.Outcome State Fault Refusal :=
  .next (s.agRun c ⟨.not, z, [src, dst]⟩ semNot)
/-- ADD. -/
def execAdd (c : CoreId) (z : Sz) (src dst : Spec) (s : State) : Host.Outcome State Fault Refusal :=
  .next (s.agRun c ⟨.add, z, [src, dst]⟩ semAdd)
/-- SUB. -/
def execSub (c : CoreId) (z : Sz) (src dst : Spec) (s : State) : Host.Outcome State Fault Refusal :=
  .next (s.agRun c ⟨.sub, z, [src, dst]⟩ semSub)
/-- ADC. -/
def execAdc (c : CoreId) (z : Sz) (src dst : Spec) (s : State) : Host.Outcome State Fault Refusal :=
  .next (s.agRun c ⟨.adc, z, [src, dst]⟩ semAdc)
/-- SBC. -/
def execSbc (c : CoreId) (z : Sz) (src dst : Spec) (s : State) : Host.Outcome State Fault Refusal :=
  .next (s.agRun c ⟨.sbc, z, [src, dst]⟩ semSbc)
/-- MUL: the signed product. -/
def execMul (c : CoreId) (z : Sz) (src dst : Spec) (s : State) : Host.Outcome State Fault Refusal :=
  .next (s.agRun c ⟨.mul, z, [src, dst]⟩ semMul)
/-- DIV, signed. -/
def execDiv (c : CoreId) (z : Sz) (src dst : Spec) (s : State) : Host.Outcome State Fault Refusal :=
  .next (s.agRun c ⟨.div, z, [src, dst]⟩ semDiv)
/-- DIVU, unsigned. -/
def execDivu (c : CoreId) (z : Sz) (src dst : Spec) (s : State) : Host.Outcome State Fault Refusal :=
  .next (s.agRun c ⟨.divu, z, [src, dst]⟩ semDivu)
/-- REM, signed. -/
def execRem (c : CoreId) (z : Sz) (src dst : Spec) (s : State) : Host.Outcome State Fault Refusal :=
  .next (s.agRun c ⟨.rem, z, [src, dst]⟩ semRem)
/-- REMU, unsigned. -/
def execRemu (c : CoreId) (z : Sz) (src dst : Spec) (s : State) : Host.Outcome State Fault Refusal :=
  .next (s.agRun c ⟨.remu, z, [src, dst]⟩ semRemu)
/-- AND. -/
def execAnd (c : CoreId) (z : Sz) (src dst : Spec) (s : State) : Host.Outcome State Fault Refusal :=
  .next (s.agRun c ⟨.and, z, [src, dst]⟩ semAnd)
/-- OR. -/
def execOr (c : CoreId) (z : Sz) (src dst : Spec) (s : State) : Host.Outcome State Fault Refusal :=
  .next (s.agRun c ⟨.or, z, [src, dst]⟩ semOr)
/-- XOR. -/
def execXor (c : CoreId) (z : Sz) (src dst : Spec) (s : State) : Host.Outcome State Fault Refusal :=
  .next (s.agRun c ⟨.xor, z, [src, dst]⟩ semXor)
/-- ANDN: dst AND NOT src. -/
def execAndn (c : CoreId) (z : Sz) (src dst : Spec) (s : State) : Host.Outcome State Fault Refusal :=
  .next (s.agRun c ⟨.andn, z, [src, dst]⟩ semAndn)
/-- SHL. -/
def execShl (c : CoreId) (z : Sz) (count dst : Spec) (s : State) : Host.Outcome State Fault Refusal :=
  .next (s.agRun c ⟨.shl, z, [count, dst]⟩ semShl)
/-- SHR. -/
def execShr (c : CoreId) (z : Sz) (count dst : Spec) (s : State) : Host.Outcome State Fault Refusal :=
  .next (s.agRun c ⟨.shr, z, [count, dst]⟩ semShr)
/-- SAR. -/
def execSar (c : CoreId) (z : Sz) (count dst : Spec) (s : State) : Host.Outcome State Fault Refusal :=
  .next (s.agRun c ⟨.sar, z, [count, dst]⟩ semSar)
/-- SAL. -/
def execSal (c : CoreId) (z : Sz) (count dst : Spec) (s : State) : Host.Outcome State Fault Refusal :=
  .next (s.agRun c ⟨.sal, z, [count, dst]⟩ semSal)
/-- ROL. -/
def execRol (c : CoreId) (z : Sz) (count dst : Spec) (s : State) : Host.Outcome State Fault Refusal :=
  .next (s.agRun c ⟨.rol, z, [count, dst]⟩ semRol)
/-- ROR. -/
def execRor (c : CoreId) (z : Sz) (count dst : Spec) (s : State) : Host.Outcome State Fault Refusal :=
  .next (s.agRun c ⟨.ror, z, [count, dst]⟩ semRor)
/-- CMP: op1 − op2 computed. -/
def execCmp (c : CoreId) (z : Sz) (op1 op2 : Spec) (s : State) : Host.Outcome State Fault Refusal :=
  .next (s.agRun c ⟨.cmp, z, [op1, op2]⟩ semCmp)
/-- TST. -/
def execTst (c : CoreId) (z : Sz) (src : Spec) (s : State) : Host.Outcome State Fault Refusal :=
  .next (s.agRun c ⟨.tst, z, [src]⟩ semTst)
/-- INC. -/
def execInc (c : CoreId) (z : Sz) (dst : Spec) (s : State) : Host.Outcome State Fault Refusal :=
  .next (s.agRun c ⟨.inc, z, [dst]⟩ semInc)
/-- DEC. -/
def execDec (c : CoreId) (z : Sz) (dst : Spec) (s : State) : Host.Outcome State Fault Refusal :=
  .next (s.agRun c ⟨.dec, z, [dst]⟩ semDec)
/-- XCHG. -/
def execXchg (c : CoreId) (z : Sz) (a b : Spec) (s : State) : Host.Outcome State Fault Refusal :=
  .next (s.agRun c ⟨.xchg, z, [a, b]⟩ semXchg)
/-- SXTBH. -/
def execSxtbh (c : CoreId) (src dst : Spec) (s : State) : Host.Outcome State Fault Refusal :=
  .next (s.agRun c ⟨.sxtbh, .b, [src, dst]⟩ (semSxt 8 16))
/-- SXTBW. -/
def execSxtbw (c : CoreId) (src dst : Spec) (s : State) : Host.Outcome State Fault Refusal :=
  .next (s.agRun c ⟨.sxtbw, .b, [src, dst]⟩ (semSxt 8 32))
/-- SXTBL. -/
def execSxtbl (c : CoreId) (src dst : Spec) (s : State) : Host.Outcome State Fault Refusal :=
  .next (s.agRun c ⟨.sxtbl, .b, [src, dst]⟩ (semSxt 8 64))
/-- SXTHW. -/
def execSxthw (c : CoreId) (src dst : Spec) (s : State) : Host.Outcome State Fault Refusal :=
  .next (s.agRun c ⟨.sxthw, .b, [src, dst]⟩ (semSxt 16 32))
/-- SXTHL. -/
def execSxthl (c : CoreId) (src dst : Spec) (s : State) : Host.Outcome State Fault Refusal :=
  .next (s.agRun c ⟨.sxthl, .b, [src, dst]⟩ (semSxt 16 64))
/-- SXTWL. -/
def execSxtwl (c : CoreId) (src dst : Spec) (s : State) : Host.Outcome State Fault Refusal :=
  .next (s.agRun c ⟨.sxtwl, .b, [src, dst]⟩ (semSxt 32 64))
/-- ZXTBL. -/
def execZxtbl (c : CoreId) (src dst : Spec) (s : State) : Host.Outcome State Fault Refusal :=
  .next (s.agRun c ⟨.zxtbl, .b, [src, dst]⟩ (semZxt 64))
/-- ZXTHL. -/
def execZxthl (c : CoreId) (src dst : Spec) (s : State) : Host.Outcome State Fault Refusal :=
  .next (s.agRun c ⟨.zxthl, .b, [src, dst]⟩ (semZxt 64))
/-- ZXTWL. -/
def execZxtwl (c : CoreId) (src dst : Spec) (s : State) : Host.Outcome State Fault Refusal :=
  .next (s.agRun c ⟨.zxtwl, .b, [src, dst]⟩ (semZxt 64))
/-- NRWLW. -/
def execNrwlw (c : CoreId) (src dst : Spec) (s : State) : Host.Outcome State Fault Refusal :=
  .next (s.agRun c ⟨.nrwlw, .b, [src, dst]⟩ (semNrw 32))
/-- NRWLH. -/
def execNrwlh (c : CoreId) (src dst : Spec) (s : State) : Host.Outcome State Fault Refusal :=
  .next (s.agRun c ⟨.nrwlh, .b, [src, dst]⟩ (semNrw 16))
/-- NRWLB. -/
def execNrwlb (c : CoreId) (src dst : Spec) (s : State) : Host.Outcome State Fault Refusal :=
  .next (s.agRun c ⟨.nrwlb, .b, [src, dst]⟩ (semNrw 8))
/-- EAL: the effective address. -/
def execEal (c : CoreId) (addr dst : Spec) (s : State) : Host.Outcome State Fault Refusal :=
  .next (s.agRun c ⟨.eal, .b, [addr, dst]⟩ semEal)
/-- PUSHE. -/
def execPushe (c : CoreId) (addr : Spec) (s : State) : Host.Outcome State Fault Refusal :=
  .next (s.agRun c ⟨.pushe, .b, [addr]⟩ semPushe)
/-- PUSH. -/
def execPush (c : CoreId) (src : Spec) (s : State) : Host.Outcome State Fault Refusal :=
  .next (s.agRun c ⟨.push, .b, [src]⟩ semPush)
/-- POP. -/
def execPop (c : CoreId) (dst : Spec) (s : State) : Host.Outcome State Fault Refusal :=
  .next (s.agRun c ⟨.pop, .b, [dst]⟩ semPop)
/-- CAS. -/
def execCas (c : CoreId) (z : Sz) (new expected target : Spec) (s : State) : Host.Outcome State Fault Refusal :=
  .next (s.agRun c ⟨.cas, z, [new, expected, target]⟩ semCas)
/-- XADD. -/
def execXadd (c : CoreId) (z : Sz) (src target : Spec) (s : State) : Host.Outcome State Fault Refusal :=
  .next (s.agRun c ⟨.xadd, z, [src, target]⟩ semXadd)

end Sys2Proof.Machine
end

