-- ==== Sys2Proof/Machine/AgrekStr.lean ====
section
/-!
DEFINITION. Sys2Proof/Machine/AgrekStr.lean: the string and translate instructions of Agrek (10_agrek_model.md R293, R296;
11_agrek_instructions.md R308, R309).
-/

namespace Sys2Proof.Machine

/-! ### The effects -/

/-- SMOV: its result equals a copy made through a separate buffer. -/
def semSmov : Sem := fun x => x.out [(2, x.bytes 1)] {}
def semSfil : Sem := fun x => x.out [(2, List.replicate x.n (BitVec.ofNat 8 (x.v 1)))] {}
/-- SCMP: unsigned, up to the first difference. -/
def semScmp : Sem := fun x =>
  match ((x.bytes 1).zip (x.bytes 2)).find? fun e => e.1 != e.2 with
  | none => x.out [] { z := some true, c := some false, n := some false, v := some false }
  | some (a, b) => x.out [] { z := some false, c := some (decide (a < b)), n := some (decide (a < b)), v := some false }

/-- A place as a number: local store, then the fabric, then ROM. -/
def placeKey : Place → Nat | .ls o => o | .fab a _ _ => 2 ^ 60 + a | .rom o => 2 ^ 61 + o
/-- SXLT's bytes, in ascending order: `d` is how far the table starts after the buffer, where it does; a table byte that lies in the part
passed is read as translated. -/
def sxltGo (table buf : List Byte) (d : Int) : List Byte :=
  (List.range buf.length).foldl (fun out i =>
    let t := (buf.getD i 0).toNat
    let at_ := d + t
    let b := if 0 ≤ at_ ∧ at_ < i then out.getD at_.toNat 0 else table.getD t 0
    out ++ [b]) []
/-- How far SXLT's table starts after its buffer. -/
def AgIn.apart (x : AgIn) : Int :=
  let key (i n : Nat) : Nat := ((placeOf x.id x.c (x.ea i) n .rd).map placeKey).getD 0
  (key 1 256 : Int) - key 2 x.n
def semSxlt : Sem := fun x => x.out [(2, sxltGo (x.bytes 1) (x.bytes 2) x.apart)] {}

/-- B0 and B1 where a search stopped at index `i`, or found nothing (R309); `t` is the table value of SSCN. -/
def AgIn.stopped (x : AgIn) (i : Option Nat) (t : Nat) : AgRes :=
  let k := i.getD x.n
  let c := (x.c.setB 0 (x.n - k)).setB 1 (addr48 (x.ea 2 + k) + t * 2 ^ 48)
  .done { s := x.s, c := c, flags := { z := some i.isNone } }
/-- A search for the first byte that satisfies a condition. -/
def semFind (c : Byte → Byte → Bool) : Sem := fun x =>
  x.stopped ((x.bytes 2).findIdx? fun b => c b (BitVec.ofNat 8 (x.v 1))) 0
def semSfnd : Sem := semFind fun b k => b == k
def semSskp : Sem := semFind fun b k => b != k
/-- SSCN: the first byte whose table value is not 0, and that value. -/
def semSscn : Sem := fun x =>
  let tab (b : Byte) : Byte := (x.bytes 1).getD b.toNat 0
  let i := (x.bytes 2).findIdx? fun b => tab b != 0
  x.stopped i (match i with | some k => (tab ((x.bytes 2).getD k 0)).toNat | none => 0)
/-- SCRC: the CRC-32C carried on over the string. -/
def semScrc : Sem := fun x =>
  x.out [(2, natLE 4 (~~~ crc32cFrom (~~~ BitVec.ofNat 32 (x.v 2)) (x.bytes 1)).toNat)] {}

/-! ### The commands -/

/-- SMOV. -/
def execSmov (c : CoreId) (len src dst : Spec) (s : State) : Host.Outcome State Fault Refusal :=
  .next (s.agRun c ⟨.smov, .b, [len, src, dst]⟩ semSmov)
/-- SFIL. -/
def execSfil (c : CoreId) (len byte dst : Spec) (s : State) : Host.Outcome State Fault Refusal :=
  .next (s.agRun c ⟨.sfil, .b, [len, byte, dst]⟩ semSfil)
/-- SCMP. -/
def execScmp (c : CoreId) (len a b : Spec) (s : State) : Host.Outcome State Fault Refusal :=
  .next (s.agRun c ⟨.scmp, .b, [len, a, b]⟩ semScmp)
/-- SXLT. -/
def execSxlt (c : CoreId) (len table buf : Spec) (s : State) : Host.Outcome State Fault Refusal :=
  .next (s.agRun c ⟨.sxlt, .b, [len, table, buf]⟩ semSxlt)
/-- SFND. -/
def execSfnd (c : CoreId) (len byte buf : Spec) (s : State) : Host.Outcome State Fault Refusal :=
  .next (s.agRun c ⟨.sfnd, .b, [len, byte, buf]⟩ semSfnd)
/-- SSKP. -/
def execSskp (c : CoreId) (len byte buf : Spec) (s : State) : Host.Outcome State Fault Refusal :=
  .next (s.agRun c ⟨.sskp, .b, [len, byte, buf]⟩ semSskp)
/-- SSCN. -/
def execSscn (c : CoreId) (len table buf : Spec) (s : State) : Host.Outcome State Fault Refusal :=
  .next (s.agRun c ⟨.sscn, .b, [len, table, buf]⟩ semSscn)
/-- SCRC. -/
def execScrc (c : CoreId) (len buf crc : Spec) (s : State) : Host.Outcome State Fault Refusal :=
  .next (s.agRun c ⟨.scrc, .b, [len, buf, crc]⟩ semScrc)

end Sys2Proof.Machine
end

