-- ==== Sys2Proof/Machine/AgrekCtl.lean ====
section
/-!
DEFINITION. Sys2Proof/Machine/AgrekCtl.lean: branches and the other control instructions of Agrek, jobs and completions, windows and keys,
and the repeat prefixes (11_agrek_instructions.md R310 to R321; 12_shuttle_spool.md R329, R337; 19_trust_pattern.md R481).
-/

namespace Sys2Proof.Machine

/-! ### The effects -/

/-- A flag of the PSW. -/
def AgIn.flag (x : AgIn) (b : Nat) : Bool := x.c.psw.testBit b
/-- A branch taken under a condition. -/
def semBranch (cond : AgIn → Bool) : Sem := fun x => .done { s := x.s, c := x.c, jump := if cond x then some (x.ea 0) else none }
def AgIn.lt (x : AgIn) : Bool := x.flag Psw.n != x.flag Psw.v
def semCall : Sem := fun x => .done { s := x.s, c := x.c, push := some x.next, jump := some (x.ea 0) }
/-- DBP: counts down, and branches while the count, taken as signed, is above 0. -/
def semDbp : Sem := fun x =>
  let r := (x.v 0 + 2 ^ 32 - 1) % 2 ^ 32
  .done { s := x.s, c := x.c, outs := [(0, natLE 4 r)], jump := if 0 < toSigned 32 r then some (x.ea 1) else none }
def semTrap : Sem := fun x => .done { s := x.s, c := x.c, trap := some (x.v 0) }
def semNop : Sem := fun x => .done { s := x.s, c := x.c }
def semRet : Sem := fun x => .done { s := x.s, c := x.c.setB 7 (x.c.breg 7 + 8), jump := some (leNat x.stk) }
/-- RTE: the PC and the PSW from the stack, INFO passed over (R323). -/
def semRte : Sem := fun x =>
  .done { s := x.s, c := x.c.setB 7 (x.c.breg 7 + 24), jump := some (leNat (x.stk.take 8)), psw := some (leNat (x.stk.drop 8)) }
def semFence : Sem := fun x => .done { s := x.fenced, c := x.c }
/-- EXIT: the task ends with B0[15:0]; no operation elsewhere. -/
def semExit : Sem := fun x =>
  .done { s := x.s, c := x.c, fin := match x.id with
    | .shuttle k => fun s => s.endTask k Cs.ok (x.c.breg 0 % 65536)
    | _ => id }
/-- YIELD (R337): the item goes back to its list with the register block and the completions that wait; its core is free. -/
def State.yieldTask (s : State) (k : Nat) : State :=
  match s.coreRuns k with
  | none => s
  | some (n, i) =>
    let c := s.core k
    let s := { s with spool := { s.spool with coreItem := Tbl.del s.spool.coreItem k }
                      cores := Tbl.upd s.cores k fun c => { c with st := .stopped, cplQ := [] } }
    let s := s.updItem n fun i =>
      { i with st := .waiting, core := none, unit := 0xFF, saved := some ((List.range 12).map c.slot)
               heldCpls := i.heldCpls ++ c.cplQ }
    s.trace 0x06 n i 0xFF 0
def semYield : Sem := fun x =>
  .done { s := x.s, c := x.c, fin := match x.id with
    | .shuttle k => fun s => s.yieldTask k
    | _ => id }
/-- WFI: waits unless an interrupt is pending. -/
def semWfi : Sem := fun x =>
  let c := if (x.s.nextVec x.id).isSome then x.c else { x.c with st := .waitInt }
  .done { s := x.s, c := c }
/-- HALT: a Bobbin core stops; Thimble waits as under WFI. -/
def semHalt : Sem := fun x =>
  match x.id with
  | .bobbin n => .done { s := x.s, c := x.c, fin := fun s => s.haltBobbin n }
  | _ => semWfi x
def semBkpt : Sem := fun _ => .exc Exc.breakpoint
/-- CHKRD and CHKWR: whether the range lies in one window, local store or ROM with the permission. -/
def semCheck (need : Need) : Sem := fun x =>
  x.out [] { z := some (x.v 1 == 0 || (placeOf x.id x.c (x.ea 0) (x.v 1) need).isSome) }

/-- POST: the descriptor handed to Spool; the status word. -/
def semPost : Sem := fun x =>
  let task := match x.id with | .shuttle k => ((x.s.coreRuns k).map fun e => e.2.order).getD 0 | _ => 0
  let panel := match x.id with | .shuttle k => ((x.s.coreRuns k).map fun e => e.2.panel).getD 0 | _ => 0
  let ok (a n : Nat) (need : Need) : Bool := (winFor x.c.wins a n need).isSome
  let (w, s) := x.s.post (x.bytes 0) panel (.core x.id task) ok (winTr x.c.wins)
  .done { s := s, c := { x.c with cplQ := (s.core (keyOf x.id)).cplQ }, outs := [(1, natLE 4 w)], flags := { z := some (w % 256 == 0) } }

/-- The next completion of the core taken. -/
def AgIn.take (x : AgIn) (flags : FlagW) : Option AgRes :=
  match x.c.cplQ with
  | [] => none
  | w :: r => some (.done { s := x.fenced, c := { x.c with cplQ := r }, outs := [(0, natLE 8 w)], flags := flags })
def semWcpl : Sem := fun x => (x.take {}).getD .wait
def semRcpl : Sem := fun x => (x.take { z := some false }).getD (x.out [(0, natLE 8 0)] { z := some true })

/-- WINSET: the window written, or refused with V (R280). -/
def semWinset : Sem := fun x =>
  let n := x.v 0
  let l := x.bytes 1
  if x.s.winRefused x.c n l then .done { s := x.s, c := x.c, flags := { v := some true }, quiet := true }
  else .done { s := x.s, c := { x.c with wins := Tbl.put x.c.wins n (winOf l) }, flags := { v := some false } }
def semWinget : Sem := fun x => x.out [(1, ((Tbl.at? x.c.wins (x.v 0)).getD winOff).desc)] {}
def semKload : Sem := fun x => .done { s := x.s.kload (x.v 0) (x.bytes 1), c := x.c }
def semKzap : Sem := fun x => .done { s := x.s.kzap (x.v 0), c := x.c }

/-! ### The commands -/

/-- BR: always. -/
def execBr (c : CoreId) (target : Spec) (s : State) : Host.Outcome State Fault Refusal :=
  .next (s.agRun c ⟨.br, .b, [target]⟩ (semBranch fun _ => true))
/-- BEQ (R311). -/
def execBeq (c : CoreId) (target : Spec) (s : State) : Host.Outcome State Fault Refusal :=
  .next (s.agRun c ⟨.beq, .b, [target]⟩ (semBranch fun x => x.flag Psw.z))
/-- BNE (R311). -/
def execBne (c : CoreId) (target : Spec) (s : State) : Host.Outcome State Fault Refusal :=
  .next (s.agRun c ⟨.bne, .b, [target]⟩ (semBranch fun x => !x.flag Psw.z))
/-- BLT (R311). -/
def execBlt (c : CoreId) (target : Spec) (s : State) : Host.Outcome State Fault Refusal :=
  .next (s.agRun c ⟨.blt, .b, [target]⟩ (semBranch fun x => x.lt))
/-- BGE (R311). -/
def execBge (c : CoreId) (target : Spec) (s : State) : Host.Outcome State Fault Refusal :=
  .next (s.agRun c ⟨.bge, .b, [target]⟩ (semBranch fun x => !x.lt))
/-- BLE (R311). -/
def execBle (c : CoreId) (target : Spec) (s : State) : Host.Outcome State Fault Refusal :=
  .next (s.agRun c ⟨.ble, .b, [target]⟩ (semBranch fun x => x.flag Psw.z || x.lt))
/-- BGT (R311). -/
def execBgt (c : CoreId) (target : Spec) (s : State) : Host.Outcome State Fault Refusal :=
  .next (s.agRun c ⟨.bgt, .b, [target]⟩ (semBranch fun x => !x.flag Psw.z && !x.lt))
/-- BLTU (R311). -/
def execBltu (c : CoreId) (target : Spec) (s : State) : Host.Outcome State Fault Refusal :=
  .next (s.agRun c ⟨.bltu, .b, [target]⟩ (semBranch fun x => x.flag Psw.c))
/-- BGEU (R311). -/
def execBgeu (c : CoreId) (target : Spec) (s : State) : Host.Outcome State Fault Refusal :=
  .next (s.agRun c ⟨.bgeu, .b, [target]⟩ (semBranch fun x => !x.flag Psw.c))
/-- BLEU (R311). -/
def execBleu (c : CoreId) (target : Spec) (s : State) : Host.Outcome State Fault Refusal :=
  .next (s.agRun c ⟨.bleu, .b, [target]⟩ (semBranch fun x => x.flag Psw.c || x.flag Psw.z))
/-- BGTU (R311). -/
def execBgtu (c : CoreId) (target : Spec) (s : State) : Host.Outcome State Fault Refusal :=
  .next (s.agRun c ⟨.bgtu, .b, [target]⟩ (semBranch fun x => !x.flag Psw.c && !x.flag Psw.z))
/-- BVS (R311). -/
def execBvs (c : CoreId) (target : Spec) (s : State) : Host.Outcome State Fault Refusal :=
  .next (s.agRun c ⟨.bvs, .b, [target]⟩ (semBranch fun x => x.flag Psw.v))
/-- BVC (R311). -/
def execBvc (c : CoreId) (target : Spec) (s : State) : Host.Outcome State Fault Refusal :=
  .next (s.agRun c ⟨.bvc, .b, [target]⟩ (semBranch fun x => !x.flag Psw.v))
/-- BDS (R311). -/
def execBds (c : CoreId) (target : Spec) (s : State) : Host.Outcome State Fault Refusal :=
  .next (s.agRun c ⟨.bds, .b, [target]⟩ (semBranch fun x => x.flag Psw.d))
/-- CALL. -/
def execCall (c : CoreId) (target : Spec) (s : State) : Host.Outcome State Fault Refusal :=
  .next (s.agRun c ⟨.call, .b, [target]⟩ semCall)
/-- DBP. -/
def execDbp (c : CoreId) (count target : Spec) (s : State) : Host.Outcome State Fault Refusal :=
  .next (s.agRun c ⟨.dbp, .b, [count, target]⟩ semDbp)
/-- POST (R316). -/
def execPost (c : CoreId) (desc status : Spec) (s : State) : Host.Outcome State Fault Refusal :=
  .next (s.agRun c ⟨.post, .b, [desc, status]⟩ semPost)
/-- WCPL: with none waiting, the core waits (R317). -/
def execWcpl (c : CoreId) (dst : Spec) (s : State) : Host.Outcome State Fault Refusal :=
  .next (s.agRun c ⟨.wcpl, .b, [dst]⟩ semWcpl)
/-- RCPL (R317). -/
def execRcpl (c : CoreId) (dst : Spec) (s : State) : Host.Outcome State Fault Refusal :=
  .next (s.agRun c ⟨.rcpl, .b, [dst]⟩ semRcpl)
/-- TRAP. -/
def execTrap (c : CoreId) (info : Spec) (s : State) : Host.Outcome State Fault Refusal :=
  .next (s.agRun c ⟨.trap, .b, [info]⟩ semTrap)
/-- CHKRD. -/
def execChkrd (c : CoreId) (addr len : Spec) (s : State) : Host.Outcome State Fault Refusal :=
  .next (s.agRun c ⟨.chkrd, .b, [addr, len]⟩ (semCheck .rd))
/-- CHKWR. -/
def execChkwr (c : CoreId) (addr len : Spec) (s : State) : Host.Outcome State Fault Refusal :=
  .next (s.agRun c ⟨.chkwr, .b, [addr, len]⟩ (semCheck .wr))
/-- WINSET (R315). -/
def execWinset (c : CoreId) (win desc : Spec) (s : State) : Host.Outcome State Fault Refusal :=
  .next (s.agRun c ⟨.winset, .b, [win, desc]⟩ semWinset)
/-- WINGET (R315). -/
def execWinget (c : CoreId) (win desc : Spec) (s : State) : Host.Outcome State Fault Refusal :=
  .next (s.agRun c ⟨.winget, .b, [win, desc]⟩ semWinget)
/-- KLOAD (R315). -/
def execKload (c : CoreId) (slot key : Spec) (s : State) : Host.Outcome State Fault Refusal :=
  .next (s.agRun c ⟨.kload, .b, [slot, key]⟩ semKload)
/-- KZAP (R315). -/
def execKzap (c : CoreId) (slot : Spec) (s : State) : Host.Outcome State Fault Refusal :=
  .next (s.agRun c ⟨.kzap, .b, [slot]⟩ semKzap)
/-- NOP. -/
def execNop (c : CoreId) (s : State) : Host.Outcome State Fault Refusal :=
  .next (s.agRun c ⟨.nop, .b, []⟩ semNop)
/-- HALT. -/
def execHalt (c : CoreId) (s : State) : Host.Outcome State Fault Refusal :=
  .next (s.agRun c ⟨.halt, .b, []⟩ semHalt)
/-- RET. -/
def execRet (c : CoreId) (s : State) : Host.Outcome State Fault Refusal :=
  .next (s.agRun c ⟨.ret, .b, []⟩ semRet)
/-- RTE (R323). -/
def execRte (c : CoreId) (s : State) : Host.Outcome State Fault Refusal :=
  .next (s.agRun c ⟨.rte, .b, []⟩ semRte)
/-- FENCE (R313). -/
def execFence (c : CoreId) (s : State) : Host.Outcome State Fault Refusal :=
  .next (s.agRun c ⟨.fence, .b, []⟩ semFence)
/-- EXIT (R337). -/
def execExit (c : CoreId) (s : State) : Host.Outcome State Fault Refusal :=
  .next (s.agRun c ⟨.exit, .b, []⟩ semExit)
/-- YIELD (R337). -/
def execYield (c : CoreId) (s : State) : Host.Outcome State Fault Refusal :=
  .next (s.agRun c ⟨.yield, .b, []⟩ semYield)
/-- WFI. -/
def execWfi (c : CoreId) (s : State) : Host.Outcome State Fault Refusal :=
  .next (s.agRun c ⟨.wfi, .b, []⟩ semWfi)
/-- BKPT. -/
def execBkpt (c : CoreId) (s : State) : Host.Outcome State Fault Refusal :=
  .next (s.agRun c ⟨.bkpt, .b, []⟩ semBkpt)

/-! ### Repeat prefixes (R318 to R321) -/

/-- The effect of an instruction by its mnemonic. -/
def semOf : Mn → Sem
  | .mov => semMov
  | .clr => semClr
  | .neg => semNeg
  | .not => semNot
  | .add => semAdd
  | .sub => semSub
  | .adc => semAdc
  | .sbc => semSbc
  | .mul => semMul
  | .div => semDiv
  | .divu => semDivu
  | .rem => semRem
  | .remu => semRemu
  | .and => semAnd
  | .or => semOr
  | .xor => semXor
  | .andn => semAndn
  | .shl => semShl
  | .shr => semShr
  | .sar => semSar
  | .sal => semSal
  | .rol => semRol
  | .ror => semRor
  | .cmp => semCmp
  | .tst => semTst
  | .inc => semInc
  | .dec => semDec
  | .xchg => semXchg
  | .sxtbh => semSxt 8 16
  | .sxtbw => semSxt 8 32
  | .sxtbl => semSxt 8 64
  | .sxthw => semSxt 16 32
  | .sxthl => semSxt 16 64
  | .sxtwl => semSxt 32 64
  | .zxtbl => semZxt 64
  | .zxthl => semZxt 64
  | .zxtwl => semZxt 64
  | .nrwlw => semNrw 32
  | .nrwlh => semNrw 16
  | .nrwlb => semNrw 8
  | .eal => semEal
  | .pushe => semPushe
  | .push => semPush
  | .pop => semPop
  | .cas => semCas
  | .xadd => semXadd
  | .bset => semBset
  | .bclr => semBclr
  | .bcom => semBcom
  | .bmov => semBmov
  | .btst => semBtst
  | .btas => semBtas
  | .btac => semBtac
  | .band => semBand
  | .bor => semBor
  | .bxor => semBxor
  | .bscan => semBscan
  | .bfex => semBfex
  | .bfin => semBfin
  | .bbt => semBitBranch true
  | .bbf => semBitBranch false
  | .dadd => semDadd
  | .dsub => semDsub
  | .dmul => semDmul
  | .ddiv => semDdiv
  | .dmov => semDecMove false false
  | .dcmp => semDecCmp false
  | .dshf => semDshf
  | .dtst => semDtst
  | .dtol => semDtol
  | .ltod => semLtod
  | .ztod => semDecMove true false
  | .dtoz => semDecMove false true
  | .zadd => semDec2 true (· + ·)
  | .zsub => semDec2 true (· - ·)
  | .zcmp => semDecCmp true
  | .zmov => semDecMove true true
  | .smov => semSmov
  | .sfil => semSfil
  | .scmp => semScmp
  | .sxlt => semSxlt
  | .sfnd => semSfnd
  | .sskp => semSskp
  | .sscn => semSscn
  | .scrc => semScrc
  | .br => semBranch fun _ => true
  | .beq => semBranch fun x => x.flag Psw.z
  | .bne => semBranch fun x => !x.flag Psw.z
  | .blt => semBranch fun x => x.lt
  | .bge => semBranch fun x => !x.lt
  | .ble => semBranch fun x => x.flag Psw.z || x.lt
  | .bgt => semBranch fun x => !x.flag Psw.z && !x.lt
  | .bltu => semBranch fun x => x.flag Psw.c
  | .bgeu => semBranch fun x => !x.flag Psw.c
  | .bleu => semBranch fun x => x.flag Psw.c || x.flag Psw.z
  | .bgtu => semBranch fun x => !x.flag Psw.c && !x.flag Psw.z
  | .bvs => semBranch fun x => x.flag Psw.v
  | .bvc => semBranch fun x => !x.flag Psw.v
  | .bds => semBranch fun x => x.flag Psw.d
  | .call => semCall
  | .dbp => semDbp
  | .post => semPost
  | .wcpl => semWcpl
  | .rcpl => semRcpl
  | .trap => semTrap
  | .chkrd => semCheck .rd
  | .chkwr => semCheck .wr
  | .winset => semWinset
  | .winget => semWinget
  | .kload => semKload
  | .kzap => semKzap
  | .nop => semNop
  | .halt => semHalt
  | .ret => semRet
  | .rte => semRte
  | .fence => semFence
  | .exit => semExit
  | .yield => semYield
  | .wfi => semWfi
  | .bkpt => semBkpt
/-- REP: one iteration. -/
def execRep (c : CoreId) (body : AgInsn) (s : State) : Host.Outcome State Fault Refusal :=
  .next (s.agRep c .rep body (semOf body.mn))
/-- REPZ: one iteration; the repetition ends with Z = 0. -/
def execRepz (c : CoreId) (body : AgInsn) (s : State) : Host.Outcome State Fault Refusal :=
  .next (s.agRep c .repz body (semOf body.mn))
/-- REPNZ: one iteration; the repetition ends with Z = 1. -/
def execRepnz (c : CoreId) (body : AgInsn) (s : State) : Host.Outcome State Fault Refusal :=
  .next (s.agRep c .repnz body (semOf body.mn))
/-- REPU: all iterations, without interrupts. -/
def execRepu (c : CoreId) (body : AgInsn) (s : State) : Host.Outcome State Fault Refusal :=
  .next (s.agRep c .repu body (semOf body.mn))
/-- ILLEGAL_OPCODE (R288): the bytes that spell no instruction. -/
def execIllegalOpcode (c : CoreId) (bytes : List Nat) (s : State) : Host.Outcome State Fault Refusal := .next (s.agIllegal c bytes.length)

end Sys2Proof.Machine
end

