-- ==== Sys2Proof/Machine/Tick.lean ====
section
/-!
DEFINITION. Sys2Proof/Machine/Tick.lean: what time alone changes: one fabric cycle, the step on an empty queue (log entry 6).
-/

namespace Sys2Proof.Machine

/-- Whether the fabric clock runs: not held in reset, and not gated or stopped in a low-power state (12_shuttle_spool.md R341). -/
def State.fabricRuns (s : State) : Bool :=
  match s.power.seq with
  | .run | .entry _ _ => true
  | _ => false

/-- Fabric cycles in a microsecond: 1.5 GHz, or 400 MHz on the ring oscillator (01_ledger_path.md R23; 18_power_clocks.md R453). -/
def State.cyclesPerUs (s : State) : Nat := if s.on P.clk R.clk_CLK_DEGRADED then 400 else 1500

/-- The residency counter of the present power state (18_power_clocks.md R465): Run, Doze, Slumber, Vault. -/
def State.residency (s : State) : Nat :=
  if s.dev = Dev.doze then 0x048 else if s.dev = Dev.slumber then 0x050 else if s.dev = Dev.vault then 0x058 else 0x040

/-- A byte of the UART's FIFO sent (21_register_pages.md R511). -/
def State.uartSend (s : State) : State :=
  match s.uartTx with
  | [] => s
  | b :: r => { s with uartTx := r }.send (.uart b)

/-- The core clock of a cluster in MHz: its DVFS point, or the ring oscillator (12_shuttle_spool.md R328; 18_power_clocks.md R453). -/
def State.clusterMhz (s : State) (c : Nat) : Nat :=
  if s.on P.clk R.clk_CLK_DEGRADED then 400 else 1200 + 600 * s.rd (P.shc c) R.shc_DVFS_CUR
/-- A microsecond of a running task: its core's busy cycles, and core time of its panel (14_panels.md R381). -/
def State.coreBusy (s : State) (e : Nat × Nat) : State :=
  let panel := ((Tbl.at? s.spool.items e.2).map (·.panel)).getD 0
  let used := (Tbl.at? s.spool.coreUs panel).getD 0 + 1
  { s with spool := { s.spool with coreUs := Tbl.put s.spool.coreUs panel used } }.countN (P.shc (e.1 / 4)) 0x078 (s.clusterMhz (e.1 / 4))
/-- A microsecond of the real-time clock, counted in the residency counter, and for each core with a task. -/
def State.microsecond (s : State) : State :=
  let s := { s with rtcUs := s.rtcUs + 1, cycFrac := 0 }.count P.pwr s.residency
  s.whenB s.fabricRuns fun s => s.spool.coreItem.foldl State.coreBusy s

/-- One fabric cycle: nothing while the device is held in power-on reset. -/
def State.tick (s : State) : State :=
  if s.power.seq = .heldInReset then s
  else
    let s := s.whenB s.fabricRuns fun s => { s with splTime := (s.splTime + 1) % 2 ^ 56 }
    let s := { s with spool := { s.spool with portBusy := false } }.uartSend
    if s.cyclesPerUs ≤ s.cycFrac + 1 then s.microsecond else { s with cycFrac := s.cycFrac + 1 }

end Sys2Proof.Machine
end

