-- ==== Sys2Proof/Machine/Dram.lean ====
section
/-!
DEFINITION. Sys2Proof/Machine/Dram.lean: the DRAM controller (17_dram.md R422 to R440) and the arbitration epoch (14_panels.md R381). The
bytes of DRAM move with the commands that read and write them; a DRAM_ACCESS is what the controller does for one line of such an access
(log entry 70).
-/

namespace Sys2Proof.Machine

/-! ### Addresses (R424, R426) -/

/-- The channels of the interleave set, lowest-lettered first. -/
def State.dramSet (s : State) : List Nat := (List.range 4).filter fun c => (s.rd P.drm R.drm_SET).testBit c

/-- The index k of an offset D among `2 ^ c` channels with grain `2 ^ g`, folded where XOR_EN is 1. -/
def foldK (g c d : Nat) (fold : Bool) : Nat :=
  let part (j : Nat) : Nat := bitsAt d (g + j * c) c
  if c = 0 then 0
  else if fold then ((List.range 39).filter fun j => 1 ≤ j ∧ g + j * c ≤ 38).foldl (fun k j => Nat.xor k (part j)) (part 0)
  else part 0
/-- The channel-local offset D′. -/
def localOff (g c d : Nat) : Nat := d / 2 ^ (g + c) * 2 ^ g + d % 2 ^ g

/-- A place in DRAM: channel, subchannel, rank, bank (bank group × 4 + bank), row. -/
structure DramPlace where
  ch   : Nat
  sub  : Nat
  rank : Nat
  bank : Nat
  row  : Nat
deriving DecidableEq, Repr

/-- The bits of a row number: 17 with 32 Gbit devices, else 16. -/
def rowBits (b : Board) : Nat := if b.density32 then 17 else 16
/-- The place of an offset D, where a channel trained and the offset is installed. -/
def State.dramPlace (s : State) (d : Nat) : Option DramPlace :=
  let c := Nat.log2 (s.rd P.drm R.drm_NCH)
  let g := s.rd P.drm R.drm_GRAIN + 8
  let l := localOff g c d
  let two := s.board.ranks = 2
  if s.dramBytes ≤ d then none
  else (s.dramSet[foldK g c d (s.on P.drm R.drm_XOR_EN)]?).map fun ch =>
    { ch := ch
      sub := bitsAt l 6 1
      rank := if two then bitsAt l 19 1 else 0
      bank := bitsAt l 14 3 * 4 + bitsAt l 17 2
      row := bitsAt l (if two then 20 else 19) (rowBits s.board) }

/-- The key of a subchannel, of a rank of a channel, and of a bank. -/
def subKey (ch sb : Nat) : Nat := ch * 2 + sb
def rankKey (ch rank : Nat) : Nat := ch * 2 + rank
def DramPlace.key (p : DramPlace) : Nat := ((p.ch * 2 + p.sub) * 2 + p.rank) * 32 + p.bank

/-! ### Commands to the devices -/

/-- The kinds of command that the controller sends, as `Output.dramCmd` numbers them. -/
def Dk.act : Nat := 0
def Dk.read : Nat := 1
def Dk.write : Nat := 2
def Dk.refAb : Nat := 3
def Dk.refSb : Nat := 4
def Dk.rfm : Nat := 5
def Dk.darn : Nat := 6
def Dk.retrain : Nat := 7
def Dk.zq : Nat := 8
def Dk.replay : Nat := 9

/-- Whether a channel of the interleave set is powered and out of self-refresh. -/
def State.chanUp (s : State) (ch : Nat) : Bool :=
  decide (ch < 4) && s.powered && s.dev != Dev.fill && s.pageUp (P.drc ch) && s.dramSet.contains ch
/-- Whether it takes commands: not entering, in or leaving self-refresh. -/
def State.chanActive (s : State) (ch : Nat) : Bool := s.chanUp ch && s.rd (P.drc ch) R.drc_SR_STATE == 0

/-! ### Refresh (R429) -/

/-- A refresh of a rank issued in the mode of REF_MODE. -/
def State.refreshRank (s : State) (ch rank : Nat) : State :=
  s.send (.dramCmd ch (if s.on (P.drc ch) R.drc_REF_MODE then Dk.refSb else Dk.refAb) rank)
/-- Refreshes postponed by, and pulled in for, a rank. -/
def State.postponed (s : State) (ch rank : Nat) : Nat := (Tbl.at? s.dram.postponed (rankKey ch rank)).getD 0
def State.pulledIn (s : State) (ch rank : Nat) : Nat := (Tbl.at? s.dram.pulledIn (rankKey ch rank)).getD 0
def State.setPostponed (s : State) (ch rank n : Nat) : State :=
  { s with dram := { s.dram with postponed := Tbl.put s.dram.postponed (rankKey ch rank) n } }
def State.setPulledIn (s : State) (ch rank n : Nat) : State :=
  { s with dram := { s.dram with pulledIn := Tbl.put s.dram.pulledIn (rankKey ch rank) n } }
/-- A rank with 4 postponed refreshes receives one ahead of every other command. -/
def State.refreshFirst (s : State) (ch rank : Nat) : State :=
  if 4 ≤ s.postponed ch rank then (s.refreshRank ch rank).setPostponed ch rank 3 else s
/-- tREFI elapsed: a pulled-in refresh stands for this one; with demand queued it is postponed; else it is issued with those postponed, and
on an idle rank the next four are pulled in (log entry 71). -/
def State.refreshTick (s : State) (ch rank : Nat) (demand idle : Bool) : State :=
  let s := s.refreshFirst ch rank
  let held := s.postponed ch rank
  if 0 < s.pulledIn ch rank then s.setPulledIn ch rank (s.pulledIn ch rank - 1)
  else if demand then (s.setPostponed ch rank (held + 1)).count (P.drc ch) 0x070
  else
    let n := held + 1 + (if idle then 4 else 0)
    let s := (List.range n).foldl (fun s _ => s.refreshRank ch rank) s
    (s.setPostponed ch rank 0).setPulledIn ch rank (if idle then 4 else 0)
/-- DRAM_REFRESH_DUE (R429). -/
def execDramRefreshDue (ch rank : Nat) (demandQueued idle : Bool) (s : State) : Host.Outcome State Fault Refusal :=
  .next (s.whenB (s.chanActive ch && decide (rank < s.board.ranks)) fun s => s.refreshTick ch rank demandQueued idle)

/-! ### Activations, RFM and darning (R430 to R432) -/

/-- An activation of a row entered in a bank's table of (row, count). -/
def actTable (t : List (Nat × Nat)) (row : Nat) : List (Nat × Nat) :=
  if (t.map (·.1)).contains row then t.map fun e => if e.1 = row then (row, e.2 + 1) else e
  else if t.length < 16 then t ++ [(row, 1)]
  else match leastBy (fun e : Nat × Nat => e.2) t with
    | some low => t.map fun e => if e.1 = low.1 then (row, low.2 + 1) else e
    | none => t
/-- A bank's table. -/
def State.actOf (s : State) (p : DramPlace) : List (Nat × Nat) := (Tbl.at? s.dram.act p.key).getD []
def State.setAct (s : State) (p : DramPlace) (t : List (Nat × Nat)) : State :=
  { s with dram := { s.dram with act := Tbl.put s.dram.act p.key t } }
/-- The rows within ±DARN_RADIUS of a row that exist. -/
def victims (bits radius row : Nat) : List Nat :=
  ((List.range (2 * radius + 1)).map fun i => row + i).filterMap fun r =>
    if radius ≤ r ∧ r - radius < 2 ^ bits ∧ r - radius ≠ row then some (r - radius) else none
/-- The victims of a row activated and precharged. -/
def State.darnRow (s : State) (p : DramPlace) (row : Nat) : State :=
  (victims (rowBits s.board) (s.rd (P.drc p.ch) R.drc_DARN_RADIUS) row).foldl (fun s v =>
    (s.send (.dramCmd p.ch Dk.darn (p.key * 2 ^ 17 + v))).count (P.drc p.ch) 0x058) s
/-- Darning after an activation of a row: of all sixteen rows of a full table at the threshold, else of the row that reached it. -/
def State.darn (s : State) (p : DramPlace) : State :=
  let t := s.actOf p
  let thr := s.rd (P.drc p.ch) R.drc_DARN_THR
  if t.length = 16 ∧ (t.all fun e => decide (thr ≤ e.2)) = true then
    let s := t.foldl (fun s e => s.darnRow p e.1) s
    ((s.setAct p []).count (P.drc p.ch) 0x060).raise (P.drc p.ch) 2
  else if (t.any fun e => e.1 = p.row ∧ thr ≤ e.2) = true then
    (s.darnRow p p.row).setAct p (t.map fun e => if e.1 = p.row then (e.1, 0) else e)
  else s
/-- RFMsb where the rolling count of a bank reaches RAAIMT. -/
def State.rfm (s : State) (p : DramPlace) : State :=
  let need := s.rd (P.drc p.ch) R.drc_RAAIMT
  if s.on (P.drc p.ch) R.drc_RFM_REQ && decide (0 < need) then
    let n := (Tbl.at? s.dram.raa p.key).getD 0 + 1
    let set (s : State) (v : Nat) : State := { s with dram := { s.dram with raa := Tbl.put s.dram.raa p.key v } }
    if need ≤ n then ((set s (n - need)).send (.dramCmd p.ch Dk.rfm p.key)).count (P.drc p.ch) 0x068 else set s n
  else s
/-- ACT_TABLE_CLEAR (R430): every 32 ms. -/
def execActTableClear (s : State) : Host.Outcome State Fault Refusal := .next { s with dram := { s.dram with act := [] } }

/-! ### Demand accesses (R433, R407 to R409) -/

/-- The address of the line of an access. -/
def lineOf (a : DramAcc) : Nat := dramBase + a.d / 64 * 64
/-- An uncorrectable line read, by its reader: control memory and every reader but a core are a device fault; a core takes Machine Check,
which on Bobbin and Thimble is a device fault too. -/
def State.badLine (s : State) (ch : Nat) (a : DramAcc) (syn : Nat) : State :=
  let p := P.drc ch
  let s := s.noteUe p (lineOf a) syn
  let fault : State → State := fun s => ((s.err p 0x01 0 (lineOf a)).raise p 3).ueFault (if a.who = .block P.seam ∧ a.control then P.seam else p) (lineOf a)
  if a.control then fault s
  else match a.who with
    | .block _ => fault s
    | .core c =>
      let s := s.err P.eic 0x03 p (lineOf a)
      let s := if isShuttle c then s else s.fault' 0x06 P.eic p (lineOf a)
      if s.coreRuns? c then s.enterExc c 1 (lineOf a) (s.core (keyOf c)).pc else s
/-- What the code of the line shows to a read, or to the read that a write of part of a line begins with. -/
def State.lineCode (s : State) (ch : Nat) (a : DramAcc) (o : CodeOutcome) : State :=
  if a.isWrite && a.bytes == 64 && a.d % 64 == 0 then
    s.cleared fun e => !(e == (P.drc ch, (lineOf a)))
  else
    let (o, s) := s.showsAs (P.drc ch) (lineOf a) o
    match o with
    | .correct => s
    | .corrected x => s.correction (P.drc ch) (lineOf a) x
    | .uncorrectable x => s.badLine ch a x
/-- The bytes an access carries, counted for its channel. -/
def State.carry (s : State) (ch n : Nat) : State :=
  let used := (Tbl.at? s.dram.bytes ch).getD 0 + n
  { s with dram := { s.dram with bytes := Tbl.put s.dram.bytes ch used } }.countN P.drm (0x040 + 8 * ch) n
/-- An access served by its bank: a refresh with 4 postponed, then the access with its activation, then the RFM and the darning that this
activation makes due, ahead of the next access. -/
def State.serveDram (s : State) (p : DramPlace) (a : DramAcc) (o : CodeOutcome) : State :=
  let c := P.drc p.ch
  let s := s.refreshFirst p.ch p.rank
  let s := { s with dram := { s.dram with powerDown := s.dram.powerDown.filter (· ≠ p.ch) } }
  let s := (s.send (.dramCmd p.ch Dk.act (p.key * 2 ^ 17 + p.row))).count c 0x050
  let s := (s.send (.dramCmd p.ch (if a.isWrite then Dk.write else Dk.read) (lineOf a))).count c (if a.isWrite then 0x048 else 0x040)
  let s := (s.setAct p (actTable (s.actOf p) p.row)).carry p.ch a.bytes
  ((s.rfm p).darn p).lineCode p.ch a o
/-- An access that waits. -/
def State.waitDram (s : State) (a : DramAcc) (o : CodeOutcome) : State :=
  { s with dram := { s.dram with waits := s.dram.waits ++ [(a, o)] } }
/-- The self-refresh entry of every channel abandoned before abort point 2 (R437); the device's entry with it. -/
def State.abandonSr (s : State) : State :=
  let s := s.dramSet.foldl (fun s ch => (s.wr (P.drc ch) R.drc_SR_STATE 0).count (P.drc ch) 0x080) s
  match s.power.seq with
  | .entry t 3 => s.abandon t 3
  | _ => s
/-- An access that arrives: it abandons an entry into self-refresh, waits for its exit or for the end of a pause, or is served. -/
def State.dramAccess (s : State) (a : DramAcc) (o : CodeOutcome) : State :=
  match s.dramPlace a.d with
  | none => s
  | some p =>
    if !s.chanUp p.ch then s
    else
      let s := s.whenB (s.rd (P.drc p.ch) R.drc_SR_STATE == 1) State.abandonSr
      if s.chanActive p.ch && !s.dram.pausing.contains (subKey p.ch p.sub) then s.serveDram p a o
      else s.waitDram a o
/-- Every waiting access tried again, in order. -/
def State.retryDram (s : State) : State :=
  let l := s.dram.waits
  l.foldl (fun s e => s.dramAccess e.1 e.2) { s with dram := { s.dram with waits := [] } }
/-- DRAM_ACCESS (R433). -/
def execDramAccess (d : DramAcc) (outcome : CodeOutcome) (s : State) : Host.Outcome State Fault Refusal :=
  .next (s.dramAccess d outcome)

/-! ### Training and calibration (R434, R435) -/

/-- A failed retrain: ERR_CODE 0x03 and fault 0x08. -/
def State.retrainFailed (s : State) (ch : Nat) : State :=
  ((s.err (P.drc ch) 0x03 0 0).raise (P.drc ch) 3).fault' 0x08 (P.drc ch) ch 0
/-- ZQ calibration of the subchannels of the set. -/
def State.zqAll (s : State) : State :=
  ((s.dramSet.filter s.chanActive).foldl (fun s ch => (s.send (.dramCmd ch Dk.zq 0)).send (.dramCmd ch Dk.zq 1)) s)
/-- DRAM_RETRAIN_CHECK: a drift above RETRAIN_PS pauses and retrains the subchannel. -/
def execDramRetrainCheck (ch sub driftPs : Nat) (s : State) : Host.Outcome State Fault Refusal :=
  .next (s.whenB (s.chanActive ch && decide (sub < 2) && !s.dram.pausing.contains (subKey ch sub) &&
      decide (s.rd (P.drc ch) R.drc_RETRAIN_PS < driftPs)) fun s =>
    let s := { s with dram := { s.dram with pausing := s.dram.pausing ++ [subKey ch sub] } }
    (((s.send (.dramCmd ch Dk.retrain sub)).count (P.drc ch) 0x078)).raise (P.drc ch) 0)
/-- DRAM_RETRAIN_DONE: the pause ends and the requests that waited are served, or the failure is a device fault; a ZQ calibration that fell
due in a pause follows. -/
def execDramRetrainDone (ch sub : Nat) (ok : Bool) (s : State) : Host.Outcome State Fault Refusal :=
  .next (s.whenB (s.dram.pausing.contains (subKey ch sub)) fun s =>
    let s := { s with dram := { s.dram with pausing := s.dram.pausing.filter (· ≠ subKey ch sub) } }
    if !ok then s.retrainFailed ch
    else
      let s := s.whenB (s.dram.zqDue && s.dram.pausing.isEmpty) fun s => { s with dram := { s.dram with zqDue := false } }.zqAll
      s.retryDram)
/-- ZQ_CALIBRATION_DUE: every 128 ms, after a pause that runs. -/
def execZqCalibrationDue (s : State) : Host.Outcome State Fault Refusal :=
  .next (if s.dram.pausing.isEmpty then s.zqAll else { s with dram := { s.dram with zqDue := true } })
/-- CA_PARITY_ALERT: the last commands replayed, or on a second alert of the subchannel within 1 ms a device fault. -/
def execCaParityAlert (ch sub : Nat) (s : State) : Host.Outcome State Fault Refusal :=
  .next (s.whenB (s.chanActive ch && decide (sub < 2)) fun s =>
    let again := match Tbl.at? s.dram.lastAlert (subKey ch sub) with
      | some t => decide (s.rtcUs - t ≤ 1000)
      | none => false
    let s := { s with dram := { s.dram with lastAlert := Tbl.put s.dram.lastAlert (subKey ch sub) s.rtcUs } }
    if again then ((s.err (P.drc ch) 0x02 0 0).raise (P.drc ch) 3).fault' 0x08 (P.drc ch) ch 0
    else ((s.send (.dramCmd ch Dk.replay sub)).count (P.drc ch) 0x088).raise (P.drc ch) 1)

/-! ### Self-refresh exit (R437; 18_power_clocks.md R451 step 5) -/

/-- The channel out of self-refresh: in a wake the next step follows once all are; else waiting requests are served. -/
def State.srExit (s : State) (ch : Nat) : State :=
  let s := s.wr (P.drc ch) R.drc_SR_STATE 0
  match s.power.seq with
  | .wake t 5 =>
    let s := { s with power := { s.power with dramAwake := ch :: s.power.dramAwake } }
    if (s.dramSet.all fun c => s.power.dramAwake.contains c) then
      let s := { s with power := { s.power with seq := .wake t 6 } }
      (s.whenB (t == .vault) fun s => s.startBoot true).retryDram
    else s
  | _ => s.retryDram
/-- A failed exit check: in a wake a device controller reset, whose RST_CAUSE the spec does not give (log entry 48); else a retrain that
failed. -/
def State.srExitFailed (s : State) (ch : Nat) : State :=
  match s.power.seq with
  | .wake _ 5 => let (v, s) := s.drawFree 4; s.resetFor v
  | _ => (s.wr (P.drc ch) R.drc_SR_STATE 0).retrainFailed ch
/-- DRAM_SELF_REFRESH_EXIT_DONE. -/
def execDramSelfRefreshExitDone (ch : Nat) (ok : Bool) (s : State) : Host.Outcome State Fault Refusal :=
  .next (s.whenB (decide (ch < 4) && s.dramSet.contains ch && s.rd (P.drc ch) R.drc_SR_STATE == 3) fun s =>
    if ok then s.srExit ch else s.srExitFailed ch)

/-! ### The set's channels stay on (R438) -/

/-- DRC_CTRL_EN_CLEAR: refused with CFG_REJ in the interleave set, else at once. -/
def execDrcCtrlEnClear (ag : Agent) (ch : Nat) (sreset : Bool) (s : State) : Host.Outcome State Fault Refusal :=
  .next (s.gated ag (P.drc ch) 0x008 false fun s =>
    if s.dramSet.contains ch then s.flag (P.drc ch) R.drc_CFG_REJ
    else if sreset then s.softReset (P.drc ch)
    else s.disable (P.drc ch))

/-! ### The arbitration epoch (R381, R382; R427; 03_seam_reclaim.md R77) -/

/-- The channel that carried most bytes in the epoch, the lowest of equals, and its share in percent, rounded down (log entry 72). -/
def State.imbalance (s : State) : Nat × Nat :=
  let bytes (c : Nat) : Nat := (Tbl.at? s.dram.bytes c).getD 0
  let total := ((List.range 4).map bytes).sum
  let top := (List.range 4).foldl (fun best c => if bytes best < bytes c then c else best) 0
  (top, bytes top * 100 / total)
/-- IMB_PCT and IMB_CH of an epoch, signalled above IMB_THR once per run of such epochs. -/
def State.recordImb (s : State) : State :=
  let (c, pct) := s.imbalance
  let above := decide (s.rd P.drm R.drm_IMB_THR < pct)
  let first := above && !s.dram.imbRun
  let s := (s.wr P.drm R.drm_IMB_PCT pct).wr P.drm R.drm_IMB_CH c
  let s := { s with dram := { s.dram with bytes := [], imbRun := above } }
  let s := s.whenB above fun s => s.count P.drm 0x060
  s.whenB first fun s => s.raise P.drm 0
/-- ARBITRATION_EPOCH: the shares of the epoch begin anew, with the number of panels now active. -/
def execArbitrationEpoch (s : State) : Host.Outcome State Fault Refusal :=
  .next (s.whenB s.fabricRuns fun s =>
    let s := s.recordImb
    let s := { s with
      spool := { s.spool with coreUs := [] }
      panels := { s.panels with hostBytes := [], epochN := if s.mode M.panel then s.nActive else 1 }
      seam := { s.seam with admitted := [] } }
    s.reclaimCheck.hemRetry.tryWrites)

end Sys2Proof.Machine
end

