-- ==== Sys2Proof/Machine/Dispatch.lean ====
section
/-!
DEFINITION. Sys2Proof/Machine/Dispatch.lean: the meaning of each command, one arm per constructor of Instr.
-/

namespace Sys2Proof.Machine

def exec (i : Instr) (s : State) : Host.Outcome State Fault Refusal :=
  match i with
  | .powerOnDetect => Sys2Proof.Machine.execPowerOnDetect s
  | .regulatorPgood reg => Sys2Proof.Machine.execRegulatorPgood reg s
  | .regulatorPgoodTimeout reg => Sys2Proof.Machine.execRegulatorPgoodTimeout reg s
  | .pwrPgoodLoss reg => Sys2Proof.Machine.execPwrPgoodLoss reg s
  | .crystalRunning => Sys2Proof.Machine.execCrystalRunning s
  | .crystalTimeout => Sys2Proof.Machine.execCrystalTimeout s
  | .xtalRetry ag => Sys2Proof.Machine.execXtalRetry ag s
  | .pllLockAcquired plls => Sys2Proof.Machine.execPllLockAcquired plls s
  | .pllLockLost pll => Sys2Proof.Machine.execPllLockLost pll s
  | .fillSramDone us => Sys2Proof.Machine.execFillSramDone us s
  | .dramTrainingDone ch ok => Sys2Proof.Machine.execDramTrainingDone ch ok s
  | .fillDramDone ms => Sys2Proof.Machine.execFillDramDone ms s
  | .bootFirmwareVerified => Sys2Proof.Machine.execBootFirmwareVerified s
  | .rebuildPhaseDone ms badSlots => Sys2Proof.Machine.execRebuildPhaseDone ms badSlots s
  | .rebuildOverrun => Sys2Proof.Machine.execRebuildOverrun s
  | .devRst ag val => Sys2Proof.Machine.execDevRst ag val s
  | .sreset ag page => Sys2Proof.Machine.execSreset ag page s
  | .tapReset => Sys2Proof.Machine.execTapReset s
  | .hostControllerReset => Sys2Proof.Machine.execHostControllerReset s
  | .flrFunction0 => Sys2Proof.Machine.execFlrFunction0 s
  | .flrFunction1 => Sys2Proof.Machine.execFlrFunction1 s
  | .nvmSubsystemReset => Sys2Proof.Machine.execNvmSubsystemReset s
  | .perstNAssert => Sys2Proof.Machine.execPerstNAssert s
  | .dozeRequest ag => Sys2Proof.Machine.execDozeRequest ag s
  | .slumberRequest ag => Sys2Proof.Machine.execSlumberRequest ag s
  | .vaultRequest ag => Sys2Proof.Machine.execVaultRequest ag s
  | .dozeIdleTimeout => Sys2Proof.Machine.execDozeIdleTimeout s
  | .dozeBiasSettled => Sys2Proof.Machine.execDozeBiasSettled s
  | .dramSelfRefreshEntered => Sys2Proof.Machine.execDramSelfRefreshEntered s
  | .wakeEvent src => Sys2Proof.Machine.execWakeEvent src s
  | .wakeTimerExpiry => Sys2Proof.Machine.execWakeTimerExpiry s
  | .retentionCheckDone failed arrayLost corrected => Sys2Proof.Machine.execRetentionCheckDone failed arrayLost corrected s
  | .dramSelfRefreshExitDone ch ok => Sys2Proof.Machine.execDramSelfRefreshExitDone ch ok s
  | .bobbinImageChecked ok => Sys2Proof.Machine.execBobbinImageChecked ok s
  | .nandTrainingDone ch info result => Sys2Proof.Machine.execNandTrainingDone ch info result s
  | .domOffGo ag => Sys2Proof.Machine.execDomOffGo ag s
  | .domOnGo ag => Sys2Proof.Machine.execDomOnGo ag s
  | .powerLimitAverage watts => Sys2Proof.Machine.execPowerLimitAverage watts s
  | .powerLimitRestore => Sys2Proof.Machine.execPowerLimitRestore s
  | .padTackRel ag lo hi => Sys2Proof.Machine.execPadTackRel ag lo hi s
  | .dvfsReq ag cluster point => Sys2Proof.Machine.execDvfsReq ag cluster point s
  | .vidSettleWait => Sys2Proof.Machine.execVidSettleWait s
  | .dvfsCoresStopped cluster => Sys2Proof.Machine.execDvfsCoresStopped cluster s
  | .dvfsDone cluster => Sys2Proof.Machine.execDvfsDone cluster s
  | .faultRequest code page info addr => Sys2Proof.Machine.execFaultRequest code page info addr s
  | .wardQuiesced => Sys2Proof.Machine.execWardQuiesced s
  | .wardResetTimer => Sys2Proof.Machine.execWardResetTimer s
  | .wdogKick ag => Sys2Proof.Machine.execWdogKick ag s
  | .wdogHalfPeriod => Sys2Proof.Machine.execWdogHalfPeriod s
  | .wdogExpiry => Sys2Proof.Machine.execWdogExpiry s
  | .thimbleHeartbeatTimeout => Sys2Proof.Machine.execThimbleHeartbeatTimeout s
  | .lockstepMismatch => Sys2Proof.Machine.execLockstepMismatch s
  | .registerWrite ag addr size val => Sys2Proof.Machine.execRegisterWrite ag addr size val s
  | .misalignedRegisterAccess ag addr size isRead => Sys2Proof.Machine.execMisalignedRegisterAccess ag addr size isRead s
  | .counterLowRead ag addr => Sys2Proof.Machine.execCounterLowRead ag addr s
  | .lockTake page takers => Sys2Proof.Machine.execLockTake page takers s
  | .lockRelease ag page => Sys2Proof.Machine.execLockRelease ag page s
  | .intClr ag page bits events => Sys2Proof.Machine.execIntClr ag page bits events s
  | .intEn ag page val => Sys2Proof.Machine.execIntEn ag page val s
  | .errCodeClear ag page val => Sys2Proof.Machine.execErrCodeClear ag page val s
  | .routeWrite ag page val => Sys2Proof.Machine.execRouteWrite ag page val s
  | .interruptEntry c => Sys2Proof.Machine.execInterruptEntry c s
  | .txData ag byte => Sys2Proof.Machine.execTxData ag byte s
  | .uartRxByte byte => Sys2Proof.Machine.execUartRxByte byte s
  | .rxDataRead ag => Sys2Proof.Machine.execRxDataRead ag s
  | .gpioEdge pin level => Sys2Proof.Machine.execGpioEdge pin level s
  | .stgMinWrite ag cls val => Sys2Proof.Machine.execStgMinWrite ag cls val s
  | .stagingAllocRequest cls panel tag => Sys2Proof.Machine.execStagingAllocRequest cls panel tag s
  | .ceLeakPeriod page corr => Sys2Proof.Machine.execCeLeakPeriod page corr s
  | .capClr ag => Sys2Proof.Machine.execCapClr ag s
  | .scrubRead w outcome writeReached => Sys2Proof.Machine.execScrubRead w outcome writeReached s
  | .scrubPassTimer dram finished => Sys2Proof.Machine.execScrubPassTimer dram finished s
  | .dramAccess d outcome => Sys2Proof.Machine.execDramAccess d outcome s
  | .dramRefreshDue ch rank demandQueued idle => Sys2Proof.Machine.execDramRefreshDue ch rank demandQueued idle s
  | .actTableClear => Sys2Proof.Machine.execActTableClear s
  | .dramRetrainCheck ch sub driftPs => Sys2Proof.Machine.execDramRetrainCheck ch sub driftPs s
  | .dramRetrainDone ch sub ok => Sys2Proof.Machine.execDramRetrainDone ch sub ok s
  | .zqCalibrationDue => Sys2Proof.Machine.execZqCalibrationDue s
  | .caParityAlert ch sub => Sys2Proof.Machine.execCaParityAlert ch sub s
  | .arbitrationEpoch => Sys2Proof.Machine.execArbitrationEpoch s
  | .drcCtrlEnClear ag ch sreset => Sys2Proof.Machine.execDrcCtrlEnClear ag ch sreset s
  | .sqTailDoorbell q tail => Sys2Proof.Machine.execSqTailDoorbell q tail s
  | .nvmeItemAdmit => Sys2Proof.Machine.execNvmeItemAdmit s
  | .read h slba nlb dp => Sys2Proof.Machine.execRead h slba nlb dp s
  | .write h slba nlb dp => Sys2Proof.Machine.execWrite h slba nlb dp s
  | .flush h => Sys2Proof.Machine.execFlush h s
  | .compare h slba nlb dp => Sys2Proof.Machine.execCompare h slba nlb dp s
  | .verify h slba nlb => Sys2Proof.Machine.execVerify h slba nlb s
  | .writeZeroes h slba nlb deac => Sys2Proof.Machine.execWriteZeroes h slba nlb deac s
  | .datasetManagement h ranges deallocate => Sys2Proof.Machine.execDatasetManagement h ranges deallocate s
  | .copy h sdlba ranges => Sys2Proof.Machine.execCopy h sdlba ranges s
  | .identify h cns dp => Sys2Proof.Machine.execIdentify h cns dp s
  | .getFeatures h fid => Sys2Proof.Machine.execGetFeatures h fid s
  | .setFeatures h fid val => Sys2Proof.Machine.execSetFeatures h fid val s
  | .getLogPage h lid off len dp => Sys2Proof.Machine.execGetLogPage h lid off len dp s
  | .abort h sqid cid => Sys2Proof.Machine.execAbort h sqid cid s
  | .asynchronousEventRequest h => Sys2Proof.Machine.execAsynchronousEventRequest h s
  | .keepAlive h => Sys2Proof.Machine.execKeepAlive h s
  | .firmwareImageDownload h off dp => Sys2Proof.Machine.execFirmwareImageDownload h off dp s
  | .firmwareCommit h => Sys2Proof.Machine.execFirmwareCommit h s
  | .formatNvm h lbaf ses => Sys2Proof.Machine.execFormatNvm h lbaf ses s
  | .namespaceCreate h blocks lbaf => Sys2Proof.Machine.execNamespaceCreate h blocks lbaf s
  | .namespaceDelete h => Sys2Proof.Machine.execNamespaceDelete h s
  | .namespaceAttachment h panel => Sys2Proof.Machine.execNamespaceAttachment h panel s
  | .createIoSq h qid size cqid => Sys2Proof.Machine.execCreateIoSq h qid size cqid s
  | .createIoCq h qid size vec => Sys2Proof.Machine.execCreateIoCq h qid size vec s
  | .deleteIoSq h qid => Sys2Proof.Machine.execDeleteIoSq h qid s
  | .deleteIoCq h qid => Sys2Proof.Machine.execDeleteIoCq h qid s
  | .programDownload h pid ptype dp => Sys2Proof.Machine.execProgramDownload h pid ptype dp s
  | .programDelete h pid => Sys2Proof.Machine.execProgramDelete h pid s
  | .executeProgram h pid dp => Sys2Proof.Machine.execExecuteProgram h pid dp s
  | .memoryRangeSet h setId ranges => Sys2Proof.Machine.execMemoryRangeSet h setId ranges s
  | .memoryRead h off len dp => Sys2Proof.Machine.execMemoryRead h off len dp s
  | .memoryWrite h off len dp => Sys2Proof.Machine.execMemoryWrite h off len dp s
  | .memoryCopy h off nsid slba nlb toMemory => Sys2Proof.Machine.execMemoryCopy h off nsid slba nlb toMemory s
  | .registerRecordRange h first count recLen nocmp => Sys2Proof.Machine.execRegisterRecordRange h first count recLen nocmp s
  | .filterStream h reportBase outBase first count slot streamMode firstOffset outLen => Sys2Proof.Machine.execFilterStream h reportBase outBase first count slot streamMode firstOffset outLen s
  | .hemCreate h first count => Sys2Proof.Machine.execHemCreate h first count s
  | .hemAppend h region bytes dp => Sys2Proof.Machine.execHemAppend h region bytes dp s
  | .unpick h first count => Sys2Proof.Machine.execUnpick h first count s
  | .pleatJob h job => Sys2Proof.Machine.execPleatJob h job s
  | .setLegacyProfile h idx dp => Sys2Proof.Machine.execSetLegacyProfile h idx dp s
  | .bindLegacyProfile h idx => Sys2Proof.Machine.execBindLegacyProfile h idx s
  | .mapUpdateApply seq => Sys2Proof.Machine.execMapUpdateApply seq s
  | .heatHalveTick => Sys2Proof.Machine.execHeatHalveTick s
  | .demoteAgeExpiry group => Sys2Proof.Machine.execDemoteAgeExpiry group s
  | .demotionCopyDone group => Sys2Proof.Machine.execDemotionCopyDone group s
  | .checkpointDue => Sys2Proof.Machine.execCheckpointDue s
  | .checkpointDurable => Sys2Proof.Machine.execCheckpointDurable s
  | .pfailNAssert => Sys2Proof.Machine.execPfailNAssert s
  | .pfailLatch => Sys2Proof.Machine.execPfailLatch s
  | .flushDone ms okA okB => Sys2Proof.Machine.execFlushDone ms okA okB s
  | .seamReadIssue job => Sys2Proof.Machine.execSeamReadIssue job s
  | .nandSlotDecoded job slot ok bits => Sys2Proof.Machine.execNandSlotDecoded job slot ok bits s
  | .readRetryAttempt job okSlots => Sys2Proof.Machine.execReadRetryAttempt job okSlots s
  | .softJobSubmit job slot => Sys2Proof.Machine.execSoftJobSubmit job slot s
  | .lddJobComplete ldd ok => Sys2Proof.Machine.execLddJobComplete ldd ok s
  | .nandProgramDone op ok => Sys2Proof.Machine.execNandProgramDone op ok s
  | .nandEraseDone op ok scrambled => Sys2Proof.Machine.execNandEraseDone op ok scrambled s
  | .targetBusyTimeout ch ce => Sys2Proof.Machine.execTargetBusyTimeout ch ce s
  | .nfcCtrlEnClear ag ch => Sys2Proof.Machine.execNfcCtrlEnClear ag ch s
  | .relocationCommit copy => Sys2Proof.Machine.execRelocationCommit copy s
  | .vfyGo ag => Sys2Proof.Machine.execVfyGo ag s
  | .hemChainCheckDone => Sys2Proof.Machine.execHemChainCheckDone s
  | .hemSealTimer region => Sys2Proof.Machine.execHemSealTimer region s
  | .hemMigrationTrigger region => Sys2Proof.Machine.execHemMigrationTrigger region s
  | .hemMigrationReadDone region => Sys2Proof.Machine.execHemMigrationReadDone region s
  | .hemRelease ag => Sys2Proof.Machine.execHemRelease ag s
  | .paGo ag => Sys2Proof.Machine.execPaGo ag s
  | .paFrameDone data => Sys2Proof.Machine.execPaFrameDone data s
  | .arcFltNAssert => Sys2Proof.Machine.execArcFltNAssert s
  | .ringTailWrite ag tail => Sys2Proof.Machine.execRingTailWrite ag tail s
  | .slvRequestStart => Sys2Proof.Machine.execSlvRequestStart s
  | .slvDecodeAttemptDone scores decoded => Sys2Proof.Machine.execSlvDecodeAttemptDone scores decoded s
  | .slvSectorWritten => Sys2Proof.Machine.execSlvSectorWritten s
  | .slvAbort fromHem idx => Sys2Proof.Machine.execSlvAbort fromHem idx s
  | .slvCtrlEnClear ag => Sys2Proof.Machine.execSlvCtrlEnClear ag s
  | .zoneCfgWrite ag zone rate spt => Sys2Proof.Machine.execZoneCfgWrite ag zone rate spt s
  | .servoWedge w => Sys2Proof.Machine.execServoWedge w s
  | .seekGo ag => Sys2Proof.Machine.execSeekGo ag s
  | .seekTimeout => Sys2Proof.Machine.execSeekTimeout s
  | .spnGo ag => Sys2Proof.Machine.execSpnGo ag s
  | .spnStop ag => Sys2Proof.Machine.execSpnStop ag s
  | .park ag => Sys2Proof.Machine.execPark ag s
  | .spinupTimeout => Sys2Proof.Machine.execSpinupTimeout s
  | .trdAttnNAssert shock => Sys2Proof.Machine.execTrdAttnNAssert shock s
  | .treadleResponse frame => Sys2Proof.Machine.execTreadleResponse frame s
  | .trdNop ag => Sys2Proof.Machine.execTrdNop ag s
  | .rdReg ag => Sys2Proof.Machine.execRdReg ag s
  | .wrReg ag => Sys2Proof.Machine.execWrReg ag s
  | .clrFlt ag => Sys2Proof.Machine.execClrFlt ag s
  | .svoCtrlEnClear ag => Sys2Proof.Machine.execSvoCtrlEnClear ag s
  | .loadGo ag unit => Sys2Proof.Machine.execLoadGo ag unit s
  | .pinkLoadDone unit => Sys2Proof.Machine.execPinkLoadDone unit s
  | .pnkUnitFiltered unit => Sys2Proof.Machine.execPnkUnitFiltered unit s
  | .pnkCtrlEnClear ag unit => Sys2Proof.Machine.execPnkCtrlEnClear ag unit s
  | .jobGo ag engine => Sys2Proof.Machine.execJobGo ag engine s
  | .inlineJobEnqueue seq => Sys2Proof.Machine.execInlineJobEnqueue seq s
  | .decodeJobEnqueue job => Sys2Proof.Machine.execDecodeJobEnqueue job s
  | .pleatJobComplete engine lane => Sys2Proof.Machine.execPleatJobComplete engine lane s
  | .pltCtrlEnClear ag engine => Sys2Proof.Machine.execPltCtrlEnClear ag engine s
  | .batchGo ag => Sys2Proof.Machine.execBatchGo ag s
  | .gaugeSearch => Sys2Proof.Machine.execGaugeSearch s
  | .gaugeCount => Sys2Proof.Machine.execGaugeCount s
  | .gaugeUpdate => Sys2Proof.Machine.execGaugeUpdate s
  | .insert => Sys2Proof.Machine.execInsert s
  | .delete => Sys2Proof.Machine.execDelete s
  | .gaugeWrite => Sys2Proof.Machine.execGaugeWrite s
  | .gaugeRead => Sys2Proof.Machine.execGaugeRead s
  | .gaugeMoveCommit => Sys2Proof.Machine.execGaugeMoveCommit s
  | .gaugeSpreadMove src dst => Sys2Proof.Machine.execGaugeSpreadMove src dst s
  | .widthWrite ag width => Sys2Proof.Machine.execWidthWrite ag width s
  | .gcbFrameReceive words matchInLow => Sys2Proof.Machine.execGcbFrameReceive words matchInLow s
  | .gcbFrameTimeout tag => Sys2Proof.Machine.execGcbFrameTimeout tag s
  | .gcbLinkTimer traffic => Sys2Proof.Machine.execGcbLinkTimer traffic s
  | .gauCtrlEnClear ag => Sys2Proof.Machine.execGauCtrlEnClear ag s
  | .spoolShuttleDispatch => Sys2Proof.Machine.execSpoolShuttleDispatch s
  | .spoolUnitDispatch => Sys2Proof.Machine.execSpoolUnitDispatch s
  | .affinityAgeExpiry item => Sys2Proof.Machine.execAffinityAgeExpiry item s
  | .program item => Sys2Proof.Machine.execProgram item s
  | .seamStream item => Sys2Proof.Machine.execSeamStream item s
  | .seamRegister item => Sys2Proof.Machine.execSeamRegister item s
  | .seamUnpick item => Sys2Proof.Machine.execSeamUnpick item s
  | .seamHemCreate item => Sys2Proof.Machine.execSeamHemCreate item s
  | .seamHemAppend item => Sys2Proof.Machine.execSeamHemAppend item s
  | .pinkLoad item => Sys2Proof.Machine.execPinkLoad item s
  | .pleat item => Sys2Proof.Machine.execPleat item s
  | .gauge item => Sys2Proof.Machine.execGauge item s
  | .dma item => Sys2Proof.Machine.execDma item s
  | .dmaRequestComplete item code => Sys2Proof.Machine.execDmaRequestComplete item code s
  | .dmaTimeout item => Sys2Proof.Machine.execDmaTimeout item s
  | .bufRelease item => Sys2Proof.Machine.execBufRelease item s
  | .stgRelGo ag => Sys2Proof.Machine.execStgRelGo ag s
  | .cancelGo ag => Sys2Proof.Machine.execCancelGo ag s
  | .splCtrlEnClear ag => Sys2Proof.Machine.execSplCtrlEnClear ag s
  | .coreEnWrite ag cluster val => Sys2Proof.Machine.execCoreEnWrite ag cluster val s
  | .takeupGrant => Sys2Proof.Machine.execTakeupGrant s
  | .completionDelivery => Sys2Proof.Machine.execCompletionDelivery s
  | .traceRecordAck => Sys2Proof.Machine.execTraceRecordAck s
  | .bobbinRestart core digestOk => Sys2Proof.Machine.execBobbinRestart core digestOk s
  | .pcieLinkUp speed width sris => Sys2Proof.Machine.execPcieLinkUp speed width sris s
  | .pcieLinkDown => Sys2Proof.Machine.execPcieLinkDown s
  | .ethPortUp port => Sys2Proof.Machine.execEthPortUp port s
  | .ethPortDown port => Sys2Proof.Machine.execEthPortDown port s
  | .groupingWrite ag val => Sys2Proof.Machine.execGroupingWrite ag val s
  | .tcpConnect nqn ctrl qid hdgst ddgst => Sys2Proof.Machine.execTcpConnect nqn ctrl qid hdgst ddgst s
  | .tcpConnectionLost conn => Sys2Proof.Machine.execTcpConnectionLost conn s
  | .tcpRetransmitTimeout conn => Sys2Proof.Machine.execTcpRetransmitTimeout conn s
  | .nvmeTcpCapsule conn cid nsid rsvd io => Sys2Proof.Machine.execNvmeTcpCapsule conn cid nsid rsvd io s
  | .networkControlPacket port kind => Sys2Proof.Machine.execNetworkControlPacket port kind s
  | .readNvmeMiDataStructure dtyp => Sys2Proof.Machine.execReadNvmeMiDataStructure dtyp s
  | .nvmSubsystemHealthStatusPoll => Sys2Proof.Machine.execNvmSubsystemHealthStatusPoll s
  | .controllerHealthStatusPoll => Sys2Proof.Machine.execControllerHealthStatusPoll s
  | .configurationGet cid => Sys2Proof.Machine.execConfigurationGet cid s
  | .configurationSet cid val => Sys2Proof.Machine.execConfigurationSet cid val s
  | .vpdRead off len => Sys2Proof.Machine.execVpdRead off len s
  | .miTunnelledCommand cmd => Sys2Proof.Machine.execMiTunnelledCommand cmd s
  | .panActivate ag => Sys2Proof.Machine.execPanActivate ag s
  | .panReset ag => Sys2Proof.Machine.execPanReset ag s
  | .panRemove ag => Sys2Proof.Machine.execPanRemove ag s
  | .panelDrainDone => Sys2Proof.Machine.execPanelDrainDone s
  | .panelDrainTimeout => Sys2Proof.Machine.execPanelDrainTimeout s
  | .panelSquashDone => Sys2Proof.Machine.execPanelSquashDone s
  | .panelZeroingDone => Sys2Proof.Machine.execPanelZeroingDone s
  | .sqPanelWrite ag q panel => Sys2Proof.Machine.execSqPanelWrite ag q panel s
  | .reqGo ag => Sys2Proof.Machine.execReqGo ag s
  | .modeDrainDone => Sys2Proof.Machine.execModeDrainDone s
  | .modeEnableDone => Sys2Proof.Machine.execModeEnableDone s
  | .patternRead ag => Sys2Proof.Machine.execPatternRead ag s
  | .patternWrite ag => Sys2Proof.Machine.execPatternWrite ag s
  | .patternCopyProgrammed ok => Sys2Proof.Machine.execPatternCopyProgrammed ok s
  | .keyUnlock ag => Sys2Proof.Machine.execKeyUnlock ag s
  | .keyLock ag => Sys2Proof.Machine.execKeyLock ag s
  | .keyPolicy ag => Sys2Proof.Machine.execKeyPolicy ag s
  | .fwWrite ag => Sys2Proof.Machine.execFwWrite ag s
  | .mov c z src dst => Sys2Proof.Machine.execMov c z src dst s
  | .clr c z dst => Sys2Proof.Machine.execClr c z dst s
  | .neg c z src dst => Sys2Proof.Machine.execNeg c z src dst s
  | .not c z src dst => Sys2Proof.Machine.execNot c z src dst s
  | .add c z src dst => Sys2Proof.Machine.execAdd c z src dst s
  | .sub c z src dst => Sys2Proof.Machine.execSub c z src dst s
  | .adc c z src dst => Sys2Proof.Machine.execAdc c z src dst s
  | .sbc c z src dst => Sys2Proof.Machine.execSbc c z src dst s
  | .mul c z src dst => Sys2Proof.Machine.execMul c z src dst s
  | .div c z src dst => Sys2Proof.Machine.execDiv c z src dst s
  | .divu c z src dst => Sys2Proof.Machine.execDivu c z src dst s
  | .rem c z src dst => Sys2Proof.Machine.execRem c z src dst s
  | .remu c z src dst => Sys2Proof.Machine.execRemu c z src dst s
  | .and c z src dst => Sys2Proof.Machine.execAnd c z src dst s
  | .or c z src dst => Sys2Proof.Machine.execOr c z src dst s
  | .xor c z src dst => Sys2Proof.Machine.execXor c z src dst s
  | .andn c z src dst => Sys2Proof.Machine.execAndn c z src dst s
  | .shl c z count dst => Sys2Proof.Machine.execShl c z count dst s
  | .shr c z count dst => Sys2Proof.Machine.execShr c z count dst s
  | .sar c z count dst => Sys2Proof.Machine.execSar c z count dst s
  | .sal c z count dst => Sys2Proof.Machine.execSal c z count dst s
  | .rol c z count dst => Sys2Proof.Machine.execRol c z count dst s
  | .ror c z count dst => Sys2Proof.Machine.execRor c z count dst s
  | .cmp c z op1 op2 => Sys2Proof.Machine.execCmp c z op1 op2 s
  | .tst c z src => Sys2Proof.Machine.execTst c z src s
  | .inc c z dst => Sys2Proof.Machine.execInc c z dst s
  | .dec c z dst => Sys2Proof.Machine.execDec c z dst s
  | .xchg c z a b => Sys2Proof.Machine.execXchg c z a b s
  | .sxtbh c src dst => Sys2Proof.Machine.execSxtbh c src dst s
  | .sxtbw c src dst => Sys2Proof.Machine.execSxtbw c src dst s
  | .sxtbl c src dst => Sys2Proof.Machine.execSxtbl c src dst s
  | .sxthw c src dst => Sys2Proof.Machine.execSxthw c src dst s
  | .sxthl c src dst => Sys2Proof.Machine.execSxthl c src dst s
  | .sxtwl c src dst => Sys2Proof.Machine.execSxtwl c src dst s
  | .zxtbl c src dst => Sys2Proof.Machine.execZxtbl c src dst s
  | .zxthl c src dst => Sys2Proof.Machine.execZxthl c src dst s
  | .zxtwl c src dst => Sys2Proof.Machine.execZxtwl c src dst s
  | .nrwlw c src dst => Sys2Proof.Machine.execNrwlw c src dst s
  | .nrwlh c src dst => Sys2Proof.Machine.execNrwlh c src dst s
  | .nrwlb c src dst => Sys2Proof.Machine.execNrwlb c src dst s
  | .eal c addr dst => Sys2Proof.Machine.execEal c addr dst s
  | .pushe c addr => Sys2Proof.Machine.execPushe c addr s
  | .push c src => Sys2Proof.Machine.execPush c src s
  | .pop c dst => Sys2Proof.Machine.execPop c dst s
  | .bset c bit => Sys2Proof.Machine.execBset c bit s
  | .bclr c bit => Sys2Proof.Machine.execBclr c bit s
  | .bcom c bit => Sys2Proof.Machine.execBcom c bit s
  | .bmov c src dst => Sys2Proof.Machine.execBmov c src dst s
  | .btst c bit => Sys2Proof.Machine.execBtst c bit s
  | .btas c bit => Sys2Proof.Machine.execBtas c bit s
  | .btac c bit => Sys2Proof.Machine.execBtac c bit s
  | .band c src dst => Sys2Proof.Machine.execBand c src dst s
  | .bor c src dst => Sys2Proof.Machine.execBor c src dst s
  | .bxor c src dst => Sys2Proof.Machine.execBxor c src dst s
  | .bscan c field count dst => Sys2Proof.Machine.execBscan c field count dst s
  | .bfex c field width dst => Sys2Proof.Machine.execBfex c field width dst s
  | .bfin c src width field => Sys2Proof.Machine.execBfin c src width field s
  | .bbt c bit target => Sys2Proof.Machine.execBbt c bit target s
  | .bbf c bit target => Sys2Proof.Machine.execBbf c bit target s
  | .dadd c len src dst => Sys2Proof.Machine.execDadd c len src dst s
  | .dsub c len src dst => Sys2Proof.Machine.execDsub c len src dst s
  | .dmul c len src dst => Sys2Proof.Machine.execDmul c len src dst s
  | .ddiv c len src dst => Sys2Proof.Machine.execDdiv c len src dst s
  | .dmov c len src dst => Sys2Proof.Machine.execDmov c len src dst s
  | .dcmp c len src dst => Sys2Proof.Machine.execDcmp c len src dst s
  | .dshf c len shift dst => Sys2Proof.Machine.execDshf c len shift dst s
  | .dtst c len src => Sys2Proof.Machine.execDtst c len src s
  | .dtol c len src dst => Sys2Proof.Machine.execDtol c len src dst s
  | .ltod c len src dst => Sys2Proof.Machine.execLtod c len src dst s
  | .ztod c len src dst => Sys2Proof.Machine.execZtod c len src dst s
  | .dtoz c len src dst => Sys2Proof.Machine.execDtoz c len src dst s
  | .zadd c len src dst => Sys2Proof.Machine.execZadd c len src dst s
  | .zsub c len src dst => Sys2Proof.Machine.execZsub c len src dst s
  | .zcmp c len src dst => Sys2Proof.Machine.execZcmp c len src dst s
  | .zmov c len src dst => Sys2Proof.Machine.execZmov c len src dst s
  | .smov c len src dst => Sys2Proof.Machine.execSmov c len src dst s
  | .sfil c len byte dst => Sys2Proof.Machine.execSfil c len byte dst s
  | .scmp c len a b => Sys2Proof.Machine.execScmp c len a b s
  | .sxlt c len table buf => Sys2Proof.Machine.execSxlt c len table buf s
  | .sfnd c len byte buf => Sys2Proof.Machine.execSfnd c len byte buf s
  | .sskp c len byte buf => Sys2Proof.Machine.execSskp c len byte buf s
  | .sscn c len table buf => Sys2Proof.Machine.execSscn c len table buf s
  | .scrc c len buf crc => Sys2Proof.Machine.execScrc c len buf crc s
  | .br c target => Sys2Proof.Machine.execBr c target s
  | .beq c target => Sys2Proof.Machine.execBeq c target s
  | .bne c target => Sys2Proof.Machine.execBne c target s
  | .blt c target => Sys2Proof.Machine.execBlt c target s
  | .bge c target => Sys2Proof.Machine.execBge c target s
  | .ble c target => Sys2Proof.Machine.execBle c target s
  | .bgt c target => Sys2Proof.Machine.execBgt c target s
  | .bltu c target => Sys2Proof.Machine.execBltu c target s
  | .bgeu c target => Sys2Proof.Machine.execBgeu c target s
  | .bleu c target => Sys2Proof.Machine.execBleu c target s
  | .bgtu c target => Sys2Proof.Machine.execBgtu c target s
  | .bvs c target => Sys2Proof.Machine.execBvs c target s
  | .bvc c target => Sys2Proof.Machine.execBvc c target s
  | .bds c target => Sys2Proof.Machine.execBds c target s
  | .call c target => Sys2Proof.Machine.execCall c target s
  | .dbp c count target => Sys2Proof.Machine.execDbp c count target s
  | .cas c z new expected target => Sys2Proof.Machine.execCas c z new expected target s
  | .xadd c z src target => Sys2Proof.Machine.execXadd c z src target s
  | .post c desc status => Sys2Proof.Machine.execPost c desc status s
  | .wcpl c dst => Sys2Proof.Machine.execWcpl c dst s
  | .rcpl c dst => Sys2Proof.Machine.execRcpl c dst s
  | .trap c info => Sys2Proof.Machine.execTrap c info s
  | .rep c body => Sys2Proof.Machine.execRep c body s
  | .repz c body => Sys2Proof.Machine.execRepz c body s
  | .repnz c body => Sys2Proof.Machine.execRepnz c body s
  | .repu c body => Sys2Proof.Machine.execRepu c body s
  | .chkrd c addr len => Sys2Proof.Machine.execChkrd c addr len s
  | .chkwr c addr len => Sys2Proof.Machine.execChkwr c addr len s
  | .winset c win desc => Sys2Proof.Machine.execWinset c win desc s
  | .winget c win desc => Sys2Proof.Machine.execWinget c win desc s
  | .kload c slot key => Sys2Proof.Machine.execKload c slot key s
  | .kzap c slot => Sys2Proof.Machine.execKzap c slot s
  | .nop c => Sys2Proof.Machine.execNop c s
  | .halt c => Sys2Proof.Machine.execHalt c s
  | .ret c => Sys2Proof.Machine.execRet c s
  | .rte c => Sys2Proof.Machine.execRte c s
  | .fence c => Sys2Proof.Machine.execFence c s
  | .exit c => Sys2Proof.Machine.execExit c s
  | .yield c => Sys2Proof.Machine.execYield c s
  | .wfi c => Sys2Proof.Machine.execWfi c s
  | .bkpt c => Sys2Proof.Machine.execBkpt c s
  | .illegalOpcode c bytes => Sys2Proof.Machine.execIllegalOpcode c bytes s
  | .powerLoss => Sys2Proof.Machine.execPowerLoss s
  | .ccEnSet => Sys2Proof.Machine.execCcEnSet s
  | .cqHeadDoorbell q head => Sys2Proof.Machine.execCqHeadDoorbell q head s
  | .pcieDStateChange d3hot => Sys2Proof.Machine.execPcieDStateChange d3hot s
  | .perstNDeassert => Sys2Proof.Machine.execPerstNDeassert s
  | .pfailNDeassert => Sys2Proof.Machine.execPfailNDeassert s
  | .h2cdataPdu conn cid off data => Sys2Proof.Machine.execH2cdataPdu conn cid off data s
  | .i3cDynamicAddressAssignment addr => Sys2Proof.Machine.execI3cDynamicAddressAssignment addr s
  | .dramPowerDownIdle ch => Sys2Proof.Machine.execDramPowerDownIdle ch s
  | .pauseFrameReceived port prioMask quanta => Sys2Proof.Machine.execPauseFrameReceived port prioMask quanta s

end Sys2Proof.Machine
end

