-- ==== Sys2Proof/WellFormed.lean ====
section
/-!
DEFINITION. Sys2Proof/WellFormed.lean: which commands are well formed: every operand inside the width or the range that the
field it stands for has in the spec. The commands act on any operands; well-formedness is what statements assume.
-/

namespace Sys2Proof

/-- A Bobbin core number is 0 to 7 (21_register_pages.md R507). -/
def Agent.wf : Agent → Bool
  | .bobbin n => decide (n < 8)
  | _ => true

/-- Shuttle cores 0 to 31, Bobbin cores 0 to 7 (10_agrek_model.md R262). -/
def CoreId.wf : CoreId → Bool
  | .shuttle n => decide (n < 32)
  | .bobbin n => decide (n < 8)
  | .thimble => true

/-- The mode bytes whose MODE and REG are a reserved combination (10_agrek_model.md R281, R287). -/
def modeReserved (m : Nat) : Bool :=
  let mode := m / 16
  let reg := m % 16
  if mode = 0x0 ∨ mode = 0xF then false
  else if mode = 0x2 ∨ mode = 0x3 ∨ mode = 0xB ∨ mode = 0xC ∨ mode = 0xD then reg != 0
  else decide (8 ≤ reg)

/-- A specifier's parts fit their encoding: a base register is B0 to B7, an immediate has 1 to 8 bytes. -/
def Spec.wf : Spec → Bool
  | .imm4 v => decide (v < 16)
  | .imm l => decide (1 ≤ l.length ∧ l.length ≤ 8)
  | .abs32 a => decide (a < 2 ^ 32)
  | .abs48 a => decide (a < 2 ^ 48)
  | .disp8 n d => decide (n < 8 ∧ d < 2 ^ 8)
  | .disp16 n d => decide (n < 8 ∧ d < 2 ^ 16)
  | .disp32 n d => decide (n < 8 ∧ d < 2 ^ 32)
  | .index n x => decide (n < 8 ∧ x < 2 ^ 8)
  | .postInc n => decide (n < 8)
  | .preDec n => decide (n < 8)
  | .memInd n d => decide (n < 8 ∧ d < 2 ^ 16)
  | .pcRel d => decide (d < 2 ^ 32)
  | .fpRel d => decide (d < 2 ^ 16)
  | .bitAbs x => decide (x < 2 ^ 24)
  | .bitBase n d => decide (n < 8 ∧ d < 2 ^ 16)
  | .lsShort o => decide (o < 2 ^ 12)
  | .reserved m => decide (m < 256) && modeReserved m

/-- An Agrek instruction has at most three specifiers (R287). -/
def AgInsn.wf (i : AgInsn) : Bool := i.ops.all Spec.wf && decide (i.ops.length ≤ 3)

/-- A command header: CID 16 bits, NSID and the reserved dwords 32 bits (13_host_network.md R353). -/
def Hdr.wf (h : Hdr) : Bool := decide (h.q < 65536 ∧ h.cid < 65536 ∧ h.nsid < 2 ^ 32 ∧ h.rsvd < 2 ^ 32)

/-- Pairs of an address or a first block and a length, 64 and 32 bits. -/
def rangesWf (l : List (Nat × Nat)) : Bool := l.all fun e => decide (e.1 < 2 ^ 64 ∧ e.2 < 2 ^ 32)

/-- A data pointer's segments are 64-bit addresses and 32-bit lengths. -/
def DataPtr.wf : DataPtr → Bool
  | .segs l => rangesWf l
  | .inline _ => true
  | .h2c n => decide (n < 2 ^ 32)

/-- The operands of a capsule command (13_host_network.md R371). -/
def IoCmd.wf : IoCmd → Bool
  | .read a n d | .write a n d | .compare a n d => decide (a < 2 ^ 64 ∧ n < 65537) && d.wf
  | .verify a n | .writeZeroes a n _ => decide (a < 2 ^ 64 ∧ n < 65537)
  | .datasetManagement l _ | .copy _ l => rangesWf l
  | .executeProgram p d => decide (p < 65536) && d.wf
  | .memoryRead a n d | .memoryWrite a n d => decide (a < 2 ^ 64 ∧ n < 2 ^ 32) && d.wf
  | .registerRecordRange f n l _ => decide (f < 2 ^ 40 ∧ n < 2 ^ 33 ∧ l < 65536)
  | .hemCreate f n | .unpick f n => decide (f < 2 ^ 40 ∧ n < 2 ^ 33)
  | .hemAppend r n d => decide (r < 4096 ∧ n < 2 ^ 32) && d.wf
  | .flush | .filterStream | .pleatJob => true

/-- A wedge's decoded fields (06_selvedge_servo.md R165 to R168). -/
def WedgeSample.wf (w : WedgeSample) : Bool :=
  decide (w.wedge < 1024 ∧ w.track < 2 ^ 24 ∧ w.altTrack < 2 ^ 24 ∧ w.a < 2 ^ 16 ∧ w.b < 2 ^ 16)

/-- A demand access lies in the 2 to the 40 bytes of DRAM space and touches at most a line (17_dram.md R423, R433). -/
def DramAcc.wf (d : DramAcc) : Bool := decide (d.d < 2 ^ 40 ∧ d.bytes ≤ 64)

/-- A memory word's page and address. -/
def MemWord.wf (w : MemWord) : Bool := decide (w.page < 0x8E ∧ w.addr < 2 ^ 48)

/-- A channel's parameters (04_nand_channels.md R110). -/
def NandInfo.wf (n : NandInfo) : Bool :=
  decide (n.cePresent < 2 ^ 16 ∧ n.lunsM1 < 4 ∧ n.iface < 4 ∧ n.fastest < 4096)

/-- A syndrome of the capture registers (16_memory_integrity.md R414). -/
def CodeOutcome.wf : CodeOutcome → Bool
  | .correct => true
  | .corrected x | .uncorrectable x => decide (x < 2 ^ 32)

/-- Bytes held as numbers. -/
def bytesWf (l : List Nat) : Bool := l.all fun b => decide (b < 256)

/-- The 16-bit words of a ring frame (09_gauge.md R255). -/
def wordsWf (l : List Nat) : Bool := l.all fun w => decide (w < 2 ^ 16)

/-- A well-formed command. -/
def Instr.wf : Instr → Bool
  | .powerOnDetect => true
  | .regulatorPgood reg => decide (reg < 8)
  | .regulatorPgoodTimeout reg => decide (reg < 8)
  | .pwrPgoodLoss reg => decide (reg < 8)
  | .crystalRunning => true
  | .crystalTimeout => true
  | .xtalRetry ag => ag.wf
  | .pllLockAcquired plls => decide (plls < 2 ^ 41)
  | .pllLockLost pll => decide (pll < 41)
  | .fillSramDone us => decide (us < 2 ^ 16)
  | .dramTrainingDone ch _ => decide (ch < 4)
  | .fillDramDone ms => decide (ms < 65536)
  | .bootFirmwareVerified => true
  | .rebuildPhaseDone ms _ => decide (ms < 65536)
  | .rebuildOverrun => true
  | .devRst ag val => ag.wf && decide (val < 256)
  | .sreset ag page => ag.wf && decide (page < 0x8E)
  | .tapReset => true
  | .hostControllerReset => true
  | .flrFunction0 => true
  | .flrFunction1 => true
  | .nvmSubsystemReset => true
  | .perstNAssert => true
  | .dozeRequest ag => ag.wf
  | .slumberRequest ag => ag.wf
  | .vaultRequest ag => ag.wf
  | .dozeIdleTimeout => true
  | .dozeBiasSettled => true
  | .dramSelfRefreshEntered => true
  | .wakeEvent src => decide (src < 8)
  | .wakeTimerExpiry => true
  | .retentionCheckDone failed _ corrected => decide (failed < 2 ^ 32) && decide (corrected < 2 ^ 32)
  | .dramSelfRefreshExitDone ch _ => decide (ch < 4)
  | .bobbinImageChecked _ => true
  | .nandTrainingDone ch info _ => decide (ch < 24) && info.wf
  | .domOffGo ag => ag.wf
  | .domOnGo ag => ag.wf
  | .powerLimitAverage watts => decide (watts < 2 ^ 16)
  | .powerLimitRestore => true
  | .padTackRel ag lo hi => ag.wf && decide (lo < 2 ^ 32) && decide (hi < 64)
  | .dvfsReq ag cluster point => ag.wf && decide (cluster < 8) && decide (point < 4)
  | .vidSettleWait => true
  | .dvfsCoresStopped cluster => decide (cluster < 8)
  | .dvfsDone cluster => decide (cluster < 8)
  | .faultRequest code page info addr =>
    decide (code < 256) && decide (page < 256) && decide (info < 2 ^ 32) && decide (addr < 2 ^ 48)
  | .wardQuiesced => true
  | .wardResetTimer => true
  | .wdogKick ag => ag.wf
  | .wdogHalfPeriod => true
  | .wdogExpiry => true
  | .thimbleHeartbeatTimeout => true
  | .lockstepMismatch => true
  | .registerWrite ag addr size val => ag.wf && decide (addr < 2 ^ 24) && decide (size < 65536) && decide (val < 2 ^ 64)
  | .misalignedRegisterAccess ag addr size _ => ag.wf && decide (addr < 2 ^ 24) && decide (size < 65536)
  | .counterLowRead ag addr => ag.wf && decide (addr < 2 ^ 24)
  | .lockTake page takers => decide (page < 0x8E) && takers.all Agent.wf
  | .lockRelease ag page => ag.wf && decide (page < 0x8E)
  | .intClr ag page bits events => ag.wf && decide (page < 0x8E) && decide (bits < 2 ^ 32) && decide (events < 2 ^ 32)
  | .intEn ag page val => ag.wf && decide (page < 0x8E) && decide (val < 2 ^ 32)
  | .errCodeClear ag page val => ag.wf && decide (page < 0x8E) && decide (val < 2 ^ 32)
  | .routeWrite ag page val => ag.wf && decide (page < 0x8E) && decide (val < 2 ^ 32)
  | .interruptEntry c => c.wf
  | .txData ag byte => ag.wf && decide (byte < 256)
  | .uartRxByte byte => decide (byte < 256)
  | .rxDataRead ag => ag.wf
  | .gpioEdge pin _ => decide (pin < 16)
  | .stgMinWrite ag _ val => ag.wf && decide (val < 1024)
  | .stagingAllocRequest _ panel tag => decide (panel < 64) && decide (tag < 2 ^ 32)
  | .ceLeakPeriod page corr => decide (page < 0x8E) && (corr.all fun e => decide (e.1 < 2 ^ 48 ∧ e.2 < 2 ^ 32))
  | .capClr ag => ag.wf
  | .scrubRead w outcome _ => w.wf && outcome.wf
  | .scrubPassTimer _ _ => true
  | .dramAccess d outcome => d.wf && outcome.wf
  | .dramRefreshDue ch rank _ _ => decide (ch < 4) && decide (rank < 2)
  | .actTableClear => true
  | .dramRetrainCheck ch sb driftPs => decide (ch < 4) && decide (sb < 2) && decide (driftPs < 2 ^ 16)
  | .dramRetrainDone ch sb _ => decide (ch < 4) && decide (sb < 2)
  | .zqCalibrationDue => true
  | .caParityAlert ch sb => decide (ch < 4) && decide (sb < 2)
  | .arbitrationEpoch => true
  | .drcCtrlEnClear ag ch _ => ag.wf && decide (ch < 4)
  | .sqTailDoorbell q tail => decide (q < 65536) && decide (tail < 65536)
  | .nvmeItemAdmit => true
  | .read h slba nlb dp => h.wf && decide (slba < 2 ^ 64) && decide (nlb < 65537) && dp.wf
  | .write h slba nlb dp => h.wf && decide (slba < 2 ^ 64) && decide (nlb < 65537) && dp.wf
  | .flush h => h.wf
  | .compare h slba nlb dp => h.wf && decide (slba < 2 ^ 64) && decide (nlb < 65537) && dp.wf
  | .verify h slba nlb => h.wf && decide (slba < 2 ^ 64) && decide (nlb < 65537)
  | .writeZeroes h slba nlb _ => h.wf && decide (slba < 2 ^ 64) && decide (nlb < 65537)
  | .datasetManagement h ranges _ => h.wf && rangesWf ranges
  | .copy h sdlba ranges => h.wf && decide (sdlba < 2 ^ 64) && rangesWf ranges
  | .identify h cns dp => h.wf && decide (cns < 256) && dp.wf
  | .getFeatures h fid => h.wf && decide (fid < 256)
  | .setFeatures h fid val => h.wf && decide (fid < 256) && decide (val < 2 ^ 32)
  | .getLogPage h lid off len dp => h.wf && decide (lid < 256) && decide (off < 2 ^ 64) && decide (len < 2 ^ 34) && dp.wf
  | .abort h sqid cid => h.wf && decide (sqid < 65536) && decide (cid < 65536)
  | .asynchronousEventRequest h => h.wf
  | .keepAlive h => h.wf
  | .firmwareImageDownload h off dp => h.wf && decide (off < 2 ^ 64) && dp.wf
  | .firmwareCommit h => h.wf
  | .formatNvm h lbaf ses => h.wf && decide (lbaf < 256) && decide (ses < 8)
  | .namespaceCreate h blocks lbaf => h.wf && decide (blocks < 2 ^ 48) && decide (lbaf < 256)
  | .namespaceDelete h => h.wf
  | .namespaceAttachment h panel => h.wf && decide (panel < 64)
  | .createIoSq h qid size cqid => h.wf && decide (qid < 65536) && decide (size < 65537) && decide (cqid < 65536)
  | .createIoCq h qid size vec => h.wf && decide (qid < 65536) && decide (size < 65537) && decide (vec < 65536)
  | .deleteIoSq h qid => h.wf && decide (qid < 65536)
  | .deleteIoCq h qid => h.wf && decide (qid < 65536)
  | .programDownload h pid ptype dp => h.wf && decide (pid < 65536) && decide (ptype < 256) && dp.wf
  | .programDelete h pid => h.wf && decide (pid < 65536)
  | .executeProgram h pid dp => h.wf && decide (pid < 65536) && dp.wf
  | .memoryRangeSet h setId ranges => h.wf && decide (setId < 65536) && rangesWf ranges
  | .memoryRead h off len dp => h.wf && decide (off < 2 ^ 64) && decide (len < 2 ^ 32) && dp.wf
  | .memoryWrite h off len dp => h.wf && decide (off < 2 ^ 64) && decide (len < 2 ^ 32) && dp.wf
  | .memoryCopy h off nsid slba nlb _ =>
    h.wf && decide (off < 2 ^ 64) && decide (nsid < 2 ^ 32) && decide (slba < 2 ^ 64) && decide (nlb < 65537)
  | .registerRecordRange h first count recLen _ =>
    h.wf && decide (first < 2 ^ 40) && decide (count < 2 ^ 33) && decide (recLen < 65536)
  | .filterStream h reportBase outBase first count slot _ firstOffset outLen =>
    h.wf && decide (reportBase < 2 ^ 48) && decide (outBase < 2 ^ 48) && decide (first < 2 ^ 40) && decide (count < 2 ^ 33) && decide (slot < 4) && decide (firstOffset < 65536) && decide (outLen < 2 ^ 32)
  | .hemCreate h first count => h.wf && decide (first < 2 ^ 40) && decide (count < 2 ^ 33)
  | .hemAppend h region bytes dp => h.wf && decide (region < 4096) && decide (bytes < 2 ^ 32) && dp.wf
  | .unpick h first count => h.wf && decide (first < 2 ^ 40) && decide (count < 2 ^ 33)
  | .pleatJob h job => h.wf && decide (job < 2 ^ 48)
  | .setLegacyProfile h idx dp => h.wf && decide (idx < 65536) && dp.wf
  | .bindLegacyProfile h idx => h.wf && decide (idx < 65536)
  | .mapUpdateApply seq => decide (seq < 2 ^ 48)
  | .heatHalveTick => true
  | .demoteAgeExpiry _ => true
  | .demotionCopyDone _ => true
  | .checkpointDue => true
  | .checkpointDurable => true
  | .pfailNAssert => true
  | .pfailLatch => true
  | .flushDone ms _ _ => decide (ms < 65536)
  | .seamReadIssue _ => true
  | .nandSlotDecoded _ slot _ bits => decide (slot < 16) && decide (bits < 2 ^ 32)
  | .readRetryAttempt _ _ => true
  | .softJobSubmit _ slot => decide (slot < 16)
  | .lddJobComplete ldd _ => decide (ldd < 8)
  | .nandProgramDone _ _ => true
  | .nandEraseDone _ _ _ => true
  | .targetBusyTimeout ch ce => decide (ch < 24) && decide (ce < 16)
  | .nfcCtrlEnClear ag ch => ag.wf && decide (ch < 24)
  | .relocationCommit _ => true
  | .vfyGo ag => ag.wf
  | .hemChainCheckDone => true
  | .hemSealTimer region => decide (region < 4096)
  | .hemMigrationTrigger region => decide (region < 4096)
  | .hemMigrationReadDone region => decide (region < 4096)
  | .hemRelease ag => ag.wf
  | .paGo ag => ag.wf
  | .paFrameDone data => decide (data < 256)
  | .arcFltNAssert => true
  | .ringTailWrite ag tail => ag.wf && decide (tail < 65536)
  | .slvRequestStart => true
  | .slvDecodeAttemptDone _ _ => true
  | .slvSectorWritten => true
  | .slvAbort _ idx => decide (idx < 1024)
  | .slvCtrlEnClear ag => ag.wf
  | .zoneCfgWrite ag zone rate spt => ag.wf && decide (zone < 32) && decide (rate < 4096) && decide (spt < 1024)
  | .servoWedge w => w.wf
  | .seekGo ag => ag.wf
  | .seekTimeout => true
  | .spnGo ag => ag.wf
  | .spnStop ag => ag.wf
  | .park ag => ag.wf
  | .spinupTimeout => true
  | .trdAttnNAssert _ => true
  | .treadleResponse frame => decide (frame < 2 ^ 32)
  | .trdNop ag => ag.wf
  | .rdReg ag => ag.wf
  | .wrReg ag => ag.wf
  | .clrFlt ag => ag.wf
  | .svoCtrlEnClear ag => ag.wf
  | .loadGo ag unit => ag.wf && decide (unit < 28)
  | .pinkLoadDone unit => decide (unit < 28)
  | .pnkUnitFiltered unit => decide (unit < 28)
  | .pnkCtrlEnClear ag unit => ag.wf && decide (unit < 28)
  | .jobGo ag engine => ag.wf && decide (engine < 8)
  | .inlineJobEnqueue seq => decide (seq < 2 ^ 48)
  | .decodeJobEnqueue _ => true
  | .pleatJobComplete engine lane => decide (engine < 8) && decide (lane < 4)
  | .pltCtrlEnClear ag engine => ag.wf && decide (engine < 8)
  | .batchGo ag => ag.wf
  | .gaugeSearch => true
  | .gaugeCount => true
  | .gaugeUpdate => true
  | .insert => true
  | .delete => true
  | .gaugeWrite => true
  | .gaugeRead => true
  | .gaugeMoveCommit => true
  | .gaugeSpreadMove src dst => decide (src < 131072) && decide (dst < 131072)
  | .widthWrite ag width => ag.wf && decide (width < 4)
  | .gcbFrameReceive words _ => wordsWf words
  | .gcbFrameTimeout tag => decide (tag < 2 ^ 16)
  | .gcbLinkTimer _ => true
  | .gauCtrlEnClear ag => ag.wf
  | .spoolShuttleDispatch => true
  | .spoolUnitDispatch => true
  | .affinityAgeExpiry item => decide (item < 65536)
  | .program item => decide (item < 65536)
  | .seamStream item => decide (item < 65536)
  | .seamRegister item => decide (item < 65536)
  | .seamUnpick item => decide (item < 65536)
  | .seamHemCreate item => decide (item < 65536)
  | .seamHemAppend item => decide (item < 65536)
  | .pinkLoad item => decide (item < 65536)
  | .pleat item => decide (item < 65536)
  | .gauge item => decide (item < 65536)
  | .dma item => decide (item < 65536)
  | .dmaRequestComplete item code => decide (item < 65536) && decide (code < 256)
  | .dmaTimeout item => decide (item < 65536)
  | .bufRelease item => decide (item < 65536)
  | .stgRelGo ag => ag.wf
  | .cancelGo ag => ag.wf
  | .splCtrlEnClear ag => ag.wf
  | .coreEnWrite ag cluster val => ag.wf && decide (cluster < 8) && decide (val < 2 ^ 32)
  | .takeupGrant => true
  | .completionDelivery => true
  | .traceRecordAck => true
  | .bobbinRestart core _ => decide (core < 8)
  | .pcieLinkUp speed width _ => decide (speed < 16) && decide (width < 32)
  | .pcieLinkDown => true
  | .ethPortUp port => decide (port < 4)
  | .ethPortDown port => decide (port < 4)
  | .groupingWrite ag val => ag.wf && decide (val < 2 ^ 32)
  | .tcpConnect nqn ctrl qid _ _ => bytesWf nqn && decide (ctrl < 65536) && decide (qid < 65536)
  | .tcpConnectionLost conn => decide (conn < 65536)
  | .tcpRetransmitTimeout conn => decide (conn < 65536)
  | .nvmeTcpCapsule conn cid nsid rsvd io =>
    decide (conn < 65536) && decide (cid < 65536) && decide (nsid < 2 ^ 32) && decide (rsvd < 2 ^ 32) && io.wf
  | .networkControlPacket port _ => decide (port < 4)
  | .readNvmeMiDataStructure dtyp => decide (dtyp < 256)
  | .nvmSubsystemHealthStatusPoll => true
  | .controllerHealthStatusPoll => true
  | .configurationGet cid => decide (cid < 65536)
  | .configurationSet cid val => decide (cid < 65536) && decide (val < 2 ^ 32)
  | .vpdRead off len => decide (off < 2 ^ 64) && decide (len < 2 ^ 32)
  | .miTunnelledCommand _ => true
  | .panActivate ag => ag.wf
  | .panReset ag => ag.wf
  | .panRemove ag => ag.wf
  | .panelDrainDone => true
  | .panelDrainTimeout => true
  | .panelSquashDone => true
  | .panelZeroingDone => true
  | .sqPanelWrite ag q panel => ag.wf && decide (q < 65536) && decide (panel < 64)
  | .reqGo ag => ag.wf
  | .modeDrainDone => true
  | .modeEnableDone => true
  | .patternRead ag => ag.wf
  | .patternWrite ag => ag.wf
  | .patternCopyProgrammed _ => true
  | .keyUnlock ag => ag.wf
  | .keyLock ag => ag.wf
  | .keyPolicy ag => ag.wf
  | .fwWrite ag => ag.wf
  | .mov c _ src dst => c.wf && src.wf && dst.wf
  | .clr c _ dst => c.wf && dst.wf
  | .neg c _ src dst => c.wf && src.wf && dst.wf
  | .not c _ src dst => c.wf && src.wf && dst.wf
  | .add c _ src dst => c.wf && src.wf && dst.wf
  | .sub c _ src dst => c.wf && src.wf && dst.wf
  | .adc c _ src dst => c.wf && src.wf && dst.wf
  | .sbc c _ src dst => c.wf && src.wf && dst.wf
  | .mul c _ src dst => c.wf && src.wf && dst.wf
  | .div c _ src dst => c.wf && src.wf && dst.wf
  | .divu c _ src dst => c.wf && src.wf && dst.wf
  | .rem c _ src dst => c.wf && src.wf && dst.wf
  | .remu c _ src dst => c.wf && src.wf && dst.wf
  | .and c _ src dst => c.wf && src.wf && dst.wf
  | .or c _ src dst => c.wf && src.wf && dst.wf
  | .xor c _ src dst => c.wf && src.wf && dst.wf
  | .andn c _ src dst => c.wf && src.wf && dst.wf
  | .shl c _ count dst => c.wf && count.wf && dst.wf
  | .shr c _ count dst => c.wf && count.wf && dst.wf
  | .sar c _ count dst => c.wf && count.wf && dst.wf
  | .sal c _ count dst => c.wf && count.wf && dst.wf
  | .rol c _ count dst => c.wf && count.wf && dst.wf
  | .ror c _ count dst => c.wf && count.wf && dst.wf
  | .cmp c _ op1 op2 => c.wf && op1.wf && op2.wf
  | .tst c _ src => c.wf && src.wf
  | .inc c _ dst => c.wf && dst.wf
  | .dec c _ dst => c.wf && dst.wf
  | .xchg c _ a b => c.wf && a.wf && b.wf
  | .sxtbh c src dst => c.wf && src.wf && dst.wf
  | .sxtbw c src dst => c.wf && src.wf && dst.wf
  | .sxtbl c src dst => c.wf && src.wf && dst.wf
  | .sxthw c src dst => c.wf && src.wf && dst.wf
  | .sxthl c src dst => c.wf && src.wf && dst.wf
  | .sxtwl c src dst => c.wf && src.wf && dst.wf
  | .zxtbl c src dst => c.wf && src.wf && dst.wf
  | .zxthl c src dst => c.wf && src.wf && dst.wf
  | .zxtwl c src dst => c.wf && src.wf && dst.wf
  | .nrwlw c src dst => c.wf && src.wf && dst.wf
  | .nrwlh c src dst => c.wf && src.wf && dst.wf
  | .nrwlb c src dst => c.wf && src.wf && dst.wf
  | .eal c addr dst => c.wf && addr.wf && dst.wf
  | .pushe c addr => c.wf && addr.wf
  | .push c src => c.wf && src.wf
  | .pop c dst => c.wf && dst.wf
  | .bset c bit => c.wf && bit.wf
  | .bclr c bit => c.wf && bit.wf
  | .bcom c bit => c.wf && bit.wf
  | .bmov c src dst => c.wf && src.wf && dst.wf
  | .btst c bit => c.wf && bit.wf
  | .btas c bit => c.wf && bit.wf
  | .btac c bit => c.wf && bit.wf
  | .band c src dst => c.wf && src.wf && dst.wf
  | .bor c src dst => c.wf && src.wf && dst.wf
  | .bxor c src dst => c.wf && src.wf && dst.wf
  | .bscan c field count dst => c.wf && field.wf && count.wf && dst.wf
  | .bfex c field width dst => c.wf && field.wf && width.wf && dst.wf
  | .bfin c src width field => c.wf && src.wf && width.wf && field.wf
  | .bbt c bit target => c.wf && bit.wf && target.wf
  | .bbf c bit target => c.wf && bit.wf && target.wf
  | .dadd c len src dst => c.wf && len.wf && src.wf && dst.wf
  | .dsub c len src dst => c.wf && len.wf && src.wf && dst.wf
  | .dmul c len src dst => c.wf && len.wf && src.wf && dst.wf
  | .ddiv c len src dst => c.wf && len.wf && src.wf && dst.wf
  | .dmov c len src dst => c.wf && len.wf && src.wf && dst.wf
  | .dcmp c len src dst => c.wf && len.wf && src.wf && dst.wf
  | .dshf c len shift dst => c.wf && len.wf && shift.wf && dst.wf
  | .dtst c len src => c.wf && len.wf && src.wf
  | .dtol c len src dst => c.wf && len.wf && src.wf && dst.wf
  | .ltod c len src dst => c.wf && len.wf && src.wf && dst.wf
  | .ztod c len src dst => c.wf && len.wf && src.wf && dst.wf
  | .dtoz c len src dst => c.wf && len.wf && src.wf && dst.wf
  | .zadd c len src dst => c.wf && len.wf && src.wf && dst.wf
  | .zsub c len src dst => c.wf && len.wf && src.wf && dst.wf
  | .zcmp c len src dst => c.wf && len.wf && src.wf && dst.wf
  | .zmov c len src dst => c.wf && len.wf && src.wf && dst.wf
  | .smov c len src dst => c.wf && len.wf && src.wf && dst.wf
  | .sfil c len byte dst => c.wf && len.wf && byte.wf && dst.wf
  | .scmp c len a b => c.wf && len.wf && a.wf && b.wf
  | .sxlt c len table buf => c.wf && len.wf && table.wf && buf.wf
  | .sfnd c len byte buf => c.wf && len.wf && byte.wf && buf.wf
  | .sskp c len byte buf => c.wf && len.wf && byte.wf && buf.wf
  | .sscn c len table buf => c.wf && len.wf && table.wf && buf.wf
  | .scrc c len buf crc => c.wf && len.wf && buf.wf && crc.wf
  | .br c target => c.wf && target.wf
  | .beq c target => c.wf && target.wf
  | .bne c target => c.wf && target.wf
  | .blt c target => c.wf && target.wf
  | .bge c target => c.wf && target.wf
  | .ble c target => c.wf && target.wf
  | .bgt c target => c.wf && target.wf
  | .bltu c target => c.wf && target.wf
  | .bgeu c target => c.wf && target.wf
  | .bleu c target => c.wf && target.wf
  | .bgtu c target => c.wf && target.wf
  | .bvs c target => c.wf && target.wf
  | .bvc c target => c.wf && target.wf
  | .bds c target => c.wf && target.wf
  | .call c target => c.wf && target.wf
  | .dbp c count target => c.wf && count.wf && target.wf
  | .cas c _ new expected target => c.wf && new.wf && expected.wf && target.wf
  | .xadd c _ src target => c.wf && src.wf && target.wf
  | .post c desc status => c.wf && desc.wf && status.wf
  | .wcpl c dst => c.wf && dst.wf
  | .rcpl c dst => c.wf && dst.wf
  | .trap c info => c.wf && info.wf
  | .rep c body => c.wf && body.wf
  | .repz c body => c.wf && body.wf
  | .repnz c body => c.wf && body.wf
  | .repu c body => c.wf && body.wf
  | .chkrd c addr len => c.wf && addr.wf && len.wf
  | .chkwr c addr len => c.wf && addr.wf && len.wf
  | .winset c win desc => c.wf && win.wf && desc.wf
  | .winget c win desc => c.wf && win.wf && desc.wf
  | .kload c slot key => c.wf && slot.wf && key.wf
  | .kzap c slot => c.wf && slot.wf
  | .nop c => c.wf
  | .halt c => c.wf
  | .ret c => c.wf
  | .rte c => c.wf
  | .fence c => c.wf
  | .exit c => c.wf
  | .yield c => c.wf
  | .wfi c => c.wf
  | .bkpt c => c.wf
  | .illegalOpcode c bytes => c.wf && bytesWf bytes
  | .powerLoss => true
  | .ccEnSet => true
  | .cqHeadDoorbell q head => decide (q < 65536) && decide (head < 65536)
  | .pcieDStateChange _ => true
  | .perstNDeassert => true
  | .pfailNDeassert => true
  | .h2cdataPdu conn cid off _ => decide (conn < 65536) && decide (cid < 65536) && decide (off < 2 ^ 64)
  | .i3cDynamicAddressAssignment addr => decide (addr < 128)
  | .dramPowerDownIdle ch => decide (ch < 4)
  | .pauseFrameReceived port prioMask quanta => decide (port < 4) && decide (prioMask < 256) && decide (quanta < 65536)

end Sys2Proof
end

