-- ==== Sys2Proof/Machine/AgrekCodec.lean ====
section
/-!
DEFINITION. Sys2Proof/Machine/AgrekCodec.lean: the bytes of Agrek instructions: the opcode map and the specifiers, read and written
(10_agrek_model.md R281, R287, R288, R297, R298).
-/

namespace Sys2Proof.Machine

/-- A byte. -/
def by8 (v : Nat) : Byte := BitVec.ofNat 8 v

/-! ### Opcodes (R297, R298) -/

/-- The opcode of a mnemonic: of its byte size where opcode bits [1:0] select the size; escape × 256 + second byte for the two-byte ones. -/
def opcodeOf : Mn → Nat
  | .mov => 0x00 | .clr => 0x04 | .neg => 0x08 | .not => 0x0C | .add => 0x10 | .sub => 0x14 | .adc => 0x18 | .sbc => 0x1C
  | .mul => 0x20 | .div => 0x24 | .divu => 0x28 | .rem => 0x2C | .and => 0x30 | .or => 0x34 | .xor => 0x38 | .andn => 0x3C
  | .shl => 0x40 | .shr => 0x44 | .sar => 0x48 | .sal => 0x4C | .rol => 0x50 | .ror => 0x54 | .cmp => 0x58 | .tst => 0x5C
  | .remu => 0x60 | .inc => 0x64 | .dec => 0x68 | .xchg => 0x6C
  | .sxtbh => 0x70 | .sxtbw => 0x71 | .sxtbl => 0x72 | .sxthw => 0x73 | .sxthl => 0x74 | .sxtwl => 0x75
  | .zxtbl => 0x76 | .zxthl => 0x77 | .zxtwl => 0x78 | .nrwlw => 0x79 | .nrwlh => 0x7A | .nrwlb => 0x7B
  | .eal => 0x7C | .pushe => 0x7D | .push => 0x7E | .pop => 0x7F
  | .bset => 0x80 | .bclr => 0x81 | .bcom => 0x82 | .bmov => 0x83 | .btst => 0x84 | .btas => 0x85 | .btac => 0x86
  | .band => 0x87 | .bor => 0x88 | .bxor => 0x89 | .bscan => 0x8A | .bfex => 0x8B | .bfin => 0x8C | .bbt => 0x8D | .bbf => 0x8E
  | .dadd => 0x90 | .dsub => 0x91 | .dmul => 0x92 | .ddiv => 0x93 | .dmov => 0x94 | .dcmp => 0x95 | .dshf => 0x96
  | .dtst => 0x97 | .dtol => 0x98 | .ltod => 0x99 | .ztod => 0x9A | .dtoz => 0x9B | .zadd => 0x9C | .zsub => 0x9D
  | .zcmp => 0x9E | .zmov => 0x9F
  | .smov => 0xA0 | .sfil => 0xA1 | .scmp => 0xA2 | .sxlt => 0xA3 | .sfnd => 0xA4 | .sskp => 0xA5 | .sscn => 0xA6 | .scrc => 0xA7
  | .br => 0xB0 | .beq => 0xB1 | .bne => 0xB2 | .blt => 0xB3 | .bge => 0xB4 | .ble => 0xB5 | .bgt => 0xB6 | .bltu => 0xB7
  | .bgeu => 0xB8 | .bleu => 0xB9 | .bgtu => 0xBA | .bvs => 0xBB | .bvc => 0xBC | .bds => 0xBD | .call => 0xBE | .dbp => 0xBF
  | .cas => 0xC0 | .xadd => 0xC4 | .post => 0xC8 | .wcpl => 0xC9 | .rcpl => 0xCA | .trap => 0xCC
  | .chkrd => 0xFE00 | .chkwr => 0xFE01 | .winset => 0xFE10 | .winget => 0xFE11 | .kload => 0xFE20 | .kzap => 0xFE21
  | .nop => 0xFF00 | .halt => 0xFF01 | .ret => 0xFF02 | .rte => 0xFF03 | .fence => 0xFF04 | .exit => 0xFF05 | .yield => 0xFF06
  | .wfi => 0xFF07 | .bkpt => 0xFF08

/-- Whether opcode bits [1:0] select the size of a mnemonic. -/
def isSized (mn : Mn) : Bool :=
  [Mn.mov, .clr, .neg, .not, .add, .sub, .adc, .sbc, .mul, .div, .divu, .rem, .and, .or, .xor, .andn, .shl, .shr, .sar, .sal, .rol,
   .ror, .cmp, .tst, .remu, .inc, .dec, .xchg, .cas, .xadd].contains mn
/-- The size code of opcode bits [1:0]. -/
def szCode : Sz → Nat | .b => 0 | .h => 1 | .w => 2 | .l => 3
def szOf : Nat → Sz | 0 => .b | 1 => .h | 2 => .w | _ => .l

/-- The mnemonics, in the order of the opcode map. -/
def allMn : List Mn :=
  [.mov, .clr, .neg, .not, .add, .sub, .adc, .sbc, .mul, .div, .divu, .rem, .and, .or, .xor, .andn, .shl, .shr, .sar, .sal, .rol, .ror,
   .cmp, .tst, .remu, .inc, .dec, .xchg, .sxtbh, .sxtbw, .sxtbl, .sxthw, .sxthl, .sxtwl, .zxtbl, .zxthl, .zxtwl, .nrwlw, .nrwlh,
   .nrwlb, .eal, .pushe, .push, .pop] ++
  [.bset, .bclr, .bcom, .bmov, .btst, .btas, .btac, .band, .bor, .bxor, .bscan, .bfex, .bfin, .bbt, .bbf, .dadd, .dsub, .dmul, .ddiv,
   .dmov, .dcmp, .dshf, .dtst, .dtol, .ltod, .ztod, .dtoz, .zadd, .zsub, .zcmp, .zmov, .smov, .sfil, .scmp, .sxlt, .sfnd, .sskp, .sscn,
   .scrc] ++
  [.br, .beq, .bne, .blt, .bge, .ble, .bgt, .bltu, .bgeu, .bleu, .bgtu, .bvs, .bvc, .bds, .call, .dbp, .cas, .xadd, .post, .wcpl, .rcpl,
   .trap, .chkrd, .chkwr, .winset, .winget, .kload, .kzap, .nop, .halt, .ret, .rte, .fence, .exit, .yield, .wfi, .bkpt]

/-- The opcode number of a mnemonic of a size. -/
def opNumber (mn : Mn) (z : Sz) : Nat := opcodeOf mn + (if isSized mn then szCode z else 0)
/-- The mnemonic and size of an opcode number; none for a reserved opcode. -/
def opOf (n : Nat) : Option (Mn × Sz) :=
  (allMn.find? fun m => if isSized m then decide (opcodeOf m ≤ n ∧ n < opcodeOf m + 4) else n == opcodeOf m).map fun m =>
    (m, if isSized m then szOf (n % 4) else .b)
/-- The bytes of an opcode. -/
def opBytes (n : Nat) : List Byte := if n < 256 then [by8 n] else [by8 (n / 256), by8 n]

/-! ### Specifiers (R281) -/

/-- The bytes of a specifier. -/
def encSpec : Spec → List Byte
  | .imm4 v => [by8 v]
  | .imm l => by8 (0x10 + (l.length - 1)) :: l
  | .abs32 a => by8 0x20 :: natLE 4 a
  | .abs48 a => by8 0x30 :: natLE 6 a
  | .disp8 n d => by8 (0x40 + n) :: natLE 1 d
  | .disp16 n d => by8 (0x50 + n) :: natLE 2 d
  | .disp32 n d => by8 (0x60 + n) :: natLE 4 d
  | .index n x => by8 (0x70 + n) :: natLE 1 x
  | .postInc n => [by8 (0x80 + n)]
  | .preDec n => [by8 (0x90 + n)]
  | .memInd n d => by8 (0xA0 + n) :: natLE 2 d
  | .pcRel d => by8 0xB0 :: natLE 4 d
  | .fpRel d => by8 0xC0 :: natLE 2 d
  | .bitAbs x => by8 0xD0 :: natLE 3 x
  | .bitBase n d => by8 (0xE0 + n) :: natLE 2 d
  | .lsShort o => by8 (0xF0 + o / 256) :: natLE 1 (o % 256)
  | .reserved m => [by8 m]

/-- `n` extension bytes as a number for a specifier, and the bytes after them. -/
def extNum (n : Nat) (r : List Byte) (f : Nat → Spec) : Option (Spec × List Byte) :=
  if n ≤ r.length then some (f (leNat (r.take n)), r.drop n) else none
/-- A specifier read from bytes; none where they run out. -/
def decSpec : List Byte → Option (Spec × List Byte)
  | [] => none
  | b :: r =>
    let m := b.toNat
    let g := m % 16
    if modeReserved m then some (.reserved m, r)
    else
      match m / 16 with
      | 0x0 => some (.imm4 g, r)
      | 0x1 => if g + 1 ≤ r.length then some (.imm (r.take (g + 1)), r.drop (g + 1)) else none
      | 0x2 => extNum 4 r .abs32
      | 0x3 => extNum 6 r .abs48
      | 0x4 => extNum 1 r (.disp8 g)
      | 0x5 => extNum 2 r (.disp16 g)
      | 0x6 => extNum 4 r (.disp32 g)
      | 0x7 => extNum 1 r (.index g)
      | 0x8 => some (.postInc g, r)
      | 0x9 => some (.preDec g, r)
      | 0xA => extNum 2 r (.memInd g)
      | 0xB => extNum 4 r .pcRel
      | 0xC => extNum 2 r .fpRel
      | 0xD => extNum 3 r .bitAbs
      | 0xE => extNum 2 r (.bitBase g)
      | _ => extNum 1 r fun x => .lsShort (g * 256 + x)

/-- The bytes of specifiers, up to the first reserved one, at which the instruction ends (R287). -/
def encSpecs : List Spec → List Byte
  | [] => []
  | p :: r => if specReserved p then encSpec p else encSpec p ++ encSpecs r
/-- `n` specifiers read, or fewer where one is reserved. -/
def decSpecs : Nat → List Byte → Option (List Spec × List Byte)
  | 0, r => some ([], r)
  | n + 1, l =>
    match decSpec l with
    | none => none
    | some (p, r) =>
      if specReserved p then some ([p], r)
      else match decSpecs n r with
        | none => none
        | some (ps, r) => some (p :: ps, r)

/-! ### Instructions (R287, R288) -/

/-- The bytes of an instruction without a prefix. -/
def encInsn (i : AgInsn) : List Byte := opBytes (opNumber i.mn i.z) ++ encSpecs i.ops
/-- What bytes spell: an instruction with the bytes after it, a reserved opcode, or too few bytes. -/
inductive Spelled where
  | insn (i : AgInsn) (rest : List Byte)
  | illegal
  | short
deriving DecidableEq, Repr
/-- An instruction whose opcode number is read. -/
def decOps (n : Nat) (r : List Byte) : Spelled :=
  match opOf n with
  | none => .illegal
  | some (mn, z) =>
    match decSpecs (formsOf mn z).length r with
    | none => .short
    | some (ps, r) => .insn ⟨mn, z, ps⟩ r
/-- An instruction without a prefix read from bytes. -/
def decInsn : List Byte → Spelled
  | [] => .short
  | b :: r =>
    if b.toNat = 0xFE ∨ b.toNat = 0xFF then
      match r with
      | [] => .short
      | c :: r => decOps (b.toNat * 256 + c.toNat) r
    else decOps b.toNat r
/-- The bytes of a prefix. -/
def rpByte : Rp → Nat | .rep => 0xE0 | .repz => 0xE1 | .repnz => 0xE2 | .repu => 0xE3
/-- The prefix that a byte spells. -/
def rpOf (n : Nat) : Option Rp :=
  if n = 0xE0 then some .rep else if n = 0xE1 then some .repz else if n = 0xE2 then some .repnz else if n = 0xE3 then some .repu else none
/-- An instruction with its prefix read from bytes; a prefix before a prefix or before 0xFF is illegal. -/
def decTop : List Byte → Option Rp × Spelled
  | [] => (none, .short)
  | b :: r =>
    match rpOf b.toNat with
    | none => (none, decInsn (b :: r))
    | some p =>
      match r with
      | [] => (some p, .short)
      | c :: _ => (some p, if (rpOf c.toNat).isSome ∨ c.toNat = 0xFF then .illegal else decInsn r)

/-- An instruction that has an encoding: its size is `.b` where its opcode carries none, its specifiers are well formed, and they are as
many as its operands, or end at the first reserved one. -/
def insnCanon (i : AgInsn) : Bool :=
  (isSized i.mn || i.z == .b) && i.ops.all Spec.wf &&
    (let n := (formsOf i.mn i.z).length
     let k := (i.ops.takeWhile fun p => !specReserved p).length
     (k == i.ops.length && k == n) || (k + 1 == i.ops.length && decide (k < n)))

end Sys2Proof.Machine
end

