-- ==== Sys2Proof/Safety.lean ====
section
/-!
DEFINITION. Sys2Proof/Safety.lean: what a safe run is, and the words that the claims use: a command carried out, a register
access that reaches its page, registers left alone, an Agrek instruction that meets no exception and the state it leaves.
-/

namespace Sys2Proof

/-- A run of `n` steps from a state that meets neither a fault nor a refusal. -/
def SafeFor (n : Nat) (s : Machine.State) : Prop := ∃ t : Machine.State, Sys2Proof.core.run n s = .next t

end Sys2Proof

namespace Sys2Proof.Machine

/-! ### Commands -/

/-- A command is carried out: `exec` answers a next state, and of it `P` holds. -/
def Does (i : Instr) (s : State) (P : State → Prop) : Prop := ∃ t, exec i s = .next t ∧ P t

/-- A register access of an agent reaches page `p`: no low-power state and no entry to one stands, the device is not in Ward, the agent and the
page answer, and no other agent holds the page's lock. -/
def Reaches (s : State) (ag : Agent) (p : Nat) : Prop :=
  (s.power.seq = .run ∨ ∃ l n, s.power.seq = .wake l n) ∧ s.agentUp ag = true ∧ s.pageOpen p = true ∧ s.dev ≠ Dev.ward ∧ s.lockedOut ag p = false

/-- Every stored register field but those listed, each by its key, is as before. -/
def SameRegs (s t : State) (l : List Nat) : Prop := ∀ k, k ∉ l → Tbl.at? t.regs k = Tbl.at? s.regs k

/-- The fetch of the NVMe command `h` succeeds, for panel `p`: its queue holds it, the device runs in Ready or Read-only and is not held by
PFAIL, the panel's admission is open, there is room for one more outstanding command, and its identifier is free. -/
def Fetches (s : State) (h : Hdr) (p : Nat) : Prop :=
  s.fetchPanel h = some p ∧ s.power.seq = .run ∧ s.upState = true ∧ s.seam.pfailHold = false ∧ s.panels.closed.contains p = false ∧
    s.cmdRoom p = true ∧ Tbl.has s.nvme.cmds (cmdKey h) = false

/-- The state once command `h` has been fetched. -/
def State.fetched (s : State) (h : Hdr) : State := (s.sqAdvance h).wr P.nvm R.nvm_FETCH_PAUSED 0

/-- The namespace that command `h` names is `n`, and panel `p` reaches it. -/
def OnNs (s : State) (h : Hdr) (p : Nat) (n : Ns) : Prop :=
  Tbl.at? s.nvme.ns (hdrNs h) = some n ∧ h.nsid ≠ 0 ∧ s.panelOf n.panel = p

/-- A mailbox command of agent `ag` begins at once: its page is reached, none waits or runs, and Thimble has no other request. -/
def MbReady (s : State) (ag : Agent) : Prop :=
  Reaches s ag P.thm ∧ s.rd P.thm R.thm_MB_BUSY = 0 ∧ s.serial.queue = [] ∧ s.serialBusy = false

/-- The state as mailbox command `n` begins. -/
def State.mbFrom (s : State) (n : Nat) : State := (s.wr P.thm R.thm_MB_CMD n).wr P.thm R.thm_MB_BUSY 1

/-- Item `n` stands in its unit's queue, dispatched: an item of kind `k`. -/
def Queued (s : State) (n k : Nat) (i : Item) : Prop := s.item? n = some i ∧ i.st = .dispatched ∧ i.kind = k

/-- The state once item `n` has been taken up by its unit. -/
def State.begun (s : State) (n : Nat) : State := s.updItem n fun i => { i with st := .running }

/-- A SEAM item of operation `op` stands in the queue, on a namespace of its own panel whose key slot is open. -/
def SeamQueued (s : State) (n op : Nat) (i : Item) : Prop :=
  Queued s n 2 i ∧ i.op = op ∧ s.nsPanel (s.itemNs i) = i.panel ∧ s.keyOpen (s.itemNs i) = true

/-- A request to Thimble begins at once: no other waits or runs. -/
def ThmIdle (s : State) : Prop := s.serial.queue = [] ∧ s.serialBusy = false

/-- The sideband answers: over SMBus or a bound I3C, with the device powered, past Fill and running. -/
def MiUp (s : State) : Prop :=
  (s.rd P.sbd R.sbd_SMB_EN ≠ 0 ∨ (s.rd P.sbd R.sbd_I3C_EN ≠ 0 ∧ s.rd P.sbd R.sbd_I3C_ADDR_VALID ≠ 0)) ∧ s.powered = true ∧
    s.dev ≠ Dev.fill ∧ s.power.seq = .run

/-! ### Agrek instructions -/

/-- Core `c` runs and executes `i` with no prefix: no exception at fetch or decode, and `x` is what its specifiers and operands came to. -/
def AgReady (s : State) (c : CoreId) (i : AgInsn) (x : AgIn) : Prop :=
  let j := fullInsn i
  s.coreRuns? c = true ∧ s.fetchExc c (insnLen j) (decodeExc c j) = none ∧
    s.operandsOf c j false (addr48 ((s.core (keyOf c)).pc + insnLen j)) (opcodeLen j.mn) = .ok x

/-- The state after phase 5 of an instruction that completed with outcome `o`, its traps taken. -/
def agEnd (s : State) (c : CoreId) (x : AgIn) (o : AgOut) : State :=
  let r := finishInsn c x o
  o.fin (r.1.takeTraps c (r.2 ++ traceTrap (s.core (keyOf c)).psw))

/-- The outcome of an instruction that writes operand `j` with the value `v`, at the operand's length, and flags. -/
def AgIn.writes (x : AgIn) (j v : Nat) (f : FlagW) : AgOut := { s := x.s, c := x.c, outs := [(j, natLE (x.lens.getD j 0) v)], flags := f }

/-- The outcome of an instruction that writes operands and flags and nothing else. -/
def AgIn.ends (x : AgIn) (outs : List (Nat × List Byte)) (f : FlagW) : AgOut := { s := x.s, c := x.c, outs := outs, flags := f }

/-- The outcome of a decimal instruction whose result for operand `j` is the value `v` (R273, R304, R307). -/
def AgIn.writesDec (x : AgIn) (zoned : Bool) (j : Nat) (v : Int) : AgOut :=
  x.ends [(j, (decResult zoned x.c.psw (x.lens.getD j 0) v).1)] (decResult zoned x.c.psw (x.lens.getD j 0) v).2

/-- The fabric ranges that an instruction with outcome `o` stores to, each an address and a length. -/
def AgOut.stores (o : AgOut) (c : CoreId) (x : AgIn) : List (Nat × Nat) :=
  let outs := o.outs.map (fun e => (x.locs.getD e.1 .bad, e.2)) ++
    (match o.push with
     | some v => [(Loc.mem (addr48 ((o.c.setB 7 (o.c.breg 7 + 2 ^ 64 - 8)).breg 7)), natLE 8 v)]
     | none => [])
  outs.filterMap fun e =>
    match e.1 with
    | .mem a => match (if e.2 = [] then none else placeOf c o.c a e.2.length .wr) with | some (.fab f _ _) => some (f, e.2.length) | _ => none
    | _ => none

/-- Wherever the instruction `i` meets no exception, and `P` holds of its operands, the command `ins` of core `c` completes with the
outcome `o`. -/
def AgDoes (ins : Instr) (c : CoreId) (i : AgInsn) (P : AgIn → Prop) (o : AgIn → AgOut) : Prop :=
  ∀ s x, AgReady s c i x → P x → exec ins s = .next (agEnd s c x (o x))

/-- Wherever the instruction `i` meets no exception before it computes, and `P` holds of its operands, the command raises `e`. -/
def AgRaises (ins : Instr) (c : CoreId) (i : AgInsn) (P : AgIn → Prop) (e : AgIn → Exc) : Prop :=
  ∀ s x, AgReady s c i x → P x → exec ins s = .next (s.raiseExc c (e x))

/-- No condition on the operands. -/
def always (_ : AgIn) : Prop := True

/-- Core `c` runs and executes `i` under the prefix `p` with RCNT not 0: no exception before the iteration computes. -/
def RepReady (s : State) (c : CoreId) (p : Rp) (i : AgInsn) (x : AgIn) : Prop :=
  let j := fullInsn i
  let pc := (s.core (keyOf c)).pc
  escFF j.mn = false ∧ s.coreRuns? c = true ∧ (s.core (keyOf c)).rcnt ≠ 0 ∧
    s.fetchExc c (1 + insnLen j) (decodeExc c j ++ repeatExc s c p j) = none ∧
    s.operandsOf c j true (addr48 (pc + (1 + insnLen j))) (1 + opcodeLen j.mn) = .ok x

/-- The state after one iteration with outcome `o`, where `more` says whether another iteration is due: RCNT one less, the PC at the prefix
while another is due, the traps taken. -/
def repEnd (s : State) (c : CoreId) (x : AgIn) (o : AgOut) (more : Bool) : State :=
  let k := s.core (keyOf c)
  let r := finishInsn c x o
  let t := r.1.updCore c fun d => { d with rcnt := k.rcnt - 1, pc := if more then k.pc else d.pc }
  o.fin (t.takeTraps c (r.2 ++ (if more then [] else traceTrap k.psw)))

end Sys2Proof.Machine
end

