-- ==== Sys2Proof/Certificates/Slice0/Obligations.lean ====
section
/-!
DEFINITION. Sys2Proof/Certificates/Slice0/Obligations.lean: what is to be proved of the model, one statement per `Prop`, from the spec's
numbered rules.
-/

open Sys2Proof Sys2Proof.Machine

/-- R299, R300, R301: the moves, extensions and exchanges. MOV, CLR, NOT and the extensions clear V and leave C; N and Z follow the result;
XCHG and EAL write no flag. -/
def Obligations.AgrekMoves : Prop := ∀ c : CoreId,
  (∀ z src dst, AgDoes (.mov c z src dst) c ⟨.mov, z, [src, dst]⟩ always fun x =>
    x.writes 1 (x.v 0) (flagsOf x.w (x.v 0) none (some false))) ∧
  (∀ z dst, AgDoes (.clr c z dst) c ⟨.clr, z, [dst]⟩ always fun x => x.writes 0 0 { v := some false, n := some false, z := some true }) ∧
  (∀ z src dst, AgDoes (.not c z src dst) c ⟨.not, z, [src, dst]⟩ always fun x =>
    x.writes 1 (2 ^ x.w - 1 - x.v 0) (flagsOf x.w (2 ^ x.w - 1 - x.v 0) none (some false))) ∧
  (∀ z a b, AgDoes (.xchg c z a b) c ⟨.xchg, z, [a, b]⟩ always fun x => x.ends [(0, x.bytes 1), (1, x.bytes 0)] {}) ∧
  (∀ src dst, AgDoes (.sxtbh c src dst) c ⟨.sxtbh, .b, [src, dst]⟩ always fun x =>
    let r := ofSigned 16 (toSigned 8 (x.v 0)); x.writes 1 r (flagsOf 16 r none (some false))) ∧
  (∀ src dst, AgDoes (.sxtbw c src dst) c ⟨.sxtbw, .b, [src, dst]⟩ always fun x =>
    let r := ofSigned 32 (toSigned 8 (x.v 0)); x.writes 1 r (flagsOf 32 r none (some false))) ∧
  (∀ src dst, AgDoes (.sxtbl c src dst) c ⟨.sxtbl, .b, [src, dst]⟩ always fun x =>
    let r := ofSigned 64 (toSigned 8 (x.v 0)); x.writes 1 r (flagsOf 64 r none (some false))) ∧
  (∀ src dst, AgDoes (.sxthw c src dst) c ⟨.sxthw, .b, [src, dst]⟩ always fun x =>
    let r := ofSigned 32 (toSigned 16 (x.v 0)); x.writes 1 r (flagsOf 32 r none (some false))) ∧
  (∀ src dst, AgDoes (.sxthl c src dst) c ⟨.sxthl, .b, [src, dst]⟩ always fun x =>
    let r := ofSigned 64 (toSigned 16 (x.v 0)); x.writes 1 r (flagsOf 64 r none (some false))) ∧
  (∀ src dst, AgDoes (.sxtwl c src dst) c ⟨.sxtwl, .b, [src, dst]⟩ always fun x =>
    let r := ofSigned 64 (toSigned 32 (x.v 0)); x.writes 1 r (flagsOf 64 r none (some false))) ∧
  (∀ src dst, AgDoes (.zxtbl c src dst) c ⟨.zxtbl, .b, [src, dst]⟩ always fun x =>
    x.writes 1 (x.v 0) (flagsOf 64 (x.v 0) none (some false))) ∧
  (∀ src dst, AgDoes (.zxthl c src dst) c ⟨.zxthl, .b, [src, dst]⟩ always fun x =>
    x.writes 1 (x.v 0) (flagsOf 64 (x.v 0) none (some false))) ∧
  (∀ src dst, AgDoes (.zxtwl c src dst) c ⟨.zxtwl, .b, [src, dst]⟩ always fun x =>
    x.writes 1 (x.v 0) (flagsOf 64 (x.v 0) none (some false))) ∧
  (∀ addr dst, AgDoes (.eal c addr dst) c ⟨.eal, .b, [addr, dst]⟩ always fun x => x.ends [(1, natLE 8 (x.ea 0))] {})

/-- R300, R301: sums, differences and comparisons at the width `x.w`: C is the carry out or the borrow, V says that the exact signed result
lies outside the signed range, N and Z follow the result. CMP and TST write nothing but flags. NEG of the most negative value is itself. -/
def Obligations.AgrekAddSubtract : Prop := ∀ (c : CoreId) (z : Sz),
  (∀ src dst, AgDoes (.add c z src dst) c ⟨.add, z, [src, dst]⟩ always fun x =>
    let r := (x.v 1 + x.v 0) % 2 ^ x.w
    x.writes 1 r (flagsOf x.w r (some (decide (2 ^ x.w ≤ x.v 1 + x.v 0)))
      (some (outOfSigned x.w (toSigned x.w (x.v 1) + toSigned x.w (x.v 0)))))) ∧
  (∀ dst, AgDoes (.inc c z dst) c ⟨.inc, z, [dst]⟩ always fun x =>
    let r := (x.v 0 + 1) % 2 ^ x.w
    x.writes 0 r (flagsOf x.w r (some (decide (2 ^ x.w ≤ x.v 0 + 1))) (some (outOfSigned x.w (toSigned x.w (x.v 0) + toSigned x.w 1))))) ∧
  (∀ src dst, AgDoes (.sub c z src dst) c ⟨.sub, z, [src, dst]⟩ always fun x =>
    let r := (x.v 1 + 2 * 2 ^ x.w - x.v 0) % 2 ^ x.w
    x.writes 1 r (flagsOf x.w r (some (decide (x.v 1 < x.v 0)))
      (some (outOfSigned x.w (toSigned x.w (x.v 1) - toSigned x.w (x.v 0)))))) ∧
  (∀ dst, AgDoes (.dec c z dst) c ⟨.dec, z, [dst]⟩ always fun x =>
    let r := (x.v 0 + 2 * 2 ^ x.w - 1) % 2 ^ x.w
    x.writes 0 r (flagsOf x.w r (some (decide (x.v 0 < 1))) (some (outOfSigned x.w (toSigned x.w (x.v 0) - toSigned x.w 1))))) ∧
  (∀ src dst, AgDoes (.adc c z src dst) c ⟨.adc, z, [src, dst]⟩ always fun x =>
    let n := x.v 1 + x.v 0 + (x.c.psw.testBit Psw.c).toNat
    x.writes 1 (n % 2 ^ x.w) (flagsOf x.w (n % 2 ^ x.w) (some (decide (2 ^ x.w ≤ n)))
      (some (outOfSigned x.w (toSigned x.w (x.v 1) + toSigned x.w (x.v 0) + (x.c.psw.testBit Psw.c).toNat))))) ∧
  (∀ src dst, AgDoes (.sbc c z src dst) c ⟨.sbc, z, [src, dst]⟩ always fun x =>
    let k := (x.c.psw.testBit Psw.c).toNat
    let r := (x.v 1 + 2 * 2 ^ x.w - x.v 0 - k) % 2 ^ x.w
    x.writes 1 r (flagsOf x.w r (some (decide (x.v 1 < x.v 0 + k)))
      (some (outOfSigned x.w (toSigned x.w (x.v 1) - toSigned x.w (x.v 0) - k))))) ∧
  (∀ src dst, AgDoes (.neg c z src dst) c ⟨.neg, z, [src, dst]⟩ always fun x =>
    let r := (2 * 2 ^ x.w - x.v 0) % 2 ^ x.w
    x.writes 1 r (flagsOf x.w r (some (decide (0 < x.v 0))) (some (outOfSigned x.w (-(toSigned x.w (x.v 0))))))) ∧
  (∀ op1 op2, AgDoes (.cmp c z op1 op2) c ⟨.cmp, z, [op1, op2]⟩ always fun x =>
    x.ends [] (flagsOf x.w ((x.v 0 + 2 * 2 ^ x.w - x.v 1) % 2 ^ x.w) (some (decide (x.v 0 < x.v 1)))
      (some (outOfSigned x.w (toSigned x.w (x.v 0) - toSigned x.w (x.v 1)))))) ∧
  (∀ src, AgDoes (.tst c z src) c ⟨.tst, z, [src]⟩ always fun x => x.ends [] (flagsOf x.w (x.v 0) (some false) (some false)))

/-- R300, R301: products, quotients, remainders and narrowing. A divisor of 0 raises Divide Check; else DIV truncates toward zero with V where
the quotient lies outside the signed range, REM has the sign of dst, MUL keeps the low bits of the signed product. -/
def Obligations.AgrekMultiplyDivide : Prop := ∀ c : CoreId,
  (∀ z src dst, AgDoes (.mul c z src dst) c ⟨.mul, z, [src, dst]⟩ always fun x =>
    let p := toSigned x.w (x.v 1) * toSigned x.w (x.v 0)
    x.writes 1 (ofSigned x.w p) (flagsOf x.w (ofSigned x.w p) none (some (outOfSigned x.w p)))) ∧
  (∀ z src dst, AgDoes (.div c z src dst) c ⟨.div, z, [src, dst]⟩ (fun x => x.v 0 ≠ 0) fun x =>
    let q := Int.tdiv (toSigned x.w (x.v 1)) (toSigned x.w (x.v 0))
    x.writes 1 (ofSigned x.w q) (flagsOf x.w (ofSigned x.w q) none (some (outOfSigned x.w q)))) ∧
  (∀ z src dst, AgDoes (.divu c z src dst) c ⟨.divu, z, [src, dst]⟩ (fun x => x.v 0 ≠ 0) fun x =>
    x.writes 1 (x.v 1 / x.v 0) (flagsOf x.w (x.v 1 / x.v 0) none (some false))) ∧
  (∀ z src dst, AgDoes (.rem c z src dst) c ⟨.rem, z, [src, dst]⟩ (fun x => x.v 0 ≠ 0) fun x =>
    let r := ofSigned x.w (Int.tmod (toSigned x.w (x.v 1)) (toSigned x.w (x.v 0)))
    x.writes 1 r (flagsOf x.w r none (some false))) ∧
  (∀ z src dst, AgDoes (.remu c z src dst) c ⟨.remu, z, [src, dst]⟩ (fun x => x.v 0 ≠ 0) fun x =>
    x.writes 1 (x.v 1 % x.v 0) (flagsOf x.w (x.v 1 % x.v 0) none (some false))) ∧
  (∀ z src dst, AgRaises (.div c z src dst) c ⟨.div, z, [src, dst]⟩ (fun x => x.v 0 = 0) fun _ => Exc.divide) ∧
  (∀ z src dst, AgRaises (.divu c z src dst) c ⟨.divu, z, [src, dst]⟩ (fun x => x.v 0 = 0) fun _ => Exc.divide) ∧
  (∀ z src dst, AgRaises (.rem c z src dst) c ⟨.rem, z, [src, dst]⟩ (fun x => x.v 0 = 0) fun _ => Exc.divide) ∧
  (∀ z src dst, AgRaises (.remu c z src dst) c ⟨.remu, z, [src, dst]⟩ (fun x => x.v 0 = 0) fun _ => Exc.divide) ∧
  (∀ src dst, AgDoes (.nrwlw c src dst) c ⟨.nrwlw, .b, [src, dst]⟩ always fun x =>
    x.writes 1 (x.v 0 % 2 ^ 32) (flagsOf 32 (x.v 0 % 2 ^ 32) none (some (outOfSigned 32 (toSigned 64 (x.v 0)))))) ∧
  (∀ src dst, AgDoes (.nrwlh c src dst) c ⟨.nrwlh, .b, [src, dst]⟩ always fun x =>
    x.writes 1 (x.v 0 % 2 ^ 16) (flagsOf 16 (x.v 0 % 2 ^ 16) none (some (outOfSigned 16 (toSigned 64 (x.v 0)))))) ∧
  (∀ src dst, AgDoes (.nrwlb c src dst) c ⟨.nrwlb, .b, [src, dst]⟩ always fun x =>
    x.writes 1 (x.v 0 % 2 ^ 8) (flagsOf 8 (x.v 0 % 2 ^ 8) none (some (outOfSigned 8 (toSigned 64 (x.v 0))))))

/-- R300 to R302: logic, and shifts and rotates by the count `x.v 0`, 0 to 255. A count of 0 (for a rotate, a multiple of the width) writes
the source and leaves C and V; a shift by the width or more leaves 0 (SAR: the sign bits). -/
def Obligations.AgrekLogicShift : Prop := ∀ (c : CoreId) (z : Sz),
  (∀ src dst, AgDoes (.and c z src dst) c ⟨.and, z, [src, dst]⟩ always fun x =>
    x.writes 1 (x.v 1 &&& x.v 0) (flagsOf x.w (x.v 1 &&& x.v 0) none (some false))) ∧
  (∀ src dst, AgDoes (.or c z src dst) c ⟨.or, z, [src, dst]⟩ always fun x =>
    x.writes 1 (x.v 1 ||| x.v 0) (flagsOf x.w (x.v 1 ||| x.v 0) none (some false))) ∧
  (∀ src dst, AgDoes (.xor c z src dst) c ⟨.xor, z, [src, dst]⟩ always fun x =>
    x.writes 1 (x.v 1 ^^^ x.v 0) (flagsOf x.w (x.v 1 ^^^ x.v 0) none (some false))) ∧
  (∀ src dst, AgDoes (.andn c z src dst) c ⟨.andn, z, [src, dst]⟩ always fun x =>
    let r := x.v 1 ^^^ (x.v 1 &&& x.v 0)
    x.writes 1 r (flagsOf x.w r none (some false))) ∧
  (∀ count dst, AgDoes (.shl c z count dst) c ⟨.shl, z, [count, dst]⟩ (fun x => x.v 0 ≠ 0) fun x =>
    let r := if x.v 0 < x.w then x.v 1 * 2 ^ x.v 0 % 2 ^ x.w else 0
    x.writes 1 r (flagsOf x.w r (some (decide (x.v 0 ≤ x.w) && (x.v 1).testBit (x.w - x.v 0))) (some false))) ∧
  (∀ count dst, AgDoes (.shr c z count dst) c ⟨.shr, z, [count, dst]⟩ (fun x => x.v 0 ≠ 0) fun x =>
    x.writes 1 (x.v 1 / 2 ^ x.v 0) (flagsOf x.w (x.v 1 / 2 ^ x.v 0) (some ((x.v 1).testBit (x.v 0 - 1))) (some false))) ∧
  (∀ count dst, AgDoes (.sar c z count dst) c ⟨.sar, z, [count, dst]⟩ (fun x => x.v 0 ≠ 0) fun x =>
    let r := ofSigned x.w (Int.fdiv (toSigned x.w (x.v 1)) (2 ^ x.v 0))
    x.writes 1 r (flagsOf x.w r (some ((x.v 1).testBit (min (x.v 0 - 1) (x.w - 1)))) (some false))) ∧
  (∀ count dst, AgDoes (.sal c z count dst) c ⟨.sal, z, [count, dst]⟩ (fun x => x.v 0 ≠ 0) fun x =>
    let r := if x.v 0 < x.w then x.v 1 * 2 ^ x.v 0 % 2 ^ x.w else 0
    x.writes 1 r (flagsOf x.w r (some (decide (x.v 0 ≤ x.w) && (x.v 1).testBit (x.w - x.v 0)))
      (some (outOfSigned x.w (toSigned x.w (x.v 1) * 2 ^ x.v 0))))) ∧
  (∀ count dst, AgDoes (.rol c z count dst) c ⟨.rol, z, [count, dst]⟩ (fun x => x.v 0 % x.w ≠ 0) fun x =>
    let m := x.v 0 % x.w
    let r := (x.v 1 * 2 ^ m + x.v 1 / 2 ^ (x.w - m)) % 2 ^ x.w
    x.writes 1 r (flagsOf x.w r (some (r.testBit 0)) (some false))) ∧
  (∀ count dst, AgDoes (.ror c z count dst) c ⟨.ror, z, [count, dst]⟩ (fun x => x.v 0 % x.w ≠ 0) fun x =>
    let m := x.v 0 % x.w
    let r := (x.v 1 / 2 ^ m + x.v 1 * 2 ^ (x.w - m)) % 2 ^ x.w
    x.writes 1 r (flagsOf x.w r (some (r.testBit (x.w - 1))) (some false))) ∧
  (∀ count dst, AgDoes (.shl c z count dst) c ⟨.shl, z, [count, dst]⟩ (fun x => x.v 0 = 0) fun x =>
    x.writes 1 (x.v 1) (flagsOf x.w (x.v 1) none none)) ∧
  (∀ count dst, AgDoes (.shr c z count dst) c ⟨.shr, z, [count, dst]⟩ (fun x => x.v 0 = 0) fun x =>
    x.writes 1 (x.v 1) (flagsOf x.w (x.v 1) none none)) ∧
  (∀ count dst, AgDoes (.sar c z count dst) c ⟨.sar, z, [count, dst]⟩ (fun x => x.v 0 = 0) fun x =>
    x.writes 1 (x.v 1) (flagsOf x.w (x.v 1) none none)) ∧
  (∀ count dst, AgDoes (.sal c z count dst) c ⟨.sal, z, [count, dst]⟩ (fun x => x.v 0 = 0) fun x =>
    x.writes 1 (x.v 1) (flagsOf x.w (x.v 1) none none)) ∧
  (∀ count dst, AgDoes (.rol c z count dst) c ⟨.rol, z, [count, dst]⟩ (fun x => x.v 0 % x.w = 0) fun x =>
    x.writes 1 (x.v 1) (flagsOf x.w (x.v 1) none none)) ∧
  (∀ count dst, AgDoes (.ror c z count dst) c ⟨.ror, z, [count, dst]⟩ (fun x => x.v 0 % x.w = 0) fun x =>
    x.writes 1 (x.v 1) (flagsOf x.w (x.v 1) none none))

/-- R264, R300, R312, R323: the stack. A push stores a long under B7 and lowers B7 by 8 (the outcome's `push`); POP, RET and RTE raise B7 by
8 and 24 with what they read there, and RTE restores the PSW. -/
def Obligations.AgrekStack : Prop := ∀ c : CoreId,
  (∀ src, AgDoes (.push c src) c ⟨.push, .b, [src]⟩ always fun x => { x.ends [] {} with push := some (x.v 0) }) ∧
  (∀ addr, AgDoes (.pushe c addr) c ⟨.pushe, .b, [addr]⟩ always fun x => { x.ends [] {} with push := some (x.ea 0) }) ∧
  (∀ dst, AgDoes (.pop c dst) c ⟨.pop, .b, [dst]⟩ always fun x =>
    { x.ends [(0, x.stk)] {} with c := x.c.setB 7 (x.c.breg 7 + 8) }) ∧
  (∀ target, AgDoes (.call c target) c ⟨.call, .b, [target]⟩ always fun x =>
    { x.ends [] {} with push := some x.next, jump := some (x.ea 0) }) ∧
  AgDoes (.ret c) c ⟨.ret, .b, []⟩ always (fun x => { x.ends [] {} with c := x.c.setB 7 (x.c.breg 7 + 8), jump := some (leNat x.stk) }) ∧
  AgDoes (.rte c) c ⟨.rte, .b, []⟩ always (fun x =>
    { x.ends [] {} with c := x.c.setB 7 (x.c.breg 7 + 24), jump := some (leNat (x.stk.take 8)), psw := some (leNat (x.stk.drop 8)) })

/-- R310, R311, R312, R303: the branches. Each jumps to its target's effective address where its condition on the flags, the bit or the count
holds, goes on at the next instruction otherwise, and writes no flag. -/
def Obligations.AgrekBranches : Prop := ∀ c : CoreId,
  let br (ins : Spec → Instr) (mn : Mn) (cond : AgIn → Bool) : Prop := ∀ target, AgDoes (ins target) c ⟨mn, .b, [target]⟩ always fun x =>
    { x.ends [] {} with jump := if cond x then some (x.ea 0) else none }
  let f (b : Nat) (x : AgIn) : Bool := x.c.psw.testBit b
  br (.br c) .br (fun _ => true) ∧ br (.beq c) .beq (f 1) ∧ br (.bne c) .bne (fun x => !f 1 x) ∧
  br (.blt c) .blt (fun x => f 2 x != f 3 x) ∧ br (.bge c) .bge (fun x => f 2 x == f 3 x) ∧
  br (.ble c) .ble (fun x => f 1 x || f 2 x != f 3 x) ∧ br (.bgt c) .bgt (fun x => !f 1 x && f 2 x == f 3 x) ∧
  br (.bltu c) .bltu (f 0) ∧ br (.bgeu c) .bgeu (fun x => !f 0 x) ∧ br (.bleu c) .bleu (fun x => f 0 x || f 1 x) ∧
  br (.bgtu c) .bgtu (fun x => !f 0 x && !f 1 x) ∧ br (.bvs c) .bvs (f 3) ∧ br (.bvc c) .bvc (fun x => !f 3 x) ∧ br (.bds c) .bds (f 4) ∧
  (∀ count target, AgDoes (.dbp c count target) c ⟨.dbp, .b, [count, target]⟩ always fun x =>
    let r := (x.v 0 + 2 ^ 32 - 1) % 2 ^ 32
    { x.ends [(0, natLE 4 r)] {} with jump := if 0 < toSigned 32 r then some (x.ea 1) else none }) ∧
  (∀ bit target, AgDoes (.bbt c bit target) c ⟨.bbt, .b, [bit, target]⟩ always fun x =>
    { x.ends [] {} with jump := if x.v 0 % 2 = 1 then some (x.ea 1) else none }) ∧
  (∀ bit target, AgDoes (.bbf c bit target) c ⟨.bbf, .b, [bit, target]⟩ always fun x =>
    { x.ends [] {} with jump := if x.v 0 % 2 = 0 then some (x.ea 1) else none })

/-- R303: the bit instructions. Z is set where the bit (of BAND, BOR and BXOR the result, of BSCAN no bit found) is 0; BFEX clears N. -/
def Obligations.AgrekBits : Prop := ∀ c : CoreId,
  let b (n : Nat) : List Byte := [BitVec.ofNat 8 n]
  let z (n : Nat) : FlagW := { z := some (decide (n = 0)) }
  (∀ p, AgDoes (.bset c p) c ⟨.bset, .b, [p]⟩ always fun x => x.ends [(0, b 1)] (z (x.v 0 % 2))) ∧
  (∀ p, AgDoes (.bclr c p) c ⟨.bclr, .b, [p]⟩ always fun x => x.ends [(0, b 0)] (z (x.v 0 % 2))) ∧
  (∀ p, AgDoes (.bcom c p) c ⟨.bcom, .b, [p]⟩ always fun x => x.ends [(0, b (1 - x.v 0 % 2))] (z (x.v 0 % 2))) ∧
  (∀ p, AgDoes (.btas c p) c ⟨.btas, .b, [p]⟩ always fun x => { x.ends [(0, b 1)] (z (x.v 0 % 2)) with s := x.fenced }) ∧
  (∀ p, AgDoes (.btac c p) c ⟨.btac, .b, [p]⟩ always fun x => { x.ends [(0, b 0)] (z (x.v 0 % 2)) with s := x.fenced }) ∧
  (∀ p q, AgDoes (.bmov c p q) c ⟨.bmov, .b, [p, q]⟩ always fun x => x.ends [(1, b (x.v 0 % 2))] (z (x.v 0 % 2))) ∧
  (∀ p, AgDoes (.btst c p) c ⟨.btst, .b, [p]⟩ always fun x => x.ends [] (z (x.v 0 % 2))) ∧
  (∀ p q, AgDoes (.band c p q) c ⟨.band, .b, [p, q]⟩ always fun x =>
    x.ends [(1, b (x.v 1 % 2 * (x.v 0 % 2)))] (z (x.v 1 % 2 * (x.v 0 % 2)))) ∧
  (∀ p q, AgDoes (.bor c p q) c ⟨.bor, .b, [p, q]⟩ always fun x =>
    x.ends [(1, b (max (x.v 1 % 2) (x.v 0 % 2)))] (z (max (x.v 1 % 2) (x.v 0 % 2)))) ∧
  (∀ p q, AgDoes (.bxor c p q) c ⟨.bxor, .b, [p, q]⟩ always fun x => x.ends [(1, b ((x.v 1 + x.v 0) % 2))] (z ((x.v 1 + x.v 0) % 2))) ∧
  (∀ f n q, AgDoes (.bscan c f n q) c ⟨.bscan, .b, [f, n, q]⟩ always fun x =>
    let r := (x.bytes 0).findIdx fun v => v != 0
    x.ends [(2, natLE 8 r)] { z := some (decide ((x.bytes 0).length ≤ r)) }) ∧
  (∀ f n q, AgDoes (.bfex c f n q) c ⟨.bfex, .b, [f, n, q]⟩ always fun x =>
    x.ends [(2, natLE 8 (bitsVal (x.bytes 0)))] { n := some false, z := some (bitsVal (x.bytes 0) == 0) }) ∧
  (∀ p n f, AgDoes (.bfin c p n f) c ⟨.bfin, .b, [p, n, f]⟩ always fun x =>
    x.ends [(2, (List.range (x.lens.getD 2 0)).map fun i => if (x.v 0).testBit i then 1 else 0)] {})

/-- R301, R304 to R307: the decimal instructions on valid operands: the first decimal operand has the value `a` and the second `b`; an invalid
digit or sign raises Data Check, a divisor of 0 Divide Check. -/
def Obligations.AgrekDecimal : Prop := ∀ (c : CoreId) (n p q : Spec),
  let two (ins : Instr) (mn : Mn) (z : Bool) (f : Int → Int → Int) : Prop := ∀ a b : Int,
    AgDoes ins c ⟨mn, .b, [n, p, q]⟩ (fun x => x.dec z 1 = .ok a ∧ x.dec z 2 = .ok b) fun x => x.writesDec z 2 (f a b)
  let move (ins : Instr) (mn : Mn) (z w : Bool) : Prop := ∀ a : Int,
    AgDoes ins c ⟨mn, .b, [n, p, q]⟩ (fun x => x.dec z 1 = .ok a) fun x => x.writesDec w 2 a
  let cmp (ins : Instr) (mn : Mn) (z : Bool) : Prop := ∀ a b : Int,
    AgDoes ins c ⟨mn, .b, [n, p, q]⟩ (fun x => x.dec z 1 = .ok a ∧ x.dec z 2 = .ok b) fun x =>
      x.ends [] { n := some (decide (a < b)), z := some (decide (a = b)), v := some false, c := some false }
  two (.dadd c n p q) .dadd false (fun a b => b + a) ∧ two (.dsub c n p q) .dsub false (fun a b => b - a) ∧
  two (.dmul c n p q) .dmul false (fun a b => b * a) ∧
  two (.zadd c n p q) .zadd true (fun a b => b + a) ∧ two (.zsub c n p q) .zsub true (fun a b => b - a) ∧
  (∀ a b : Int, AgDoes (.ddiv c n p q) c ⟨.ddiv, .b, [n, p, q]⟩ (fun x => x.dec false 1 = .ok a ∧ x.dec false 2 = .ok b ∧ a ≠ 0)
    fun x => x.writesDec false 2 (Int.tdiv b a)) ∧
  (∀ b : Int, AgRaises (.ddiv c n p q) c ⟨.ddiv, .b, [n, p, q]⟩ (fun x => x.dec false 1 = .ok 0 ∧ x.dec false 2 = .ok b)
    fun _ => Exc.divide) ∧
  move (.dmov c n p q) .dmov false false ∧ move (.ztod c n p q) .ztod true false ∧ move (.dtoz c n p q) .dtoz false true ∧
  move (.zmov c n p q) .zmov true true ∧
  cmp (.dcmp c n p q) .dcmp false ∧ cmp (.zcmp c n p q) .zcmp true ∧
  (∀ a : Int, AgDoes (.dshf c n p q) c ⟨.dshf, .b, [n, p, q]⟩ (fun x => x.dec false 2 = .ok a ∧ 0 ≤ toSigned 8 (x.v 1))
    fun x => x.writesDec false 2 (a * 10 ^ (toSigned 8 (x.v 1)).toNat)) ∧
  (∀ a : Int, AgDoes (.dshf c n p q) c ⟨.dshf, .b, [n, p, q]⟩ (fun x => x.dec false 2 = .ok a ∧ toSigned 8 (x.v 1) < 0)
    fun x => x.writesDec false 2 (shiftRight10 a (toSigned 8 (x.v 1)).natAbs)) ∧
  (∀ a : Int, AgDoes (.dtst c n p) c ⟨.dtst, .b, [n, p]⟩ (fun x => x.dec false 1 = .ok a) fun x =>
    x.ends [] { n := some (decide (a < 0)), z := some (decide (a = 0)) }) ∧
  (∀ a : Int, AgDoes (.dtol c n p q) c ⟨.dtol, .b, [n, p, q]⟩ (fun x => x.dec false 1 = .ok a) fun x =>
    x.ends [(2, natLE 8 (ofSigned 64 a))] (flagsOf 64 (ofSigned 64 a) none (some (outOfSigned 64 a)))) ∧
  AgDoes (.ltod c n p q) c ⟨.ltod, .b, [n, p, q]⟩ always (fun x => x.writesDec false 2 (toSigned 64 (x.v 1))) ∧
  (∀ e, AgRaises (.dadd c n p q) c ⟨.dadd, .b, [n, p, q]⟩ (fun x => x.dec false 1 = .error e) fun _ => e) ∧
  (∀ a e, AgRaises (.zadd c n p q) c ⟨.zadd, .b, [n, p, q]⟩ (fun x => x.dec true 1 = .ok a ∧ x.dec true 2 = .error e) fun _ => e)

/-- R270 to R273, R304, R307: a decimal result. In a field of `len` bytes (2 len − 1 digits packed, len digits zoned) a value is written with
its low digits, sign nibble 0xD, or 0xC (0xF with PSW.PF) when it is not negative, a zero without its sign; D says digits were lost, N and Z
follow the value written, V is cleared and C left; and the bytes read back as that value. -/
def Obligations.DecimalResult : Prop := ∀ (psw len : Nat) (v : Int), 1 ≤ len →
  let cut (d : Nat) : Int := if v < 0 then -((v.natAbs % 10 ^ d : Nat) : Int) else ((v.natAbs % 10 ^ d : Nat) : Int)
  let p := decResult false psw len v
  let z := decResult true psw len v
  p.1.length = len ∧ packedVal p.1 = some (cut (2 * len - 1)) ∧
    (p.1.getLastD 0).toNat % 16 = (if cut (2 * len - 1) < 0 then 0xD else if psw.testBit 7 then 0xF else 0xC) ∧
    p.2 = { n := some (decide (cut (2 * len - 1) < 0)), z := some (decide (cut (2 * len - 1) = 0)), v := some false,
            d := some (decide (10 ^ (2 * len - 1) ≤ v.natAbs)) } ∧
    z.1.length = len ∧ zonedVal z.1 = some (cut len) ∧
    (∀ k, k + 1 < len → (z.1.getD k 0).toNat / 16 = (if psw.testBit 8 then 0x3 else 0xF)) ∧
    z.2.d = some (decide (10 ^ len ≤ v.natAbs))

/-- R308, R309: the string instructions. SCMP stops at the first difference; SFND, SSKP and SSCN leave in B0 how many bytes remain and in B1 the
address where they stopped (SSCN with the table's value above it). SXLT's table read as already translated counts only where the table lies
in the buffer. -/
def Obligations.AgrekStrings : Prop := ∀ (c : CoreId) (n p q : Spec),
  AgDoes (.smov c n p q) c ⟨.smov, .b, [n, p, q]⟩ always (fun x => x.ends [(2, x.bytes 1)] {}) ∧
  AgDoes (.sfil c n p q) c ⟨.sfil, .b, [n, p, q]⟩ always (fun x => x.ends [(2, List.replicate x.n (BitVec.ofNat 8 (x.v 1)))] {}) ∧
  AgDoes (.scmp c n p q) c ⟨.scmp, .b, [n, p, q]⟩ (fun x => x.bytes 1 = x.bytes 2) (fun x =>
    x.ends [] { z := some true, c := some false, n := some false, v := some false }) ∧
  (∀ i, AgDoes (.scmp c n p q) c ⟨.scmp, .b, [n, p, q]⟩
    (fun x => i < (x.bytes 1).length ∧ i < (x.bytes 2).length ∧ (∀ j < i, (x.bytes 1).getD j 0 = (x.bytes 2).getD j 0) ∧
      (x.bytes 1).getD i 0 ≠ (x.bytes 2).getD i 0)
    fun x =>
      let low := decide ((x.bytes 1).getD i 0 < (x.bytes 2).getD i 0)
      x.ends [] { z := some false, c := some low, n := some low, v := some false }) ∧
  AgDoes (.sxlt c n p q) c ⟨.sxlt, .b, [n, p, q]⟩ always (fun x => x.ends [(2, sxltGo (x.bytes 1) (x.bytes 2) x.apart)] {}) ∧
  AgDoes (.sxlt c n p q) c ⟨.sxlt, .b, [n, p, q]⟩ (fun x => x.apart ≤ -256 ∨ (x.bytes 2).length ≤ x.apart) (fun x =>
    x.ends [(2, (x.bytes 2).map fun b => (x.bytes 1).getD b.toNat 0)] {}) ∧
  (let found (ins : Instr) (mn : Mn) (hit : AgIn → Byte → Bool) (t : AgIn → Nat → Nat) : Prop :=
      (∀ i, AgDoes ins c ⟨mn, .b, [n, p, q]⟩
        (fun x => i < (x.bytes 2).length ∧ hit x ((x.bytes 2).getD i 0) = true ∧ ∀ j < i, hit x ((x.bytes 2).getD j 0) = false)
        fun x => { x.ends [] { z := some false } with
          c := (x.c.setB 0 (x.n - i)).setB 1 (addr48 (x.ea 2 + i) + t x i * 2 ^ 48) }) ∧
      AgDoes ins c ⟨mn, .b, [n, p, q]⟩ (fun x => ∀ j < (x.bytes 2).length, hit x ((x.bytes 2).getD j 0) = false) fun x =>
        { x.ends [] { z := some true } with c := (x.c.setB 0 0).setB 1 (addr48 (x.ea 2 + x.n)) }
   let tab (x : AgIn) (b : Byte) : Byte := (x.bytes 1).getD b.toNat 0
   found (.sfnd c n p q) .sfnd (fun x b => b == BitVec.ofNat 8 (x.v 1)) (fun _ _ => 0) ∧
   found (.sskp c n p q) .sskp (fun x b => b != BitVec.ofNat 8 (x.v 1)) (fun _ _ => 0) ∧
   found (.sscn c n p q) .sscn (fun x b => tab x b != 0) (fun x i => (tab x ((x.bytes 2).getD i 0)).toNat)) ∧
  AgDoes (.scrc c n p q) c ⟨.scrc, .b, [n, p, q]⟩ always (fun x =>
    x.ends [(2, natLE 4 (~~~ crc32cFrom (~~~ BitVec.ofNat 32 (x.v 2)) (x.bytes 1)).toNat)] {})

/-- R313, R314, R326: CAS, XADD and FENCE, and the data cache that they invalidate. CAS stores the new value where target and expected are equal, and leaves the target's old value in
expected; XADD adds with the flags of ADD and leaves the old value in src; FENCE changes nothing but the cache and its count. A read through
a cacheable window takes the line that the cache holds, else memory, and the line is then held; Bobbin and Thimble read memory. -/
def Obligations.AgrekAtomic : Prop := ∀ (c : CoreId) (z : Sz),
  (∀ new e t, AgDoes (.cas c z new e t) c ⟨.cas, z, [new, e, t]⟩ (fun x => x.bytes 2 = x.bytes 1) fun x =>
    { x.ends [(1, x.bytes 2), (2, x.bytes 0)] { z := some true } with s := x.fenced }) ∧
  (∀ new e t, AgDoes (.cas c z new e t) c ⟨.cas, z, [new, e, t]⟩ (fun x => x.bytes 2 ≠ x.bytes 1) fun x =>
    { x.ends [(1, x.bytes 2)] { z := some false } with s := x.fenced }) ∧
  (∀ a t, AgDoes (.xadd c z a t) c ⟨.xadd, z, [a, t]⟩ always fun x =>
    let r := (x.v 1 + x.v 0) % 2 ^ x.w
    { x.ends [(0, x.bytes 1), (1, natLE (szBytes x.z) r)] (flagsOf x.w r (some (decide (2 ^ x.w ≤ x.v 1 + x.v 0)))
        (some (outOfSigned x.w (toSigned x.w (x.v 1) + toSigned x.w (x.v 0))))) with s := x.fenced }) ∧
  AgDoes (.fence c) c ⟨.fence, .b, []⟩ always (fun x => { x.ends [] {} with s := x.fenced }) ∧
  (∀ x : AgIn, x.fenced = { x.s with ctrs := x.fenced.ctrs, caches := x.fenced.caches }) ∧
  (∀ (x : AgIn) k line, x.id = .shuttle k → x.fenced.heldLine k line = none) ∧
  (∀ (s : State) (d : Core) (p a n : Nat), a + n ≤ hostBase → 0 < n → inRegs a n = false →
    (∀ k b, c = .shuttle k → a % 64 + n ≤ 64 → s.heldLine k (a / 64) = some b →
      s.coreRead c d (.fab a p true) n = (.ok ((b.drop (a % 64)).take n), s)) ∧
    (∀ k, c = .shuttle k → a % 64 + n ≤ 64 → s.heldLine k (a / 64) = none → s.poison (64 * (a / 64)) 64 = none →
      (s.coreRead c d (.fab a p true) n).1 = .ok (memRead s.mem a n) ∧
      (s.coreRead c d (.fab a p true) n).2.heldLine k (a / 64) = some (memRead s.mem (64 * (a / 64)) 64)) ∧
    (∀ ca, ca = false ∨ isShuttle c = false → s.poison a n = none → s.coreRead c d (.fab a p ca) n = (.ok (memRead s.mem a n), s)))

/-- R312, R315 to R317, R337: the other control instructions. -/
def Obligations.AgrekControl : Prop := ∀ c : CoreId,
  AgDoes (.nop c) c ⟨.nop, .b, []⟩ always (fun x => x.ends [] {}) ∧
  (∀ p, AgDoes (.trap c p) c ⟨.trap, .b, [p]⟩ always fun x => { x.ends [] {} with trap := some (x.v 0) }) ∧
  AgRaises (.bkpt c) c ⟨.bkpt, .b, []⟩ always (fun _ => Exc.breakpoint) ∧
  (∀ k, c = .shuttle k → AgDoes (.exit c) c ⟨.exit, .b, []⟩ always fun x =>
    { x.ends [] {} with fin := fun s => s.endTask k Cs.ok (x.c.breg 0 % 65536) }) ∧
  (isShuttle c = false → AgDoes (.exit c) c ⟨.exit, .b, []⟩ always fun x => x.ends [] {}) ∧
  (∀ k, c = .shuttle k → AgDoes (.yield c) c ⟨.yield, .b, []⟩ always fun x => { x.ends [] {} with fin := fun s => s.yieldTask k }) ∧
  (isShuttle c = false → AgDoes (.yield c) c ⟨.yield, .b, []⟩ always fun x => x.ends [] {}) ∧
  AgDoes (.wfi c) c ⟨.wfi, .b, []⟩ (fun x => (x.s.nextVec c).isSome = true) (fun x => x.ends [] {}) ∧
  AgDoes (.wfi c) c ⟨.wfi, .b, []⟩ (fun x => x.s.nextVec c = none) (fun x =>
    { x.ends [] {} with c := { x.c with st := .waitInt } }) ∧
  (∀ n, c = .bobbin n → AgDoes (.halt c) c ⟨.halt, .b, []⟩ always fun x => { x.ends [] {} with fin := fun s => s.haltBobbin n }) ∧
  AgDoes (.halt c) c ⟨.halt, .b, []⟩ (fun x => c = .thimble ∧ x.s.nextVec c = none) (fun x =>
    { x.ends [] {} with c := { x.c with st := .waitInt } }) ∧
  (∀ p n, AgDoes (.chkrd c p n) c ⟨.chkrd, .b, [p, n]⟩ always fun x =>
    x.ends [] { z := some (x.v 1 == 0 || (placeOf c x.c (x.ea 0) (x.v 1) .rd).isSome) }) ∧
  (∀ p n, AgDoes (.chkwr c p n) c ⟨.chkwr, .b, [p, n]⟩ always fun x =>
    x.ends [] { z := some (x.v 1 == 0 || (placeOf c x.c (x.ea 0) (x.v 1) .wr).isSome) }) ∧
  (∀ w d, AgDoes (.winset c w d) c ⟨.winset, .b, [w, d]⟩ (fun x => x.s.winRefused x.c (x.v 0) (x.bytes 1) = true) fun x =>
    { x.ends [] { v := some true } with quiet := true }) ∧
  (∀ w d, AgDoes (.winset c w d) c ⟨.winset, .b, [w, d]⟩ (fun x => x.s.winRefused x.c (x.v 0) (x.bytes 1) = false) fun x =>
    { x.ends [] { v := some false } with c := { x.c with wins := Tbl.put x.c.wins (x.v 0) (winOf (x.bytes 1)) } }) ∧
  (∀ w d, AgDoes (.winget c w d) c ⟨.winget, .b, [w, d]⟩ always fun x =>
    x.ends [(1, ((Tbl.at? x.c.wins (x.v 0)).getD winOff).desc)] {}) ∧
  (∀ k d, AgDoes (.kload c k d) c ⟨.kload, .b, [k, d]⟩ always fun x => { x.ends [] {} with s := x.s.kload (x.v 0) (x.bytes 1) }) ∧
  (∀ k, AgDoes (.kzap c k) c ⟨.kzap, .b, [k]⟩ always fun x => { x.ends [] {} with s := x.s.kzap (x.v 0) }) ∧
  (∀ d w, AgDoes (.wcpl c d) c ⟨.wcpl, .b, [d]⟩ (fun x => x.c.cplQ.head? = some w) fun x =>
    { x.ends [(0, natLE 8 w)] {} with s := x.fenced, c := { x.c with cplQ := x.c.cplQ.tail } }) ∧
  (∀ d s x, AgReady s c ⟨.wcpl, .b, [d]⟩ x → x.c.cplQ = [] →
    exec (.wcpl c d) s = .next (s.updCore c fun k => { k with st := .waitCpl })) ∧
  (∀ d w, AgDoes (.rcpl c d) c ⟨.rcpl, .b, [d]⟩ (fun x => x.c.cplQ.head? = some w) fun x =>
    { x.ends [(0, natLE 8 w)] { z := some false } with s := x.fenced, c := { x.c with cplQ := x.c.cplQ.tail } }) ∧
  (∀ d, AgDoes (.rcpl c d) c ⟨.rcpl, .b, [d]⟩ (fun x => x.c.cplQ = []) fun x => x.ends [(0, natLE 8 0)] { z := some true })

/-- R316, R329, R331: POST hands the descriptor to Spool, which answers the status word; Z is set where it is ACCEPTED. An accepted descriptor
takes an item number and adds one item; a refused one adds none. -/
def Obligations.AgrekPost : Prop := ∀ (c : CoreId) (d w : Spec),
  (∀ s x, AgReady s c ⟨.post, .b, [d, w]⟩ x → ∃ o word, exec (.post c d w) s = .next (agEnd s c x o) ∧
    o.outs = [(1, natLE 4 word)] ∧ o.flags = { z := some (word % 256 == 0) } ∧ o.jump = none ∧ o.push = none ∧
    (word % 256 ≠ 0 → word < 256 ∧ o.s.spool = x.s.spool) ∧
    (word % 256 = 0 → ∃ i, Tbl.at? o.s.spool.items (word / 65536) = some i ∧ i.st = .waiting))

/-- R318 to R321: one iteration under REP, REPZ and REPNZ, and REPU with one iteration due: the instruction once, RCNT one less; another
iteration is due while RCNT is not 0 and, for REPZ, Z = 1, for REPNZ, Z = 0. With RCNT = 0 nothing happens but the PC's advance. A repeated
branch, CALL, DBP, BBT, BBF or TRAP is an Illegal Repeat. -/
def Obligations.AgrekRepeat : Prop := ∀ (c : CoreId) (i : AgInsn) (s : State),
  let k := s.core (keyOf c)
  let ins (p : Rp) : Instr := match p with | .rep => .rep c i | .repz => .repz c i | .repnz => .repnz c i | .repu => .repu c i
  (∀ p x o, p ≠ .repu ∨ k.rcnt = 1 → RepReady s c p i x → semOf i.mn x = .done o →
    let z := ((finishInsn c x o).1.core (keyOf c)).psw.testBit 1
    let more := k.rcnt != 1 && !(p == .repz && !z) && !(p == .repnz && z)
    exec (ins p) s = .next (repEnd s c x o more)) ∧
  (∀ p, k.rcnt = 0 → s.coreRuns? c = true → escFF i.mn = false → k.psw.testBit 10 = false →
    s.fetchExc c (1 + insnLen (fullInsn i)) (decodeExc c (fullInsn i) ++ repeatExc s c p (fullInsn i)) = none →
    exec (ins p) s = .next (s.updCore c fun d => { d with pc := addr48 (k.pc + (1 + insnLen (fullInsn i))) })) ∧
  (∀ p, s.coreRuns? c = true → noRepeat i.mn = true → decodeExc c (fullInsn i) = [] → (∀ a len, s.poison a len = none) →
    (placeOf c k k.pc (1 + insnLen (fullInsn i)) .ex).isSome = true → exec (ins p) s = .next (s.raiseExc c Exc.illegalRepeat))

/-- R262, R288, R322: what fetch and decode find: an instruction not whole in one place raises Access Violation at fetch, a reserved opcode
Illegal Opcode, a class above the core's level Privileged Instruction; the lowest priority number wins. -/
def Obligations.AgrekDecodeExceptions : Prop := ∀ (c : CoreId) (s : State), s.coreRuns? c = true →
  let k := s.core (keyOf c)
  (∀ bytes, placeOf c k k.pc bytes.length .ex = none → exec (.illegalOpcode c bytes) s = .next (s.raiseExc c (Exc.fetch k.pc))) ∧
  (∀ bytes, (placeOf c k k.pc bytes.length .ex).isSome = true → (∀ a n, s.poison a n = none) →
    exec (.illegalOpcode c bytes) s = .next (s.raiseExc c Exc.opcode)) ∧
  (∀ i, placeOf c k k.pc (insnLen (fullInsn i)) .ex = none → s.agRun c i (semOf i.mn) = s.raiseExc c (Exc.fetch k.pc)) ∧
  (∀ i, (placeOf c k k.pc (insnLen (fullInsn i)) .ex).isSome = true → (∀ a n, s.poison a n = none) → levelOf c < classOf i.mn →
    s.agRun c i (semOf i.mn) = s.raiseExc c Exc.privileged) ∧
  (isShuttle c = true → (placeOf c k k.pc 2 .ex).isSome = true → (∀ a n, s.poison a n = none) →
    exec (.halt c) s = .next (s.raiseExc c Exc.privileged) ∧ exec (.wfi c) s = .next (s.raiseExc c Exc.privileged))

/-- R323, R266: entry to an exception with a handler, the stack in local store above the register block: PSW, the saved PC and INFO stand at
B7 + 16, B7 + 8 and B7, which is 24 lower; IE and TR are clear, every other PSW bit is as before; the PC is the handler; every other register,
the rest of local store and everything outside the core are as before. -/
def Obligations.ExceptionEntry : Prop := ∀ (s : State) (c : CoreId) (k : Core) (vec info saved : Nat),
  Tbl.at? s.cores (keyOf c) = some k → k.b.length = 8 →
  let sp := k.breg 7
  let handler := leNat (k.lsRead (0x100 + 8 * vec) 8) % 2 ^ 48
  handler ≠ 0 → lsBase + 0x100 + 24 ≤ sp → sp ≤ lsBase + lsSize c → info < 2 ^ 64 → saved < 2 ^ 64 → k.psw < 2 ^ 64 →
  let t := s.enterExc c vec info saved
  ∃ d, t = { s with cores := t.cores } ∧ Tbl.at? t.cores (keyOf c) = some d ∧
    (∀ j, j ≠ keyOf c → Tbl.at? t.cores j = Tbl.at? s.cores j) ∧
    d.pc = handler ∧ d.breg 7 = sp - 24 ∧ (∀ n < 7, d.breg n = k.breg n) ∧ d.rcnt = k.rcnt ∧ d.fp = k.fp ∧
    d.psw.testBit 9 = false ∧ d.psw.testBit 10 = false ∧ (∀ b, b ≠ 9 → b ≠ 10 → d.psw.testBit b = k.psw.testBit b) ∧
    leNat (d.lsRead (sp - lsBase - 24) 8) = info ∧ leNat (d.lsRead (sp - lsBase - 16) 8) = saved ∧
    leNat (d.lsRead (sp - lsBase - 8) 8) = k.psw ∧
    (∀ o, 96 ≤ o → (o < sp - lsBase - 24 ∨ sp - lsBase ≤ o) → d.lsByte o = k.lsByte o)

/-- R324: an exception without a handler: on a Shuttle core the task ends FAULTED with
the vector, on a Bobbin core the core stops, on Thimble it is a device fault 0x02. -/
def Obligations.ExceptionNoHandler : Prop := ∀ (s : State) (c : CoreId) (vec info saved : Nat),
  leNat ((s.core (keyOf c)).lsRead (0x100 + 8 * vec) 8) % 2 ^ 48 = 0 →
  s.enterExc c vec info saved = match c with
    | .shuttle k => ((s.err (P.shc (k / 4)) 0x01 vec (info % 2 ^ 48)).raise (P.shc (k / 4)) 2).endTask k Cs.faulted vec
    | .bobbin n => (s.err P.bob 0x01 n 0).haltBobbin n
    | .thimble => s.fault' 0x02 P.thm vec info

/-- R294, R510, R322: an interrupt. The lowest pending vector of the core's routed pages is taken with IE = 1, saving the PC; with IE = 0 a core
in WFI goes on; with nothing pending nothing happens. -/
def Obligations.InterruptEntry : Prop := ∀ (s : State) (c : CoreId) (k : Core),
  Tbl.at? s.cores (keyOf c) = some k → k.halted = false →
  let go := s.updCore c fun d => { d with st := .run }
  (∀ v p, s.nextVec c = some (v, p) → k.st ≠ .stopped → go.coreRuns? c = true → k.psw.testBit 9 = true →
    exec (.interruptEntry c) s = .next (go.enterExc c v p k.pc)) ∧
  (∀ v p, s.nextVec c = some (v, p) → k.st = .waitInt → go.coreRuns? c = true → k.psw.testBit 9 = false →
    exec (.interruptEntry c) s = .next go) ∧
  (s.nextVec c = none → exec (.interruptEntry c) s = .next s)

/-- R290 to R292: an instruction whose reads change nothing but cache lines and their misses, and which takes no trap, changes its own core,
the bits and the bytes it stores to, its cache, and nothing else: with every store in memory (neither a register nor the host aperture), every byte of memory outside the stored
ranges, every other core and all other state is as before. -/
def Obligations.AgrekFrame : Prop := ∀ (s : State) (c : CoreId) (i : AgInsn) (x : AgIn) (o : AgOut),
  AgReady s c i x → semOf i.mn x = .done o → o.s = { s with caches := o.s.caches, ctrs := o.s.ctrs, free := o.s.free } → o.fin = id →
  (finishInsn c x o).2 = [] → (s.core (keyOf c)).psw.testBit 10 = false →
  (∀ e ∈ o.stores c x, e.1 < hostBase ∧ inRegs e.1 e.2 = false) →
  let t := agEnd s c x o
  t = { s with cores := t.cores, gbit := t.gbit, mem := t.mem, integ := t.integ, caches := t.caches, ctrs := o.s.ctrs, free := o.s.free } ∧
    (∀ j, j ≠ keyOf c → Tbl.at? t.cores j = Tbl.at? s.cores j) ∧
    (∀ a, (∀ e ∈ o.stores c x, a < e.1 ∨ e.1 + e.2 ≤ a) → memAt t.mem a = memAt s.mem a) ∧
    (o.stores c x = [] → t.mem = s.mem ∧ t.integ = s.integ ∧ t.caches = o.s.caches)

/-- R265, R281, R290, R300: between registers. With both operands local-store short specifiers that name the base registers Bm and Bn, the core
running from local store or ROM with PSW.VT and PSW.TR clear, a long ADD, SUB, AND, OR, XOR or MOV leaves in Bn the result modulo 2^64, the
flags of R300 in the PSW, the PC 5 bytes on, and everything else of the device as it was. -/
def Obligations.AgrekRegisterForm : Prop := ∀ (s : State) (c : CoreId) (k : Core) (m n o : Nat),
  Tbl.at? s.cores (keyOf c) = some k → k.b.length = 8 → m < 8 → n < 8 → s.coreRuns? c = true →
  placeOf c k k.pc 5 .ex = some (.ls o) ∨ placeOf c k k.pc 5 .ex = some (.rom o) →
  k.psw < 2 ^ 64 → k.psw.testBit 5 = false → k.psw.testBit 10 = false →
  let a := k.breg m
  let b := k.breg n
  let src := Spec.lsShort (8 * m)
  let dst := Spec.lsShort (8 * n)
  let leaves (ins : Instr) (r : Nat) (f : FlagW) : Prop :=
    exec ins s = .next { s with
      cores := Tbl.upd s.cores (keyOf c) fun _ => { k.setB n r with psw := f.into k.psw, pc := addr48 (k.pc + 5) } }
  leaves (.mov c .l src dst) a (flagsOf 64 a none (some false)) ∧
  leaves (.add c .l src dst) ((b + a) % 2 ^ 64) (flagsOf 64 ((b + a) % 2 ^ 64) (some (decide (2 ^ 64 ≤ b + a)))
    (some (outOfSigned 64 (toSigned 64 b + toSigned 64 a)))) ∧
  leaves (.sub c .l src dst) ((b + 2 ^ 64 - a) % 2 ^ 64) (flagsOf 64 ((b + 2 ^ 64 - a) % 2 ^ 64) (some (decide (b < a)))
    (some (outOfSigned 64 (toSigned 64 b - toSigned 64 a)))) ∧
  leaves (.and c .l src dst) (b &&& a) (flagsOf 64 (b &&& a) none (some false)) ∧
  leaves (.or c .l src dst) (b ||| a) (flagsOf 64 (b ||| a) none (some false)) ∧
  leaves (.xor c .l src dst) (b ^^^ a) (flagsOf 64 (b ^^^ a) none (some false))

/-- R519, R520, R452, R453, R462: power-up. Power-on reset released enables regulator 0; each PGOOD enables the next regulator in ascending order; after
the last the crystal is awaited without limit, and with it running Fill begins. A regulator that times out and feeds no essential domain (2, 4, 5 or 6) is
switched off with its REG_FAIL bit, its domains are off, and the sequence goes on; a PGOOD lost later is device fault 0x0A with the regulator. -/
def Obligations.PowerUp : Prop := ∀ s : State,
  (s.power.seq = .heldInReset → Does .powerOnDetect s fun t =>
    t.power = { s.power with seq := .upRegulator 0, regEn := s.power.regEn.filter (· ≠ 0) ++ [0] } ∧ t.rd P.rst R.rst_RST_CAUSE = 1 ∧
      t.outbox = s.outbox ++ [.pwrEn 0 true] ∧
      t = { s with power := t.power, regs := t.regs, ctrs := t.ctrs, outbox := t.outbox } ∧ SameRegs s t [fkey P.rst R.rst_RST_CAUSE 0]) ∧
  (∀ r, r < 8 → s.power.seq = .upRegulator r → s.power.regEn.contains r = true → Does (.regulatorPgood r) s fun t =>
    (t.rd P.pwr R.pwr_REG_PGOOD).testBit r = true ∧
      (r < 7 → t.power.seq = .upRegulator (r + 1) ∧ (r + 1) ∈ t.power.regEn ∧ t.outbox = s.outbox ++ [.pwrEn (r + 1) true]) ∧
      (r = 7 → t.power.seq = .upCrystal ∧ t.outbox = s.outbox) ∧
      t = { s with power := t.power, regs := t.regs, outbox := t.outbox } ∧ SameRegs s t [fkey P.pwr R.pwr_REG_PGOOD 0]) ∧
  (s.power.seq = .upCrystal → Does .crystalRunning s fun t =>
    t.power.seq = .run ∧ t.dev = Dev.fill ∧ t.rd P.clk R.clk_XTAL_OK = 1 ∧ t.dram.fill = 1 ∧
      t = { s with power := t.power, dram := t.dram, regs := t.regs } ∧
      SameRegs s t [fkey P.clk R.clk_XTAL_OK 0, fkey P.glb R.glb_DEVSTATE 0]) ∧
  (∀ r, r = 0 ∨ r = 1 ∨ r = 7 → s.power.seq = .upRegulator r → exec (.regulatorPgoodTimeout r) s = .next s) ∧
  (∀ r, r = 2 ∨ r = 4 ∨ r = 5 ∨ r = 6 → s.power.seq = .upRegulator r → Does (.regulatorPgoodTimeout r) s fun t =>
    (t.rd P.pwr R.pwr_REG_FAIL).testBit r = true ∧ t.power.regEn.contains r = false ∧ t.power.seq = .upRegulator (r + 1) ∧
      ∀ d, d < 38 → regFeeds r d = true → domainPresent s.part d = true → t.domOn d = false) ∧
  (∀ r, r < 8 → s.powered = true → s.power.regEn.contains r = true → s.dev ≠ Dev.boot →
    exec (.pwrPgoodLoss r) s =
      .next ((s.wr P.pwr R.pwr_REG_PGOOD (bitPut (s.rd P.pwr R.pwr_REG_PGOOD) r false)).fault' 0x0A P.pwr r 0))

/-- R453, R461: the crystal and the PLLs. A crystal not running 10 ms after its restart leaves CLK_DEGRADED set and the wake held at step 3;
XTAL_RETRY restarts it; a PLL locked sets its bit; one that loses lock clears it and sets LOCK_LOST, and the Thimble's or the fabric's (9, 10)
is device fault 0x09, any other stops its domain. -/
def Obligations.Clocks : Prop := ∀ s : State,
  (∀ l, s.power.seq = .wake l 2 → s.rd P.clk R.clk_CLK_DEGRADED = 0 → Does .crystalTimeout s fun t =>
    t.rd P.clk R.clk_CLK_DEGRADED = 1 ∧ t.power.seq = .wake l 3 ∧ (t.rd P.clk R.common_INT_RAW).testBit 0 = true ∧
      (s.rd P.clk R.common_ERR_CODE = 0 → t.rd P.clk R.common_ERR_CODE = 1) ∧
      t = { s with power := t.power, regs := t.regs, ctrs := t.ctrs, outbox := t.outbox }) ∧
  (∀ ag l, Reaches s ag P.clk → s.power.seq = .wake l 3 → s.rd P.clk R.clk_CLK_DEGRADED = 1 → Does (.xtalRetry ag) s fun t =>
    t.power = { s.power with seq := .wake l 2 } ∧ t = { s with power := t.power, ctrs := t.ctrs }) ∧
  (∀ m, s.power.seq = .run → s.power.dvfs = [] → s.rd P.clk R.clk_CLK_DEGRADED = 0 → Does (.pllLockAcquired m) s fun t =>
    (∀ p, p < 41 → t.pllLocked p = (s.pllLocked p || (m.testBit p && s.pllPresent p))) ∧
      t = { s with regs := t.regs } ∧ SameRegs s t [fkey P.clk R.clk_PLL_LOCK_LO 0, fkey P.clk R.clk_PLL_LOCK_HI 0]) ∧
  (∀ p, p < 32 → s.powered = true → s.pllPresent p = true → s.pagesAwake = true →
    let u := (((s.wr P.clk R.clk_PLL_LOCK_LO (bitPut (s.rd P.clk R.clk_PLL_LOCK_LO) p false)).wr P.clk R.clk_LOCK_LOST_LO
      (bitPut (s.rd P.clk R.clk_LOCK_LOST_LO) p true)).err P.clk 0x02 p 0 |>.count P.clk 0x050).raise P.clk 2
    exec (.pllLockLost p) s = .next (if p = 9 ∨ p = 10 then u.fault' 0x09 P.clk p 0 else u.pllStop p)) ∧
  (∀ p, 32 ≤ p → s.powered = true → s.pllPresent p = true → s.pagesAwake = true →
    let u := (((s.wr P.clk R.clk_PLL_LOCK_HI (bitPut (s.rd P.clk R.clk_PLL_LOCK_HI) (p - 32) false)).wr P.clk R.clk_LOCK_LOST_HI
      (bitPut (s.rd P.clk R.clk_LOCK_LOST_HI) (p - 32) true)).err P.clk 0x02 p 0 |>.count P.clk 0x050).raise P.clk 2
    exec (.pllLockLost p) s = .next (u.pllStop p))

/-- R444 to R449: entry to a low-power state. A request whose conditions hold starts the entry; one that a page blocks is refused with CONDITIONS,
the page named, and the state unchanged; each wait over, the entry goes on, or is abandoned at that abort point where a wake is latched. -/
def Obligations.LowPowerEntry : Prop := ∀ s : State,
  (∀ ag, Reaches s ag P.pwr → s.power.seq = .run → s.rd P.pwr R.pwr_STATE_BUSY = 0 → s.upState = true →
    let ask (l : LowPower) : State := s.wr P.pwr R.pwr_STATE_REQ (lpCode l)
    let one (ins : Instr) (l : LowPower) : Prop :=
      exec ins s = .next (match (ask l).blocker l with
        | some p => (ask l).refuse 0x3F 3 p
        | none => if l = .doze then (ask l).startDoze else (ask l).startEntry l)
    one (.dozeRequest ag) .doze ∧ one (.slumberRequest ag) .slumber ∧ one (.vaultRequest ag) .vault) ∧
  (∀ dom kind by_, let t := s.refuse dom kind by_
    let e := s.rd P.pwr R.pwr_REF_HEAD
    dom < 64 → kind < 4 → by_ < 256 → e < 8 →
    t.rdI P.pwr R.pwr_REF_DOM e = dom ∧ t.rdI P.pwr R.pwr_REF_KIND e = kind ∧ t.rdI P.pwr R.pwr_REF_BY e = by_ ∧
      t.rd P.pwr R.pwr_REF_HEAD = (e + 1) % 8 ∧ t.power = s.power ∧ t.dev = s.dev ∧
      t = { s with regs := t.regs, ctrs := t.ctrs, outbox := t.outbox }) ∧
  (s.rd P.pwr R.pwr_DOZE_AUTO = 1 → s.upState = true → s.power.seq = .run → s.blocker .doze = none → Does .dozeIdleTimeout s fun t =>
    t.power.seq = .entry .doze 2 ∧ t.rd P.pwr R.pwr_STATE_BUSY = 1 ∧ t = { s with power := t.power, regs := t.regs } ∧
      SameRegs s t [fkey P.pwr R.pwr_STATE_BUSY 0]) ∧
  (s.power.seq = .entry .doze 2 → s.power.latched = 0 → Does .dozeBiasSettled s fun t =>
    t.power.seq = .asleep .doze ∧ t.dev = Dev.doze ∧ t.rd P.pwr R.pwr_STATE_BUSY = 0 ∧
      t = { s with power := t.power, regs := t.regs, ctrs := t.ctrs, outbox := t.outbox }) ∧
  (s.power.seq = .entry .doze 2 → s.power.latched ≠ 0 → Does .dozeBiasSettled s fun t =>
    t.power.seq = .run ∧ t.power.latched = 0 ∧ t.dev = s.dev ∧ t.rd P.pwr R.pwr_LAST_ABORT_ST = 1 ∧
      t.rd P.pwr R.pwr_LAST_ABORT_AP = 2 ∧ t = { s with power := t.power, regs := t.regs, ctrs := t.ctrs, outbox := t.outbox }) ∧
  (∀ l, s.power.seq = .entry l 3 → s.power.latched ≠ 0 → Does .dramSelfRefreshEntered s fun t =>
    t.power.seq = .run ∧ t.rd P.pwr R.pwr_LAST_ABORT_ST = lpCode l ∧ t.rd P.pwr R.pwr_LAST_ABORT_AP = 3 ∧ t.dram.act = [] ∧
      (∀ ch, ch < 4 → (s.rd P.drm R.drm_SET).testBit ch = true → t.rd (P.drc ch) R.drc_SR_STATE = 3) ∧
      t = { s with power := t.power, dram := t.dram, regs := t.regs, ctrs := t.ctrs, outbox := t.outbox }) ∧
  (∀ l, s.power.seq = .entry l 3 → s.power.latched = 0 →
    exec .dramSelfRefreshEntered s = .next (({ s with dram := { s.dram with act := [] } }.setSr 2).entryPark l))

/-- R449 to R451: waking. In a state an event of an enabled source that applies there starts the wake with its bit in WAKE_SRC, during an entry it
is latched, and one whose source is disabled is ignored; a Doze ends at once. -/
def Obligations.Wake : Prop := ∀ (s : State) (n : Nat), n < 8 →
  ((s.rd P.pwr R.pwr_WAKE_EN).testBit n = false → exec (.wakeEvent n) s = .next s) ∧
  (s.power.seq = .asleep .doze → (s.rd P.pwr R.pwr_WAKE_EN).testBit n = true → Does (.wakeEvent n) s fun t =>
    t.power.seq = .run ∧ t.dev = s.upDev ∧ t.rd P.pwr R.pwr_WAKE_SRC = 2 ^ n ∧ t.dram.powerDown = [] ∧
      t = { s with power := t.power, dram := t.dram, regs := t.regs, outbox := t.outbox }) ∧
  (∀ l m, s.power.seq = .entry l m → (s.rd P.pwr R.pwr_WAKE_EN).testBit n = true → wakeApplies n l = true →
    exec (.wakeEvent n) s = .next { s with power := { s.power with latched := bitPut s.power.latched n true } }) ∧
  (∀ l, s.power.seq = .asleep l → l ≠ .doze → wakeApplies n l = true → (s.rd P.pwr R.pwr_WAKE_EN).testBit n = true →
    Does (.wakeEvent n) s fun t => t.rd P.pwr R.pwr_WAKE_SRC = 2 ^ n ∧ t.rd P.pwr R.pwr_STATE_BUSY = 1 ∧
      (∃ k, t.power.seq = .wake l k ∧ 1 ≤ k ∧ k ≤ 3) ∧
      t = { s with power := t.power, regs := t.regs, ctrs := t.ctrs, outbox := t.outbox }) ∧
  (s.rd P.pwr R.pwr_WAKE_TIMER_S ≠ 0 → s.power.seq = .asleep .doze → (s.rd P.pwr R.pwr_WAKE_EN).testBit 4 = true →
    Does .wakeTimerExpiry s fun t => t.power.seq = .run ∧ t.dev = s.upDev ∧ t.rd P.pwr R.pwr_WAKE_SRC = 16)

/-- R450, R349, R437: the pins and states of the host that concern power. Leaving D3hot resets the controller and wakes the device; PERST_N
deasserted wakes it from Vault; in Doze an idle DRAM channel of the set goes to power-down. -/
def Obligations.HostPower : Prop := ∀ s : State,
  (∀ b, s.mode M.host = true ∨ s.dev = Dev.vault → s.nvme.d3hot = !b → exec (.pcieDStateChange b) s =
    .next (let t := { s with nvme := { s.nvme with d3hot := b } }; if b then t else t.hostReset.wakeBy 1)) ∧
  (s.nvme.perstLow = true → exec .perstNDeassert s = .next ({ s with nvme := { s.nvme with perstLow := false } }.wakeBy 1)) ∧
  (∀ ch, s.dev = Dev.doze → ch < 4 → (s.rd P.drm R.drm_SET).testBit ch = true → s.dram.powerDown.contains ch = false →
    exec (.dramPowerDownIdle ch) s = .next { s with dram := { s.dram with powerDown := s.dram.powerDown ++ [ch] } })

/-- R328, R457: DVFS of a cluster. A request above DVFS_MAX is clamped; a point that needs more than VDD_CORE gives raises it first (phase 0), then
the cores stop (1), the PLL relocks (2), the last voltage settles (3), and DVFS_CUR takes the point. -/
def Obligations.Dvfs : Prop := ∀ (s : State) (c : Nat), c < nClusters s.part →
  (∀ ag, Reaches s ag (P.shc c) → s.rd (P.shc c) R.shc_DVFS_BUSY = 0 → ∀ n, n < 3 → n ≤ s.rd (P.shc c) R.shc_DVFS_MAX →
    n ≠ s.rd (P.shc c) R.shc_DVFS_CUR → Does (.dvfsReq ag c n) s fun t =>
      t.rd (P.shc c) R.shc_DVFS_REQ = n ∧ t.rd (P.shc c) R.shc_DVFS_BUSY = 1 ∧ t.rd (P.shc c) R.shc_DVFS_CUR = s.rd (P.shc c) R.shc_DVFS_CUR ∧
        (if s.rd (P.shc c) R.shc_DVFS_CUR < n ∧ s.power.vddCode < vddFor n then
          Tbl.at? t.power.dvfs c = some ⟨n, 0⟩ ∧ t.power.vddCode = vddFor n ∧ t.outbox = s.outbox ++ [.vid (0x4000 + vddFor n)]
        else Tbl.at? t.power.dvfs c = some ⟨n, 1⟩ ∧ t.power.vddCode = s.power.vddCode ∧ t.outbox = s.outbox) ∧
        t = { s with power := t.power, regs := t.regs, outbox := t.outbox }) ∧
  (s.power.vidWait = true → s.power.seq = .run → Does .vidSettleWait s fun t =>
    t.power.vidWait = false ∧ (∀ p, Tbl.at? s.power.dvfs c = some ⟨p, 0⟩ → Tbl.at? t.power.dvfs c = some ⟨p, 1⟩) ∧
      t = { s with power := t.power }) ∧
  (∀ p, Tbl.at? s.power.dvfs c = some ⟨p, 1⟩ → Does (.dvfsCoresStopped c) s fun t =>
    Tbl.at? t.power.dvfs c = some ⟨p, 2⟩ ∧ t = { s with power := t.power }) ∧
  (∀ p, p < 3 → Tbl.at? s.power.dvfs c = some ⟨p, 3⟩ → s.power.vidWait = false → Does (.dvfsDone c) s fun t =>
    t.rd (P.shc c) R.shc_DVFS_CUR = p ∧ t.rd (P.shc c) R.shc_DVFS_BUSY = 0 ∧ Tbl.at? t.power.dvfs c = none ∧
      t = { s with power := t.power, regs := t.regs, ctrs := t.ctrs, outbox := t.outbox })

/-- R441 to R443, R457 to R459: domains, the power limit and the pads. An essential domain is refused, one with work is refused with its page, any
other is switched off; DOM_ON_GO powers the selected domains whose regulators run; above the limit DVFS_MAX of the powered clusters falls by a
point; PAD_TACK_REL releases the tacked pads of a powered domain. -/
def Obligations.DomainsAndPads : Prop := ∀ (s : State) (ag : Agent),
  (Reaches s ag P.pwr → exec (.domOffGo ag) s = .next (((s.domSel.filter s.domOn).foldl State.offOne s).dropCoreless)) ∧
  (Reaches s ag P.pwr → exec (.domOnGo ag) s = .next ((s.domSel.filter s.supplied).foldl State.domPower s)) ∧
  (∀ d, s.essential d = true → s.offOne d = s.refuse d 1 0xFF) ∧
  (∀ d p, s.essential d = false → s.domWork d = some p → s.offOne d = s.refuse d 0 p) ∧
  (∀ d, d < 38 → s.essential d = false → s.domWork d = none → (s.offOne d).domOn d = false) ∧
  (∀ d, d < 38 → 4 ≤ d → domainPresent s.part d = true → (s.domPower d).domOn d = true) ∧
  (∀ w, s.power.seq = .run → s.dev = Dev.ready → s.rd P.pwr R.pwr_PWR_LIMIT_W < w → Does (.powerLimitAverage w) s fun t =>
    t.rd P.pwr R.pwr_PWR_MEAS_W = min w 255 ∧ t.power.underMs = 0 ∧ (t.rd P.pwr R.common_INT_RAW).testBit 6 = true ∧
      (∀ c, c < nClusters s.part → s.domOn (8 + c) = true → t.rd (P.shc c) R.shc_DVFS_MAX = (s.rd (P.shc c) R.shc_DVFS_MAX - 1) % 4) ∧
      t = { s with power := t.power, regs := t.regs, ctrs := t.ctrs, outbox := t.outbox }) ∧
  (100 ≤ s.power.underMs → Does .powerLimitRestore s fun t =>
    t.power.underMs = 0 ∧
      (∀ c, c < nClusters s.part → s.domOn (8 + c) = true →
        t.rd (P.shc c) R.shc_DVFS_MAX = min s.dvfsTop (s.rd (P.shc c) R.shc_DVFS_MAX + 1) % 4) ∧
      t = { s with power := t.power, regs := t.regs }) ∧
  (s.part = .od7400 → Reaches s ag P.pad → ∀ lo hi, exec (.padTackRel ag lo hi) s = .next s) ∧
  (s.part = .od7420 → Reaches s ag P.pad → ∀ d, d < 32 → domainPresent s.part d = true → s.domOn d = true →
    (s.rd P.pad R.pad_PAD_TACK_LO).testBit d = true → Does (.padTackRel ag (2 ^ d) 0) s fun t =>
      (t.rd P.pad R.pad_PAD_TACK_LO).testBit d = false ∧ t = { s with regs := t.regs, ctrs := t.ctrs } ∧
        SameRegs s t [fkey P.pad R.pad_PAD_TACK_LO 0])

/-- R410, R411, R421, R424, R425, R475: Fill and Boot. The SRAM filled, training starts; with the last channel reported the interleave set is the
lowest 4, 2 or 1 of the trained channels; a line fill leaves every byte of DRAM zero and is timed in FILL_DRAM_MS; with a valid image the one
of the higher version starts, slot 0 on a tie, and Rebuild begins; with none NO_FIRMWARE is set and the device stays in Boot. -/
def Obligations.FillAndBoot : Prop := ∀ s : State,
  (∀ us, s.dram.fill = 1 → s.power.seq = .run → exec (.fillSramDone us) s =
    .next { s with dram := { s.dram with fill := 2, fillUs := us, trained := [] } }) ∧
  (∀ ch ok, s.dram.fill = 2 → ch < nDram s.part → Tbl.at? s.dram.trained ch = none → s.dram.trained.length + 1 = nDram s.part →
    Does (.dramTrainingDone ch ok) s fun t =>
      let l := t.trainedList
      t.dram.fill = 3 ∧ Tbl.at? t.dram.trained ch = some ok ∧
        (l ≠ [] → t.rd P.drm R.drm_NCH = (if 4 ≤ l.length then 4 else if 2 ≤ l.length then 2 else 1) ∧
          ∀ c, c < 4 → ((t.rd P.drm R.drm_SET).testBit c = true ↔ c ∈ l.take (if 4 ≤ l.length then 4 else if 2 ≤ l.length then 2 else 1))) ∧
        t = { s with dram := t.dram, regs := t.regs, free := t.free }) ∧
  (∀ ms, s.dram.fill = 3 → exec (.fillDramDone ms) s = .next (s.fillEnd ms)) ∧
  (∀ ms, s.dram.fill = 4 → Does (.fillDramDone ms) s fun t =>
    (∀ a, dramBase ≤ a → a < hostBase → memAt t.mem a = 0) ∧ (∀ a, a < dramBase ∨ hostBase ≤ a → memAt t.mem a = memAt s.mem a) ∧
      t.rd P.fil R.fil_FILL_DRAM_MS = min 65535 ms ∧ t.dram.fill = 0 ∧
      t = { s with dram := t.dram, regs := t.regs, mem := t.mem, integ := t.integ }) ∧
  (s.dev = Dev.boot → s.dram.fill = 0 → s.trust.fwRunning = false →
    let ok0 := s.imageOk 1 (s.slotImage 0)
    let ok1 := s.imageOk 1 (s.slotImage 1)
    let slot := if ok1 && (!ok0 || decide (imgVersion (s.slotImage 0) < imgVersion (s.slotImage 1))) then 1 else 0
    ((ok0 || ok1) = false → Does .bootFirmwareVerified s fun t =>
      t.rd P.pat R.pat_NO_FIRMWARE = 1 ∧ t.dev = Dev.boot ∧ t = { s with regs := t.regs, ctrs := t.ctrs }) ∧
    ((ok0 || ok1) = true → s.power.seq = .run → s.fault.held = false → s.mode M.arch = false → Does .bootFirmwareVerified s fun t =>
      t.dev = Dev.rebuild ∧ t.trust.fwRunning = true ∧ t.trust.rebuild = 1 ∧ t.rd P.pat R.pat_FW_SLOT = slot ∧
        (∀ c, c < 8 → (Tbl.at? t.cores (32 + c)).map (fun k => k.st) = some .run) ∧
        t = { s with regs := t.regs, ctrs := t.ctrs, trust := t.trust, cores := t.cores }))

/-- R111: a channel's training. TRAINED_MTS is the lower of RATE_MTS and the chips' fastest mode, half of it after the first failure, timing mode 0
with TRAIN_FAIL after the second. -/
def Obligations.NandTraining : Prop := ∀ (s : State) (ch : Nat) (i : NandInfo),
  s.trust.fwRunning = true → ch < nChannels s.part → s.pageUp (P.nfc ch) = true → s.dev ≠ Dev.ward → s.power.seq = .run →
  let rate := min (s.rd (P.nfc ch) R.nfc_RATE_MTS) i.fastest
  (Does (.nandTrainingDone ch i .full) s fun t => t.rd (P.nfc ch) R.nfc_TRAINED_MTS = rate % 2 ^ 12 ∧
    t.rd (P.nfc ch) R.nfc_TRAIN_FAIL = 0 ∧ t = { s with regs := t.regs }) ∧
  (Does (.nandTrainingDone ch i .half) s fun t => t.rd (P.nfc ch) R.nfc_TRAINED_MTS = rate / 2 % 2 ^ 12 ∧
    t.rd (P.nfc ch) R.nfc_TRAIN_FAIL = 0 ∧ t = { s with regs := t.regs }) ∧
  (Does (.nandTrainingDone ch i .failed) s fun t => t.rd (P.nfc ch) R.nfc_TRAINED_MTS = 0x00A ∧ t.rd (P.nfc ch) R.nfc_TRAIN_FAIL = 1 ∧
    (t.rd (P.nfc ch) R.common_INT_RAW).testBit 3 = true ∧ t = { s with regs := t.regs, outbox := t.outbox })

/-- R56, R58: Rebuild. With a trained channel and no power-fail hold a phase done leads to the next; an overrun sets RB_OVERRUN. -/
def Obligations.Rebuild : Prop := ∀ (s : State) (ms : Nat) (bad : List Nat), s.dev = Dev.rebuild →
  (s.seam.pfailHold = true → exec (.rebuildPhaseDone ms bad) s = .next s) ∧
  (s.seam.pfailHold = false → s.chans ≠ [] →
    (s.trust.rebuild = 1 → exec (.rebuildPhaseDone ms bad) s = .next (((s.rbTime ms).wr P.seam R.seam_RB_FLUSH_USED 0).rbRoot)) ∧
    (s.trust.rebuild = 2 → exec (.rebuildPhaseDone ms bad) s = .next (s.rbTime ms).rbFlush) ∧
    (s.trust.rebuild = 3 → exec (.rebuildPhaseDone ms bad) s = .next (s.rbTime ms).rbLoad) ∧
    (s.trust.rebuild = 4 → exec (.rebuildPhaseDone ms bad) s = .next ((s.rbTime ms).rbScan bad)) ∧
    (s.trust.rebuild = 5 → exec (.rebuildPhaseDone ms bad) s = .next (s.rbTime ms).rbApply) ∧
    (s.trust.rebuild = 6 → exec (.rebuildPhaseDone ms bad) s = .next (s.rbTime ms).ckptDurable.goReady)) ∧
  Does .rebuildOverrun s fun t => t.rd P.seam R.seam_RB_OVERRUN = 1 ∧ (t.rd P.seam R.common_INT_RAW).testBit 1 = true ∧
    t = { s with regs := t.regs, outbox := t.outbox }

/-- R437, R451, R454, R484: the later steps of a wake. With no bank lost the retention check powers the domains and DRAM leaves self-refresh; a
failed bank is zeroed with its RETAIN_LOST bit; the last channel out leads to step 6; the Bobbin image is checked and training begins. -/
def Obligations.WakeSteps : Prop := ∀ s : State,
  (s.power.seq = .wake .slumber 4 → exec (.retentionCheckDone 0 false 0) s =
    .next (((s.power.domsWere.filter s.supplied).foldl State.domPower s).wakeDram .slumber)) ∧
  (∀ b, 0 < b → b < 32 → s.power.seq = .wake .slumber 4 → (s.rd P.pwr R.pwr_SLUMBER_BANKS).testBit b = true →
    exec (.retentionCheckDone (2 ^ b) false 0) s =
      .next ((((s.bankLost b).power.domsWere.filter (s.bankLost b).supplied).foldl State.domPower (s.bankLost b)).wakeDram .slumber)) ∧
  (∀ b, b < 32 → s.spool.items = [] → let t := s.bankLost b
    (t.rd P.pwr R.pwr_RETAIN_LOST).testBit b = true ∧
      (∀ a, stgBase + b * 0x200000 ≤ a → a < stgBase + (b + 1) * 0x200000 → memAt t.mem a = 0) ∧
      (∀ a, a < stgBase + b * 0x200000 ∨ stgBase + (b + 1) * 0x200000 ≤ a → memAt t.mem a = memAt s.mem a) ∧
      t = { s with regs := t.regs, ctrs := t.ctrs, mem := t.mem, integ := t.integ, outbox := t.outbox }) ∧
  (∀ ch, ch < 4 → s.dramSet.contains ch = true → s.rd (P.drc ch) R.drc_SR_STATE = 3 → s.power.seq = .wake .slumber 5 →
    (∀ c ∈ s.dramSet, c = ch ∨ c ∈ s.power.dramAwake) → s.dram.waits = [] → Does (.dramSelfRefreshExitDone ch true) s fun t =>
      t.rd (P.drc ch) R.drc_SR_STATE = 0 ∧ t.power.seq = .wake .slumber 6 ∧ t = { s with regs := t.regs, power := t.power }) ∧
  (s.power.seq = .wake .slumber 6 → exec (.bobbinImageChecked true) s = .next (s.startBobbin.wakeTrain .slumber) ∧
    exec (.bobbinImageChecked false) s = .next ((s.fault' 0x05 P.thm 0 0).wakeTrain .slumber))

/-- R26, R352, R462 to R464, R519: the resets. 0xA5 in DEV_RST outside Ward declares fault 0x0D and resets the device controller, any other value is
ignored; SRESET is block soft; the host's resets act on function 0 outside Ward and on the device in Ward; power loss leaves what survives it. -/
def Obligations.Resets : Prop := ∀ s : State,
  (∀ ag v, Reaches s ag P.rst → v % 256 = 0xA5 → exec (.devRst ag v) s = .next ((s.fault' 0x0D P.rst 0 0).resetFor 3)) ∧
  (∀ ag v, Reaches s ag P.rst → v % 256 ≠ 0xA5 → exec (.devRst ag v) s = .next s) ∧
  (∀ ag p, Reaches s ag p → exec (.sreset ag p) s = .next (s.softReset p)) ∧
  exec .tapReset s = .next s ∧
  (s.power.seq = .run → s.mode M.host = true → s.dev ≠ Dev.ward → s.nvme.linkUp = true →
    (s.hostUp = true → s.nvme.ccEn = true → exec .hostControllerReset s = .next s.hostReset) ∧
    exec .flrFunction0 s = .next s.hostReset ∧
    exec .nvmSubsystemReset s = .next (s.hostReset.whenB s.nvme.linkUp State.linkDown) ∧
    (Does .flrFunction1 s fun t => t.nvme.fn1Masked = true ∧ (∀ p, p < 0x8E → t.rd p R.common_OWNER ≠ 1) ∧
      t = { s with nvme := t.nvme, regs := t.regs })) ∧
  (s.power.seq = .run → s.mode M.host = true → s.dev = Dev.ward → s.nvme.linkUp = true → exec .flrFunction0 s = .next (s.resetFor 2)) ∧
  (s.powered = true → s.nvme.perstLow = false → s.mode M.host = false →
    exec .perstNAssert s = .next { s with nvme := { s.nvme with perstLow := true } }) ∧
  (∃ t, exec .powerLoss s = .next t ∧ t.nand.slots = s.cutMedia.nand.slots ∧ t.nor = s.cutMedia.nor ∧
    t.selv.disk = s.cutMedia.selv.disk ∧ t.power.seq = .heldInReset ∧ t.cores = [] ∧ t.stg = State.reset.stg ∧
    (∀ a, a < hostBase → memAt t.mem a = 0) ∧ (∀ a, hostBase ≤ a → memAt t.mem a = memAt s.cutMedia.mem a) ∧ t.pending = s.cutMedia.pending)

/-- R463: SRESET acts with CTRL.EN = 0 and STAT.BUSY = 0; at any other time it is ignored, SRESET_REJ is set and the counter of refused resets
advances. -/
def Obligations.SoftReset : Prop := ∀ (s : State) (ag : Agent) (p : Nat) (k : PageKind) (ty n : Nat),
  Reaches s ag p → pageInfo p = some (k, ty, n) → isControl k = false →
  ¬(k = .drc ∧ (s.rd P.drm R.drm_SET).testBit n = true) → s.on p R.common_EN = true ∨ s.running p = true →
  Does (.sreset ag p) s fun t => t.rd P.rst R.rst_SRESET_REJ = 1 ∧ (t.rd P.rst R.common_INT_RAW).testBit 0 = true ∧
    t = { s with regs := t.regs, ctrs := t.ctrs, outbox := t.outbox } ∧
    SameRegs s t [fkey P.rst R.rst_SRESET_REJ 0, fkey P.rst R.common_INT_RAW 0]

/-- R487 to R493, R469: device faults. The first is captured with its code, page, detail, address, state and time, and the device enters Ward; a
later one adds to FAULT_MORE alone. The watchdog, the heartbeat and the lockstep comparison raise theirs. -/
def Obligations.DeviceFaults : Prop := ∀ s : State,
  (∀ code p i a, s.powered = true → 1 ≤ code → code ≤ 0x0E → exec (.faultRequest code p i a) s = .next (s.fault' code p i a)) ∧
  (s.wdogRuns = true → exec .wdogExpiry s = .next (s.fault' 0x04 P.thm 0 0)) ∧
  (Dev.boot ≤ s.dev → s.dev ≤ Dev.ward → exec .thimbleHeartbeatTimeout s = .next (s.fault' 0x03 0xFF 0 0)) ∧
  exec .lockstepMismatch s = .next ((s.err P.thm 0x01 0 0).fault' 0x01 P.thm 0 0) ∧
  (s.wdogRuns = true → Does .wdogHalfPeriod s fun t => (t.rd P.flt R.common_INT_RAW).testBit 2 = true ∧
    t = { s with regs := t.regs, ctrs := t.ctrs, outbox := t.outbox } ∧ SameRegs s t [fkey P.flt R.common_INT_RAW 0]) ∧
  (∀ ag, Reaches s ag P.flt → exec (.wdogKick ag) s = .next { s with trust := { s.trust with wdogAt := s.rtcUs } }) ∧
  (s.dev = Dev.ward → s.rd P.flt R.flt_QUIESCED = 0 → (∀ o ∈ s.nand.ops, o.started = false) → s.rd P.slv R.slv_WG_STATE = 0 →
    Does .wardQuiesced s fun t => t.rd P.flt R.flt_QUIESCED = 1 ∧ t.fault.quiescedAt = s.rtcUs ∧
      (t.rd P.flt R.common_INT_RAW).testBit 1 = true ∧ t = { s with fault := t.fault, regs := t.regs, outbox := t.outbox }) ∧
  (s.dev = Dev.ward → s.rd P.flt R.flt_QUIESCED = 1 → s.rd P.flt R.flt_WARD_RESET_S ≠ 0 → exec .wardResetTimer s = .next (s.resetFor 3)) ∧
  (∀ code p i a, s.rd P.flt R.flt_FAULT_VALID ≠ 0 →
    s.fault' code p i a = s.wr P.flt R.flt_FAULT_MORE (min 255 (s.rd P.flt R.flt_FAULT_MORE + 1))) ∧
  (∀ code p i a, s.rd P.flt R.flt_FAULT_VALID = 0 → s.dev = Dev.ready → code < 256 → p < 256 → i < 2 ^ 32 →
    let t := s.fault' code p i a
    t.dev = Dev.ward ∧ t.rd P.flt R.common_ERR_CODE = code ∧ t.rd P.flt R.common_ERR_INFO = i ∧ t.rd P.flt R.flt_FAULT_PAGE = p ∧
      t.rd P.flt R.flt_FAULT_STATE = Dev.ready ∧ t.rd P.flt R.flt_FAULT_VALID = 1 ∧
      t.rd P.flt R.common_ERR_ADDR_LO = a % 2 ^ 32 ∧ t.nvme.cfs = true ∧ t.nvme.csts = false ∧ t.net.conns = [] ∧ t.spool.items = [] ∧
      t.seam.streams = [] ∧ t.pleat.lanes = [] ∧ t.gauge = gaugeEmpty ∧ (∀ o ∈ t.nand.ops, o.started = true) ∧
      (∀ e ∈ t.cores, e.1 < 40 → e.2.st = .stopped)) ∧
  (∀ code p i a, s.rd P.flt R.flt_FAULT_VALID = 0 → s.dev = Dev.ready →
    let t := s.fault' code p i a
    t.mem = s.mem ∧ t.nor = s.nor ∧ t.nand.slots = s.nand.slots ∧ t.selv.disk = s.selv.disk ∧ t.seam.map = s.seam.map ∧
      t.trust.keySlots = s.trust.keySlots ∧ t.pending = s.pending)

/-- R504, R505, R507 to R509: the header of a register page. The free lock goes to the writer with the lowest OWNER code and is released by its holder
or Thimble; while another agent holds it a write from 0x100 upward is dropped with LOCK_REJ; INT_CLR clears the bits written but those of an event of
the same cycle; INT_EN takes the defined bits; 0xFF clears ERR_CODE on every page but FLT; a route with vector 0 is refused for every page but FLT. -/
def Obligations.RegisterHeader : Prop := ∀ (s : State) (ag : Agent) (p : Nat),
  (∀ takers, Reaches s ag p → s.rd p R.common_OWNER = 0 → ag ∈ takers →
    (∀ b ∈ takers, s.agentUp b = true → agCode ag ≤ agCode b) → Does (.lockTake p takers) s fun t =>
      t.rd p R.common_OWNER = agCode ag ∧ t = { s with regs := t.regs } ∧ SameRegs s t [fkey p R.common_OWNER 0]) ∧
  (Reaches s ag p → s.rd p R.common_OWNER = agCode ag ∨ ag = .thimble → Does (.lockRelease ag p) s fun t =>
    t.rd p R.common_OWNER = 0 ∧ t = { s with regs := t.regs } ∧ SameRegs s t [fkey p R.common_OWNER 0]) ∧
  (s.power.seq = .run → s.agentUp ag = true → s.dev ≠ Dev.ward → s.lockedOut ag p = true → s.pageOpen p = true →
    exec (.lockRelease ag p) s = .next s ∧ exec (.lockTake p [ag]) s = .next s ∧
      ∀ v, p = P.dbg → Does (.txData ag v) s fun t =>
        t.rd p R.common_LOCK_REJ = 1 ∧ t = { s with regs := t.regs } ∧ SameRegs s t [fkey p R.common_LOCK_REJ 0]) ∧
  (∀ bits events, Reaches s ag p → Does (.intClr ag p bits events) s fun t =>
    (∀ b, b < 32 → (t.rd p R.common_INT_RAW).testBit b =
      (((s.rd p R.common_INT_RAW).testBit b && !bits.testBit b) || (events.testBit b && (pageIntBits p).testBit b))) ∧
      t = { s with regs := t.regs, outbox := t.outbox } ∧ SameRegs s t [fkey p R.common_INT_RAW 0]) ∧
  (∀ v, Reaches s ag p → Does (.intEn ag p v) s fun t =>
    (∀ b, b < 32 → (t.rd p R.common_INT_EN).testBit b = (v.testBit b && (pageIntBits p).testBit b)) ∧
      t = { s with regs := t.regs, outbox := t.outbox } ∧ SameRegs s t [fkey p R.common_INT_EN 0]) ∧
  (∀ v, Reaches s ag p → v % 256 = 0xFF → p ≠ P.flt → Does (.errCodeClear ag p v) s fun t =>
    (∀ f ∈ [R.common_ERR_CODE, R.common_ERR_MORE, R.common_ERR_INFO, R.common_ERR_ADDR_LO, R.common_ERR_ADDR_HI], t.rd p f = 0) ∧
      t = { s with regs := t.regs } ∧ SameRegs s t [fkey p R.common_ERR_CODE 0, fkey p R.common_ERR_MORE 0, fkey p R.common_ERR_INFO 0,
        fkey p R.common_ERR_ADDR_LO 0, fkey p R.common_ERR_ADDR_HI 0]) ∧
  (∀ v, Reaches s ag p → v % 256 ≠ 0xFF ∨ p = P.flt → exec (.errCodeClear ag p v) s = .next s) ∧
  (∀ v, Reaches s ag P.glb → (pageInfo p).isSome = true → p ≠ P.flt → v % 32 = 0 → Does (.routeWrite ag p v) s fun t =>
    t.rd P.glb R.glb_ROUTE_REJ = 1 ∧ t = { s with regs := t.regs } ∧ SameRegs s t [fkey P.glb R.glb_ROUTE_REJ 0]) ∧
  (∀ v, Reaches s ag P.glb → (pageInfo p).isSome = true → p = P.flt ∨ v % 32 ≠ 0 → Does (.routeWrite ag p v) s fun t =>
    (p ≠ P.flt → t.rdI P.glb R.glb_MSIX_VEC p = v % 32 ∧ t.rdI P.glb R.glb_MSIX_EN p = v / 32 % 2) ∧
      (p = P.flt → t.rdI P.glb R.glb_MSIX_VEC p = s.rdI P.glb R.glb_MSIX_VEC p ∧ t.rdI P.glb R.glb_MSIX_EN p = s.rdI P.glb R.glb_MSIX_EN p) ∧
      t.rdI P.glb R.glb_BOB_CORE p = v / 64 % 8 ∧ t.rdI P.glb R.glb_BOB_VEC p = v / 512 % 16 ∧ t.rdI P.glb R.glb_BOB_EN p = v / 8192 % 2 ∧
      (ag ≠ .thimble → t.rdI P.glb R.glb_THM_VEC p = s.rdI P.glb R.glb_THM_VEC p ∧ t.rdI P.glb R.glb_THM_EN p = s.rdI P.glb R.glb_THM_EN p) ∧
      t = { s with regs := t.regs, outbox := t.outbox })

/-- R499 to R501, R511: accesses. A write of 4 aligned bytes writes the register; a misaligned access is counted, and a read of it answers with
Completer Abort; the low word of a counter latches the high one for the agent's next read; a UART byte queued, received, overrun and read; a GPIO pin
that changes. -/
def Obligations.RegisterAccess : Prop := ∀ (s : State) (ag : Agent),
  (∀ p off v, Reaches s ag p → off < 4096 → off % 4 = 0 →
    exec (.registerWrite ag (p * 4096 + off) 4 v) s = .next (s.writeReg ⟨ag, p, off, v % 2 ^ 32, 2 ^ 32 - 1⟩)) ∧
  (∀ v, Reaches s ag P.gpio → Does (.registerWrite ag (P.gpio * 4096 + 0x104) 4 v) s fun t =>
    t.rd P.gpio R.gpio_GPIO_OUT = v % 65536 ∧ t = { s with regs := t.regs } ∧ SameRegs s t [fkey P.gpio R.gpio_GPIO_OUT 0]) ∧
  (∀ a n r, s.power.seq = .run → s.agentUp ag = true → [1, 2, 4, 8].contains n = false ∨ a % n ≠ 0 → s.frozen P.glb = false →
    Does (.misalignedRegisterAccess ag a n r) s fun t =>
      t.ctr P.glb 0x040 = (s.ctr P.glb 0x040 + 1) % 2 ^ 64 ∧ t.outbox = s.outbox ++ (if r = true then [.completerAbort (a / 4096)] else []) ∧
        t = { s with ctrs := t.ctrs, outbox := t.outbox }) ∧
  (∀ p k ty m i, Reaches s ag p → pageInfo p = some (k, ty, m) → i < counterCount k → s.ctr p (0x040 + 8 * i) < 2 ^ 64 →
    Does (.counterLowRead ag (p * 4096 + (0x040 + 8 * i))) s fun t =>
      t.outbox = s.outbox ++ [.regData p (0x040 + 8 * i) (s.ctr p (0x040 + 8 * i) % 2 ^ 32)] ∧
        (∀ u : State, u = { t with ctrs := u.ctrs } →
          (u.regRead ag (p * 4096 + (0x044 + 8 * i)) 4).1 = some (s.ctr p (0x040 + 8 * i) / 2 ^ 32)) ∧
        t = { s with shadow := t.shadow, outbox := t.outbox }) ∧
  (∀ v, Reaches s ag P.dbg → s.uartTx.length < 16 → ag = .thimble ∨ s.rd P.dbg R.dbg_UART_THM = 0 →
    exec (.txData ag v) s = .next { s with uartTx := s.uartTx ++ [v % 256] }) ∧
  (∀ v, s.power.seq = .run → s.dev ≠ Dev.fill → s.uartRx = [] → Does (.uartRxByte v) s fun t =>
    t.uartRx = [v % 256] ∧ (t.rd P.dbg R.common_INT_RAW).testBit 0 = true ∧
      t = { s with uartRx := t.uartRx, regs := t.regs, outbox := t.outbox } ∧ SameRegs s t [fkey P.dbg R.common_INT_RAW 0]) ∧
  (∀ v, s.power.seq = .run → s.dev ≠ Dev.fill → s.uartRx ≠ [] → s.rd P.dbg R.common_ERR_CODE = 0 → Does (.uartRxByte v) s fun t =>
    t.rd P.dbg R.common_ERR_CODE = 1 ∧ (t.rd P.dbg R.common_INT_RAW).testBit 1 = true ∧ t.uartRx.length = 1 ∧
      t = { s with uartRx := t.uartRx, regs := t.regs, outbox := t.outbox, free := t.free }) ∧
  (∀ b, Reaches s ag P.dbg → s.uartRx = [b] →
    exec (.rxDataRead ag) s = .next { s with uartRx := [], outbox := s.outbox ++ [.regData P.dbg 0x108 (b + 256)] }) ∧
  (∀ n l, s.power.seq = .run → n < 16 → (s.rd P.gpio R.gpio_GPIO_IN).testBit n ≠ l → Does (.gpioEdge n l) s fun t =>
    (t.rd P.gpio R.gpio_GPIO_IN).testBit n = l ∧
      ((s.rd P.gpio R.gpio_GPIO_WAKE).testBit n = true → (t.rd P.gpio R.common_INT_RAW).testBit n = true) ∧
      ((s.rd P.gpio R.gpio_GPIO_WAKE).testBit n = false → t.outbox = s.outbox ∧ SameRegs s t [fkey P.gpio R.gpio_GPIO_IN 0]) ∧
      t = { s with regs := t.regs, outbox := t.outbox })

/-- R16, R17, R20, R409, R413 to R417: staging and memory integrity. A minimum is taken unless the four would exceed 992; a request that may take a
buffer and finds none of its class waiting gets the next one, any other waits; the leak takes 1 from LEVEL; a word that scrub corrects is counted,
captured and watched; one it cannot correct is noted, left unwritten and, in control memory, a device fault. -/
def Obligations.StagingAndIntegrity : Prop := ∀ s : State,
  (∀ c v, Reaches s .thimble P.glb → s.stg.waits = [] → ((stgClasses.filter (· ≠ c)).map s.stgMin).sum + v % 1024 ≤ 992 →
    Does (.stgMinWrite .thimble c v) s fun t =>
      t.stgMin c = v % 1024 ∧ t = { s with regs := t.regs } ∧ SameRegs s t [fkey P.glb (clsMin c) 0]) ∧
  (∀ c v, Reaches s .thimble P.glb → 992 < ((stgClasses.filter (· ≠ c)).map s.stgMin).sum + v % 1024 →
    Does (.stgMinWrite .thimble c v) s fun t =>
      t.rd P.glb R.glb_STG_CFG_REJ = 1 ∧ t = { s with regs := t.regs } ∧ SameRegs s t [fkey P.glb R.glb_STG_CFG_REJ 0]) ∧
  (∀ ag c v, ag ≠ .thimble → Reaches s ag P.glb → exec (.stgMinWrite ag c v) s = .next s) ∧
  (∀ c p x, s.upState = true → let r : StgReq := ⟨c, s.panelOf p, .request x⟩
    (s.stgMay c (s.panelOf p) = true → (∀ w ∈ s.stg.waits, w.cls ≠ c) → Does (.stagingAllocRequest c p x) s fun t =>
      ∃ n, 32 ≤ n ∧ n < 1024 ∧ Tbl.at? s.stg.bufs n = none ∧ Tbl.at? t.stg.bufs n = some r ∧
        (∀ m, m ≠ n → Tbl.at? t.stg.bufs m = Tbl.at? s.stg.bufs m) ∧
        t = { s with stg := { s.stg with bufs := t.stg.bufs, lastBank := n / 32 } }) ∧
    (s.stgMay c (s.panelOf p) = false ∨ (∃ w ∈ s.stg.waits, w.cls = c) →
      exec (.stagingAllocRequest c p x) s = .next { s with stg := { s.stg with waits := s.stg.waits ++ [r] } })) ∧
  (∀ p, s.pagesAwake = true → s.pageUp p = true → Does (.ceLeakPeriod p none) s fun t =>
    t.rd p R.common_LEVEL = (s.rd p R.common_LEVEL - 1) % 256 ∧ t = { s with regs := t.regs } ∧ SameRegs s t [fkey p R.common_LEVEL 0]) ∧
  (∀ p a x, s.pagesAwake = true → s.pageUp p = true → s.isHard p a = false → s.watched p a = false → s.rd P.eic R.eic_CE_VALID = 1 →
    Does (.ceLeakPeriod p (some (a, x))) s fun t => t = { s with ctrs := t.ctrs }) ∧
  (∀ ag, Reaches s ag P.eic → Does (.capClr ag) s fun t => t.rd P.eic R.eic_CE_VALID = 0 ∧ t.rd P.eic R.eic_UE_VALID = 0 ∧
    t = { s with regs := t.regs } ∧ SameRegs s t [fkey P.eic R.eic_CE_VALID 0, fkey P.eic R.eic_UE_VALID 0]) ∧
  (∀ w : MemWord, s.scrubs = true → s.knownBad w.page w.addr = false →
    (∀ b, exec (.scrubRead w .correct b) s = .next s) ∧
    (∀ x, s.isHard w.page w.addr = false → s.watched w.page w.addr = false → s.rd w.page R.common_LEVEL < s.rd w.page R.common_CAPACITY →
      s.rd P.eic R.eic_CE_VALID = 0 → Does (.scrubRead w (.corrected x) false) s fun t =>
        t.rd w.page R.common_LEVEL = (s.rd w.page R.common_LEVEL + 1) % 256 ∧ t.rd P.eic R.eic_CE_VALID = 1 ∧
          t.rd P.eic R.eic_CE_PAGE = w.page % 256 ∧ t.rd P.eic R.eic_CE_SYN = x % 2 ^ 32 ∧ t.rd P.eic R.eic_CE_ADDR_LO = w.addr % 2 ^ 32 ∧
          ((Tbl.at? t.integ.watch w.page).getD []).getLast? = some (w.addr, s.passOf w.page) ∧
          t = { s with regs := t.regs, ctrs := t.ctrs, integ := { s.integ with watch := t.integ.watch } })) ∧
  (∀ (w : MemWord) x b, s.scrubs = true → w.control = false → Does (.scrubRead w (.uncorrectable x) b) s fun t =>
    t.integ.bad.contains (w.page, w.addr) = true ∧ t.mem = s.mem ∧ t.dev = s.dev ∧
      t = { s with regs := t.regs, ctrs := t.ctrs, outbox := t.outbox, integ := t.integ }) ∧
  (∀ (w : MemWord) x b, s.scrubs = true → w.control = true →
    exec (.scrubRead w (.uncorrectable x) b) s = .next ((s.noteUe w.page w.addr x).ueFault w.page w.addr)) ∧
  (∀ d, s.scrubs = true → Does (.scrubPassTimer d true) s fun t =>
    t.integ.dramPass = s.integ.dramPass + (if d = true then 1 else 0) ∧ t.integ.sramPass = s.integ.sramPass + (if d = true then 0 else 1) ∧
      t = { s with ctrs := t.ctrs, integ := t.integ }) ∧
  (∀ d, s.scrubs = true → Does (.scrubPassTimer d false) s fun t =>
    t.rd P.eic R.eic_SCRUB_LATE = 1 ∧ (t.rd P.eic R.common_INT_RAW).testBit 4 = true ∧
      t = { s with regs := t.regs, ctrs := t.ctrs, integ := t.integ, outbox := t.outbox })

/-- R427, R429 to R435, R438: the DRAM controller. A refresh due is postponed under demand, uses one pulled in, or is issued; an access of an active
channel activates its row, enters it in the bank's table and moves its line, and waits during a pause; a drift above RETRAIN_PS pauses the
subchannel; ZQ calibration waits for a pause to end; a second CA parity alert within 1 ms is a device fault; a channel of the interleave set
cannot be disabled; an epoch records the highest share. -/
def Obligations.DramController : Prop := ∀ s : State,
  (∀ ch rank, s.chanActive ch = true → rank < s.board.ranks → s.postponed ch rank < 4 →
    (∀ idle, 0 < s.pulledIn ch rank → ∀ d, Does (.dramRefreshDue ch rank d idle) s fun t =>
      t.pulledIn ch rank = s.pulledIn ch rank - 1 ∧ t.postponed ch rank = s.postponed ch rank ∧ t = { s with dram := t.dram }) ∧
    (∀ idle, s.pulledIn ch rank = 0 → Does (.dramRefreshDue ch rank true idle) s fun t =>
      t.postponed ch rank = s.postponed ch rank + 1 ∧ t = { s with dram := t.dram, ctrs := t.ctrs }) ∧
    (s.pulledIn ch rank = 0 → Does (.dramRefreshDue ch rank false false) s fun t =>
      t.postponed ch rank = 0 ∧ t.outbox = s.outbox ++ List.replicate (s.postponed ch rank + 1)
        (.dramCmd ch (if s.rd (P.drc ch) R.drc_REF_MODE = 0 then Dk.refAb else Dk.refSb) rank) ∧
        t = { s with dram := t.dram, outbox := t.outbox })) ∧
  (exec .actTableClear s = .next { s with dram := { s.dram with act := [] } }) ∧
  (∀ a o p, s.dramPlace a.d = some p → s.chanActive p.ch = true → s.dram.pausing.contains (subKey p.ch p.sub) = false →
    exec (.dramAccess a o) s = .next (s.serveDram p a o)) ∧
  (∀ a p, s.dramPlace a.d = some p → s.chanActive p.ch = true → s.dram.pausing.contains (subKey p.ch p.sub) = false →
    s.postponed p.ch p.rank < 4 → s.rd (P.drc p.ch) R.drc_RFM_REQ = 0 → s.knownBad (P.drc p.ch) (lineOf a) = false → a.isWrite = false →
    (∀ e ∈ actTable (s.actOf p) p.row, e.2 < s.rd (P.drc p.ch) R.drc_DARN_THR) → Does (.dramAccess a .correct) s fun t =>
      t.outbox = s.outbox ++ [.dramCmd p.ch Dk.act (p.key * 2 ^ 17 + p.row), .dramCmd p.ch Dk.read (lineOf a)] ∧
        t.actOf p = actTable (s.actOf p) p.row ∧ (s.frozen (P.drc p.ch) = false →
          t.ctr (P.drc p.ch) 0x040 = (s.ctr (P.drc p.ch) 0x040 + 1) % 2 ^ 64 ∧ t.ctr (P.drc p.ch) 0x050 = (s.ctr (P.drc p.ch) 0x050 + 1) % 2 ^ 64) ∧
        t = { s with dram := t.dram, outbox := t.outbox, ctrs := t.ctrs }) ∧
  (∀ a o p, s.dramPlace a.d = some p → s.chanActive p.ch = true → s.dram.pausing.contains (subKey p.ch p.sub) = true →
    exec (.dramAccess a o) s = .next { s with dram := { s.dram with waits := s.dram.waits ++ [(a, o)] } }) ∧
  (∀ ch sub d, s.chanActive ch = true → sub < 2 → s.dram.pausing.contains (subKey ch sub) = false →
    s.rd (P.drc ch) R.drc_RETRAIN_PS < d → Does (.dramRetrainCheck ch sub d) s fun t =>
      t.dram.pausing = s.dram.pausing ++ [subKey ch sub] ∧ (t.rd (P.drc ch) R.common_INT_RAW).testBit 0 = true ∧
        t = { s with dram := { s.dram with pausing := t.dram.pausing }, regs := t.regs, ctrs := t.ctrs, outbox := t.outbox } ∧
        SameRegs s t [fkey (P.drc ch) R.common_INT_RAW 0]) ∧
  (∀ ch sub d, d ≤ s.rd (P.drc ch) R.drc_RETRAIN_PS → exec (.dramRetrainCheck ch sub d) s = .next s) ∧
  (∀ ch sub, s.dram.pausing.contains (subKey ch sub) = true → s.dram.waits = [] → s.dram.zqDue = false →
    exec (.dramRetrainDone ch sub true) s =
      .next { s with dram := { s.dram with pausing := s.dram.pausing.filter (· ≠ subKey ch sub) } }) ∧
  (∀ ch sub, s.dram.pausing.contains (subKey ch sub) = true → exec (.dramRetrainDone ch sub false) s =
    .next (({ s with dram := { s.dram with pausing := s.dram.pausing.filter (· ≠ subKey ch sub) } } : State).retrainFailed ch)) ∧
  (s.dram.pausing = [] → Does .zqCalibrationDue s fun t =>
    t.outbox = s.outbox ++ (s.dramSet.filter s.chanActive).flatMap (fun ch => [.dramCmd ch Dk.zq 0, .dramCmd ch Dk.zq 1]) ∧
      t = { s with outbox := t.outbox }) ∧
  (s.dram.pausing ≠ [] → exec .zqCalibrationDue s = .next { s with dram := { s.dram with zqDue := true } }) ∧
  (∀ ch sub, s.chanActive ch = true → sub < 2 → (∀ u, Tbl.at? s.dram.lastAlert (subKey ch sub) = some u → 1000 < s.rtcUs - u) →
    Does (.caParityAlert ch sub) s fun t =>
      Tbl.at? t.dram.lastAlert (subKey ch sub) = some s.rtcUs ∧ (t.rd (P.drc ch) R.common_INT_RAW).testBit 1 = true ∧
        t = { s with dram := { s.dram with lastAlert := t.dram.lastAlert }, regs := t.regs, ctrs := t.ctrs, outbox := t.outbox }) ∧
  (∀ ch sub u, s.chanActive ch = true → sub < 2 → Tbl.at? s.dram.lastAlert (subKey ch sub) = some u → s.rtcUs - u ≤ 1000 →
    ∃ v : State, v = { s with dram := v.dram } ∧
      exec (.caParityAlert ch sub) s = .next (((v.err (P.drc ch) 0x02 0 0).raise (P.drc ch) 3).fault' 0x08 (P.drc ch) ch 0)) ∧
  (∀ ag ch sr, Reaches s ag (P.drc ch) → s.dramSet.contains ch = true → Does (.drcCtrlEnClear ag ch sr) s fun t =>
    t.rd (P.drc ch) R.drc_CFG_REJ = 1 ∧ t = { s with regs := t.regs } ∧ SameRegs s t [fkey (P.drc ch) R.drc_CFG_REJ 0]) ∧
  (∀ ag ch, Reaches s ag (P.drc ch) → s.dramSet.contains ch = false → exec (.drcCtrlEnClear ag ch false) s = .next (s.disable (P.drc ch))) ∧
  (s.power.seq = .run → ∃ v : State, exec .arbitrationEpoch s = .next v.reclaimCheck.hemRetry.tryWrites ∧
    v.rd P.drm R.drm_IMB_PCT = s.imbalance.2 % 256 ∧ v.rd P.drm R.drm_IMB_CH = s.imbalance.1 % 4 ∧
      (s.rd P.drm R.drm_IMB_THR < s.imbalance.2 → s.dram.imbRun = false → (v.rd P.drm R.common_INT_RAW).testBit 0 = true) ∧
      v.dram.bytes = [] ∧ v.spool.coreUs = [] ∧ v.panels.hostBytes = [] ∧ v.seam.admitted = [] ∧
      v.panels.epochN = (if s.mode M.panel = true then s.nActive else 1) ∧
      v = { s with regs := v.regs, ctrs := v.ctrs, outbox := v.outbox, dram := v.dram, spool := { s.spool with coreUs := [] },
                   panels := v.panels, seam := { s.seam with admitted := [] } })

/-- R430: the activation table of a bank. A listed row's count rises by 1; an unlisted row is listed with count 1 while fewer than 16 entries
are, and then takes the place of an entry of lowest count with that count + 1. After any sequence of activations since a clear, in which no row
was darned, every row that made up more than 1/16 of them is listed with a count of at least its true number. Each bank of each rank of each
subchannel has its own table; the 32 ms clear and the entry into self-refresh empty them all. -/
def Obligations.ActivationTable : Prop :=
  (∀ (t : List (Nat × Nat)) (row : Nat), (t.map (·.1)).Nodup →
    (∀ n, (row, n) ∈ t → actTable t row = t.map fun e => if e.1 = row then (row, n + 1) else e) ∧
    (row ∉ t.map (·.1) → t.length < 16 → actTable t row = t ++ [(row, 1)]) ∧
    (row ∉ t.map (·.1) → 16 ≤ t.length → ∃ low ∈ t, (∀ e ∈ t, low.2 ≤ e.2) ∧
      actTable t row = t.map fun e => if e.1 = low.1 then (row, low.2 + 1) else e)) ∧
  (∀ l : List Nat, ((l.foldl actTable []).map (·.1)).Nodup ∧ (l.foldl actTable []).length ≤ 16 ∧
    ∀ r, l.length < 16 * l.count r → ∃ e ∈ l.foldl actTable [], e.1 = r ∧ l.count r ≤ e.2) ∧
  (∀ (s : State) (p : DramPlace) (t : List (Nat × Nat)), (s.setAct p t).actOf p = t ∧
    ∀ q : DramPlace, (q.ch, q.sub, q.rank, q.bank) ≠ (p.ch, p.sub, p.rank, p.bank) → p.sub < 2 → p.rank < 2 → p.bank < 32 →
      q.sub < 2 → q.rank < 2 → q.bank < 32 → (s.setAct p t).actOf q = s.actOf q) ∧
  (∀ s : State, Does .actTableClear s fun u => ∀ p, u.actOf p = []) ∧
  (∀ (s : State) (t : LowPower), s.power.seq = .entry t 3 → Does .dramSelfRefreshEntered s fun u => ∀ p, u.actOf p = [])

/-- R348, R352, R354: the NVMe controller. CC.EN creates the admin queue; a doorbell moves its queue's tail, an invalid one is an error event; freed
completion entries let out what waited; a command that Spool has no room for waits; fetch pauses at the limit of outstanding commands. Flush
completes at once (R355). The admin queue of 4,096 entries is the model's choice (log entry 37). -/
def Obligations.NvmeControl : Prop := ∀ s : State,
  (s.power.seq = .run → s.hostUp = true → s.nvme.ccEn = false → s.dev ≠ Dev.ward → Does .ccEnSet s fun t =>
    t.nvme.ccEn = true ∧ t.nvme.csts = s.upState ∧ t.nvme.sqs = [(0, ⟨4096, 0, 0, 0, 0⟩)] ∧ t.nvme.cqs = [(0, ⟨4096, 0, 0, 0⟩)] ∧
      t = { s with nvme := { s.nvme with ccEn := true, csts := s.upState, sqs := t.nvme.sqs, cqs := t.nvme.cqs, cqHeld := [] } }) ∧
  (∀ q v x, s.power.seq = .run → s.hostUp = true → s.nvme.ccEn = true → Tbl.at? s.nvme.sqs q = some x → v < x.size →
    exec (.sqTailDoorbell q v) s = .next { s with nvme := { s.nvme with sqs := Tbl.put s.nvme.sqs q { x with tail := v } } }) ∧
  (∀ q v x, s.power.seq = .run → s.hostUp = true → s.nvme.ccEn = true → Tbl.at? s.nvme.sqs q = some x → x.size ≤ v → s.nvme.aers = [] →
    Does (.sqTailDoorbell q v) s fun t =>
      t.nvme.events.length = s.nvme.events.length + 1 ∧ t = { s with nvme := { s.nvme with events := t.nvme.events } }) ∧
  (∀ q v x, s.power.seq = .run → s.hostUp = true → s.nvme.ccEn = true → Tbl.at? s.nvme.cqs q = some x → v < x.size → s.nvme.cqHeld = [] →
    exec (.cqHeadDoorbell q v) s = .next { s with nvme := { s.nvme with cqs := Tbl.put s.nvme.cqs q { x with head := v } } }) ∧
  (∀ q v x o, s.power.seq = .run → s.hostUp = true → s.nvme.ccEn = true → Tbl.at? s.nvme.cqs q = some x → v < x.size →
    s.nvme.cqHeld = [(q, o)] → (x.tail + 1) % x.size ≠ v → Does (.cqHeadDoorbell q v) s fun t =>
      t.outbox = s.outbox ++ [o, .msix 0 x.vec] ∧ Tbl.at? t.nvme.cqs q = some { x with head := v, tail := (x.tail + 1) % x.size } ∧
        t = { s with nvme := { s.nvme with cqs := t.nvme.cqs, cqHeld := [] }, outbox := t.outbox }) ∧
  ((∀ k ∈ s.spool.heldCmds, ∀ c, Tbl.at? s.nvme.cmds k = some c → s.splRoom (c.toItem k) = false) → exec .nvmeItemAdmit s = .next s) ∧
  (∀ k l c, s.spool.heldCmds = k :: l → Tbl.at? s.nvme.cmds k = some c → s.splRoom (c.toItem k) = true →
    exec .nvmeItemAdmit s = .next (({ s with spool := { s.spool with heldCmds := s.spool.heldCmds.filter (· ≠ k) } } : State).admitItem k c)) ∧
  (∀ h p, Fetches s h p → s.onAdmin h = false → exec (.flush h) s = .next ((s.fetched h).reply h St.ok 0 0)) ∧
  (∀ h p, Fetches s h p → s.onAdmin h = true → exec (.flush h) s = .next ((s.fetched h).reply h St.badOpcode 0 0)) ∧
  (∀ h p, s.fetchPanel h = some p → s.power.seq = .run → s.upState = true → s.seam.pfailHold = false → s.panels.closed.contains p = false →
    s.cmdRoom p = false → Does (.flush h) s fun t => t.rd P.nvm R.nvm_FETCH_PAUSED = 1 ∧
      (t.rd P.nvm R.common_INT_RAW).testBit 0 = true ∧ t = { s with regs := t.regs, outbox := t.outbox } ∧
      SameRegs s t [fkey P.nvm R.nvm_FETCH_PAUSED 0, fkey P.nvm R.common_INT_RAW 0]) ∧
  (∀ h c st a b, h.src = .tcp c → Tbl.has s.net.conns c = true → let t := s.reply h st a b
    t.outbox = s.outbox ++ [.tcpResp c h.cid st a b] ∧ t = { s with ctrs := t.ctrs, outbox := t.outbox }) ∧
  (∀ h x st a b, h.src = .pcie → Tbl.at? s.nvme.cqs (s.cqOf h.q) = some x → x.room = true → (∀ e ∈ s.nvme.cqHeld, e.1 ≠ s.cqOf h.q) →
    let t := s.reply h st a b
    t.outbox = s.outbox ++ [.nvmeCqe (s.cqOf h.q) h.cid st a b, .msix 0 x.vec] ∧
      t = { s with ctrs := t.ctrs, outbox := t.outbox, nvme := { s.nvme with cqs := t.nvme.cqs } })

/-- R14, R35, R85, R86, R98, R115, R350, R353, R354, R357: data commands. Beyond the namespace's end the status is LBA Out of Range; with the key
slot locked Access Denied; a write over a Hem region or in Read-only is refused; a range never written reads as zeros; a write waits for its
buffers and its admission. The status codes' numbers are presumed (log entry 36). -/
def Obligations.NvmeData : Prop := ∀ (s : State) (h : Hdr) (p : Nat) (n : Ns), Fetches s h p → s.onAdmin h = false → OnNs s h p n →
  let u := s.fetched h
  let ns := hdrNs h
  let key := cmdKey h
  let b := n.lbaBytes
  (∀ a k dp, k ≠ 0 → k * b ≤ mdts → dpFar dp = false →
    (n.blocks < a + k → ∀ ins ∈ [Instr.read h a k dp, .write h a k dp, .compare h a k dp, .verify h a k, .writeZeroes h a k true],
      exec ins s = .next (u.reply h St.lbaRange 0 0)) ∧
    (a + k ≤ n.blocks → s.keyOpen ns = false →
      ∀ ins ∈ [Instr.read h a k dp, .write h a k dp, .compare h a k dp, .verify h a k, .writeZeroes h a k true],
      exec ins s = .next ((u.keyRefused ns).reply h St.accessDenied 0 0)) ∧
    (a + k ≤ n.blocks → s.keyOpen ns = true →
      (exec (.read h a k dp) s =
        .next ((u.addCmd h .read p dp (a * b) (k * b) (u.profileOf n)).readParts key ns p (a * b) (k * b) 0)) ∧
      (exec (.verify h a k) s =
        .next ((u.addCmd h .verify p (.segs []) (a * b) (k * b) (u.profileOf n)).readParts key ns p (a * b) (k * b) 0)) ∧
      (∀ d, dp = .inline d → s.profileOf n = none → exec (.compare h a k dp) s =
        .next (((u.addCmd h .compare p dp (a * b) (k * b) none).updCmd key
          (fun c => { c with stored := fitTo (k * b) d })).readParts key ns p (a * b) (k * b) 0)) ∧
      (s.hemTouched ns (a * b) (k * b) = true → exec (.write h a k dp) s = .next (u.reply h St.readOnlyRange 0 0) ∧
        ∀ z, exec (.writeZeroes h a k z) s = .next (u.reply h St.readOnlyRange 0 0)) ∧
      (s.hemTouched ns (a * b) (k * b) = false → s.rd P.recl R.recl_READONLY ≠ 0 →
        exec (.write h a k dp) s = .next (u.reply h St.writeProtected 0 0) ∧
        exec (.writeZeroes h a k false) s = .next (u.reply h St.writeProtected 0 0)) ∧
      (s.hemTouched ns (a * b) (k * b) = false → s.rd P.recl R.recl_READONLY = 0 →
        (∀ v, v = (unitParts (a * b) (k * b)).foldl (fun (v : State) _ => v.stgRequest ⟨.host, p, .write key⟩)
            (u.addCmd h .write p dp (a * b) (k * b) (u.profileOf n)) → exec (.write h a k dp) s =
          .next ({ v with seam := { v.seam with heldWrites := v.seam.heldWrites ++ [key] } } : State).tryWrites) ∧
        exec (.writeZeroes h a k false) s =
          .next (u.underTok h p fun key s => s.writeUnits key ns p (a * b) (zeros (k * b))) ∧
        exec (.writeZeroes h a k true) s = .next (u.underTok h p fun key s => s.dealloc (.host key) ns p (a * b) (k * b))) ∧
      (∀ c, h.src = .tcp c → Tbl.has s.net.conns c = true → s.mode M.legacy = false →
        a * b / unitBytes = (a * b + k * b - 1) / unitBytes → eUnmapped (s.entry ns (a * b / unitBytes)) = true →
        s.onDisk ns (a * b / unitBytes) = none → Does (.read h a k dp) s fun t =>
          t.outbox = s.outbox ++ [.tcpData c h.cid (zeros (k * b)), .tcpResp c h.cid St.ok 0 0] ∧ t.mem = s.mem ∧ t.seam = s.seam ∧
            t.nand = s.nand ∧ t.nor = s.nor ∧ t.spool = s.spool))) ∧
  (∀ l d, (∀ r ∈ l, r.1 + r.2 ≤ n.blocks) → s.keyOpen ns = true → (∀ r ∈ l, 0 < r.2 → s.hemTouched ns (r.1 * b) (r.2 * b) = false) →
    exec (.datasetManagement h l d) s = .next (if d = true then
      u.underTok h p (fun key s => l.foldl (fun s r => s.dealloc (.host key) ns p (r.1 * b) (r.2 * b)) s) else u.reply h St.ok 0 0)) ∧
  (∀ d l, (∀ r ∈ l, r.2 ≠ 0 ∧ r.1 + r.2 ≤ n.blocks) → l ≠ [] → (l.map (·.2)).sum * b ≤ 65536 * 4096 → d + (l.map (·.2)).sum ≤ n.blocks →
    s.keyOpen ns = true → s.hemTouched ns (d * b) ((l.map (·.2)).sum * b) = false → s.rd P.recl R.recl_READONLY = 0 →
    let v := (u.addCmd h .copy p (.segs []) (d * b) ((l.map (·.2)).sum * b) none).updCmd key fun c => { c with dest := d * b, left := 1 }
    exec (.copy h d l) s = .next ((l.foldl (fun (a : Nat × State) r =>
      (a.1 + r.2 * b, a.2.readParts key ns p (r.1 * b) (r.2 * b) a.1)) (0, v)).2.readTok key)) ∧
  (∀ off a k g, g = { h with nsid := 0 } → k ≠ 0 → k * b ≤ 65536 * 4096 → a + k ≤ n.blocks → s.keyOpen ns = true →
    (s.slmOf p).2 < off + k * b → ∀ z, exec (.memoryCopy g off h.nsid a k z) s = .next (u.reply h St.lbaRange 0 0)) ∧
  (∀ off a k g, g = { h with nsid := 0 } → k ≠ 0 → k * b ≤ 65536 * 4096 → a + k ≤ n.blocks → s.keyOpen ns = true →
    off + k * b ≤ (s.slmOf p).2 →
    (s.touchesImage p off (k * b) = true → exec (.memoryCopy g off h.nsid a k true) s = .next (u.reply h St.accessDenied 0 0)) ∧
    (s.touchesImage p off (k * b) = false → exec (.memoryCopy g off h.nsid a k true) s =
      .next (((u.addCmd h .memCopy p (.segs []) (a * b) (k * b) none).updCmd key
        (fun c => { c with dest := (s.slmOf p).1 + off })).readParts key ns p (a * b) (k * b) 0)) ∧
    (s.hemTouched ns (a * b) (k * b) = false → s.rd P.recl R.recl_READONLY = 0 → s.poison ((s.slmOf p).1 + off) (k * b) = none →
      exec (.memoryCopy g off h.nsid a k false) s =
        .next (u.underTok h p fun key w => w.writeUnits key ns p (a * b) (memRead s.mem ((s.slmOf p).1 + off) (k * b)))))

/-- R50, R89, R94, R97, R189, R216, R350, R358 to R363: vendor commands and computational programs. A reserved dword that is not 0 and an address of
2^47 or more are invalid fields; a command of a mode that is clear is an invalid opcode; a range beyond the namespace is out of range; otherwise the
command posts the item that the spec gives it. Local memory is read and written within the panel's share, its images never. -/
def Obligations.NvmeVendor : Prop := ∀ (s : State) (h : Hdr) (p : Nat), Fetches s h p → s.onAdmin h = false →
  let u := s.fetched h
  let w := u.count P.nvm 0x048
  (h.rsvd ≠ 0 → ∀ ins ∈ [Instr.hemCreate h 0 1, .unpick h 0 1, .registerRecordRange h 0 1 80 false, .hemAppend h 0 1 (.inline [])],
    exec ins s = .next (w.reply h St.badField 0 0)) ∧
  (h.rsvd = 0 →
    (s.mode M.hem = false → ∀ a k dp, exec (.hemCreate h a k) s = .next (w.reply h St.badOpcode 0 0) ∧
      exec (.hemAppend h a k dp) s = .next (w.reply h St.badOpcode 0 0)) ∧
    (s.mode M.unpick = false → ∀ a k, exec (.unpick h a k) s = .next (w.reply h St.badOpcode 0 0)) ∧
    (∀ n, OnNs s h p n →
      (∀ a k len z, 0 < k → 16 ≤ len → len ≤ 4096 → n.hasUnits a k = true → exec (.registerRecordRange h a k len z) s =
        .next (w.postItem h p (itemDesc 2 0 0 0 0 0 (seamArg0 2 (hdrNs h) a) (k + (len - 1) * 2 ^ 32 + (if z = true then 2 ^ 46 else 0)) 0)
          (.segs []) 0 0)) ∧
      (∀ a k, s.mode M.hem = true → n.hasUnits a k = true → exec (.hemCreate h a k) s =
        .next (w.postItem h p (itemDesc 2 0 0 0 0 0 (seamArg0 4 (hdrNs h) a) (k % 2 ^ 32) 0) (.segs []) 0 0)) ∧
      (∀ a k, s.mode M.unpick = true → n.hasUnits a k = true → exec (.unpick h a k) s =
        .next (w.postItem h p (itemDesc 2 0 0 0 0 0 (seamArg0 3 (hdrNs h) a) (k % 2 ^ 32) 0) (.segs []) 0 0)) ∧
      (∀ a k, s.mode M.unpick = true → n.hasUnits a k = false → exec (.unpick h a k) s = .next (w.reply h St.lbaRange 0 0)) ∧
      (∀ r k dp, s.mode M.hem = true → 0 < k → k ≤ 65472 → dpFar dp = false → exec (.hemAppend h r k dp) s =
        .next (w.postItem h p (itemDesc 2 0 0 0 0 0 (seamArg0 5 (hdrNs h) (r % 4096)) k 0) dp 0 k)) ∧
      (∀ rep out a k slot st off len, h.src = .pcie → out % 4096 = 0 → rep + 128 * k ≤ 2 ^ 47 → out + 4096 * len ≤ 2 ^ 47 →
        n.hasUnits a k = true → exec (.filterStream h rep out a k slot st off len) s =
          .next (w.postItem h p (itemDesc 2 0 0 0 0 0 (seamArg0 1 (hdrNs h) a)
            (k % 2 ^ 32 + slot % 4 * 2 ^ 44 + (if st = true then 2 ^ 46 else 0) + off % 65536 * 2 ^ 48) (hostBase + rep)) (.segs []) out
            (4096 * len)))) ∧
    (∀ j, h.src = .pcie → 2 ^ 47 < j + 64 → exec (.pleatJob h j) s = .next (w.reply h St.badField 0 0)) ∧
    (∀ j, h.src = .pcie → j + 64 ≤ 2 ^ 47 → let r := w.hostRead p j 64
      leAt r.1 4 6 + leAt r.1 16 4 ≤ 2 ^ 47 → leAt r.1 10 6 + leAt r.1 20 4 ≤ 2 ^ 47 → leAt r.1 24 6 + 1 ≤ 2 ^ 47 →
      exec (.pleatJob h j) s = .next (r.2.postItem h p (itemDesc 4 0 0 0 0 (hostBase + j) 0xF 0 0) (.segs []) 0 0))) ∧
  (∀ pid b g, Tbl.at? s.nvme.progs pid = some g → g.panel = p → b.length = 32 → leAt b 28 1 < 16 → leAt b 30 2 < 4096 →
    exec (.executeProgram h pid (.inline b)) s = .next (u.postItem h p (itemDesc 1 (leAt b 28 1) (leAt b 30 2) (leAt b 24 4) (leAt b 29 1)
      (g.addr + 16 + g.entry) (leAt b 0 8) (leAt b 8 8) (leAt b 16 8)) (.segs []) 0 0)) ∧
  (∀ pid b, b.length ≠ 32 → exec (.executeProgram h pid (.inline b)) s = .next (u.reply h St.badField 0 0)) ∧
  (∀ c off k dp, h.src = .tcp c → Tbl.has s.net.conns c = true → dpFar dp = false → off + k ≤ (s.slmOf p).2 →
    s.poison ((s.slmOf p).1 + off) k = none → Does (.memoryRead h off k dp) s fun t =>
      t.outbox = s.outbox ++ [.tcpData c h.cid (memRead s.mem ((s.slmOf p).1 + off) k), .tcpResp c h.cid St.ok 0 0] ∧
        t = { s with regs := t.regs, ctrs := t.ctrs, outbox := t.outbox }) ∧
  (∀ off b, b.length ≠ 0 → off + b.length ≤ (s.slmOf p).2 → s.touchesImage p off b.length = false →
    exec (.memoryWrite h off b.length (.inline b)) s = .next ((u.fabWrite ((s.slmOf p).1 + off) b).reply h St.ok 0 0)) ∧
  (∀ off k dp, dpFar dp = false → (s.slmOf p).2 < off + k → exec (.memoryRead h off k dp) s = .next (u.reply h St.lbaRange 0 0) ∧
    exec (.memoryWrite h off k dp) s = .next (u.reply h St.lbaRange 0 0)) ∧
  (∀ off k dp, dpFar dp = false → off + k ≤ (s.slmOf p).2 → s.touchesImage p off k = true →
    exec (.memoryWrite h off k dp) s = .next (u.reply h St.accessDenied 0 0))

/-- R353 to R355, R358 to R360, R365 to R367, R378 to R380, R474, R480, R533: admin commands. Each completes with the effect given: features set and
read back, queues and namespaces made and removed, firmware written to the slot not in use, programs placed and deleted, logs returned, legacy
profiles set and bound. The status codes' numbers and the standard structures are presumed (log entry 36). -/
def Obligations.NvmeAdmin : Prop := ∀ (s : State) (h : Hdr) (p : Nat), Fetches s h p →
  let u := s.fetched h
  (s.onAdmin h = true →
    (∀ cns d dp, u.identifyData (decide (h.src = .pcie)) p h.nsid cns = some d → dpFar dp = false →
      exec (.identify h cns dp) s = .next (u.answer h p dp d)) ∧
    (∀ f, 0 < f → f < 256 → exec (.getFeatures h f) s = .next (u.reply h St.ok (u.feature f) 0)) ∧
    (∀ f v, 0 < f → f < 256 → f ≠ 2 → f ≠ 7 → exec (.setFeatures h f v) s =
      .next (({ u with nvme := { u.nvme with features := Tbl.put u.nvme.features f (v % 2 ^ 32) } } : State).reply h St.ok 0 0)) ∧
    (∀ v, v % 32 = 1 → exec (.setFeatures h 2 v) s =
      .next ((({ u with nvme := { u.nvme with features := Tbl.put u.nvme.features 2 1 } } : State).reply h St.ok 0 0).requestLow .slumber)) ∧
    (∀ l off k d dp, u.logPage l = some d → dpFar dp = false → exec (.getLogPage h l off k dp) s =
      .next (u.answer h p dp (fitTo k (d.drop off)))) ∧
    (∀ l off k dp, u.logPage l = none → exec (.getLogPage h l off k dp) s = .next (u.reply h St.badLogPage 0 0)) ∧
    (∀ q c, (∀ k x, s.abortKey h q c = some k → Tbl.at? s.nvme.cmds k = some x → x.item = none) →
      exec (.abort h q c) s = .next (u.reply h St.ok 1 0)) ∧
    (s.nvme.events = [] → Does (.asynchronousEventRequest h) s fun t => cmdKey h ∈ t.nvme.aers ∧ t.outbox = s.outbox ∧
      t = { s with nvme := t.nvme, regs := t.regs }) ∧
    (exec (.keepAlive h) s = .next (({ u with nvme := { u.nvme with keepAlive := s.rtcUs } } : State).reply h St.ok 0 0)) ∧
    (∀ off b, off + b.length ≤ slotSize → exec (.firmwareImageDownload h off (.inline b)) s =
      .next ((u.norWrite (norSlot s.spareSlot + off) b).reply h St.ok 0 0)) ∧
    (exec (.firmwareCommit h) s = .next ((u.commitFw s.spareSlot).2.reply h (if (u.commitFw s.spareSlot).1 = true then St.ok else St.badFirmware)
      0 0))) ∧
  (h.src = .pcie → h.q = 0 →
    (∀ n l z, OnNs s h (s.panelOf n.panel) n → l ≤ 1 → z = 0 ∨ z = 2 → s.holdsHem (hdrNs h) = false →
      let m : Ns := { n with lbaf := l, blocks := n.blocks * n.lbaBytes / (if l = 0 then 512 else 4096) }
      let v := ({ u with nvme := { u.nvme with ns := Tbl.put u.nvme.ns (hdrNs h) m } } : State).unmapNs (hdrNs h)
      exec (.formatNvm h l z) s = .next ((if z = 2 then v.newKey (hdrNs h) else v).reply h St.ok 0 0)) ∧
    (∀ b l, let i := Tbl.freeKey s.nvme.ns 1024 0
      b ≠ 0 → l ≤ 1 → i < 1024 → s.exported + b * (if l = 0 then 512 else 4096) ≤ s.capOffer →
      exec (.namespaceCreate h b l) s =
        .next (((({ u with nvme := { u.nvme with ns := Tbl.put u.nvme.ns i ⟨b, l, 0, none⟩ } } : State).newKey i).checkSpace).reply h St.ok (i + 1) 0)) ∧
    (h.nsid ≠ 0 → Tbl.has s.nvme.ns (hdrNs h) = true →
      exec (.namespaceDelete h) s = .next (if s.holdsHem (hdrNs h) = true then u.reply h St.nsNotReady 0 0
        else (u.dropNs (hdrNs h)).reply h St.ok 0 0)) ∧
    (∀ n x, OnNs s h (s.panelOf n.panel) n → x < 64 → s.panelActive x = true → s.panelOf x = x →
      exec (.namespaceAttachment h x) s =
        .next (({ u with nvme := { u.nvme with ns := Tbl.put u.nvme.ns (hdrNs h) { n with panel := x } } } : State).reply h St.ok 0 0)) ∧
    (∀ q k v, 0 < q → q ≤ 512 → Tbl.has s.nvme.cqs q = false → 2 ≤ k → k ≤ 16384 → v ≤ 512 → exec (.createIoCq h q k v) s =
      .next (({ u with nvme := { u.nvme with cqs := Tbl.put u.nvme.cqs q ⟨k, v, 0, 0⟩ } } : State).reply h St.ok 0 0)) ∧
    (∀ q k c, 0 < q → q ≤ 512 → Tbl.has s.nvme.sqs q = false → s.mode M.panel = false → 2 ≤ k → k ≤ 16384 → 0 < c →
      Tbl.has s.nvme.cqs c = true → (s.nvme.sqs.filter fun e => e.1 ≠ 0 ∧ e.2.panel = 0).length < 512 → exec (.createIoSq h q k c) s =
        .next (({ u with nvme := { u.nvme with sqs := Tbl.put u.nvme.sqs q ⟨k, c, 0, 0, 0⟩ } } : State).reply h St.ok 0 0)) ∧
    (∀ q, 0 < q → Tbl.has u.nvme.sqs q = true → (∀ e ∈ s.nvme.cmds, ¬(e.2.h.src = .pcie ∧ e.2.h.q = q)) → exec (.deleteIoSq h q) s =
      .next (({ u with nvme := { u.nvme with sqs := Tbl.del u.nvme.sqs q } } : State).reply h St.ok 0 0)) ∧
    (∀ q, 0 < q → Tbl.has s.nvme.cqs q = true → (∀ e ∈ u.nvme.sqs, e.2.cq ≠ q) → exec (.deleteIoCq h q) s =
      .next (({ u with nvme := { u.nvme with cqs := Tbl.del u.nvme.cqs q, cqHeld := u.nvme.cqHeld.filter fun e => e.1 ≠ q } } : State).reply h
        St.ok 0 0)) ∧
    (∀ i b, h.rsvd = 0 → i < 16 → let w := u.count P.nvm 0x048
      exec (.setLegacyProfile h i (.inline b)) s = .next (if profileOk b = true then
        ({ w with nvme := { w.nvme with profiles := Tbl.put w.nvme.profiles i b } } : State).reply h St.ok 0 0
        else (w.err P.nvm 0x01 0 0).reply h (St.vendor 0x25) 0 0)) ∧
    (∀ n i, OnNs s h (s.panelOf n.panel) n → h.rsvd = 0 → i < 16 → let w := u.count P.nvm 0x048
      exec (.bindLegacyProfile h i) s = .next (if Tbl.has s.nvme.profiles i = true then
        ({ w with nvme := { w.nvme with ns := Tbl.put w.nvme.ns (hdrNs h) { n with legacy := some i } } } : State).reply h St.ok 0 0
        else w.reply h St.badField 0 0))) ∧
  (∀ i l, (∀ r ∈ l, r.1 + r.2 ≤ (s.slmOf p).2) → l ≠ [] → exec (.memoryRangeSet h i l) s =
    .next (({ u with nvme := { u.nvme with ranges := Tbl.put u.nvme.ranges (p * 65536 + i) l } } : State).reply h St.ok 0 0)) ∧
  (∀ i b a, i < 256 → Tbl.has s.nvme.progs i = false → 16 ≤ b.length → b.length ≤ 0x1000000 → zeroAt b 4 12 = true → 16 + leAt b 0 4 < b.length →
    s.imagePlace p b.length = some a → exec (.programDownload h i 0xC0 (.inline b)) s =
      .next ((u.placeImage i p b a (leAt b 0 4)).reply h St.ok 0 0)) ∧
  (∀ i g, Tbl.at? s.nvme.progs i = some g → g.panel = p → exec (.programDelete h i) s =
    .next ((({ u with nvme := { u.nvme with progs := Tbl.del u.nvme.progs i } } : State).rebuildWins p).reply h St.ok 0 0))

/-- R38, R42, R44, R45, R76: the map. The update of a unit that has passed program status names its new slots, leaves every other unit's entry, and ends
its part of its command; heat counts halve; a demotion copy of a unit written meanwhile is dropped; a relocation commits only where the entry
still names its source. -/
def Obligations.SeamMap : Prop := ∀ s : State,
  (∀ u : UnitWrite, s.seam.flight = [u] → u.passed = true → u.fine = none → s.seam.held = [] →
    eFine (s.entry u.ns u.unit) = false ∨ eUnmapped (s.entry u.ns u.unit) = true →
    (u.use = .system → Does (.mapUpdateApply u.seq) s fun t =>
      t.entry u.ns u.unit = mkEntry (u.locs.getD 0 0) u.cmp (u.kind == 3) ∧ t.seam.flight = [] ∧
        (∀ k, k ≠ mapKey u.ns u.unit → Tbl.at? t.seam.map k = Tbl.at? s.seam.map k) ∧ t = { s with seam := t.seam } ∧
        t.nand = s.nand) ∧
    (∀ key c, u.use = .host key → Tbl.at? s.nvme.cmds key = some c → c.left = 1 → ∃ v : State,
      exec (.mapUpdateApply u.seq) s = .next (v.finish key c.status 0 0) ∧
        v.entry u.ns u.unit = mkEntry (u.locs.getD 0 0) u.cmp (u.kind == 3) ∧ v = { s with seam := v.seam })) ∧
  (∀ q, (∀ u ∈ s.seam.flight, u.seq = q → u.passed = false) → exec (.mapUpdateApply q) s = .next s) ∧
  (s.upState = true → (s.seam.map.map (·.1)).Nodup → Does .heatHalveTick s fun t =>
    (∀ n k, t.mapWord n k = ⟨s.entry n k, (s.mapWord n k).heat / 2⟩) ∧ t = { s with seam := { s.seam with map := t.seam.map } }) ∧
  (∀ g x, s.upState = true → s.group? g = some x → (s.mapWord x.ns x.unit).heat = 0 →
    exec (.demoteAgeExpiry g) s = .next (s.startDemote g)) ∧
  (∀ g x, s.group? g = some x → 0 < (s.mapWord x.ns x.unit).heat → exec (.demoteAgeExpiry g) s = .next s) ∧
  (∀ g x u, s.group? g = some x → (s.seam.flight.find? fun u => u.use = .demote g ∧ u.passed) = some u →
    (x.written = true → Does (.demotionCopyDone g) s fun t => t.seam.map = s.seam.map ∧
      (t.group? g).map (fun y => (y.entries, y.copying)) = some (x.entries, false)) ∧
    (x.written = false → s.seam.held = [] → Does (.demotionCopyDone g) s fun t =>
      t.entry u.ns u.unit = mkEntry (u.locs.getD 0 0) u.cmp false ∧ t.group? g = none ∧
        ∀ k, k ≠ mapKey u.ns u.unit → Tbl.at? t.seam.map k = Tbl.at? s.seam.map k)) ∧
  (∀ c, (s.seam.copies.find? fun y => y.id = c.id ∧ y.passed) = some c → c.fine = none → ∃ v : State,
    exec (.relocationCommit c.id) s = .next v.reclaimCheck ∧ (∀ y ∈ v.seam.copies, y.id ≠ c.id) ∧
      (s.entry c.ns c.unit = c.src → eUnmapped c.src = false →
        v.entry c.ns c.unit = mkEntry (c.locs.getD 0 0) (eCmp c.src) (eHem c.src)) ∧
      (s.entry c.ns c.unit ≠ c.src → v.seam.map = s.seam.map) ∧ v = { s with seam := v.seam, ctrs := v.ctrs })

/-- R52 to R54, R61 to R66: checkpoints and PFAIL_N. A checkpoint due starts with the root of the state, or with one in progress is late; durable, its
root stands. PFAIL_N latched holds programs and abandons the checkpoint: in COMPAT the flush begins and the Shuttle cores stop, otherwise the
device enters Ward; the flush done leaves the record of the map and enters Ward. -/
def Obligations.CheckpointAndPfail : Prop := ∀ s : State,
  (s.upState = true → s.seam.pfailHold = false → s.seam.ckpt = none → Does .checkpointDue s fun t =>
    (∃ c, t.seam.ckpt = some c ∧ c.root = s.rootNow s.seqCut (s.rootNumber + 1) ∧ c.due = false) ∧ t.rd P.seam R.seam_CKPT_BUSY = 1 ∧
      t = { s with seam := t.seam, nand := t.nand, regs := t.regs } ∧ SameRegs s t [fkey P.seam R.seam_CKPT_BUSY 0]) ∧
  (∀ c, s.upState = true → s.seam.pfailHold = false → s.seam.ckpt = some c → Does .checkpointDue s fun t =>
    t.seam.ckpt = some { c with due := true } ∧ t.rd P.seam R.seam_CKPT_LATE = 1 ∧ (t.rd P.seam R.common_INT_RAW).testBit 0 = true ∧
      t = { s with seam := { s.seam with ckpt := t.seam.ckpt }, regs := t.regs, outbox := t.outbox }) ∧
  (∀ c, s.seam.ckpt = some c → s.power.seq = .run → exec .checkpointDurable s = .next s.ckptDurable) ∧
  (∀ c, s.seam.ckpt = some c → c.due = false → s.seam.unpicks = [] → ∃ v : State,
    s.ckptDurable = v.hemRetry.reclaimCheck ∧ v.seam.ckpt = none ∧ v.seam.ckptAt = s.rtcUs ∧ v.rd P.seam R.seam_CKPT_BUSY = 0 ∧
      v.rd P.seam R.seam_CKPT_SEQ_LO = c.root.seqCut % 2 ^ 32 ∧
      (if c.root.number % 2 = 0 then v.seam.rootA = some c.root ∧ v.seam.rootB = s.seam.rootB
       else v.seam.rootB = some c.root ∧ v.seam.rootA = s.seam.rootA) ∧
      v.seam.map = s.seam.map ∧ v.nand.slots = s.nand.slots ∧ v.mem = s.mem) ∧
  (s.powered = true → exec .pfailNAssert s = .next { s with seam := { s.seam with pfailLow := true } }) ∧
  (exec .pfailNDeassert s = .next { s with seam := { s.seam with pfailLow := false } }) ∧
  (s.seam.pfailLow = false → exec .pfailLatch s = .next s) ∧
  (s.seam.pfailLow = true → s.dev = Dev.slumber ∨ s.dev = Dev.vault →
    exec .pfailLatch s = .next { s with seam := { s.seam with pfailAon := true } }) ∧
  (s.seam.pfailLow = true → s.upState = true → s.mode M.compat = false →
    exec .pfailLatch s = .next (s.pfailSeen.pfailStop.fault' 0x0C P.seam 0 0)) ∧
  (s.seam.pfailLow = true → s.upState = true → s.mode M.compat = true → Does .pfailLatch s fun t =>
    t.seam.flushing = true ∧ t.seam.pfailHold = true ∧ t.seam.ckpt = none ∧ t.rd P.seam R.seam_PFAIL_SEEN = 1 ∧ t.dev = s.dev ∧
      (∀ e ∈ t.cores, e.1 < 32 → e.2.st = .stopped) ∧ t.seam.map = s.seam.map ∧ t.nand = s.nand ∧ t.mem = s.mem) ∧
  (∀ ms a b, s.seam.flushing = true → (∀ u ∈ s.seam.unpicks, u.step ≠ 2) → ∃ v : State,
    exec (.flushDone ms a b) s = .next (v.fault' 0x0C P.seam 0 0) ∧ v.rd P.seam R.seam_FLUSH_DONE = 1 ∧
      v.rd P.seam R.seam_FLUSH_MS = min ms 255 % 256 ∧ v.seam.flushing = false ∧
      (∃ f, v.seam.flush = some f ∧ f.map = s.seam.map ∧ f.fine = s.seam.fine ∧ f.seqCut = s.seqCut ∧ f.okA = a ∧ f.okB = b) ∧
      v = { s with seam := v.seam, regs := v.regs }) ∧
  (∀ ms a b, s.seam.flushing = false → exec (.flushDone ms a b) s = .next s)

/-- R11, R79 to R81, R114, R116 to R118, R121 to R124: reading and programming the media. A slot that decodes is done; one that does not goes on to the
next enabled step; a soft job goes to the decoder with the fewest; a program that passes leaves the sealed bytes and tags on the media; an erase
leaves the row free and empty; failures retire the row; a channel disabled returns its queue. -/
def Obligations.NandMedia : Prop := ∀ s : State,
  (∀ j i x n, s.job? j = some i → (i.slots.find? fun y => y.idx = n ∧ y.st = .sensing) = some x →
    s.lunHeld (rowLunKey (locRow x.loc)) = false → let p := P.nfc (locCh x.loc)
    (∀ b, exec (.nandSlotDecoded j n true b) s =
      .next ((((s.count p 0x040).countN p 0x048 b).updJob j fun j => j.updSlot n fun x => { x with st := .done }).checkJob j)) ∧
    (∀ b, s.retries (locCh x.loc) = 0 → exec (.nandSlotDecoded j n false b) s = .next ((s.slotSoft j x 3).checkJob j)) ∧
    (∀ b, s.retries (locCh x.loc) ≠ 0 → exec (.nandSlotDecoded j n false b) s =
      .next (s.updJob j fun j => j.updSlot n fun x => { x with st := .retry, step := 2 }))) ∧
  (∀ j i x, s.job? j = some i → i.slots = [x] → x.st = .retry →
    let v := (s.updJob j fun y => { y with retry := i.retry + 1 }).count (P.nfc (locCh x.loc)) 0x050
    (∀ l, x.idx ∈ l → exec (.readRetryAttempt j l) s =
      .next (((v.updJob j fun y => y.updSlot x.idx fun z => { z with st := .done }).updRow (locRow x.loc)
        fun r => { r with levels := i.retry + 1 }).checkJob j)) ∧
    (∀ l, x.idx ∉ l → s.retries (locCh x.loc) ≤ i.retry + 1 → exec (.readRetryAttempt j l) s =
      .next ((v.slotSoft j x 3).checkJob j))) ∧
  (∀ j i x n d, s.job? j = some i → (i.slots.find? fun y => y.idx = n ∧ y.st = .softWait) = some x →
    leastBy (fun d => (s.lddQueue d).length) (s.ldds.filter fun d => (s.lddQueue d).length < 16) = some d →
    Does (.softJobSubmit j n) s fun t =>
      t.lddQueue d = s.lddQueue d ++ [⟨locCh x.loc, j, n, if x.step = 3 then 2 else 3⟩] ∧
        (∀ e, e ≠ d → t.lddQueue e = s.lddQueue e) ∧ (t.row (locRow x.loc)).softAt = some s.rtcUs ∧
        t = { s with nand := { s.nand with soft := t.nand.soft }, seam := t.seam, ctrs := t.ctrs }) ∧
  (∀ d q r i x, s.lddQueue d = q :: r → s.job? q.job = some i → (i.slots.find? fun y => y.idx = q.idx) = some x → ∃ v : State,
    v.lddQueue d = r ∧ v.rd (P.ldd d) R.ldd_LAST_CH = q.ch % 32 ∧ v.seam = s.seam ∧
      exec (.lddJobComplete d true) s =
        .next ((v.updJob q.job fun y => y.updSlot q.idx fun z => { z with st := .done }).checkJob q.job) ∧
      ∃ w : State, exec (.lddJobComplete d false) s = .next ((w.slotSoft q.job x (x.step + 1)).checkJob q.job) ∧ w.seam = s.seam ∧
        (w.rd (P.ldd d) R.common_INT_RAW).testBit 0 = true) ∧
  (∀ j i, s.job? j = some i → i.issued = false → (∀ x q, i.use ≠ .stream x q) →
    (s.stgFor (.job j) = none → exec (.seamReadIssue j) s = .next s) ∧
    (s.stgFor (.job j) ≠ none → s.onDisk i.ns i.unit = none → exec (.seamReadIssue j) s = .next (s.senseJob i))) ∧
  (∀ n o, s.op? n = some o → o.started = true → o.suspended = false →
    (∀ l, o.kind = .programUnits l → exec (.nandProgramDone n true) s = .next ((((s.dropOp o).passUnits l).reclaimCheck).pfailSettle) ∧
      exec (.nandProgramDone n false) s =
        .next (((((s.dropRowOps o).programError o).failRow o.row).redoCopies o.row).replaceUnits (opSeqs (s.rowOps o))).pfailSettle) ∧
    (o.kind = .erase → (∀ u ∈ s.seam.unpicks, u.rows.contains o.row = false) → exec (.nandEraseDone n true false) s =
      .next ((((((s.dropOp o).rowErased o.row).unpickRow o.row false).levelCheck o.ch).reclaimCheck).checkSpace.pfailSettle))) ∧
  (∀ u : UnitWrite, ∀ l, s.seam.flight = [u] → u.use = .system → u.locs = [l] → let t := s.passUnits [u.seq]
    t.seam.flight = [{ u with passed := true }] ∧
      (∃ x, t.slotAt l = some x ∧ x.data = s.seal u.ns u.kind u.unit (u.fine.getD 0) (u.data.take 4096) ∧ x.tag.seq = u.seq ∧
        x.tag.lba = u.unit ∧ x.tag.ns = u.ns ∧ x.tag.kind = u.kind ∧ x.tag.crc = crc32c (u.data.take 4096)) ∧
      (∀ m, m ≠ l → t.slotAt m = s.slotAt m) ∧ t.seam.map = s.seam.map) ∧
  (∀ r, let t := s.rowErased r
    (∀ l, t.slotAt l = if locRow l = r then none else s.slotAt l) ∧ (t.row r).st = .free ∧ (t.row r).erases = (s.row r).erases + 1 ∧
      t.seam.map = s.seam.map ∧ t.mem = s.mem) ∧
  (∀ ch ce, s.chanPresent ch = true → s.pageUp (P.nfc ch) = true → ∃ v : State,
    exec (.targetBusyTimeout ch ce) s = .next ((v.returnOps fun o => o.ch = ch && rowCe o.row == ce).failReads
      fun x => locCh x.loc == ch && locCe x.loc == ce) ∧ (s.rd (P.nfc ch) R.common_ERR_CODE = 0 → v.rd (P.nfc ch) R.common_ERR_CODE = 6) ∧
      (v.rd (P.nfc ch) R.common_INT_RAW).testBit 5 = true ∧ v = { s with regs := v.regs, outbox := v.outbox }) ∧
  (∀ ag ch, ch < nChannels s.part → Reaches s ag (P.nfc ch) → s.en (P.nfc ch) = true →
    (s.rd (P.nfc ch) R.common_DRAIN ≠ 0 → Does (.nfcCtrlEnClear ag ch) s fun t => t.rd (P.nfc ch) R.common_EN = 0 ∧
      t = { s with regs := t.regs } ∧ SameRegs s t [fkey (P.nfc ch) R.common_EN 0]) ∧
    (s.rd (P.nfc ch) R.common_DRAIN = 0 → ∃ v : State, v = { s with regs := v.regs } ∧ v.rd (P.nfc ch) R.common_EN = 0 ∧
      exec (.nfcCtrlEnClear ag ch) s =
        .next ((v.returnOps fun o => o.ch == ch).failReads fun x => locCh x.loc == ch && v.lunBusy (rowLunKey (locRow x.loc)))))

/-- R94 to R97, R100 to R102, R483: Hem chains. VFY_GO starts the check of a region, which ends with its result: no break where every unit's PREV_HASH is
the hash of the unit before, from the seed on, and the last unit's hash is the stored tail hash. A unit is sealed with its chain hash; a
region migrates its next unit once it has been read back as the chain says; at the end the unit is on disk and off the map. The host releases a
region where the pattern allows it. -/
def Obligations.HemChain : Prop := ∀ s : State,
  (∀ ag r, Reaches s ag P.hem → r = s.rd P.hem R.hem_VFY_REGION % 4096 → s.seam.vfy = none → s.en P.hem = true → Tbl.has s.seam.hem r = true →
    Does (.vfyGo ag) s fun t => t.seam = { s.seam with vfy := some r } ∧ t.rd P.hem R.hem_VFY_BUSY = 1 ∧
      t = { s with seam := t.seam, regs := t.regs } ∧ SameRegs s t [fkey P.hem R.hem_VFY_BUSY 0, fkey P.hem R.hem_VFY_REGION 0]) ∧
  (∀ r h, s.seam.vfy = some r → Tbl.at? s.seam.hem r = some h → Does .hemChainCheckDone s fun t =>
    let u := ({ s with seam := { s.seam with vfy := none } } : State).wr P.hem R.hem_VFY_BUSY 0
    let bad := u.hemWalk r h h.nextIdx 0 (hemSeed r h.ns h.first h.seq)
    t.seam = { s.seam with vfy := none } ∧ t.rd P.hem R.hem_VFY_BUSY = 0 ∧ t.rd P.hem R.hem_VFY_BREAK = (if bad.isSome then 1 else 0) ∧
      t.rd P.hem R.hem_VFY_INDEX = bad.getD 0xFFFFFFFF % 2 ^ 32 ∧ (t.rd P.hem R.common_INT_RAW).testBit 0 = true ∧
      (bad.isSome = true → s.rd P.hem R.common_ERR_CODE = 0 → t.rd P.hem R.common_ERR_CODE = 1) ∧
      t = { s with seam := t.seam, regs := t.regs, outbox := t.outbox }) ∧
  (∀ r h n seed, s.hemWalk r h n 0 seed = none ↔ ∃ f : Nat → List Byte,
    (∀ k, k < n → s.hemBytes r h k = some (f k) ∧ hemPrev (f k) = if k = 0 then seed else sha256 (f (k - 1))) ∧
      h.tail = if n = 0 then seed else sha256 (f (n - 1))) ∧
  (∀ r i t d p, List.length d ≤ 65472 → List.length p = 32 →
    (hemUnitBytes r i t d p).length = 65536 ∧ (hemUnitBytes r i t d p).take d.length = d ∧ hemPrev (hemUnitBytes r i t d p) = p) ∧
  (∀ r h, Tbl.at? s.seam.hem r = some h → s.seamRuns = true → s.seam.pfailHold = false →
    exec (.hemSealTimer r) s = .next (s.hemSeal r) ∧ (h.openData = [] → s.hemSeal r = s) ∧
      (h.openData ≠ [] → ∃ (v : State) (w : UnitWrite), s.hemSeal r = (v.putUnits [w] 2).whenB
          (decide ((v.putUnits [w] 2).hemBudget ≤ (v.putUnits [w] 2).hemUse)) (fun v => v.raise P.hem 2) ∧
        w.data = hemUnitBytes r h.nextIdx s.rtcUs h.openData h.tail ∧ w.ns = h.ns ∧ w.unit = h.first + h.nextIdx ∧ w.kind = 3 ∧
        w.hemReg = r ∧ w.hemIdx = h.nextIdx ∧ w.use = .hem r h.nextIdx ∧ v = { s with seam := v.seam, ctrs := v.ctrs } ∧
        Tbl.at? v.seam.hem r = some { h with
          nextIdx := h.nextIdx + 1, tail := sha256 w.data, openData := [], sealedAt := Tbl.put h.sealedAt h.nextIdx s.rtcUs })) ∧
  (∀ r h, Tbl.at? s.seam.hem r = some h → s.seamRuns = true → s.mode M.arch = true → s.en P.hem = true → h.migrating = false →
    h.canMigrate = true → (s.hemAged h = true ∨ s.rd P.hem R.hem_MIG_HI * s.hemBudget < 100 * s.hemUse) →
    exec (.hemMigrationTrigger r) s = .next (s.hemMigRead r h) ∧ ∃ m : Mig, (s.hemMigRead r h).seam.migs = s.seam.migs ++ [m] ∧
      m.use = .hem r h.migWm ∧ m.ns = h.ns ∧ m.unit = h.first + h.migWm ∧
      Tbl.at? (s.hemMigRead r h).seam.hem r = some { h with migrating := true }) ∧
  (∀ r h, Tbl.at? s.seam.hem r = some h → h.migrating = true ∨ h.canMigrate = false → exec (.hemMigrationTrigger r) s = .next s) ∧
  (∀ r h m n d k, Tbl.at? s.seam.hem r = some h → s.seam.migs = [m] → m.phase = 0 → m.bytes = [] → k = m.unit - h.first →
    m.use = .hem r k → s.stgFor (.job m.id) = some n → s.hemBytes r h k = some d →
    let want := if k + 1 = h.nextIdx then some h.tail else (s.hemBytes r h (k + 1)).map hemPrev
    exec (.hemMigrationReadDone r) s = .next (if want = some (sha256 d) then
      (s.updMig m.id fun m => { m with bytes := d }).migGo { m with bytes := d }
    else ((s.dropMig m.id).updHem r fun h => { h with migrating := false, migStop := true }).err P.hem 0x02 0 0)) ∧
  (∀ m n, s.stgFor (.job m.id) = some n → s.slvReady = false → s.migGo m = s.migStall m) ∧
  (∀ m r k h, m.use = .hem r k → Tbl.at? s.seam.hem r = some h → let t := s.migDone m
    (Tbl.at? t.seam.hem r).map (·.migWm) = some (k + 1) ∧ t.onDisk m.ns m.unit = some m.place ∧ eUnmapped (t.entry m.ns m.unit) = true) ∧
  (MbReady s .host → let u := s.mbFrom 6
    let r := s.rd P.thm R.thm_MB_ARG0
    exec (.hemRelease .host) s = .next (State.serialNext 2
      (if patFlag s.trust.pattern 0 = false then u.mbEnd 6 else if Tbl.has s.seam.hem r = true then (u.hemDelete r).mbEnd 0 else u.mbEnd 9)))

/-- R130 to R136, R142 to R144, R150, R154, R156, R159 to R161: the Selvedge channel. A preamplifier frame is sent at once, or once ARC_WG is off;
ARC_FLT_N ends a write; only Bobbin firmware moves RING_TAIL; a request is taken in turn from the two queues, completed at once where it cannot run, else its
seek begins; a sector decoded is delivered, one that no candidate decodes ends the request; a sector written stands on the disk as its channel bits; aborts,
disabling and the zone table follow their rules. Which of several failing checks gives the status is the model's reading, as is who writes zones
(log entries 26 and 27). -/
def Obligations.Selvedge : Prop := ∀ s : State,
  (∀ ag, Reaches s ag P.slv → s.rd P.slv R.slv_PA_BUSY = 0 → s.selv.paFrame = none → Does (.paGo ag) s fun t =>
    let f := s.rd P.slv R.slv_PA_RD * 2 ^ 15 + s.rd P.slv R.slv_PA_ADDR * 2 ^ 8 + s.rd P.slv R.slv_PA_DATA
    let wg := s.on P.slv R.slv_WG_STATE
    t.selv = { s.selv with paFrame := some f, paSent := !wg } ∧ t.rd P.slv R.slv_PA_BUSY = 1 ∧
      t.outbox = (if wg = true then s.outbox else s.outbox ++ [.preamp f]) ∧ t = { s with selv := t.selv, regs := t.regs, outbox := t.outbox } ∧
      SameRegs s t [fkey P.slv R.slv_PA_BUSY 0]) ∧
  (∀ ag, Reaches s ag P.slv → s.rd P.slv R.slv_PA_BUSY ≠ 0 → exec (.paGo ag) s = .next s) ∧
  (∀ d f, s.selv.paFrame = some f → s.selv.paSent = true →
    (s.selv.paQ = [] → s.selv.run = none → Does (.paFrameDone d) s fun t =>
      t.selv = { s.selv with paFrame := none, paSent := false } ∧ t.rd P.slv R.slv_PA_BUSY = 0 ∧
        t.rd P.slv R.slv_PA_RDATA = (if f.testBit 15 = true then d % 256 else s.rd P.slv R.slv_PA_RDATA) ∧
        t = { s with selv := t.selv, regs := t.regs }) ∧
    (∀ r, s.selv.paQ = [] → s.selv.run = some r → r.seeking = false → r.req.op = 2 → s.rd P.svo R.svo_WR_INHIBIT = 0 →
      Does (.paFrameDone d) s fun t => t.rd P.slv R.slv_WG_STATE = 1 ∧ t.selv.paFrame = none ∧ t.selv.run = s.selv.run) ∧
    (∀ g q, s.selv.paQ = g :: q → s.rd P.slv R.slv_WG_STATE = 0 → Does (.paFrameDone d) s fun t =>
      t.outbox = s.outbox ++ [.preamp g] ∧ t.selv = { s.selv with paFrame := some g, paSent := true, paQ := q })) ∧
  (s.pagesAwake = true → s.pageUp P.slv = true →
    let u := ({ s with selv := { s.selv with fltLow := true } } : State).flag P.slv R.slv_PA_FAULT
    (s.selv.run = none → exec .arcFltNAssert s = .next ((u.err P.slv 0x03 0 0).raise P.slv 2)) ∧
    (∀ r, s.selv.run = some r → let v := u.slvErr r.req r.at_ 0x03 2
      (r.req.op = 2 → exec .arcFltNAssert s = .next (if s.on P.slv R.slv_WG_STATE = true then v.slvBreak 0x0C else v.slvEnd 0x0C 0x3FF)) ∧
      (r.req.op ≠ 2 → exec .arcFltNAssert s = .next { v with selv := { v.selv with run := some { r with paFault := true } } }))) ∧
  (∀ ag n, Reaches s ag P.slv → exec (.ringTailWrite ag n) s =
    .next (match ag with | .bobbin _ => s.wr P.slv R.slv_RING_TAIL n | _ => s)) ∧
  (s.pagesAwake = true → s.pageUp P.slv = true → s.dev ≠ Dev.ward → s.dev ≠ Dev.fill → s.selv.run = none → let u := s.migKick
    (∀ q r, u.selv.hemQ = q :: r → (u.ringHas && u.selv.lastHem) = false →
      exec .slvRequestStart s = .next (({ u with selv := { u.selv with hemQ := r, lastHem := true } } : State).slvTake q)) ∧
    (u.ringHas = true → u.selv.hemQ = [] ∨ u.selv.lastHem = true → exec .slvRequestStart s = .next u.ringTake) ∧
    (u.ringHas = false → u.selv.hemQ = [] → exec .slvRequestStart s = .next u)) ∧
  (∀ r, s.selv.run = some r → exec .slvRequestStart s = .next s) ∧
  (∀ q, let v := s.wr P.slv R.slv_CUR_ZONE ((s.zoneOf q.track).getD 0)
    s.slvTake q =
      if (v.en P.slv = false ∧ s.selv.draining = false) ∨ v.mode M.arch = false then v.slvRefuse q 0x08
      else if s.selv.fltLow = true then v.slvRefuse q 0x0C
      else if v.keyOpen q.ns = false then v.slvRefuse q 0x06
      else if v.slvBad q = true then v.slvRefuse q 0x07
      else if v.rd P.svo R.svo_SPN_AT_SPEED = 0 then v.slvRefuse q 0x0B
      else ({ v with selv := { v.selv with run := some ⟨q, 0, false, false, true, [], 0⟩ } } : State).seekStart q.track q.head false) ∧
  (∀ q st, q.fromHem = false → s.slvRefuse q st = s.postCpl ⟨61, none, st, 0x3FF, q.idx⟩) ∧
  (∀ r sc ok, s.selv.run = some r → r.seeking = false → r.req.op = 1 →
    ∀ v, v = (s.drawFree 1).2.wr P.slv R.slv_TL_LOCK (s.drawFree 1).1 →
    let l := if r.tried = 0 then v.slvCands r.req.retry sc else r.cands
    let lost := if r.req.retry = 3 then 2 else 1
    (l[r.tried]? = none → exec (.slvDecodeAttemptDone sc ok) s = .next (v.slvEnd lost r.at_)) ∧
    (∀ c, l[r.tried]? = some c →
      let w := ((v.wr P.slv R.slv_LAST_SCORE c.2).wr P.slv R.slv_LAST_OFFSET (ofSigned 6 c.1)).wr P.slv R.slv_LAST_CAND (r.tried + 1)
      (∀ y, ok = true → w.slvFetch r.req r.at_ = some y → r.tried = 0 → exec (.slvDecodeAttemptDone sc ok) s = .next (match y with
        | .inl d => ((w.count P.slv 0x040).busWrite 0 (r.req.buf + 4096 * r.at_) d).slvNext r
        | .inr st => w.slvEnd st r.at_)) ∧
      (∀ st, ok = true → w.slvFetch r.req r.at_ = some (.inr st) → exec (.slvDecodeAttemptDone sc ok) s = .next (w.slvEnd st r.at_)) ∧
      (ok = false → l.length ≤ r.tried + 1 → exec (.slvDecodeAttemptDone sc ok) s = .next (w.slvEnd lost r.at_)) ∧
      (ok = false → r.tried + 1 < l.length → exec (.slvDecodeAttemptDone sc ok) s =
        .next { w with selv := { w.selv with run := some { r with cands := l, tried := r.tried + 1 } } }))) ∧
  (∀ n sc, (s.slvCands n sc).length ≤ 3 ∧ ∀ c ∈ s.slvCands n sc, c ∈ sc ∧ c.1.natAbs ≤ 16 ∧ c.2 ≤ 48 ∧ 24 ≤ c.2 ∧
    s.rd P.slv R.slv_SYNC_THR ≤ c.2 + n * s.rd P.slv R.slv_SYNC_STEP) ∧
  (∀ r plain, s.selv.run = some r → r.req.op = 2 → s.on P.slv R.slv_WG_STATE = true →
    (∀ f, s.busRead 0 (r.req.buf + 4096 * r.at_) 4096 f = f plain s) →
    let place := diskPlace r.req.head r.req.track (r.req.sector + r.at_)
    let x : Sector := ⟨slvChannel r.req.track (r.req.sector + r.at_) (s.slvForm r.req r.at_ plain), true⟩
    let u := ({ s with selv := { s.selv with disk := Tbl.put s.selv.disk place x } } : State).count P.slv 0x048
    exec .slvSectorWritten s = .next (if s.dev = Dev.ward ∨ s.seam.flushing = true then u.slvDiscard else u.slvNext r)) ∧
  (∀ r, s.selv.run = some r →
    let v := ({ s with selv := { s.selv with run := some { r with at_ := r.at_ + 1, cands := [], tried := 0 } } } : State)
    (r.at_ + 1 = r.req.count → s.slvNext r = v.slvEnd (if r.paFault = true then 0x0C else 0) 0x3FF) ∧
    (r.at_ + 1 ≠ r.req.count → s.slvNext r = if r.aborted = true then v.slvEnd 0x09 (r.at_ + 1) else v)) ∧
  (∀ b i, s.pagesAwake = true → s.pageUp P.slv = true →
    (∀ r, s.selv.run = some r → r.req.fromHem = b → r.req.idx = i →
      (r.seeking = true → exec (.slvAbort b i) s = .next (s.slvEnd 0x09 r.at_)) ∧
      (r.seeking = false → s.on P.slv R.slv_WG_STATE = true ∨ s.on P.slv R.slv_RG_STATE = true →
        exec (.slvAbort b i) s = .next { s with selv := { s.selv with run := some { r with aborted := true } } })) ∧
    ((∀ r, s.selv.run = some r → r.req.fromHem = b → r.req.idx ≠ i) →
      (b = false → s.inRing i = true → exec (.slvAbort b i) s =
        .next (({ s with selv := { s.selv with aborts := s.selv.aborts ++ [(false, i)] } } : State).postCpl ⟨61, none, 0x09, 0x3FF, i⟩)) ∧
      (b = false → s.inRing i = false → exec (.slvAbort b i) s = .next (s.postCpl ⟨61, none, 0x0A, 0x3FF, i⟩)) ∧
      (b = true → (∀ q ∈ s.selv.hemQ, q.idx ≠ i) → exec (.slvAbort b i) s = .next (s.postCpl ⟨61, none, 0x0A, 0x3FF, 2 ^ 16 + i⟩)))) ∧
  (∀ ag, Reaches s ag P.slv → s.en P.slv = true →
    (s.rd P.slv R.common_DRAIN ≠ 0 → Does (.slvCtrlEnClear ag) s fun t => t.selv = { s.selv with draining := true } ∧
      t.en P.slv = false ∧ t = { s with selv := t.selv, regs := t.regs } ∧ SameRegs s t [fkey P.slv R.common_EN 0]) ∧
    (s.rd P.slv R.common_DRAIN = 0 → s.selv.hemQ = [] → s.selv.aborts = [] → s.rd P.slv R.slv_RING_TAIL < 1024 → Does (.slvCtrlEnClear ag) s fun t =>
      let n := s.rd P.slv R.slv_RING_LEN
      let queued := ((List.range n).map fun k => (s.rd P.slv R.slv_RING_HEAD + k) % n).filter s.inRing
      t.en P.slv = false ∧ t.ringHas = false ∧ t.selv = s.selv ∧
        t.spool.cpls = s.spool.cpls ++ queued.map (fun i => ⟨61, none, 0x08, 0x3FF, i⟩) ∧
        t = { s with spool := { s.spool with cpls := t.spool.cpls }, regs := t.regs })) ∧
  (∀ ag z rate spt, z < 32 → Reaches s ag P.slv → rate < 4096 → spt < 1024 →
    (ag = .host → exec (.zoneCfgWrite ag z rate spt) s = .next s) ∧
    (ag ≠ .host → 2000 ≤ rate → rate ≤ 4000 → spt ≤ s.sptMax rate → Does (.zoneCfgWrite ag z rate spt) s fun t =>
      t.rdI P.slv R.slv_RATE z = rate ∧ t.rdI P.slv R.slv_SPT z = spt ∧ t = { s with regs := t.regs } ∧
        SameRegs s t [fkey P.slv R.slv_RATE z, fkey P.slv R.slv_SPT z]) ∧
    (ag ≠ .host → rate < 2000 ∨ 4000 < rate ∨ s.sptMax rate < spt → Does (.zoneCfgWrite ag z rate spt) s fun t =>
      t.rd P.slv R.slv_ZONE_CFG_REJ = 1 ∧ (∀ k, k < 32 → t.rdI P.slv R.slv_RATE k = s.rdI P.slv R.slv_RATE k ∧
        t.rdI P.slv R.slv_SPT k = s.rdI P.slv R.slv_SPT k) ∧ (t.rd P.slv R.common_INT_RAW).testBit 4 = true ∧
        t = { s with regs := t.regs, outbox := t.outbox }))

/-- R158, R168 to R176, R178 to R185: the servo block and Treadle. A wedge found gives the position error, ON_TRACK and write inhibit; eight missed in a row
lose the servo; a seek of firmware is refused while Selvedge has requests; the spindle starts, stops and is at speed after 16 revolutions in
range; a shock inhibits writing at once; a response with a bad CRC has its frame sent again, the third in a row is a link fault. Where a quotient
lies between two integers the rounding is free; a command frame that one waits for ignores a second (log entry 26). -/
def Obligations.Servo : Prop := ∀ s : State,
  (∀ w, s.svoUp = true → s.servo.synced = true →
    (∀ u v, u = (if w.found = true ∧ w.offset.natAbs ≤ s.rd P.svo R.svo_SAM_WIN then s.wedgeFound w else s.wedgeMissed w).vcmFrame →
      v = (if u.on P.slv R.slv_RG_STATE = true ∧ w.resync = false then u.count P.slv 0x078 else u) →
      exec (.servoWedge w) s = .next (if v.inhibitNow = true then v.inhibit false else (v.wr P.svo R.svo_WR_INHIBIT 0).slvOpen)) ∧
    (s.servo.missed = 7 → let t := s.wedgeMissed w
      t.servo.synced = false ∧ t.servo.missed = 8 ∧ t.rd P.svo R.svo_SERVO_LOST = 1 ∧ (t.rd P.svo R.common_INT_RAW).testBit 1 = true ∧
        t = { s with servo := t.servo, regs := t.regs, ctrs := t.ctrs, outbox := t.outbox }) ∧
    (s.servo.missed < 7 → ∃ v : State, s.wedgeMissed w = v.position s.servo.pesLast ∧ v.servo.missed = s.servo.missed + 1 ∧
      v = { s with servo := v.servo, ctrs := v.ctrs })) ∧
  (∀ w, s.svoUp = false → exec (.servoWedge w) s = .next s) ∧
  (∀ a b, 0 < a + b → ∃ x : Int, (s.pes a b).1 = max (-128) (min 127 x) ∧
    2 * (((a + b : Nat) : Int) * x - 128 * ((a : Int) - b)).natAbs ≤ a + b) ∧
  (∀ p, let good := if p.natAbs ≤ s.rd P.svo R.svo_ON_TRK_PES then s.servo.good + 1 else 0
    (s.onTrack p).servo.good = good ∧ (s.onTrack p).rd P.svo R.svo_ON_TRACK = if s.rd P.svo R.svo_ON_TRK_CNT ≤ good then 1 else 0) ∧
  (s.rd P.slv R.slv_WG_STATE = 0 → ∀ b, s.inhibit b = s.wr P.svo R.svo_WR_INHIBIT 1) ∧
  (∀ r b, s.rd P.slv R.slv_WG_STATE ≠ 0 → s.selv.run = some r → ∃ v : State, s.inhibit b = v.slvEnd 0x03 r.at_ ∧
    Tbl.at? v.selv.disk (diskPlace r.req.head r.req.track (r.req.sector + r.at_)) = some ⟨0, false⟩ ∧ v.rd P.svo R.svo_WR_INHIBIT = 1) ∧
  (∀ c : Nat, ((c * s.rd P.svo R.svo_RPM : Int) - 12000000000).natAbs * 1000 ≤ 12000000000 → s.servo.inRange = 15 →
    (s.revolution c).rd P.svo R.svo_SPN_AT_SPEED ≠ 0) ∧
  (∀ c : Nat, 12000000000 < ((c * s.rd P.svo R.svo_RPM : Int) - 12000000000).natAbs * 1000 →
    (s.revolution c).rd P.svo R.svo_SPN_AT_SPEED = 0 ∧ (s.revolution c).servo.inRange = 0) ∧
  (∀ ag, Reaches s ag P.svo →
    (s.selv.run.isSome = true ∨ s.ringHas = true ∨ s.selv.hemQ ≠ [] → exec (.seekGo ag) s = .next (s.count P.svo 0x058)) ∧
    (s.selv.run = none → s.ringHas = false → s.selv.hemQ = [] → s.en P.svo = true → exec (.seekGo ag) s =
      .next ((if s.servo.seek = none then s.seekStart (s.rd P.svo R.svo_SEEK_TRACK) (s.rd P.svo R.svo_SEEK_HEAD) true
        else s.seekAim (s.rd P.svo R.svo_SEEK_TRACK) (s.rd P.svo R.svo_SEEK_HEAD)).inhibit false))) ∧
  (∀ k h b, let t := s.seekStart k h b
    t.servo = { s.servo with seek := some ⟨k, h, b, false⟩, seekDone := false, good := 0 } ∧ t.rd P.svo R.svo_SEEK_BUSY = 1 ∧
      t.rd P.svo R.svo_ON_TRACK = 0 ∧ t.rd P.svo R.svo_WR_INHIBIT = 1 ∧ t.rd P.svo R.svo_CUR_HEAD = h % 16 ∧ t.rd P.svo R.svo_STATE = 1 ∧
      t = { s with servo := t.servo, selv := t.selv, regs := t.regs, ctrs := t.ctrs, outbox := t.outbox }) ∧
  (s.servo.seek = none → exec .seekTimeout s = .next s) ∧
  (∀ k, s.servo.seek = some k → ∃ v : State, v.servo.seek = none ∧ v.rd P.svo R.svo_SEEK_BUSY = 0 ∧ v.rd P.svo R.svo_STATE = 0 ∧
    (v.rd P.svo R.common_INT_RAW).testBit 4 = true ∧ v = { s with servo := { s.servo with seek := none }, regs := v.regs, outbox := v.outbox } ∧
    exec .seekTimeout s = .next (if k.fw = true then v.svoSettle else (v.slvEnd 0x0B 0x3FF).svoSettle)) ∧
  (∀ ag, Reaches s ag P.svo → s.en P.svo = true → s.trlUp = true → s.trd.sw = none → Does (.spnGo ag) s fun t =>
    t.servo.spinMode = 1 ∧ t.servo.synced = false ∧ t.rd P.svo R.svo_SPN_AT_SPEED = 0 ∧
      t.outbox = s.outbox ++ [.treadle (trlFrame 3 s.trd.seq 1)] ∧
      t = { s with servo := t.servo, trd := t.trd, regs := t.regs, ctrs := t.ctrs, outbox := t.outbox } ∧
      SameRegs s t [fkey P.svo R.svo_SPN_AT_SPEED 0]) ∧
  (∀ ag, Reaches s ag P.svo → exec (.spnStop ag) s = .next (s.svoStop.inhibit false) ∧ exec (.park ag) s = .next (s.svoPark.inhibit false)) ∧
  (s.trlUp = true → s.trd.sw = none →
    s.svoPark.outbox = s.outbox ++ [.treadle (trlFrame 4 s.trd.seq 0x5A5A)] ∧ s.svoPark.rd P.svo R.svo_ON_TRACK = 0 ∧
      s.svoStop.outbox = s.outbox ++ [.treadle (trlFrame 4 s.trd.seq 0x5A5A), .treadle (trlFrame 3 ((s.trd.seq + 1) % 16) 3)] ∧
      s.svoStop.rd P.svo R.svo_SPN_AT_SPEED = 0 ∧ s.svoStop.servo.spinMode = 3) ∧
  (s.svoUp = true → s.rd P.svo R.svo_SPN_AT_SPEED = 0 → s.servo.spinMode = 1 ∨ s.servo.spinMode = 2 →
    exec .spinupTimeout s = .next ((s.err P.svo 0x03 0 0).raise P.svo 4)) ∧
  (s.rd P.svo R.svo_SPN_AT_SPEED ≠ 0 → exec .spinupTimeout s = .next s) ∧
  (∀ sh, s.pagesAwake = true → s.pageUp P.svo = true → s.rd P.slv R.slv_WG_STATE = 0 → Does (.trdAttnNAssert sh) s fun t =>
    t.servo.attn = true ∧ t.rd P.trl R.trl_ATTN = 1 ∧ t.rd P.svo R.svo_WR_INHIBIT = 1 ∧
      (sh = true → t.rd P.svo R.svo_SHOCK_SEEN = 1 ∧ t.rd P.svo R.svo_ON_TRACK = 0 ∧ t.servo.good = 0) ∧
      t = { s with servo := t.servo, regs := t.regs, outbox := t.outbox }) ∧
  (∀ f r g, s.trlUp = true → s.trd.last = f :: r → let u := ({ s with trd := { s.trd with last := r } } : State)
    (crc8 (g / 256 % 2 ^ 24) ≠ g % 256 → exec (.treadleResponse g) s = .next (u.trlBad f)) ∧
    (crc8 (g / 256 % 2 ^ 24) = g % 256 → exec (.treadleResponse g) s = .next (u.trlGood f g).parked)) ∧
  (∀ f, s.trlUp = true → s.trd.fails < 2 → let t := s.trlBad f
    t.trd.fails = s.trd.fails + 1 ∧ (f / 2 ^ 28 = 1 → t.outbox = s.outbox) ∧ (f / 2 ^ 28 ≠ 1 →
      t.outbox = s.outbox ++ [.treadle (trlFrame (f / 2 ^ 28) s.trd.seq (f / 2 ^ 8 % 2 ^ 16))])) ∧
  (∀ f, s.trd.fails = 2 → s.rd P.trl R.trl_LINK_FAULT = 0 → s.rd P.slv R.slv_WG_STATE = 0 → let t := s.trlBad f
    t.rd P.trl R.trl_LINK_FAULT = 1 ∧ t.rd P.svo R.svo_WR_INHIBIT = 1 ∧ (t.rd P.trl R.common_INT_RAW).testBit 0 = true) ∧
  (∀ f g, bitsAt g 19 4 = 0 → g.testBit 23 = false → s.servo.attn = false → s.trd.sw = none → let t := s.trlGood f g
    t.trd.fails = 0 ∧ t.rd P.trl R.trl_LAST_STATUS = bitsAt g 16 8 ∧ t.rd P.trl R.trl_LAST_SEQ = bitsAt g 24 4 ∧
      t.rd P.trl R.trl_SW_RDATA = (if f / 2 ^ 28 = 5 then bitsAt g 8 8 else s.rd P.trl R.trl_SW_RDATA) ∧ t.servo.shock = false ∧
      t = { s with trd := t.trd, servo := t.servo, regs := t.regs, ctrs := t.ctrs }) ∧
  (∀ ag, Reaches s ag P.trl → ∀ x ∈ [(Instr.trdNop ag, 0), (.rdReg ag, 5), (.wrReg ag, 6), (.clrFlt ag, 7)],
    (s.rd P.trl R.trl_SW_BUSY = 0 → Does x.1 s fun t =>
      t.trd = { s.trd with sw := some (x.2 * 65536 + s.rd P.trl R.trl_SW_ARG), swSent := false } ∧ t.rd P.trl R.trl_SW_CMD = x.2 ∧
        t.rd P.trl R.trl_SW_BUSY = 1 ∧ t = { s with trd := t.trd, regs := t.regs } ∧
        SameRegs s t [fkey P.trl R.trl_SW_CMD 0, fkey P.trl R.trl_SW_BUSY 0]) ∧
    (s.rd P.trl R.trl_SW_BUSY ≠ 0 → exec x.1 s = .next s)) ∧
  (∀ ag, Reaches s ag P.svo → s.en P.svo = true → let u := s.wr P.svo R.common_EN 0
    (s.servo.seek.isSome = true → exec (.svoCtrlEnClear ag) s = .next (u.inhibit false)) ∧
    (s.servo.seek = none → s.servo.vcmOff = false →
      exec (.svoCtrlEnClear ag) s = .next (({ u.svoPark with servo := { u.svoPark.servo with vcmOff := true } } : State).inhibit false)))

/-- R191, R195 to R202, R205, R207, R211: Pinking. LOAD_GO starts a load, ignored with LOAD_REJ while one runs; a load done leaves its code, and its
program in the slot where that is 0; a program that passes has the limits of the format. A unit evaluates every whole record once; each one survives,
does not, or has a bad decimal. A failed unit is reported without records. CTRL.EN cleared sends the queued units elsewhere. A report has 128 bytes. Which of
several load codes is given is the model's reading (log entry 22). -/
def Obligations.Pinking : Prop := ∀ s : State,
  (∀ ag u, s.pnkPresent u = true → Reaches s ag (P.pnk u) →
    (s.rd (P.pnk u) R.pnk_LOAD_BUSY = 0 → Tbl.has s.pink.load u = false → Does (.loadGo ag u) s fun t =>
      let p := P.pnk u
      let l : PnkLoad := ⟨s.rd p R.pnk_LOAD_SLOT, s.rd p R.pnk_LOAD_LO + s.rd p R.pnk_LOAD_HI * 2 ^ 32, 0, none⟩
      t.pink = { s.pink with load := Tbl.put s.pink.load u l } ∧ t.rd p R.pnk_LOAD_BUSY = 1 ∧
        t = { s with pink := t.pink, regs := t.regs } ∧ SameRegs s t [fkey p R.pnk_LOAD_BUSY 0]) ∧
    (s.rd (P.pnk u) R.pnk_LOAD_BUSY ≠ 0 → Does (.loadGo ag u) s fun t => t.rd (P.pnk u) R.pnk_LOAD_REJ = 1 ∧
      t = { s with regs := t.regs } ∧ SameRegs s t [fkey (P.pnk u) R.pnk_LOAD_REJ 0])) ∧
  (∀ u l b, Tbl.at? s.pink.load u = some l → l.item = none → s.pink.loadWait = [] →
    (∀ f, s.busRead l.panel l.addr 9216 f = f b s) → Does (.pinkLoadDone u) s fun t =>
      let p := P.pnk u
      let code := s.loadResult l.slot b
      t.rd p R.pnk_LOAD_RESULT = code ∧ t.rd p R.pnk_LOAD_BUSY = 0 ∧ (t.rd p R.common_INT_RAW).testBit 0 = true ∧
        (code ≠ 0 → (t.rd p R.common_INT_RAW).testBit 1 = true) ∧
        t.pink.slots = (if code = 0 then Tbl.put s.pink.slots (u * 4 + l.slot) ⟨b, l.panel⟩ else s.pink.slots) ∧
        t.pink = { s.pink with load := Tbl.del s.pink.load u, slots := t.pink.slots } ∧
        t = { s with pink := t.pink, regs := t.regs, outbox := t.outbox }) ∧
  (∀ n b, s.loadResult n b = if s.mode M.pink = false then 7 else if s.slotBusy n = true then 6 else loadCheck b) ∧
  (∀ b, loadCheck b = 0 → leAt b 0 1 = 1 ∧ 1 ≤ pgNterms b ∧ pgNterms b ≤ 16 ∧ pgNproj b ≤ 8 ∧ pgNagg b ≤ 4 ∧ 16 ≤ pgRecLen b ∧
    pgRecLen b ≤ 4096 ∧ (((List.range (pgNproj b)).map (pgProj b)).map fLen).sum ≤ pgRecLen b ∧
    ∀ t, t < pgNterms b → fdOk (pgRecLen b) (leAt (pgTerm b t) 0 4) = true ∧ opOk (leAt (pgTerm b t) 4 1) (fType (leAt (pgTerm b t) 0 4)) = true) ∧
  (∀ u e r, s.pnkQueue u = e :: r → 24 ≤ u → let v := ({ s with pink := { s.pink with queue := Tbl.put s.pink.queue u r } } : State)
    (s.stream? e.stream = none → exec (.pnkUnitFiltered u) s = .next v) ∧
    (∀ x, s.stream? e.stream = some x → e.failed = false →
      exec (.pnkUnitFiltered u) s = .next (if x.strm = true then v.filterStream x u e else v.filterUnit x u e)) ∧
    (∀ x, s.stream? e.stream = some x → e.failed = true → ∃ w : State,
      exec (.pnkUnitFiltered u) s = .next (w.reportNone x.id e.seq 1 u ((if x.strm then 1 else 0) + (if e.fallback then 2 else 0))) ∧
        (w.rd (P.pnk u) R.common_INT_RAW).testBit 3 = true ∧ w = { v with regs := w.regs, ctrs := w.ctrs, outbox := w.outbox })) ∧
  (∀ u, s.pnkQueue u = [] → exec (.pnkUnitFiltered u) s = .next s) ∧
  (∀ x u e, let p := s.pnkProg u x.slot
    s.filterUnit x u e = (s.reportUnit x u e.seq (if e.fallback = true then 2 else 0)
      ((recordsOf (pgRecLen p) 0 e.data).foldl (filterRecord p) (FilterOut.start (pgNagg p)))).checkStream x.id) ∧
  (∀ p d n, let o := (recordsOf (pgRecLen p) 0 d).foldl (filterRecord p) (FilterOut.start n)
    o.records = d.length / pgRecLen p ∧ o.survivors + o.baddec ≤ o.records) ∧
  (∀ p o r, (∀ t, t < pgNterms p → (termVal (pgTerm p t) r).isSome = true) → pgNagg p = 0 →
    let v := maskOf ((List.range 16).filter fun t =>
      (((List.range (pgNterms p)).map fun t => termVal (pgTerm p t) r).getD t none) == some true)
    let q := filterRecord p o r
    q.records = o.records + 1 ∧ q.baddec = o.baddec ∧ q.survivors = o.survivors + (if pgTruth p v = true then 1 else 0) ∧
      q.out = if pgTruth p v = true then
        o.out ++ (List.range (pgNproj p)).flatMap (fun i => sliceOf r (fOff (pgProj p i)) (fLen (pgProj p i))) else o.out) ∧
  (∀ p a b c d e f o, (reportBytes p a b c d e f o).length = 128) ∧
  (∀ ag u, s.pnkPresent u = true → Reaches s ag (P.pnk u) → s.en (P.pnk u) = true → let v := s.wr (P.pnk u) R.common_EN 0
    exec (.pnkCtrlEnClear ag u) s = .next (if s.rd (P.pnk u) R.common_DRAIN ≠ 0 then v else (v.pnkReturn u).pnkUnread u))

/-- R213 to R215, R217, R218, R221, R223, R225, R228, R231, R232, R235: Pleat. A job is queued at its engine, returned where that is disabled, refused with
QUEUE_REJ while its queue is full; a held unit goes to the enabled engine with the fewest jobs, or is stored uncompressed; a job that completes frees its
lane. A stored block decodes to its bytes; with CVERIFY a block whose self-check fails is stored. The encoder is left open: all this holds for
every one. -/
def Obligations.Pleat : Prop := ∀ s : State,
  (∀ ag e, s.pltPresent e = true → Reaches s ag (P.plt e) →
    let j : PleatJob := ⟨.go, s.rd (P.plt e) R.plt_JOB_LO + s.rd (P.plt e) R.plt_JOB_HI * 2 ^ 32, 0, false, [], 0⟩
    (32 ≤ (s.pltQueue e).length → Does (.jobGo ag e) s fun t => t.rd (P.plt e) R.plt_QUEUE_REJ = 1 ∧
      (t.rd (P.plt e) R.common_INT_RAW).testBit 4 = true ∧ t = { s with regs := t.regs, outbox := t.outbox } ∧
      SameRegs s t [fkey (P.plt e) R.plt_QUEUE_REJ 0, fkey (P.plt e) R.common_INT_RAW 0]) ∧
    ((s.pltQueue e).length < 32 →
      exec (.jobGo ag e) s = .next (if s.pltOn e = true then s.pltPush e j else s.pltEnd e j Plt.unitDisabled 0 0 0))) ∧
  (∀ e j, (∀ l, l < 4 → Tbl.has s.pleat.lanes (e * 4 + l) = true) →
    s.pltPush e j = { s with pleat := { s.pleat with queue := Tbl.put s.pleat.queue e (s.pltQueue e ++ [j]) } }) ∧
  (∀ e j a m n k, j.origin = .go → (s.pltEnd e j a m n k).rd (P.plt e) R.plt_LAST_STATUS = a % 256 ∧
    ((s.pltEnd e j a m n k).rd (P.plt e) R.common_INT_RAW).testBit 0 = true) ∧
  (∀ n, s.heldAt n = none → exec (.inlineJobEnqueue n) s = .next s) ∧
  (∀ n h, s.heldAt n = some h → h.phase = 1 →
    let pick := s.pltPick fun e => s.on (P.plt e) R.plt_INLINE_EN
    (pick = none → exec (.inlineJobEnqueue n) s =
      .next ((s.dropHeld n).storeCoarse h.use h.ns h.unit h.panel false (h.whole.getD (zeros unitBytes)))) ∧
    (∀ e, pick = some e → 32 ≤ (s.pltQueue e).length → exec (.inlineJobEnqueue n) s = .next s) ∧
    (∀ e, pick = some e → (s.pltQueue e).length < 32 → ∃ v : State,
      exec (.inlineJobEnqueue n) s = .next (v.pltPush e ⟨.inline n, 0, h.panel, false, [], 0⟩) ∧
        v = { s with seam := { s.seam with held := s.seam.held.map fun x => if x.id = n then { x with phase := 2 } else x } })) ∧
  (∀ which e, s.pltPick which = some e → e < 8 ∧ s.pltOn e = true ∧ which e = true ∧
    ∀ k, k < 8 → s.pltOn k = true → which k = true → (s.pltQueue e).length ≤ (s.pltQueue k).length) ∧
  (∀ n j, s.job? n = some j → j.decode = 1 → let pick := s.pltPick fun _ => true
    (pick = none → exec (.decodeJobEnqueue n) s = .next (s.failJob j)) ∧
    (∀ e, pick = some e → (s.pltQueue e).length < 32 → exec (.decodeJobEnqueue n) s =
      .next ((s.updJob n fun j => { j with decode := 2 }).pltPush e ⟨.decode n, 0, 0, false, [], 0⟩))) ∧
  (∀ n j, s.job? n = some j → j.decode ≠ 1 → exec (.decodeJobEnqueue n) s = .next s) ∧
  (∀ e l, Tbl.at? s.pleat.lanes (e * 4 + l) = none → exec (.pleatJobComplete e l) s = .next s) ∧
  (∀ e l j, Tbl.at? s.pleat.lanes (e * 4 + l) = some j →
    ∀ v, v = (match j.origin with | .inline n => s.pltInline e n | .decode n => s.pltDecoded e n | _ => s.pltExplicit e j) →
    exec (.pleatJobComplete e l) s =
      .next (({ v with pleat := { v.pleat with lanes := Tbl.del v.pleat.lanes (e * 4 + l) } } : State).pltFill e)) ∧
  (∀ b last, b ≠ [] → b.length ≤ 65536 → ∀ w, w ≤ 4 →
    let r := pltDecode pltFresh (pltHeaderBytes true last true w b.length b.length (crc32c b) ++ b) (2 ^ 64) true none
    r.out = b ∧ r.blocks = 1 ∧ (last = true → r.status = Plt.ok) ∧ (last = false → r.status = Plt.truncated)) ∧
  (∀ lv w last reset d b, let r := pltBlock lv w true last reset d b
    if r.2.1 = true then r.1 = pltHeaderBytes true last reset w b.length b.length (crc32c b) ++ b
    else r.1.length < 16 + b.length ∧ (pltDecode ⟨if reset = true then none else some w, d, none⟩ r.1 b.length true none).out = b) ∧
  (∀ ag e, s.pltPresent e = true → Reaches s ag (P.plt e) → s.en (P.plt e) = true → let v := s.wr (P.plt e) R.common_EN 0
    exec (.pltCtrlEnClear ag e) s = .next (if s.rd (P.plt e) R.common_DRAIN ≠ 0 then v else
      (s.pltQueue e).foldl (fun s j => s.pltReturn e j) { v with pleat := { v.pleat with queue := Tbl.del v.pleat.queue e } }))

/-- R237 to R248, R254 to R257, R259: Gauge. A batch is queued or refused; each key is answered from the entries that match it, lowest rank first; each
record of an update batch acts on its rank; an INSERT is refused where the table or the share is full; WIDTH changes only while the table is empty;
frames of the cascade are merged, forwarded, sent again and timed out. That INSERT, DELETE, WRITE and READ act on the next record where it is
theirs is the model's reading (log entry 24). -/
def Obligations.Gauge : Prop := ∀ s : State,
  (∀ ag, Reaches s ag P.gau →
    (32 ≤ s.gauge.queue.length → Does (.batchGo ag) s fun t => t.rd P.gau R.gau_QUEUE_REJ = 1 ∧
      (t.rd P.gau R.common_INT_RAW).testBit 2 = true ∧ t = { s with regs := t.regs, outbox := t.outbox }) ∧
    (s.gauge.queue.length < 32 → exec (.batchGo ag) s =
      .next (s.gauSubmit (s.rd P.gau R.gau_BATCH_LO + s.rd P.gau R.gau_BATCH_HI * 2 ^ 32) 0 none))) ∧
  (∀ a p i blk, (∀ f, s.busRead p a 32 f = f blk s) → let b : Batch := ⟨a, p, i, blk, 0, 0, false, false, false⟩
    s.gauSubmit a p i = if s.mode M.gauge = false then s.gauEnd b Gs.notEnabled else if s.en P.gau = false then s.gauEnd b Gs.disabled
      else State.gauFill 33 { s with gauge := { s.gauge with queue := s.gauge.queue ++ [b] } }) ∧
  (∀ b bytes, s.gauge.look = some b → b.abort = false → b.next < b.num → b.casc = false →
    (∀ f, s.busRead b.panel (s.gauTr b (b.src + b.next * 16 * s.gauRows)) (10 * s.gauRows) f = f bytes s) →
    let hits := s.gauHits b.panel (leNat bytes)
    let u := s.updLook fun b => { b with next := b.next + 1 }
    (b.op = 1 → exec .gaugeSearch s =
      .next ((u.count P.gau 0x040).gauPut b.next (gauResult false (u.count P.gau 0x040).gcbPos hits.head? hits.length))) ∧
    (b.op = 2 → exec .gaugeCount s =
      .next ((u.count P.gau 0x048).gauPut b.next (gauResult true (u.count P.gau 0x048).gcbPos hits.head? hits.length))) ∧
    (b.op ≠ 1 → exec .gaugeSearch s = .next s) ∧ (b.op ≠ 2 → exec .gaugeCount s = .next s)) ∧
  (∀ p k r, r ∈ s.gauHits p k ↔ ∃ e, s.gauAt p r = some e ∧ e.2.hits k = true) ∧
  (∀ p k, (s.gauHits p k).Pairwise (· < ·)) ∧
  (∀ r pos n, r < 2 ^ 17 → pos < 8 → n < 2 ^ 17 → 0 < n → let a := gauResult false pos (some r) n
    a % 2 ^ 20 = r ∧ bitsAt a 20 3 = pos ∧ a.testBit 23 = true ∧ a.testBit 24 = decide (1 < n) ∧
      bitsAt (gauResult true pos (some r) n) 32 21 = n) ∧
  (∀ b op rank value care rec, s.gauge.upd = some b → s.gauge.move = none → s.rd P.gau R.gau_WIDTH ≤ 2 → 1 ≤ op → op ≤ 4 → rank < 2 ^ 17 →
    value < 2 ^ (80 * s.gauRows) → care < 2 ^ (80 * s.gauRows) →
    rec = natLE 1 op ++ natLE 3 0 ++ natLE 4 rank ++ natLE 8 0 ++ natLE 40 value ++ natLE 40 care →
    (∀ f, s.busRead b.panel (s.gauTr b (b.src + 96 * b.next)) 96 f = f rec s) →
    (op = 4 → s.viewOk (s.gauPoster b) b.panel (b.src + 96 * b.next) 96 .wr = true) → let g : GauRow := ⟨value, care, b.panel⟩
    (op = 1 → ∀ i ∈ [Instr.gaugeUpdate, .insert], exec i s = .next (s.gauInsert b rank g)) ∧
    (∀ i ∈ [(Instr.insert, 1), (.delete, 2), (.gaugeWrite, 3), (.gaugeRead, 4)], i.2 ≠ op → exec i.1 s = .next s) ∧
    (2 ≤ op → s.gauAt b.panel rank = none → exec .gaugeUpdate s = .next (s.gauRecBad b Gs.badRank rank)) ∧
    (∀ e, s.gauAt b.panel rank = some e →
      (op = 2 → ∀ i ∈ [Instr.gaugeUpdate, .delete], exec i s =
        .next ((({ s with gauge := { s.gauge with rows := Tbl.del s.gauge.rows e.1 } } : State).count P.gau 0x060).gauRecOk b rank)) ∧
      (op = 3 → ∀ i ∈ [Instr.gaugeUpdate, .gaugeWrite], exec i s =
        .next (({ s with gauge := { s.gauge with rows := Tbl.put s.gauge.rows e.1 g } } : State).gauRecOk b rank)) ∧
      (op = 4 → ∀ i ∈ [Instr.gaugeUpdate, .gaugeRead], exec i s =
        .next ((s.busWrite b.panel (s.gauTr b (b.src + 96 * b.next) + 16) (natLE 40 e.2.value ++ natLE 40 e.2.care)).gauRecOk b rank)))) ∧
  (∀ b rank g, (s.gauCap ≤ s.gauge.rows.length → s.gauInsert b rank g = s.gauRecBad b Gs.full rank) ∧
    (s.gauge.rows.length < s.gauCap → s.gauQuota ≤ (s.gauOf b.panel).length → s.gauInsert b rank g = s.gauRecBad b Gs.quota rank) ∧
    (s.gauge.rows.length < s.gauCap → (s.gauOf b.panel).length < s.gauQuota → (s.gauOf b.panel).length < rank →
      s.gauInsert b rank g = s.gauRecBad b Gs.badRank rank)) ∧
  (∀ b m, s.gauge.upd = some b → s.gauge.move = some m → let n := m.length * s.gauRows
    let u := ({ s with gauge := { s.gauge with rows := m.apply s.gauge.rows, move := none } } : State)
    exec .gaugeMoveCommit s = .next ((((u.countN P.gau 0x068 n).countN P.gau 0x078 (2 * n)).count P.gau 0x058).gauRecOk b m.rank)) ∧
  (s.gauge.move = none → exec .gaugeMoveCommit s = .next s) ∧
  (∀ a d g, Tbl.at? s.gauge.rows a = some g → s.rd P.gau R.gau_SPREAD_EN ≠ 0 → s.gauge.move = none → d < s.gauCap → a ≠ d →
    (∀ e ∈ s.gauge.rows, ¬ (a < e.1 ∧ e.1 ≤ d) ∧ ¬ (d ≤ e.1 ∧ e.1 < a)) → exec (.gaugeSpreadMove a d) s =
      .next (({ s with gauge := { s.gauge with rows := Tbl.put (Tbl.del s.gauge.rows a) d g } } : State).countN P.gau 0x068 s.gauRows)) ∧
  (∀ ag w, Reaches s ag P.gau → w < 3 →
    (s.gauge.rows = [] → Does (.widthWrite ag w) s fun t => t.rd P.gau R.gau_WIDTH = w ∧ t = { s with regs := t.regs } ∧
      SameRegs s t [fkey P.gau R.gau_WIDTH 0]) ∧
    (s.gauge.rows ≠ [] → Does (.widthWrite ag w) s fun t => t.rd P.gau R.gau_CFG_REJ = 1 ∧ (t.rd P.gau R.common_INT_RAW).testBit 3 = true ∧
      t = { s with regs := t.regs, outbox := t.outbox } ∧ SameRegs s t [fkey P.gau R.gau_CFG_REJ 0, fkey P.gau R.common_INT_RAW 0])) ∧
  (∀ ws b, s.gcbPort = true → (∀ w ∈ ws, w < 65536) → let width := bitsAt (ws.getD 0 0) 11 2
    let k := gcbKeyWords width
    (ws.length ≠ 5 + k ∨ gcbCrc (ws.take (4 + k)) ≠ ws.getD (4 + k) 0 → exec (.gcbFrameReceive ws b) s = .next (s.count P.gcb 0x050)) ∧
    (ws.length = 5 + k → gcbCrc (ws.take (4 + k)) = ws.getD (4 + k) 0 → ws.getD 0 0 / 2 ^ 13 = 1 ∨ ws.getD 0 0 / 2 ^ 13 = 2 →
      (bitsAt (ws.getD 0 0) 8 3 ≠ s.rd P.gcb R.gcb_POS → exec (.gcbFrameReceive ws b) s = .next (s.gcbForward ws width b)) ∧
      (∀ o, bitsAt (ws.getD 0 0) 8 3 = s.rd P.gcb R.gcb_POS → s.gauge.out = [o] → o.tag = ws.getD 1 0 → exec (.gcbFrameReceive ws b) s =
        .next (s.gcbMerge o (ws.getD 0 0 / 2 ^ 13 == 2) (ws.getD (2 + k) 0) (ws.getD (3 + k) 0))))) ∧
  (∀ o, s.gauge.out = [o] →
    (o.resent = false → Does (.gcbFrameTimeout o.tag) s fun t => t.gauge = { s.gauge with out := [{ o with resent := true }] } ∧
      t.outbox = s.outbox ++ [.gcb o.words false] ∧ t = { s with gauge := t.gauge, ctrs := t.ctrs, outbox := t.outbox }) ∧
    (o.resent = true → ∃ v : State, exec (.gcbFrameTimeout o.tag) s = .next (v.gauPut o.key gauErr) ∧ v.rd P.gcb R.gcb_LINK_ERR = 1 ∧
      v.gauge = { s.gauge with out := [] } ∧ v = { s with gauge := v.gauge, regs := v.regs, outbox := v.outbox })) ∧
  (s.gcbPort = true → s.rd P.gcb R.gcb_LINK_UP = 0 → Does (.gcbLinkTimer true) s fun t => t.rd P.gcb R.gcb_LINK_UP = 1 ∧
    (t.rd P.gcb R.common_INT_RAW).testBit 0 = true ∧ t = { s with regs := t.regs, outbox := t.outbox }) ∧
  (s.rd P.gcb R.gcb_LINK_UP ≠ 0 → Does (.gcbLinkTimer false) s fun t => t.rd P.gcb R.gcb_LINK_UP = 0 ∧
    (t.rd P.gcb R.common_INT_RAW).testBit 1 = true ∧ t = { s with regs := t.regs, ctrs := t.ctrs, outbox := t.outbox }) ∧
  (∀ ag, Reaches s ag P.gau → s.en P.gau = true → let v := s.wr P.gau R.common_EN 0
    exec (.gauCtrlEnClear ag) s = .next (if s.rd P.gau R.common_DRAIN ≠ 0 then v else
      s.gauge.queue.foldl (fun s b => s.gauEnd b Gs.disabled) { v with gauge := { v.gauge with queue := [] } }))

/-- R239, R248, R250: a block move puts the new entry at its rank: the panel's entries below the place keep their order before it, those from the place on
follow it, and no other panel's order changes; the table stays in rising order of places. A spread move changes no rank of any panel. -/
def Obligations.GaugeRanks : Prop := ∀ (rows : Tbl GauRow), rows.Pairwise (fun a b => a.1 < b.1) →
  let of (q : Nat) (t : Tbl GauRow) : List GauRow := (t.filter fun e => e.2.panel = q).map (·.2)
  (∀ m : GauMove, Tbl.at? rows m.free = none → m.free ≠ m.place →
    let k := ((rows.filter fun e => e.2.panel = m.entry.panel).filter fun e => e.1 < m.place).length
    (m.apply rows).Pairwise (fun a b => a.1 < b.1) ∧
      of m.entry.panel (m.apply rows) = (of m.entry.panel rows).take k ++ m.entry :: (of m.entry.panel rows).drop k ∧
      ∀ q, q ≠ m.entry.panel → of q (m.apply rows) = of q rows) ∧
  (∀ (s t : State) a d, s.gauge.rows = rows → exec (.gaugeSpreadMove a d) s = .next t →
    t.gauge.rows.Pairwise (fun a b => a.1 < b.1) ∧ ∀ q, of q t.gauge.rows = of q rows)

/-- R332, R333, R335 to R340, R342, R343, R345, R346: Spool, Take-up and Tracing. A dispatch takes a waiting item of the lowest list to a free core that it
allows, or to its unit's queue; a program starts with its arguments in the registers; a cancel ends a waiting item and latches on a running one;
completions are granted from ROT_PTR, four a cycle, and delivered in order. Ring completions go to Bobbin core 0 by the model's choice (log
entry 30). -/
def Obligations.Spool : Prop := ∀ s : State,
  (s.splRuns = true → s.shuttlePick = none → exec .spoolShuttleDispatch s = .next s) ∧
  (∀ n i k, s.splRuns = true → s.shuttlePick = some (n, i, k) → Does .spoolShuttleDispatch s fun t =>
    t.spool.items = Tbl.upd s.spool.items n (fun i => { i with st := .dispatched, core := some k, unit := k }) ∧
      t.spool.coreItem = Tbl.put s.spool.coreItem k n ∧
      t.spool.lastCore = (if i.flow = 0 then s.spool.lastCore else Tbl.put s.spool.lastCore i.flowKey k) ∧
      t = { s with spool := t.spool, regs := t.regs, ctrs := t.ctrs, outbox := t.outbox }) ∧
  (∀ n i k, s.shuttlePick = some (n, i, k) → (n, i) ∈ s.spool.items ∧ i.kind = 1 ∧ s.eligible (n, i) = true ∧ s.coreFree k = true ∧
    i.allows k = true ∧ ∀ e ∈ s.programs, s.coresFor e ≠ [] → i.list ≤ e.2.list ∧
      (s.mode M.deadline = true → e.2.list = i.list → i.key ≤ e.2.key)) ∧
  (∀ n i, s.splRuns = true → s.firstOf false (lowestList (s.spool.items.filter fun e => e.2.kind != 1 && s.eligible e &&
      (s.unitFor e.2).isSome)) = some (n, i) → Does .spoolUnitDispatch s fun t => ∃ u, s.unitFor i = some u ∧
    t.spool.items = Tbl.upd s.spool.items n (fun i => { i with st := .dispatched, unit := u }) ∧
      t = { s with spool := t.spool, regs := t.regs, ctrs := t.ctrs, outbox := t.outbox }) ∧
  (∀ n i, s.item? n = some i → exec (.affinityAgeExpiry n) s = .next
    (if i.st = .waiting ∧ i.kind = 1 ∧ s.rd P.spl R.spl_AFF_WAIT_US < s.waitUs i then s.updItem n (fun i => { i with aged := true }) else s)) ∧
  (∀ n i k, Queued s n 1 i → i.core = some k → i.saved = none → Does (.program n) s fun t => let c := t.core k
    let clear := s.on (P.shc (k / 4)) R.shc_CLR_ALWAYS || Tbl.at? s.spool.lastPanel k != some i.panel
    c.b = [BitVec.ofNat 64 i.arg0, BitVec.ofNat 64 i.arg1, BitVec.ofNat 64 i.arg2, 0, 0, 0, 0, BitVec.ofNat 64 (lsBase + 0x40000)] ∧
      c.pc = i.target ∧ c.psw = 0 ∧ c.rcnt = 0 ∧ c.fp = 0 ∧ c.st = .run ∧ c.halted = false ∧ c.wins = s.panelWins i.panel ∧
      c.cplQ = i.heldCpls ∧ c.ls = (if clear = true then [] else (s.core k).ls) ∧ c.bits = (if clear = true then [] else (s.core k).bits) ∧
      Tbl.at? t.spool.lastPanel k = some i.panel ∧ (∀ j, j ≠ k → Tbl.at? t.cores j = Tbl.at? s.cores j) ∧
      (∀ line, t.heldLine k line = none) ∧ t = { s with cores := t.cores, spool := t.spool, ctrs := t.ctrs, caches := t.caches }) ∧
  (∀ ag, Reaches s ag P.spl →
    (let r := s.cancelItem (s.rd P.spl R.spl_CANCEL_ITEM) Cs.cancelled
     exec (.cancelGo ag) s = .next ((r.2.wr P.spl R.spl_CANCEL_RESULT r.1).raise P.spl 1)) ∧
    (let a := s.rd P.spl R.spl_STG_REL_LO + s.rd P.spl R.spl_STG_REL_HI * 2 ^ 32
     (∀ b, stgOfAddr a = some b → Tbl.has s.stg.bufs b = true → exec (.stgRelGo ag) s = .next (s.stgRelease b)) ∧
     (stgOfAddr a = none → Does (.stgRelGo ag) s fun t => t.rd P.spl R.spl_STG_REL_BAD = 1 ∧
        (t.rd P.spl R.common_INT_RAW).testBit 3 = true ∧ t = { s with regs := t.regs, outbox := t.outbox })) ∧
    (s.en P.spl = true → s.rd P.spl R.common_DRAIN ≠ 0 → Does (.splCtrlEnClear ag) s fun t => t.en P.spl = false ∧
      t.spool = { s.spool with draining := true } ∧ t = { s with spool := t.spool, regs := t.regs }) ∧
    (s.en P.spl = true → s.rd P.spl R.common_DRAIN = 0 → (∀ e ∈ s.spool.items, e.2.st ≠ .waiting) → Does (.splCtrlEnClear ag) s fun t =>
      t.en P.spl = false ∧ t.spool = { s.spool with draining := false } ∧ t = { s with spool := t.spool, regs := t.regs })) ∧
  (∀ n st, (s.item? n = none → s.cancelItem n st = (3, s)) ∧
    (∀ i, s.item? n = some i → s.itemEnded n i = true → (s.cancelItem n st).1 = 1) ∧
    (∀ i, s.item? n = some i → s.itemEnded n i = false → i.st = .waiting ∨ i.st = .dispatched →
      s.cancelItem n st = (0, ((s.count P.spl 0x068).trace 0x08 n i 0xFF 0).completeItem n st 0)) ∧
    (∀ i, s.item? n = some i → s.itemEnded n i = false → i.st = .running → i.kind = 6 →
      (s.cancelItem n st).1 = 0 ∧ (s.cancelItem n st).2.spool.items = Tbl.upd s.spool.items n (fun i => { i with cancel := true })) ∧
    (∀ i, s.item? n = some i → s.itemEnded n i = false → i.st = .running → i.kind ≠ 1 → i.kind ≠ 6 → (s.cancelItem n st).1 = 2)) ∧
  (∀ ag c v, c < nClusters s.part → Reaches s ag (P.shc c) →
    exec (.coreEnWrite ag c v) s = .next (s.wr (P.shc c) R.shc_CORE_EN v).dropCoreless ∧
      ((∀ e ∈ s.spool.items, e.2.kind ≠ 1) → (s.wr (P.shc c) R.shc_CORE_EN v).dropCoreless = s.wr (P.shc c) R.shc_CORE_EN v)) ∧
  (s.tkuGrants.length ≤ 4 ∧ s.tkuGrants.Nodup ∧ (∀ x ∈ s.tkuGrants, x < 72 ∧ s.requests x = true) ∧
    (s.tkuGrants.length < 4 → ∀ x, x < 72 → s.requests x = true → x ∈ s.tkuGrants)) ∧
  (∀ l, s.dev ≠ Dev.ward → s.tkuGrants.getLast? = some l → Does .takeupGrant s fun t =>
    t.spool.granted = s.spool.granted ++ s.tkuGrants.filterMap (fun x => s.spool.cpls.find? fun c => c.src = x) ∧
      t.spool.cpls.length + s.tkuGrants.length = s.spool.cpls.length ∧ t.rd P.tku R.tku_ROT_PTR = (l + 1) % 72 ∧
      t = { s with spool := { s.spool with cpls := t.spool.cpls, granted := t.spool.granted }, regs := t.regs, ctrs := t.ctrs } ∧
      SameRegs s t [fkey P.tku R.tku_ROT_PTR 0]) ∧
  (s.dev = Dev.ward ∨ s.tkuGrants = [] → exec .takeupGrant s = .next s) ∧
  (s.spool.granted = [] → exec .completionDelivery s = .next s) ∧
  (∀ c r, s.spool.granted = c :: r → let u := ({ s with spool := { s.spool with granted := r } } : State)
    exec .completionDelivery s = .next (match c.item with
      | some n => u.completeItem n c.status c.result
      | none => if c.src = 61 ∧ c.info < 2 ^ 16 then u.cplToCore 32 (c.info + c.status * 2 ^ 16 + c.result * 2 ^ 24) else u)) ∧
  (∀ n i st r, s.item? n = some i → i.core = none → i.flow = 0 → s.rd P.trc R.trc_TRC_ON = 0 →
    let u := ({ s with spool := { s.spool with
      items := Tbl.del s.spool.items n, coreItem := s.spool.coreItem.filter fun e => e.2 ≠ n } } : State)
    (i.cplTo = 1 → s.completeItem n st r = u) ∧
    (i.cplTo = 2 → s.completeItem n st r = u.fabWrite i.cplAddr (natLE 8 (n + st * 2 ^ 16 + r % 2 ^ 40 * 2 ^ 24)))) ∧
  (s.spool.trcBuf = [] → exec .traceRecordAck s = .next s) ∧
  (∀ b r, s.spool.trcBuf = b :: r → s.rd P.trx R.trx_TRX_EN = 0 → let w := s.rd P.trc R.trc_TRC_WR
    let a := s.rd P.trc R.trc_TRC_BASE_LO + s.rd P.trc R.trc_TRC_BASE_HI * 2 ^ 32 + 16 * w
    ∀ v, v = (({ s with spool := { s.spool with trcBuf := r } } : State).busWrite 0 a b).count P.trc 0x040 →
      v.rd P.trx R.trx_TRX_EN = 0 →
      exec .traceRecordAck s = .next (v.wr P.trc R.trc_TRC_WR ((w + 1) % 2 ^ v.rd P.trc R.trc_TRC_LOG2)))

/-- R50, R89, R94, R97, R102, R115, R189, R200, R231, R244, R339, R351, R393: the units' items. A SEAM item of a mode that is clear ends UNIT_DISABLED; one on a
locked key slot is refused; otherwise it starts its stream, registers its range, begins its Unpick, creates its region or appends. PINK_LOAD, PLEAT and
GAUGE go to their units; a DMA item without its link or panel fails at once, else moves its bytes request by request; BUF_RELEASE frees a buffer of
its panel. The sizes of DMA requests are the model's reading (log entry 32). -/
def Obligations.SpoolUnits : Prop := ∀ (s : State) (n : Nat) (i : Item),
  let u := s.begun n
  (∀ x ∈ [(Instr.seamStream n, 1, M.pink), (.seamUnpick n, 3, M.unpick), (.seamHemCreate n, 4, M.hem), (.seamHemAppend n, 5, M.hem)],
    Queued s n 2 i → i.op = x.2.1 → s.mode x.2.2 = false → exec x.1 s = .next (u.cplItem 70 n Cs.disabled 0)) ∧
  (∀ x ∈ [(Instr.seamStream n, 1), (.seamRegister n, 2), (.seamUnpick n, 3), (.seamHemCreate n, 4), (.seamHemAppend n, 5)],
    Queued s n 2 i → i.op = x.2 → s.mode M.pink = true → s.mode M.unpick = true → s.mode M.hem = true →
    s.nsPanel (s.itemNs i) = i.panel → s.keyOpen (s.itemNs i) = false →
    exec x.1 s = .next ((u.keyRefused (s.itemNs i)).endSeam n 0x0A 0 0)) ∧
  (SeamQueued s n 1 i → s.mode M.pink = true →
    let code := u.streamRefusal i.ns i.first i.units (bitsAt i.arg1 44 2) (i.arg1.testBit 46)
    (code ≠ 0 → exec (.seamStream n) s = .next (u.endSeam n code 0 0)) ∧
    (code = 0 → ∃ (v : State) (x : Stream), exec (.seamStream n) s = .next ((v.startStream x).checkStream x.id) ∧ x.item = n ∧
      x.panel = i.panel ∧ x.ns = i.ns ∧ x.first = i.first ∧ x.count = i.units ∧ x.slot = bitsAt i.arg1 44 2 ∧
      x.strm = i.arg1.testBit 46 ∧ x.firstOff = bitsAt i.arg1 48 16 ∧ x.report = i.addr2 ∧ x.done = [] ∧ x.failed = 0 ∧
      v = { u with seam := v.seam } ∧ v.seam.streams = s.seam.streams)) ∧
  (SeamQueued s n 2 i →
    let hit := s.seam.ranges.any fun r => decide (r.ns = i.ns) && meets i.first i.units r.first r.count
    (hit = true → exec (.seamRegister n) s = .next (u.endSeam n 0x01 0 0)) ∧
    (hit = false → 4096 ≤ s.seam.ranges.length → exec (.seamRegister n) s = .next (u.endSeam n 0x02 0 0)) ∧
    (hit = false → s.seam.ranges.length < 4096 →
      let r : RecRange := ⟨i.ns, i.first, i.units, bitsAt i.arg1 32 12 + 1, i.arg1.testBit 46, i.panel⟩
      exec (.seamRegister n) s = .next (({ u with seam := { u.seam with ranges := s.seam.ranges ++ [r] } } : State).endSeam n 0 0 0))) ∧
  (SeamQueued s n 3 i → s.mode M.unpick = true →
    (s.touchesHem i.ns i.first i.units = true → exec (.seamUnpick n) s = .next ((u.count P.unpk 0x050).endSeam n 0x05 0 0)) ∧
    (s.touchesHem i.ns i.first i.units = false → ∃ v : State, exec (.seamUnpick n) s = .next v.nextUnpicks ∧
      ∃ x : Unpick, v = { u with seam := { u.seam with unpicks := s.seam.unpicks ++ [x] } } ∧ x.item = some n ∧ x.ns = i.ns ∧
        x.first = i.first ∧ x.count = i.units ∧ x.step = 0)) ∧
  (SeamQueued s n 4 i → s.mode M.hem = true → let r := u.hemMake i.ns i.first i.units
    exec (.seamHemCreate n) s = .next (r.2.2.endSeam n r.1 0 r.2.1)) ∧
  (∀ ns a k, (s.touchesHem ns a k = true → s.hemMake ns a k = (1, 0, s)) ∧
    (s.touchesHem ns a k = false → 4096 ≤ s.seam.hem.length → s.hemMake ns a k = (2, 0, s)) ∧
    (s.touchesHem ns a k = false → s.seam.hem.length < 4096 → let r := s.hemMake ns a k
      r.1 = 0 ∧ Tbl.has s.seam.hem r.2.1 = false ∧ ∃ h, Tbl.at? r.2.2.seam.hem r.2.1 = some h ∧ h.ns = ns ∧ h.first = a ∧ h.count = k ∧
        h.nextIdx = 0 ∧ h.seq = s.seam.seq ∧ h.tail = hemSeed r.2.1 ns a s.seam.seq ∧ h.openData = [] ∧ h.migWm = 0 ∧
        ∀ j, j ≠ r.2.1 → Tbl.at? r.2.2.seam.hem j = Tbl.at? s.seam.hem j)) ∧
  (SeamQueued s n 5 i → s.mode M.hem = true →
    (s.rd P.recl R.recl_READONLY ≠ 0 → exec (.seamHemAppend n) s = .next (u.endSeam n 0x0B 0 0)) ∧
    (∀ d, s.rd P.recl R.recl_READONLY = 0 → (∀ f, u.appendData i f = f d u) → exec (.seamHemAppend n) s =
      .next (if s.seam.hemWait = [] ∧ s.hemUse < s.hemBudget then u.hemTake n i.region d
        else { u with seam := { u.seam with hemWait := s.seam.hemWait ++ [(n, i.region, d)] } }))) ∧
  (Queued s n 3 i → let us := (List.range 28).filter fun k => s.pnkPresent k && (bitsAt i.arg0 8 28 == 0 || (bitsAt i.arg0 8 28).testBit k)
    exec (.pinkLoad n) s = .next (if us = [] then u.cplUnit 70 n 0x07 0
      else us.foldl (fun s k => s.startLoad k ⟨bitsAt i.arg0 0 2, i.target, i.panel, some n⟩) u)) ∧
  (Queued s n 4 i → let e := i.unit - 0x30
    let j : PleatJob := ⟨.item n, i.target, i.panel, false, [], 0⟩
    exec (.pleat n) s = .next (if s.pltOn e = true then u.pltPush e j else u.pltReturn e j)) ∧
  (Queued s n 5 i → exec (.gauge n) s = .next (u.gauSubmit i.target i.panel (some n))) ∧
  (Queued s n 6 i →
    ((s.mode M.host = false ∧ s.mode M.net = false) ∨ (i.toHost = true ∧ s.nvme.linkUp = false) →
      exec (.dma n) s = .next (u.dmaEnd n 4 i.hostAt)) ∧
    (s.mode M.host = true ∨ s.mode M.net = true → i.toHost = false ∨ s.nvme.linkUp = true →
      exec (.dma n) s = .next (if i.toHost = true ∧ s.mode M.panel = true ∧ s.panelActive i.panel = false then u.dmaEnd n 5 i.hostAt else u))) ∧
  (i.dmaDone < i.arg2 → 0 < i.chunk ∧ i.chunk ≤ 4096 ∧ i.dmaDone + i.chunk ≤ i.arg2 ∧ (hostBase ≤ i.arg1 → i.chunk ≤ 512)) ∧
  (s.item? n = some i → i.kind = 6 → i.st = .running →
    (∀ c, c = 1 ∨ c = 3 ∨ c = 4 → exec (.dmaRequestComplete n c) s = .next (s.dmaEnd n c i.hostAt)) ∧
    exec (.dmaTimeout n) s = .next (s.dmaEnd n 2 i.hostAt) ∧
    (∀ b, (∀ f, s.busRead i.panel (i.arg0 + i.dmaDone) i.chunk f = f b s) → ∀ v, v = ((s.busWrite i.panel (i.arg1 + i.dmaDone) b).countN P.pci
        0x048 i.chunk).updItem n (fun j => { j with dmaDone := j.dmaDone + i.chunk }) →
      exec (.dmaRequestComplete n 0) s = .next (if i.cancel = true then (v.count P.pci 0x040).cplItem 71 n Cs.cancelled 0
        else if i.dmaDone + i.chunk = i.arg2 then v.dmaEnd n 0 0 else v))) ∧
  (∀ c a, (s.dmaEnd n c a).rd P.pci R.pci_LAST_DMA_CODE = c % 2 ^ R.pci_LAST_DMA_CODE.w ∧
    (s.dmaEnd n c a).spool.cpls = s.spool.cpls ++ [if c = 0 then ⟨71, some n, Cs.ok, 0, 0⟩ else ⟨71, some n, Cs.unit, c, 0⟩]) ∧
  (Queued s n 7 i →
    (∀ b x, stgOfAddr i.arg0 = some b → Tbl.at? s.stg.bufs b = some x → x.panel = i.panel →
      exec (.bufRelease n) s = .next ((u.stgRelease b).completeItem n Cs.ok 0)) ∧
    (stgOfAddr i.arg0 = none → exec (.bufRelease n) s = .next (u.completeItem n Cs.badBuffer 0)))

/-- R3, R348, R349, R370 to R374: the host link, the network and the sideband. A link trains at a speed and width that the part supports; ports come
and go; GROUPING is Thimble's, and one 400 Gbit/s port is refused on the OD-7420; a connect is accepted or refused; a lost connection drops its commands; a capsule
is a command of its connection; pause frames stop their priorities; the sideband answers every poll and tunnelled command. The structures of NVMe-MI are free
values (log entry 36). -/
def Obligations.Network : Prop := ∀ s : State,
  (∀ sp w b, s.mode M.host = true → s.domOn 36 = true → s.nvme.perstLow = false → 1 ≤ sp → sp ≤ 5 →
    w ∈ (if s.part = .od7420 then [1, 2, 4, 8] else [1, 2, 4, 8, 16]) → Does (.pcieLinkUp sp w b) s fun t =>
      t.rd P.pci R.pci_LINK_SPEED = sp ∧ t.rd P.pci R.pci_LINK_WIDTH = w ∧ t.nvme = { s.nvme with linkUp := true } ∧
        t.rd P.pci R.pci_SRIS_ON = (if b = true then 1 else 0) ∧ (t.rd P.pci R.common_INT_RAW).testBit 0 = true ∧
        t = { s with nvme := t.nvme, regs := t.regs, outbox := t.outbox }) ∧
  (∀ sp w b, s.mode M.host = false → exec (.pcieLinkUp sp w b) s = .next s) ∧
  (s.nvme.linkUp = true → Does .pcieLinkDown s fun t => t.rd P.pci R.pci_LINK_SPEED = 0 ∧ t.rd P.pci R.pci_LINK_WIDTH = 0 ∧
    t.nvme = { s.nvme with linkUp := false } ∧ (t.rd P.pci R.common_INT_RAW).testBit 1 = true ∧
    t = { s with nvme := t.nvme, regs := t.regs, outbox := t.outbox }) ∧
  (∀ p, s.netUp = true → p < s.nPorts → Does (.ethPortUp p) s fun t => (t.rd P.eth R.eth_PORT_UP).testBit p = true ∧
    (∀ q, q < 4 → q ≠ p → (t.rd P.eth R.eth_PORT_UP).testBit q = (s.rd P.eth R.eth_PORT_UP).testBit q) ∧
    (t.rd P.eth R.common_INT_RAW).testBit 0 = true ∧ t = { s with regs := t.regs, outbox := t.outbox } ∧
    SameRegs s t [fkey P.eth R.eth_PORT_UP 0, fkey P.eth R.common_INT_RAW 0]) ∧
  (∀ p, s.pageUp P.eth = true → p < 4 → (s.rd P.eth R.eth_PORT_UP).testBit p = true → Does (.ethPortDown p) s fun t =>
    (t.rd P.eth R.eth_PORT_UP).testBit p = false ∧ (∀ e, e ∈ t.net.paused ↔ e ∈ s.net.paused ∧ e.1 ≠ p) ∧
      (t.rd P.eth R.common_INT_RAW).testBit 1 = true ∧ t.net.conns = s.net.conns ∧
      t = { s with net := t.net, regs := t.regs, outbox := t.outbox }) ∧
  (∀ ag v, Reaches s ag P.eth → ag ≠ .thimble ∨ v = 3 → v < 4 → exec (.groupingWrite ag v) s = .next s) ∧
  (Reaches s .thimble P.eth →
    (s.part = .od7420 → Does (.groupingWrite .thimble 2) s fun t => t.rd P.eth R.eth_CFG_REJ = 1 ∧
      t.rd P.eth R.eth_GROUPING = s.rd P.eth R.eth_GROUPING ∧ (t.rd P.eth R.common_INT_RAW).testBit 2 = true) ∧
    (∀ v, v < 2 ∨ (v = 2 ∧ s.part ≠ .od7420) → Does (.groupingWrite .thimble v) s fun t => t.rd P.eth R.eth_GROUPING = v ∧
      t.rd P.eth R.eth_PORT_UP = s.rd P.eth R.eth_PORT_UP % 2 ^ ((if s.part = .od7420 then 2 else 4) / 2 ^ v) ∧
      t = { s with regs := t.regs } ∧ SameRegs s t [fkey P.eth R.eth_GROUPING 0, fkey P.eth R.eth_PORT_UP 0])) ∧
  (∀ nqn c q hd dd, s.netUp = true → s.pageUp P.toe = true → s.en P.toe = true → s.upState = true → s.rd P.eth R.eth_PORT_UP ≠ 0 →
    let n : List Byte := nqn.map (BitVec.ofNat 8)
    (s.connectOk n c q hd dd = true → Does (.tcpConnect nqn c q hd dd) s fun t =>
      t.net = { s.net with conns := Tbl.put s.net.conns s.newConn ⟨c, q, s.panelOf ((s.hostPanel n).getD 0), n, []⟩ } ∧
        t = { s with net := t.net, ctrs := t.ctrs }) ∧
    (s.connectOk n c q hd dd = false → Does (.tcpConnect nqn c q hd dd) s fun t => ∃ l, t.outbox = s.outbox ++ .tcpRefused c q :: l ∧
      (t.rd P.toe R.common_INT_RAW).testBit 1 = true ∧ t = { s with regs := t.regs, outbox := t.outbox })) ∧
  (∀ c, Tbl.has s.net.conns c = true →
    exec (.tcpConnectionLost c) s = .next (s.loseConn c) ∧
    (Does (.tcpRetransmitTimeout c) s fun t => t.outbox = s.outbox ++ [.tcpSegment c] ∧ t = { s with ctrs := t.ctrs, outbox := t.outbox }) ∧
    ((∀ e ∈ s.nvme.cmds, e.2.h.src ≠ .tcp c) → Tbl.has (s.loseConn c).net.conns c = false ∧
      ((s.loseConn c).rd P.toe R.common_INT_RAW).testBit 0 = true ∧ (s.loseConn c).nvme = s.nvme ∧ (s.loseConn c).mem = s.mem)) ∧
  (∀ c, Tbl.has s.net.conns c = false → exec (.tcpConnectionLost c) s = .next s ∧ exec (.tcpRetransmitTimeout c) s = .next s) ∧
  (∀ c x cid ns rs io, Tbl.at? s.net.conns c = some x → s.netUp = true → let h := connHdr c x cid ns rs
    (ioPtr io = none → exec (.nvmeTcpCapsule c cid ns rs io) s = .next (s.ioRun h io)) ∧
    (∀ b, ioPtr io = some (.inline b) → exec (.nvmeTcpCapsule c cid ns rs io) s =
      .next (if s.rd P.toe R.toe_ICD_MAX < b.length then s.fetch h (fun _ s => s.reply h 0x00F 0 0) else s.ioRun h io)) ∧
    (∀ a k m, io = .write a k (.h2c m) → exec (.nvmeTcpCapsule c cid ns rs io) s = .next (s.ioRun h io))) ∧
  (∀ p k, s.netUp = true → s.portUp p = true → s.upState = true → Does (.networkControlPacket p k) s fun t =>
    t.outbox = s.outbox ++ (if s.trust.fwRunning = true then [.netReply p k] else []) ∧ t = { s with ctrs := t.ctrs, outbox := t.outbox }) ∧
  (∀ p m q, s.netUp = true → s.portUp p = true → Does (.pauseFrameReceived p m q) s fun t =>
    let l := (List.range 8).filter fun i => s.rd P.eth R.eth_PFC_EN = 0 ∨ m.testBit i = true
    (∀ e, e ∈ t.net.paused ↔ if e.1 = p ∧ e.2 ∈ l then q ≠ 0 else e ∈ s.net.paused) ∧
      t.outbox = s.outbox ++ l.map (fun i => .pauseTx p i (q != 0)) ∧
      t = { s with net := { s.net with paused := t.net.paused }, ctrs := t.ctrs, outbox := t.outbox }) ∧
  (∀ c x cid a d n y, Tbl.at? s.net.conns c = some x → x.waits = [] → Tbl.at? s.nvme.cmds (cmdKey (connHdr c x cid 0 0)) = some y →
    y.dp = .h2c n → exec (.h2cdataPdu c cid a d) s =
      .next (s.updCmd (cmdKey (connHdr c x cid 0 0)) (fun z => { z with rxd := rxPut z.rxd a n d })).tryWrites) ∧
  (∀ t n a d k, (∀ j, j < d.length → a + j = k → k < n → Tbl.at? (rxPut t a n d) k = d[j]?) ∧
    (k < a ∨ a + d.length ≤ k ∨ n ≤ k → Tbl.at? (rxPut t a n d) k = Tbl.at? t k)) ∧
  (∀ a, a < 128 → s.rd P.sbd R.sbd_I3C_EN ≠ 0 → s.powered = true → s.dev ≠ Dev.fill → Does (.i3cDynamicAddressAssignment a) s fun t =>
    t.rd P.sbd R.sbd_I3C_DYN_ADDR = a ∧ t.rd P.sbd R.sbd_I3C_ADDR_VALID = 1 ∧ t = { s with regs := t.regs } ∧
      SameRegs s t [fkey P.sbd R.sbd_I3C_DYN_ADDR 0, fkey P.sbd R.sbd_I3C_ADDR_VALID 0]) ∧
  (MiUp s → let u := (s.count P.sbd 0x040).raise P.sbd 0
    (∀ d, exec (.readNvmeMiDataStructure d) s = .next (u.send (.mi 0 (miBytes d 32)))) ∧
    exec .nvmSubsystemHealthStatusPoll s = .next (u.send (.mi 0 (miBytes 0x100 8))) ∧
    exec .controllerHealthStatusPoll s = .next (u.send (.mi 0 (miBytes 0x101 16))) ∧
    (∀ c v, Tbl.at? s.nvme.miConfig c = some v → exec (.configurationGet c) s = .next (u.send (.mi 0 (natLE 4 v)))) ∧
    (∀ c v, v < 2 ^ 32 → exec (.configurationSet c v) s =
      .next (({ u with nvme := { u.nvme with miConfig := Tbl.put s.nvme.miConfig c v } } : State).send (.mi 0 []))) ∧
    (∀ a k, ∃ b : List Byte, b.length = k ∧ exec (.vpdRead a k) s = .next (u.send (.mi 0 b))) ∧
    (∀ f, exec (.miTunnelledCommand (.getFeatures f)) s =
      .next ((u.count P.sbd 0x048).send (.mi 0 (natLE 4 ((u.count P.sbd 0x048).feature f))))) ∧
    (∀ o, exec (.miTunnelledCommand (.other o)) s = .next ((u.count P.sbd 0x048).send (.mi miBadOpcode []))))

/-- R376, R378, R379, R382, R383, R385, R386: panels. A PAN command is refused while one runs; the first failing check gives its result; activation and reset
follow their steps, from closed admission over draining or squashing to reset-complete; SQ_PANEL changes only while the queue does not exist. -/
def Obligations.Panels : Prop := ∀ s : State,
  (∀ ag, Reaches s ag P.pan → ∀ x ∈ [(Instr.panActivate ag, 0), (.panReset ag, 1), (.panRemove ag, 2)],
    let u := (s.wr P.pan R.pan_PAN_OP x.2).wr P.pan R.pan_PAN_BUSY 1
    let p := s.rd P.pan R.pan_PAN_ID
    (s.rd P.pan R.pan_PAN_BUSY ≠ 0 → Does x.1 s fun t => t.rd P.pan R.pan_PAN_RESULT = 7 ∧ t.rd P.pan R.pan_PAN_OP = x.2 ∧
      t = { s with regs := t.regs } ∧ SameRegs s t [fkey P.pan R.pan_PAN_OP 0, fkey P.pan R.pan_PAN_RESULT 0]) ∧
    (s.rd P.pan R.pan_PAN_BUSY = 0 → ThmIdle s → exec x.1 s = .next (State.serialNext 2
      (if s.mode M.panel = false then u.panEnd 5
       else if x.2 = 0 then
         if u.panelActive p = true then u.panEnd 1
         else if u.pasidUsed (s.rd P.pan R.pan_NEW_PASID) = true then u.panEnd 3 else u.activate p (s.rd P.pan R.pan_NEW_PASID)
       else if x.2 = 2 ∧ p = 0 then u.panEnd 4
       else if u.panelActive p = false then u.panEnd 2 else u.startReset p x.2)))) ∧
  (∀ c, let t := s.panEnd c
    t.rd P.pan R.pan_PAN_BUSY = 0 ∧ t.rd P.pan R.pan_PAN_RESULT = c % 256 ∧ t.serial = { s.serial with pan := none } ∧
      (t.rd P.pan R.common_INT_RAW).testBit (if c = 0 ∨ c = 6 then 0 else 1) = true ∧
      t = { s with serial := t.serial, regs := t.regs, outbox := t.outbox }) ∧
  (∀ p op, 0 < s.rd P.pan R.pan_DRAIN_TMO_MS → let t := s.startReset p op
    t.rdI P.pan R.pan_RESETTING p = 1 ∧ p ∈ t.panels.closed ∧ t.serial.pan = some ⟨p, op, 2, false⟩ ∧
      t = { s with panels := { s.panels with closed := t.panels.closed }, serial := { s.serial with pan := t.serial.pan }, regs := t.regs } ∧
      SameRegs s t [fkey P.pan R.pan_RESETTING p]) ∧
  (s.serial.pan = none → ∀ i ∈ [Instr.panelDrainDone, .panelDrainTimeout, .panelSquashDone, .panelZeroingDone], exec i s = .next s) ∧
  (∀ r, s.serial.pan = some r →
    (r.step = 2 → exec .panelDrainDone s = .next (if s.panelIdle r.panel = true then (s.panCleanup r).serialOn else s) ∧
      exec .panelDrainTimeout s = .next (if s.panelIdle r.panel = true then (s.panCleanup r).serialOn else s.squash r.panel)) ∧
    (r.step = 3 → exec .panelSquashDone s =
      .next (if ∀ e ∈ s.spool.items, e.2.panel ≠ r.panel then (s.panCleanup r).serialOn else s)) ∧
    (r.step = 6 → exec .panelZeroingDone s = .next (s.panRelease r).serialOn) ∧
    (r.step ≠ 6 → exec .panelZeroingDone s = .next s)) ∧
  (∀ ag q p, 1 ≤ q → q ≤ 512 → p < 64 → Reaches s ag P.pan →
    (Tbl.has s.nvme.sqs q = true → Does (.sqPanelWrite ag q p) s fun t => t.rd P.pan R.pan_CFG_REJ = 1 ∧ t = { s with regs := t.regs } ∧
      SameRegs s t [fkey P.pan R.pan_CFG_REJ 0]) ∧
    (Tbl.has s.nvme.sqs q = false → Does (.sqPanelWrite ag q p) s fun t => t.rdI P.pan R.pan_SQ_PANEL q = p ∧ t = { s with regs := t.regs } ∧
      SameRegs s t [fkey P.pan R.pan_SQ_PANEL q]))

/-- R391, R394, R474, R481 to R484: mode changes and the mailbox. A request while one waits or runs is refused; one whose check fails changes nothing but
its result; the modes change once, after the drain. The mailbox reads and writes the pattern block, opens and locks key slots, rewraps them, and
writes firmware; a command of an issuer that the table does not allow ends NOT_ALLOWED; a pattern write programs copy B, then copy A; what a failed
programming leaves is free. A halted Bobbin core restarts at most three times in an hour. -/
def Obligations.ModesAndMailbox : Prop := ∀ s : State,
  (∀ ag, ag ≠ .thimble → Reaches s ag P.mode → s.power.seq = .run → let u := s.wr P.mode R.mode_REQ_BUSY 1
    (s.rd P.mode R.mode_REQ_BUSY ≠ 0 → Does (.reqGo ag) s fun t => t.rd P.mode R.mode_REQ_RESULT = 5 ∧ t = { s with regs := t.regs } ∧
      SameRegs s t [fkey P.mode R.mode_REQ_RESULT 0]) ∧
    (s.rd P.mode R.mode_REQ_BUSY = 0 → ThmIdle s → exec (.reqGo ag) s =
      .next (State.serialNext 2 (if s.modeCode ≠ 0 then u.modeRefuse s.modeCode else u.startMode)))) ∧
  (s.modeCode = if s.upState = false ∧ s.dev ≠ Dev.doze then 2 else if s.rd P.pat R.pat_PATTERN_DEFAULTED ≠ 0 then 3
    else if andNot (Nat.xor (s.rd P.mode R.mode_MODE_REQ) (s.rd P.mode R.mode_MODE_EN)) rtModes ≠ 0 then 1 else 0) ∧
  (∀ r, s.serial.mode = some r → r.step = 0 →
    let idle := ((List.range 12).filter fun b => s.mode b && !r.target.testBit b).all fun b => s.modeIdle r.drain b
    exec .modeDrainDone s = .next (if idle = true then s.commitMode r else s)) ∧
  (∀ r, s.serial.mode = some r → r.step = 1 → ∃ v : State, exec .modeEnableDone s = .next v.serialOn ∧ v.rd P.mode R.mode_REQ_BUSY = 0 ∧
    v.rd P.mode R.mode_REQ_RESULT = 0 ∧ v.serial = { s.serial with mode := none } ∧ (v.rd P.mode R.common_INT_RAW).testBit 0 = true ∧
    v = { s with serial := v.serial, regs := v.regs, ctrs := v.ctrs, outbox := v.outbox }) ∧
  (s.serial.mode = none → exec .modeDrainDone s = .next s ∧ exec .modeEnableDone s = .next s) ∧
  (∀ ag, Reaches s ag P.thm → s.rd P.thm R.thm_MB_BUSY ≠ 0 →
    ∀ x ∈ [(Instr.patternRead ag, 1), (.patternWrite ag, 2), (.keyUnlock ag, 3), (.keyLock ag, 4), (.keyPolicy ag, 5), (.fwWrite ag, 7)],
      Does x.1 s fun t => t.rd P.thm R.thm_MB_REJ = 1 ∧ t = { s with regs := t.regs } ∧
        SameRegs s t [fkey P.thm R.thm_MB_REJ 0, fkey P.thm R.thm_MB_CMD 0]) ∧
  (∀ ag, MbReady s ag →
    ∀ x ∈ [(Instr.patternRead ag, 1), (.patternWrite ag, 2), (.keyUnlock ag, 3), (.keyLock ag, 4), (.keyPolicy ag, 5), (.fwWrite ag, 7)],
      (s.mbAllowed ag x.2 = false → exec x.1 s = .next (State.serialNext 2 ((s.mbFrom x.2).mbEnd 1))) ∧
      (s.mbAllowed ag x.2 = true → let u := s.mbFrom x.2
        let n := s.rd P.thm R.thm_MB_ARG0
        (x.2 = 1 → exec x.1 s = .next (State.serialNext 2 ((u.fabWrite s.mbAddr s.trust.pattern).mbEnd 0))) ∧
        (x.2 = 2 → ∀ b, (∀ f, u.blockRead s.mbAddr 4096 f = f b u) → exec x.1 s = .next (State.serialNext 2 (if patForm b = true then
          { u with serial := { u.serial with pat := some ⟨s.patFinish b, 1⟩ } } else u.mbEnd 2))) ∧
        (x.2 = 3 → s.rd P.pat R.pat_PATTERN_DEFAULTED ≠ 0 → exec x.1 s = .next (State.serialNext 2 (u.mbEnd 5))) ∧
        (x.2 = 3 → s.rd P.pat R.pat_PATTERN_DEFAULTED = 0 → n < 1024 → 8 ≤ (Tbl.at? s.trust.keyFails n).getD 0 →
          exec x.1 s = .next (State.serialNext 2 (u.mbEnd 4))) ∧
        (x.2 = 3 → s.rd P.pat R.pat_PATTERN_DEFAULTED = 0 → n < 1024 → (Tbl.at? s.trust.keyFails n).getD 0 < 8 →
          ∀ k, (∀ f, u.blockRead s.mbAddr 32 f = f k u) → ∃ w : State, exec x.1 s = .next (State.serialNext 2 w) ∧
            match u.openKey n (some k) with
            | some z => w = (({ u with trust := { u.trust with keyFails := Tbl.del s.trust.keyFails n } } : State).kload n z).mbEnd 0
            | none => ∃ v : State, w = v.mbEnd 3 ∧ v.trust.keySlots = s.trust.keySlots ∧
              Tbl.at? v.trust.keyFails n = some ((Tbl.at? s.trust.keyFails n).getD 0 + 1)) ∧
        (x.2 = 4 → exec x.1 s = .next (State.serialNext 2 (if 1024 ≤ n then u.mbEnd 9 else (u.kzap n).mbEnd 0))) ∧
        (x.2 = 5 → Tbl.at? s.trust.keySlots (n % 65536) = none → exec x.1 s = .next (State.serialNext 2 (u.mbEnd 9))) ∧
        (x.2 = 5 → ∀ k, n < 1024 → Tbl.at? s.trust.keySlots n = some k →
          exec x.1 s = .next (State.serialNext 2 ((u.storeKey n none k).mbEnd 0))) ∧
        (x.2 = 7 → 1 < n ∨ s.rd P.thm R.thm_MB_ARG1 = 0 ∨ slotSize < s.rd P.thm R.thm_MB_ARG1 →
          exec x.1 s = .next (State.serialNext 2 (u.mbEnd 9))) ∧
        (x.2 = 7 → n ≤ 1 → 0 < s.rd P.thm R.thm_MB_ARG1 → s.rd P.thm R.thm_MB_ARG1 ≤ slotSize →
          ∀ d, (∀ f, u.blockRead s.mbAddr (s.rd P.thm R.thm_MB_ARG1) f = f d u) → let r := (u.norWrite (norSlot n) d).commitFw n
          exec x.1 s = .next (State.serialNext 2 (r.2.mbEnd (if r.1 = true then 0 else 7)))))) ∧
  (∀ c, let t := s.mbEnd c
    t.rd P.thm R.thm_MB_BUSY = 0 ∧ t.rd P.thm R.thm_MB_RESULT = c % 256 ∧ t.serial = { s.serial with pat := none } ∧
      (t.rd P.thm R.common_INT_RAW).testBit (if c = 0 then 0 else 1) = true ∧
      t = { s with serial := t.serial, regs := t.regs, ctrs := t.ctrs, outbox := t.outbox }) ∧
  (∀ r, s.serial.pat = some r → let v := s.norWrite (norPattern r.copy) r.block
    (s.dev = Dev.ward → exec (.patternCopyProgrammed true) s = .next { v with serial := { v.serial with pat := none } }) ∧
    (v.dev ≠ Dev.ward → exec (.patternCopyProgrammed true) s = .next (if r.copy = 1 then
      { v with serial := { v.serial with pat := some { r with copy := 0 } } } else (v.mbEnd 0).serialOn)) ∧
    (s.dev ≠ Dev.ward → exec (.patternCopyProgrammed false) s = .next (((s.drawFree 32768).2.norWrite (norPattern r.copy)
      (natLE 4096 (s.drawFree 32768).1)).mbEnd 8).serialOn)) ∧
  (∀ k c b, Tbl.at? s.cores (32 + k) = some c → k < 8 → c.halted = true → s.pagesAwake = true → s.dev ≠ Dev.ward →
    let recent := s.trust.restarts.filter fun t => s.rtcUs < t + 3600000000
    (b = false ∨ 3 ≤ recent.length → exec (.bobbinRestart k b) s = .next (s.fault' 0x05 P.bob 0 0)) ∧
    (b = true → recent.length < 3 → Does (.bobbinRestart k b) s fun t => t.trust = { s.trust with restarts := recent ++ [s.rtcUs] } ∧
      Tbl.at? t.cores (32 + k) = some { coreZero with psw := 0x1000, ls := c.ls, bits := c.bits, wins := c.wins, st := .run } ∧
      (t.rd P.thm R.common_INT_RAW).testBit 2 = true ∧ (∀ j, j ≠ 32 + k → Tbl.at? t.cores j = Tbl.at? s.cores j) ∧
      t = { s with trust := t.trust, cores := t.cores, regs := t.regs, ctrs := t.ctrs, outbox := t.outbox }))

/-- The block's step: the command at the front of the queue is carried out on the state with the queue's rest; on an empty queue one fabric cycle passes
(R23, R341), which moves the time and, each microsecond, the residency counter of the power state (R465), and sends a waiting UART byte (R511). At reset nothing waits,
power-on reset is held (R519), no address is listed and every register field reads its reset value. The queue, the cycle as the idle step and the part that is
powered are the model's choices (log entries 1, 3 and 6). -/
def Obligations.StepAndReset : Prop :=
  (∀ (s : State) c rest, s.pending = c :: rest → step s = exec c { s with pending := rest }) ∧
  (∀ s : State, s.pending = [] → s.power.seq = .heldInReset → step s = .next s) ∧
  (∀ s : State, s.pending = [] → s.power.seq = .run → s.uartTx = [] → s.spool.coreItem = [] → ∃ t : State, step s = .next t ∧
    t.splTime = (s.splTime + 1) % 2 ^ 56 ∧
    (s.cycFrac + 1 < s.cyclesPerUs → t.cycFrac = s.cycFrac + 1 ∧ t.rtcUs = s.rtcUs ∧ t.ctrs = s.ctrs) ∧
    (s.cyclesPerUs ≤ s.cycFrac + 1 → t.cycFrac = 0 ∧ t.rtcUs = s.rtcUs + 1 ∧
      (s.frozen P.pwr = false → t.ctr P.pwr s.residency = (s.ctr P.pwr s.residency + 1) % 2 ^ 64)) ∧
    t = { s with splTime := t.splTime, cycFrac := t.cycFrac, rtcUs := t.rtcUs, ctrs := t.ctrs, spool := { s.spool with portBusy := false } }) ∧
  (∀ (s : State) b r, s.pending = [] → s.power.seq ≠ .heldInReset → s.uartTx = b :: r → s.cycFrac + 1 < s.cyclesPerUs →
    ∃ t : State, step s = .next t ∧ t.uartTx = r ∧ t.outbox = s.outbox ++ [.uart b]) ∧
  State.reset.pending = [] ∧ State.reset.power.seq = .heldInReset ∧ State.reset.mem = [] ∧ Memory.wf State.reset.mem = true ∧
  State.reset.dev = Dev.fill ∧ (∀ p f i, State.reset.rdI p f i = fieldReset .od7400 p f i) ∧ State.reset.rd P.gau R.gau_QUOTA = 131072 ∧
  State.reset.rd P.gcb R.gcb_TMO = 200 ∧ State.reset.rd P.glb R.glb_STG_MIN_MEDIA = 256

/-- R281, R287, R288, R297, R298: the encoding of the Agrek instructions. For every instruction that has an encoding, whatever bytes follow, reading its bytes
gives it back, with every specifier and every extension value, and the bytes that follow; behind a prefix the same, but for the opcodes on
which no prefix may stand; the length that an instruction advances the PC by is the number of its bytes. -/
def Obligations.AgrekEncoding : Prop := ∀ (i : AgInsn) (r : List Byte), insnCanon i = true →
  decInsn (encInsn i ++ r) = .insn i r ∧
  (∀ p, escFF i.mn = false → decTop (by8 (rpByte p) :: (encInsn i ++ r)) = (some p, .insn i r)) ∧
  decTop (encInsn i ++ r) = (none, .insn i r) ∧
  (encInsn i).length = insnLen i
end

