-- ==== Sys2Proof/Laws/State.lean ====
section
/-!
SUPPORT. Sys2Proof/Laws/State.lean: what each update of the state leaves alone, one lemma per field per update.
-/

namespace Sys2Proof.Machine

/-! ### wrI -/

@[simp] theorem State.wrI_part (s : State) (p : Nat) (f : Fld) (i v : Nat) : (s.wrI p f i v).part = s.part := rfl
@[simp] theorem State.wrI_board (s : State) (p : Nat) (f : Fld) (i v : Nat) : (s.wrI p f i v).board = s.board := rfl
@[simp] theorem State.wrI_loaded (s : State) (p : Nat) (f : Fld) (i v : Nat) : (s.wrI p f i v).loaded = s.loaded := rfl
@[simp] theorem State.wrI_ctrs (s : State) (p : Nat) (f : Fld) (i v : Nat) : (s.wrI p f i v).ctrs = s.ctrs := rfl
@[simp] theorem State.wrI_shadow (s : State) (p : Nat) (f : Fld) (i v : Nat) : (s.wrI p f i v).shadow = s.shadow := rfl
@[simp] theorem State.wrI_mem (s : State) (p : Nat) (f : Fld) (i v : Nat) : (s.wrI p f i v).mem = s.mem := rfl
@[simp] theorem State.wrI_nor (s : State) (p : Nat) (f : Fld) (i v : Nat) : (s.wrI p f i v).nor = s.nor := rfl
@[simp] theorem State.wrI_gbit (s : State) (p : Nat) (f : Fld) (i v : Nat) : (s.wrI p f i v).gbit = s.gbit := rfl
@[simp] theorem State.wrI_rtcUs (s : State) (p : Nat) (f : Fld) (i v : Nat) : (s.wrI p f i v).rtcUs = s.rtcUs := rfl
@[simp] theorem State.wrI_splTime (s : State) (p : Nat) (f : Fld) (i v : Nat) : (s.wrI p f i v).splTime = s.splTime := rfl
@[simp] theorem State.wrI_cycFrac (s : State) (p : Nat) (f : Fld) (i v : Nat) : (s.wrI p f i v).cycFrac = s.cycFrac := rfl
@[simp] theorem State.wrI_free (s : State) (p : Nat) (f : Fld) (i v : Nat) : (s.wrI p f i v).free = s.free := rfl
@[simp] theorem State.wrI_outbox (s : State) (p : Nat) (f : Fld) (i v : Nat) : (s.wrI p f i v).outbox = s.outbox := rfl
@[simp] theorem State.wrI_power (s : State) (p : Nat) (f : Fld) (i v : Nat) : (s.wrI p f i v).power = s.power := rfl
@[simp] theorem State.wrI_trust (s : State) (p : Nat) (f : Fld) (i v : Nat) : (s.wrI p f i v).trust = s.trust := rfl
@[simp] theorem State.wrI_serial (s : State) (p : Nat) (f : Fld) (i v : Nat) : (s.wrI p f i v).serial = s.serial := rfl
@[simp] theorem State.wrI_fault (s : State) (p : Nat) (f : Fld) (i v : Nat) : (s.wrI p f i v).fault = s.fault := rfl
@[simp] theorem State.wrI_stg (s : State) (p : Nat) (f : Fld) (i v : Nat) : (s.wrI p f i v).stg = s.stg := rfl
@[simp] theorem State.wrI_integ (s : State) (p : Nat) (f : Fld) (i v : Nat) : (s.wrI p f i v).integ = s.integ := rfl
@[simp] theorem State.wrI_dram (s : State) (p : Nat) (f : Fld) (i v : Nat) : (s.wrI p f i v).dram = s.dram := rfl
@[simp] theorem State.wrI_seam (s : State) (p : Nat) (f : Fld) (i v : Nat) : (s.wrI p f i v).seam = s.seam := rfl
@[simp] theorem State.wrI_nand (s : State) (p : Nat) (f : Fld) (i v : Nat) : (s.wrI p f i v).nand = s.nand := rfl
@[simp] theorem State.wrI_selv (s : State) (p : Nat) (f : Fld) (i v : Nat) : (s.wrI p f i v).selv = s.selv := rfl
@[simp] theorem State.wrI_servo (s : State) (p : Nat) (f : Fld) (i v : Nat) : (s.wrI p f i v).servo = s.servo := rfl
@[simp] theorem State.wrI_trd (s : State) (p : Nat) (f : Fld) (i v : Nat) : (s.wrI p f i v).trd = s.trd := rfl
@[simp] theorem State.wrI_pink (s : State) (p : Nat) (f : Fld) (i v : Nat) : (s.wrI p f i v).pink = s.pink := rfl
@[simp] theorem State.wrI_pleat (s : State) (p : Nat) (f : Fld) (i v : Nat) : (s.wrI p f i v).pleat = s.pleat := rfl
@[simp] theorem State.wrI_gauge (s : State) (p : Nat) (f : Fld) (i v : Nat) : (s.wrI p f i v).gauge = s.gauge := rfl
@[simp] theorem State.wrI_spool (s : State) (p : Nat) (f : Fld) (i v : Nat) : (s.wrI p f i v).spool = s.spool := rfl
@[simp] theorem State.wrI_cores (s : State) (p : Nat) (f : Fld) (i v : Nat) : (s.wrI p f i v).cores = s.cores := rfl
@[simp] theorem State.wrI_caches (s : State) (p : Nat) (f : Fld) (i v : Nat) : (s.wrI p f i v).caches = s.caches := rfl
@[simp] theorem State.wrI_nvme (s : State) (p : Nat) (f : Fld) (i v : Nat) : (s.wrI p f i v).nvme = s.nvme := rfl
@[simp] theorem State.wrI_net (s : State) (p : Nat) (f : Fld) (i v : Nat) : (s.wrI p f i v).net = s.net := rfl
@[simp] theorem State.wrI_panels (s : State) (p : Nat) (f : Fld) (i v : Nat) : (s.wrI p f i v).panels = s.panels := rfl
@[simp] theorem State.wrI_uartTx (s : State) (p : Nat) (f : Fld) (i v : Nat) : (s.wrI p f i v).uartTx = s.uartTx := rfl
@[simp] theorem State.wrI_uartRx (s : State) (p : Nat) (f : Fld) (i v : Nat) : (s.wrI p f i v).uartRx = s.uartRx := rfl
@[simp] theorem State.wrI_pending (s : State) (p : Nat) (f : Fld) (i v : Nat) : (s.wrI p f i v).pending = s.pending := rfl

/-! ### wr -/

@[simp] theorem State.wr_part (s : State) (p : Nat) (f : Fld) (v : Nat) : (s.wr p f v).part = s.part := rfl
@[simp] theorem State.wr_board (s : State) (p : Nat) (f : Fld) (v : Nat) : (s.wr p f v).board = s.board := rfl
@[simp] theorem State.wr_loaded (s : State) (p : Nat) (f : Fld) (v : Nat) : (s.wr p f v).loaded = s.loaded := rfl
@[simp] theorem State.wr_ctrs (s : State) (p : Nat) (f : Fld) (v : Nat) : (s.wr p f v).ctrs = s.ctrs := rfl
@[simp] theorem State.wr_shadow (s : State) (p : Nat) (f : Fld) (v : Nat) : (s.wr p f v).shadow = s.shadow := rfl
@[simp] theorem State.wr_mem (s : State) (p : Nat) (f : Fld) (v : Nat) : (s.wr p f v).mem = s.mem := rfl
@[simp] theorem State.wr_nor (s : State) (p : Nat) (f : Fld) (v : Nat) : (s.wr p f v).nor = s.nor := rfl
@[simp] theorem State.wr_gbit (s : State) (p : Nat) (f : Fld) (v : Nat) : (s.wr p f v).gbit = s.gbit := rfl
@[simp] theorem State.wr_rtcUs (s : State) (p : Nat) (f : Fld) (v : Nat) : (s.wr p f v).rtcUs = s.rtcUs := rfl
@[simp] theorem State.wr_splTime (s : State) (p : Nat) (f : Fld) (v : Nat) : (s.wr p f v).splTime = s.splTime := rfl
@[simp] theorem State.wr_cycFrac (s : State) (p : Nat) (f : Fld) (v : Nat) : (s.wr p f v).cycFrac = s.cycFrac := rfl
@[simp] theorem State.wr_free (s : State) (p : Nat) (f : Fld) (v : Nat) : (s.wr p f v).free = s.free := rfl
@[simp] theorem State.wr_outbox (s : State) (p : Nat) (f : Fld) (v : Nat) : (s.wr p f v).outbox = s.outbox := rfl
@[simp] theorem State.wr_power (s : State) (p : Nat) (f : Fld) (v : Nat) : (s.wr p f v).power = s.power := rfl
@[simp] theorem State.wr_trust (s : State) (p : Nat) (f : Fld) (v : Nat) : (s.wr p f v).trust = s.trust := rfl
@[simp] theorem State.wr_serial (s : State) (p : Nat) (f : Fld) (v : Nat) : (s.wr p f v).serial = s.serial := rfl
@[simp] theorem State.wr_fault (s : State) (p : Nat) (f : Fld) (v : Nat) : (s.wr p f v).fault = s.fault := rfl
@[simp] theorem State.wr_stg (s : State) (p : Nat) (f : Fld) (v : Nat) : (s.wr p f v).stg = s.stg := rfl
@[simp] theorem State.wr_integ (s : State) (p : Nat) (f : Fld) (v : Nat) : (s.wr p f v).integ = s.integ := rfl
@[simp] theorem State.wr_dram (s : State) (p : Nat) (f : Fld) (v : Nat) : (s.wr p f v).dram = s.dram := rfl
@[simp] theorem State.wr_seam (s : State) (p : Nat) (f : Fld) (v : Nat) : (s.wr p f v).seam = s.seam := rfl
@[simp] theorem State.wr_nand (s : State) (p : Nat) (f : Fld) (v : Nat) : (s.wr p f v).nand = s.nand := rfl
@[simp] theorem State.wr_selv (s : State) (p : Nat) (f : Fld) (v : Nat) : (s.wr p f v).selv = s.selv := rfl
@[simp] theorem State.wr_servo (s : State) (p : Nat) (f : Fld) (v : Nat) : (s.wr p f v).servo = s.servo := rfl
@[simp] theorem State.wr_trd (s : State) (p : Nat) (f : Fld) (v : Nat) : (s.wr p f v).trd = s.trd := rfl
@[simp] theorem State.wr_pink (s : State) (p : Nat) (f : Fld) (v : Nat) : (s.wr p f v).pink = s.pink := rfl
@[simp] theorem State.wr_pleat (s : State) (p : Nat) (f : Fld) (v : Nat) : (s.wr p f v).pleat = s.pleat := rfl
@[simp] theorem State.wr_gauge (s : State) (p : Nat) (f : Fld) (v : Nat) : (s.wr p f v).gauge = s.gauge := rfl
@[simp] theorem State.wr_spool (s : State) (p : Nat) (f : Fld) (v : Nat) : (s.wr p f v).spool = s.spool := rfl
@[simp] theorem State.wr_cores (s : State) (p : Nat) (f : Fld) (v : Nat) : (s.wr p f v).cores = s.cores := rfl
@[simp] theorem State.wr_caches (s : State) (p : Nat) (f : Fld) (v : Nat) : (s.wr p f v).caches = s.caches := rfl
@[simp] theorem State.wr_nvme (s : State) (p : Nat) (f : Fld) (v : Nat) : (s.wr p f v).nvme = s.nvme := rfl
@[simp] theorem State.wr_net (s : State) (p : Nat) (f : Fld) (v : Nat) : (s.wr p f v).net = s.net := rfl
@[simp] theorem State.wr_panels (s : State) (p : Nat) (f : Fld) (v : Nat) : (s.wr p f v).panels = s.panels := rfl
@[simp] theorem State.wr_uartTx (s : State) (p : Nat) (f : Fld) (v : Nat) : (s.wr p f v).uartTx = s.uartTx := rfl
@[simp] theorem State.wr_uartRx (s : State) (p : Nat) (f : Fld) (v : Nat) : (s.wr p f v).uartRx = s.uartRx := rfl
@[simp] theorem State.wr_pending (s : State) (p : Nat) (f : Fld) (v : Nat) : (s.wr p f v).pending = s.pending := rfl

/-! ### flag -/

@[simp] theorem State.flag_part (s : State) (p : Nat) (f : Fld) : (s.flag p f).part = s.part := rfl
@[simp] theorem State.flag_board (s : State) (p : Nat) (f : Fld) : (s.flag p f).board = s.board := rfl
@[simp] theorem State.flag_loaded (s : State) (p : Nat) (f : Fld) : (s.flag p f).loaded = s.loaded := rfl
@[simp] theorem State.flag_ctrs (s : State) (p : Nat) (f : Fld) : (s.flag p f).ctrs = s.ctrs := rfl
@[simp] theorem State.flag_shadow (s : State) (p : Nat) (f : Fld) : (s.flag p f).shadow = s.shadow := rfl
@[simp] theorem State.flag_mem (s : State) (p : Nat) (f : Fld) : (s.flag p f).mem = s.mem := rfl
@[simp] theorem State.flag_nor (s : State) (p : Nat) (f : Fld) : (s.flag p f).nor = s.nor := rfl
@[simp] theorem State.flag_gbit (s : State) (p : Nat) (f : Fld) : (s.flag p f).gbit = s.gbit := rfl
@[simp] theorem State.flag_rtcUs (s : State) (p : Nat) (f : Fld) : (s.flag p f).rtcUs = s.rtcUs := rfl
@[simp] theorem State.flag_splTime (s : State) (p : Nat) (f : Fld) : (s.flag p f).splTime = s.splTime := rfl
@[simp] theorem State.flag_cycFrac (s : State) (p : Nat) (f : Fld) : (s.flag p f).cycFrac = s.cycFrac := rfl
@[simp] theorem State.flag_free (s : State) (p : Nat) (f : Fld) : (s.flag p f).free = s.free := rfl
@[simp] theorem State.flag_outbox (s : State) (p : Nat) (f : Fld) : (s.flag p f).outbox = s.outbox := rfl
@[simp] theorem State.flag_power (s : State) (p : Nat) (f : Fld) : (s.flag p f).power = s.power := rfl
@[simp] theorem State.flag_trust (s : State) (p : Nat) (f : Fld) : (s.flag p f).trust = s.trust := rfl
@[simp] theorem State.flag_serial (s : State) (p : Nat) (f : Fld) : (s.flag p f).serial = s.serial := rfl
@[simp] theorem State.flag_fault (s : State) (p : Nat) (f : Fld) : (s.flag p f).fault = s.fault := rfl
@[simp] theorem State.flag_stg (s : State) (p : Nat) (f : Fld) : (s.flag p f).stg = s.stg := rfl
@[simp] theorem State.flag_integ (s : State) (p : Nat) (f : Fld) : (s.flag p f).integ = s.integ := rfl
@[simp] theorem State.flag_dram (s : State) (p : Nat) (f : Fld) : (s.flag p f).dram = s.dram := rfl
@[simp] theorem State.flag_seam (s : State) (p : Nat) (f : Fld) : (s.flag p f).seam = s.seam := rfl
@[simp] theorem State.flag_nand (s : State) (p : Nat) (f : Fld) : (s.flag p f).nand = s.nand := rfl
@[simp] theorem State.flag_selv (s : State) (p : Nat) (f : Fld) : (s.flag p f).selv = s.selv := rfl
@[simp] theorem State.flag_servo (s : State) (p : Nat) (f : Fld) : (s.flag p f).servo = s.servo := rfl
@[simp] theorem State.flag_trd (s : State) (p : Nat) (f : Fld) : (s.flag p f).trd = s.trd := rfl
@[simp] theorem State.flag_pink (s : State) (p : Nat) (f : Fld) : (s.flag p f).pink = s.pink := rfl
@[simp] theorem State.flag_pleat (s : State) (p : Nat) (f : Fld) : (s.flag p f).pleat = s.pleat := rfl
@[simp] theorem State.flag_gauge (s : State) (p : Nat) (f : Fld) : (s.flag p f).gauge = s.gauge := rfl
@[simp] theorem State.flag_spool (s : State) (p : Nat) (f : Fld) : (s.flag p f).spool = s.spool := rfl
@[simp] theorem State.flag_cores (s : State) (p : Nat) (f : Fld) : (s.flag p f).cores = s.cores := rfl
@[simp] theorem State.flag_caches (s : State) (p : Nat) (f : Fld) : (s.flag p f).caches = s.caches := rfl
@[simp] theorem State.flag_nvme (s : State) (p : Nat) (f : Fld) : (s.flag p f).nvme = s.nvme := rfl
@[simp] theorem State.flag_net (s : State) (p : Nat) (f : Fld) : (s.flag p f).net = s.net := rfl
@[simp] theorem State.flag_panels (s : State) (p : Nat) (f : Fld) : (s.flag p f).panels = s.panels := rfl
@[simp] theorem State.flag_uartTx (s : State) (p : Nat) (f : Fld) : (s.flag p f).uartTx = s.uartTx := rfl
@[simp] theorem State.flag_uartRx (s : State) (p : Nat) (f : Fld) : (s.flag p f).uartRx = s.uartRx := rfl
@[simp] theorem State.flag_pending (s : State) (p : Nat) (f : Fld) : (s.flag p f).pending = s.pending := rfl

/-! ### setDev -/

@[simp] theorem State.setDev_part (s : State) (d : Nat) : (s.setDev d).part = s.part := rfl
@[simp] theorem State.setDev_board (s : State) (d : Nat) : (s.setDev d).board = s.board := rfl
@[simp] theorem State.setDev_loaded (s : State) (d : Nat) : (s.setDev d).loaded = s.loaded := rfl
@[simp] theorem State.setDev_ctrs (s : State) (d : Nat) : (s.setDev d).ctrs = s.ctrs := rfl
@[simp] theorem State.setDev_shadow (s : State) (d : Nat) : (s.setDev d).shadow = s.shadow := rfl
@[simp] theorem State.setDev_mem (s : State) (d : Nat) : (s.setDev d).mem = s.mem := rfl
@[simp] theorem State.setDev_nor (s : State) (d : Nat) : (s.setDev d).nor = s.nor := rfl
@[simp] theorem State.setDev_gbit (s : State) (d : Nat) : (s.setDev d).gbit = s.gbit := rfl
@[simp] theorem State.setDev_rtcUs (s : State) (d : Nat) : (s.setDev d).rtcUs = s.rtcUs := rfl
@[simp] theorem State.setDev_splTime (s : State) (d : Nat) : (s.setDev d).splTime = s.splTime := rfl
@[simp] theorem State.setDev_cycFrac (s : State) (d : Nat) : (s.setDev d).cycFrac = s.cycFrac := rfl
@[simp] theorem State.setDev_free (s : State) (d : Nat) : (s.setDev d).free = s.free := rfl
@[simp] theorem State.setDev_outbox (s : State) (d : Nat) : (s.setDev d).outbox = s.outbox := rfl
@[simp] theorem State.setDev_power (s : State) (d : Nat) : (s.setDev d).power = s.power := rfl
@[simp] theorem State.setDev_trust (s : State) (d : Nat) : (s.setDev d).trust = s.trust := rfl
@[simp] theorem State.setDev_serial (s : State) (d : Nat) : (s.setDev d).serial = s.serial := rfl
@[simp] theorem State.setDev_fault (s : State) (d : Nat) : (s.setDev d).fault = s.fault := rfl
@[simp] theorem State.setDev_stg (s : State) (d : Nat) : (s.setDev d).stg = s.stg := rfl
@[simp] theorem State.setDev_integ (s : State) (d : Nat) : (s.setDev d).integ = s.integ := rfl
@[simp] theorem State.setDev_dram (s : State) (d : Nat) : (s.setDev d).dram = s.dram := rfl
@[simp] theorem State.setDev_seam (s : State) (d : Nat) : (s.setDev d).seam = s.seam := rfl
@[simp] theorem State.setDev_nand (s : State) (d : Nat) : (s.setDev d).nand = s.nand := rfl
@[simp] theorem State.setDev_selv (s : State) (d : Nat) : (s.setDev d).selv = s.selv := rfl
@[simp] theorem State.setDev_servo (s : State) (d : Nat) : (s.setDev d).servo = s.servo := rfl
@[simp] theorem State.setDev_trd (s : State) (d : Nat) : (s.setDev d).trd = s.trd := rfl
@[simp] theorem State.setDev_pink (s : State) (d : Nat) : (s.setDev d).pink = s.pink := rfl
@[simp] theorem State.setDev_pleat (s : State) (d : Nat) : (s.setDev d).pleat = s.pleat := rfl
@[simp] theorem State.setDev_gauge (s : State) (d : Nat) : (s.setDev d).gauge = s.gauge := rfl
@[simp] theorem State.setDev_spool (s : State) (d : Nat) : (s.setDev d).spool = s.spool := rfl
@[simp] theorem State.setDev_cores (s : State) (d : Nat) : (s.setDev d).cores = s.cores := rfl
@[simp] theorem State.setDev_caches (s : State) (d : Nat) : (s.setDev d).caches = s.caches := rfl
@[simp] theorem State.setDev_nvme (s : State) (d : Nat) : (s.setDev d).nvme = s.nvme := rfl
@[simp] theorem State.setDev_net (s : State) (d : Nat) : (s.setDev d).net = s.net := rfl
@[simp] theorem State.setDev_panels (s : State) (d : Nat) : (s.setDev d).panels = s.panels := rfl
@[simp] theorem State.setDev_uartTx (s : State) (d : Nat) : (s.setDev d).uartTx = s.uartTx := rfl
@[simp] theorem State.setDev_uartRx (s : State) (d : Nat) : (s.setDev d).uartRx = s.uartRx := rfl
@[simp] theorem State.setDev_pending (s : State) (d : Nat) : (s.setDev d).pending = s.pending := rfl

/-! ### send -/

@[simp] theorem State.send_part (s : State) (o : Output) : (s.send o).part = s.part := rfl
@[simp] theorem State.send_board (s : State) (o : Output) : (s.send o).board = s.board := rfl
@[simp] theorem State.send_regs (s : State) (o : Output) : (s.send o).regs = s.regs := rfl
@[simp] theorem State.send_loaded (s : State) (o : Output) : (s.send o).loaded = s.loaded := rfl
@[simp] theorem State.send_ctrs (s : State) (o : Output) : (s.send o).ctrs = s.ctrs := rfl
@[simp] theorem State.send_shadow (s : State) (o : Output) : (s.send o).shadow = s.shadow := rfl
@[simp] theorem State.send_mem (s : State) (o : Output) : (s.send o).mem = s.mem := rfl
@[simp] theorem State.send_nor (s : State) (o : Output) : (s.send o).nor = s.nor := rfl
@[simp] theorem State.send_gbit (s : State) (o : Output) : (s.send o).gbit = s.gbit := rfl
@[simp] theorem State.send_rtcUs (s : State) (o : Output) : (s.send o).rtcUs = s.rtcUs := rfl
@[simp] theorem State.send_splTime (s : State) (o : Output) : (s.send o).splTime = s.splTime := rfl
@[simp] theorem State.send_cycFrac (s : State) (o : Output) : (s.send o).cycFrac = s.cycFrac := rfl
@[simp] theorem State.send_free (s : State) (o : Output) : (s.send o).free = s.free := rfl
@[simp] theorem State.send_power (s : State) (o : Output) : (s.send o).power = s.power := rfl
@[simp] theorem State.send_trust (s : State) (o : Output) : (s.send o).trust = s.trust := rfl
@[simp] theorem State.send_serial (s : State) (o : Output) : (s.send o).serial = s.serial := rfl
@[simp] theorem State.send_fault (s : State) (o : Output) : (s.send o).fault = s.fault := rfl
@[simp] theorem State.send_stg (s : State) (o : Output) : (s.send o).stg = s.stg := rfl
@[simp] theorem State.send_integ (s : State) (o : Output) : (s.send o).integ = s.integ := rfl
@[simp] theorem State.send_dram (s : State) (o : Output) : (s.send o).dram = s.dram := rfl
@[simp] theorem State.send_seam (s : State) (o : Output) : (s.send o).seam = s.seam := rfl
@[simp] theorem State.send_nand (s : State) (o : Output) : (s.send o).nand = s.nand := rfl
@[simp] theorem State.send_selv (s : State) (o : Output) : (s.send o).selv = s.selv := rfl
@[simp] theorem State.send_servo (s : State) (o : Output) : (s.send o).servo = s.servo := rfl
@[simp] theorem State.send_trd (s : State) (o : Output) : (s.send o).trd = s.trd := rfl
@[simp] theorem State.send_pink (s : State) (o : Output) : (s.send o).pink = s.pink := rfl
@[simp] theorem State.send_pleat (s : State) (o : Output) : (s.send o).pleat = s.pleat := rfl
@[simp] theorem State.send_gauge (s : State) (o : Output) : (s.send o).gauge = s.gauge := rfl
@[simp] theorem State.send_spool (s : State) (o : Output) : (s.send o).spool = s.spool := rfl
@[simp] theorem State.send_cores (s : State) (o : Output) : (s.send o).cores = s.cores := rfl
@[simp] theorem State.send_caches (s : State) (o : Output) : (s.send o).caches = s.caches := rfl
@[simp] theorem State.send_nvme (s : State) (o : Output) : (s.send o).nvme = s.nvme := rfl
@[simp] theorem State.send_net (s : State) (o : Output) : (s.send o).net = s.net := rfl
@[simp] theorem State.send_panels (s : State) (o : Output) : (s.send o).panels = s.panels := rfl
@[simp] theorem State.send_uartTx (s : State) (o : Output) : (s.send o).uartTx = s.uartTx := rfl
@[simp] theorem State.send_uartRx (s : State) (o : Output) : (s.send o).uartRx = s.uartRx := rfl
@[simp] theorem State.send_pending (s : State) (o : Output) : (s.send o).pending = s.pending := rfl

/-! ### drawFree -/

@[simp] theorem State.drawFree_part (s : State) (w : Nat) : ((s.drawFree w).2).part = s.part := rfl
@[simp] theorem State.drawFree_board (s : State) (w : Nat) : ((s.drawFree w).2).board = s.board := rfl
@[simp] theorem State.drawFree_regs (s : State) (w : Nat) : ((s.drawFree w).2).regs = s.regs := rfl
@[simp] theorem State.drawFree_loaded (s : State) (w : Nat) : ((s.drawFree w).2).loaded = s.loaded := rfl
@[simp] theorem State.drawFree_ctrs (s : State) (w : Nat) : ((s.drawFree w).2).ctrs = s.ctrs := rfl
@[simp] theorem State.drawFree_shadow (s : State) (w : Nat) : ((s.drawFree w).2).shadow = s.shadow := rfl
@[simp] theorem State.drawFree_mem (s : State) (w : Nat) : ((s.drawFree w).2).mem = s.mem := rfl
@[simp] theorem State.drawFree_nor (s : State) (w : Nat) : ((s.drawFree w).2).nor = s.nor := rfl
@[simp] theorem State.drawFree_gbit (s : State) (w : Nat) : ((s.drawFree w).2).gbit = s.gbit := rfl
@[simp] theorem State.drawFree_rtcUs (s : State) (w : Nat) : ((s.drawFree w).2).rtcUs = s.rtcUs := rfl
@[simp] theorem State.drawFree_splTime (s : State) (w : Nat) : ((s.drawFree w).2).splTime = s.splTime := rfl
@[simp] theorem State.drawFree_cycFrac (s : State) (w : Nat) : ((s.drawFree w).2).cycFrac = s.cycFrac := rfl
@[simp] theorem State.drawFree_outbox (s : State) (w : Nat) : ((s.drawFree w).2).outbox = s.outbox := rfl
@[simp] theorem State.drawFree_power (s : State) (w : Nat) : ((s.drawFree w).2).power = s.power := rfl
@[simp] theorem State.drawFree_trust (s : State) (w : Nat) : ((s.drawFree w).2).trust = s.trust := rfl
@[simp] theorem State.drawFree_serial (s : State) (w : Nat) : ((s.drawFree w).2).serial = s.serial := rfl
@[simp] theorem State.drawFree_fault (s : State) (w : Nat) : ((s.drawFree w).2).fault = s.fault := rfl
@[simp] theorem State.drawFree_stg (s : State) (w : Nat) : ((s.drawFree w).2).stg = s.stg := rfl
@[simp] theorem State.drawFree_integ (s : State) (w : Nat) : ((s.drawFree w).2).integ = s.integ := rfl
@[simp] theorem State.drawFree_dram (s : State) (w : Nat) : ((s.drawFree w).2).dram = s.dram := rfl
@[simp] theorem State.drawFree_seam (s : State) (w : Nat) : ((s.drawFree w).2).seam = s.seam := rfl
@[simp] theorem State.drawFree_nand (s : State) (w : Nat) : ((s.drawFree w).2).nand = s.nand := rfl
@[simp] theorem State.drawFree_selv (s : State) (w : Nat) : ((s.drawFree w).2).selv = s.selv := rfl
@[simp] theorem State.drawFree_servo (s : State) (w : Nat) : ((s.drawFree w).2).servo = s.servo := rfl
@[simp] theorem State.drawFree_trd (s : State) (w : Nat) : ((s.drawFree w).2).trd = s.trd := rfl
@[simp] theorem State.drawFree_pink (s : State) (w : Nat) : ((s.drawFree w).2).pink = s.pink := rfl
@[simp] theorem State.drawFree_pleat (s : State) (w : Nat) : ((s.drawFree w).2).pleat = s.pleat := rfl
@[simp] theorem State.drawFree_gauge (s : State) (w : Nat) : ((s.drawFree w).2).gauge = s.gauge := rfl
@[simp] theorem State.drawFree_spool (s : State) (w : Nat) : ((s.drawFree w).2).spool = s.spool := rfl
@[simp] theorem State.drawFree_cores (s : State) (w : Nat) : ((s.drawFree w).2).cores = s.cores := rfl
@[simp] theorem State.drawFree_caches (s : State) (w : Nat) : ((s.drawFree w).2).caches = s.caches := rfl
@[simp] theorem State.drawFree_nvme (s : State) (w : Nat) : ((s.drawFree w).2).nvme = s.nvme := rfl
@[simp] theorem State.drawFree_net (s : State) (w : Nat) : ((s.drawFree w).2).net = s.net := rfl
@[simp] theorem State.drawFree_panels (s : State) (w : Nat) : ((s.drawFree w).2).panels = s.panels := rfl
@[simp] theorem State.drawFree_uartTx (s : State) (w : Nat) : ((s.drawFree w).2).uartTx = s.uartTx := rfl
@[simp] theorem State.drawFree_uartRx (s : State) (w : Nat) : ((s.drawFree w).2).uartRx = s.uartRx := rfl
@[simp] theorem State.drawFree_pending (s : State) (w : Nat) : ((s.drawFree w).2).pending = s.pending := rfl

/-! ### updCore -/

@[simp] theorem State.updCore_part (s : State) (c : CoreId) (f : Core → Core) : (s.updCore c f).part = s.part := rfl
@[simp] theorem State.updCore_board (s : State) (c : CoreId) (f : Core → Core) : (s.updCore c f).board = s.board := rfl
@[simp] theorem State.updCore_regs (s : State) (c : CoreId) (f : Core → Core) : (s.updCore c f).regs = s.regs := rfl
@[simp] theorem State.updCore_loaded (s : State) (c : CoreId) (f : Core → Core) : (s.updCore c f).loaded = s.loaded := rfl
@[simp] theorem State.updCore_ctrs (s : State) (c : CoreId) (f : Core → Core) : (s.updCore c f).ctrs = s.ctrs := rfl
@[simp] theorem State.updCore_shadow (s : State) (c : CoreId) (f : Core → Core) : (s.updCore c f).shadow = s.shadow := rfl
@[simp] theorem State.updCore_mem (s : State) (c : CoreId) (f : Core → Core) : (s.updCore c f).mem = s.mem := rfl
@[simp] theorem State.updCore_nor (s : State) (c : CoreId) (f : Core → Core) : (s.updCore c f).nor = s.nor := rfl
@[simp] theorem State.updCore_gbit (s : State) (c : CoreId) (f : Core → Core) : (s.updCore c f).gbit = s.gbit := rfl
@[simp] theorem State.updCore_rtcUs (s : State) (c : CoreId) (f : Core → Core) : (s.updCore c f).rtcUs = s.rtcUs := rfl
@[simp] theorem State.updCore_splTime (s : State) (c : CoreId) (f : Core → Core) : (s.updCore c f).splTime = s.splTime := rfl
@[simp] theorem State.updCore_cycFrac (s : State) (c : CoreId) (f : Core → Core) : (s.updCore c f).cycFrac = s.cycFrac := rfl
@[simp] theorem State.updCore_free (s : State) (c : CoreId) (f : Core → Core) : (s.updCore c f).free = s.free := rfl
@[simp] theorem State.updCore_outbox (s : State) (c : CoreId) (f : Core → Core) : (s.updCore c f).outbox = s.outbox := rfl
@[simp] theorem State.updCore_power (s : State) (c : CoreId) (f : Core → Core) : (s.updCore c f).power = s.power := rfl
@[simp] theorem State.updCore_trust (s : State) (c : CoreId) (f : Core → Core) : (s.updCore c f).trust = s.trust := rfl
@[simp] theorem State.updCore_serial (s : State) (c : CoreId) (f : Core → Core) : (s.updCore c f).serial = s.serial := rfl
@[simp] theorem State.updCore_fault (s : State) (c : CoreId) (f : Core → Core) : (s.updCore c f).fault = s.fault := rfl
@[simp] theorem State.updCore_stg (s : State) (c : CoreId) (f : Core → Core) : (s.updCore c f).stg = s.stg := rfl
@[simp] theorem State.updCore_integ (s : State) (c : CoreId) (f : Core → Core) : (s.updCore c f).integ = s.integ := rfl
@[simp] theorem State.updCore_dram (s : State) (c : CoreId) (f : Core → Core) : (s.updCore c f).dram = s.dram := rfl
@[simp] theorem State.updCore_seam (s : State) (c : CoreId) (f : Core → Core) : (s.updCore c f).seam = s.seam := rfl
@[simp] theorem State.updCore_nand (s : State) (c : CoreId) (f : Core → Core) : (s.updCore c f).nand = s.nand := rfl
@[simp] theorem State.updCore_selv (s : State) (c : CoreId) (f : Core → Core) : (s.updCore c f).selv = s.selv := rfl
@[simp] theorem State.updCore_servo (s : State) (c : CoreId) (f : Core → Core) : (s.updCore c f).servo = s.servo := rfl
@[simp] theorem State.updCore_trd (s : State) (c : CoreId) (f : Core → Core) : (s.updCore c f).trd = s.trd := rfl
@[simp] theorem State.updCore_pink (s : State) (c : CoreId) (f : Core → Core) : (s.updCore c f).pink = s.pink := rfl
@[simp] theorem State.updCore_pleat (s : State) (c : CoreId) (f : Core → Core) : (s.updCore c f).pleat = s.pleat := rfl
@[simp] theorem State.updCore_gauge (s : State) (c : CoreId) (f : Core → Core) : (s.updCore c f).gauge = s.gauge := rfl
@[simp] theorem State.updCore_spool (s : State) (c : CoreId) (f : Core → Core) : (s.updCore c f).spool = s.spool := rfl
@[simp] theorem State.updCore_nvme (s : State) (c : CoreId) (f : Core → Core) : (s.updCore c f).nvme = s.nvme := rfl
@[simp] theorem State.updCore_net (s : State) (c : CoreId) (f : Core → Core) : (s.updCore c f).net = s.net := rfl
@[simp] theorem State.updCore_panels (s : State) (c : CoreId) (f : Core → Core) : (s.updCore c f).panels = s.panels := rfl
@[simp] theorem State.updCore_uartTx (s : State) (c : CoreId) (f : Core → Core) : (s.updCore c f).uartTx = s.uartTx := rfl
@[simp] theorem State.updCore_uartRx (s : State) (c : CoreId) (f : Core → Core) : (s.updCore c f).uartRx = s.uartRx := rfl
@[simp] theorem State.updCore_pending (s : State) (c : CoreId) (f : Core → Core) : (s.updCore c f).pending = s.pending := rfl

/-! ### updItem -/

@[simp] theorem State.updItem_part (s : State) (n : Nat) (f : Item → Item) : (s.updItem n f).part = s.part := rfl
@[simp] theorem State.updItem_board (s : State) (n : Nat) (f : Item → Item) : (s.updItem n f).board = s.board := rfl
@[simp] theorem State.updItem_regs (s : State) (n : Nat) (f : Item → Item) : (s.updItem n f).regs = s.regs := rfl
@[simp] theorem State.updItem_loaded (s : State) (n : Nat) (f : Item → Item) : (s.updItem n f).loaded = s.loaded := rfl
@[simp] theorem State.updItem_ctrs (s : State) (n : Nat) (f : Item → Item) : (s.updItem n f).ctrs = s.ctrs := rfl
@[simp] theorem State.updItem_shadow (s : State) (n : Nat) (f : Item → Item) : (s.updItem n f).shadow = s.shadow := rfl
@[simp] theorem State.updItem_mem (s : State) (n : Nat) (f : Item → Item) : (s.updItem n f).mem = s.mem := rfl
@[simp] theorem State.updItem_nor (s : State) (n : Nat) (f : Item → Item) : (s.updItem n f).nor = s.nor := rfl
@[simp] theorem State.updItem_gbit (s : State) (n : Nat) (f : Item → Item) : (s.updItem n f).gbit = s.gbit := rfl
@[simp] theorem State.updItem_rtcUs (s : State) (n : Nat) (f : Item → Item) : (s.updItem n f).rtcUs = s.rtcUs := rfl
@[simp] theorem State.updItem_splTime (s : State) (n : Nat) (f : Item → Item) : (s.updItem n f).splTime = s.splTime := rfl
@[simp] theorem State.updItem_cycFrac (s : State) (n : Nat) (f : Item → Item) : (s.updItem n f).cycFrac = s.cycFrac := rfl
@[simp] theorem State.updItem_free (s : State) (n : Nat) (f : Item → Item) : (s.updItem n f).free = s.free := rfl
@[simp] theorem State.updItem_outbox (s : State) (n : Nat) (f : Item → Item) : (s.updItem n f).outbox = s.outbox := rfl
@[simp] theorem State.updItem_power (s : State) (n : Nat) (f : Item → Item) : (s.updItem n f).power = s.power := rfl
@[simp] theorem State.updItem_trust (s : State) (n : Nat) (f : Item → Item) : (s.updItem n f).trust = s.trust := rfl
@[simp] theorem State.updItem_serial (s : State) (n : Nat) (f : Item → Item) : (s.updItem n f).serial = s.serial := rfl
@[simp] theorem State.updItem_fault (s : State) (n : Nat) (f : Item → Item) : (s.updItem n f).fault = s.fault := rfl
@[simp] theorem State.updItem_stg (s : State) (n : Nat) (f : Item → Item) : (s.updItem n f).stg = s.stg := rfl
@[simp] theorem State.updItem_integ (s : State) (n : Nat) (f : Item → Item) : (s.updItem n f).integ = s.integ := rfl
@[simp] theorem State.updItem_dram (s : State) (n : Nat) (f : Item → Item) : (s.updItem n f).dram = s.dram := rfl
@[simp] theorem State.updItem_seam (s : State) (n : Nat) (f : Item → Item) : (s.updItem n f).seam = s.seam := rfl
@[simp] theorem State.updItem_nand (s : State) (n : Nat) (f : Item → Item) : (s.updItem n f).nand = s.nand := rfl
@[simp] theorem State.updItem_selv (s : State) (n : Nat) (f : Item → Item) : (s.updItem n f).selv = s.selv := rfl
@[simp] theorem State.updItem_servo (s : State) (n : Nat) (f : Item → Item) : (s.updItem n f).servo = s.servo := rfl
@[simp] theorem State.updItem_trd (s : State) (n : Nat) (f : Item → Item) : (s.updItem n f).trd = s.trd := rfl
@[simp] theorem State.updItem_pink (s : State) (n : Nat) (f : Item → Item) : (s.updItem n f).pink = s.pink := rfl
@[simp] theorem State.updItem_pleat (s : State) (n : Nat) (f : Item → Item) : (s.updItem n f).pleat = s.pleat := rfl
@[simp] theorem State.updItem_gauge (s : State) (n : Nat) (f : Item → Item) : (s.updItem n f).gauge = s.gauge := rfl
@[simp] theorem State.updItem_cores (s : State) (n : Nat) (f : Item → Item) : (s.updItem n f).cores = s.cores := rfl
@[simp] theorem State.updItem_caches (s : State) (n : Nat) (f : Item → Item) : (s.updItem n f).caches = s.caches := rfl
@[simp] theorem State.updItem_nvme (s : State) (n : Nat) (f : Item → Item) : (s.updItem n f).nvme = s.nvme := rfl
@[simp] theorem State.updItem_net (s : State) (n : Nat) (f : Item → Item) : (s.updItem n f).net = s.net := rfl
@[simp] theorem State.updItem_panels (s : State) (n : Nat) (f : Item → Item) : (s.updItem n f).panels = s.panels := rfl
@[simp] theorem State.updItem_uartTx (s : State) (n : Nat) (f : Item → Item) : (s.updItem n f).uartTx = s.uartTx := rfl
@[simp] theorem State.updItem_uartRx (s : State) (n : Nat) (f : Item → Item) : (s.updItem n f).uartRx = s.uartRx := rfl
@[simp] theorem State.updItem_pending (s : State) (n : Nat) (f : Item → Item) : (s.updItem n f).pending = s.pending := rfl

/-! ### updCmd -/

@[simp] theorem State.updCmd_part (s : State) (k : Nat) (f : Cmd → Cmd) : (s.updCmd k f).part = s.part := rfl
@[simp] theorem State.updCmd_board (s : State) (k : Nat) (f : Cmd → Cmd) : (s.updCmd k f).board = s.board := rfl
@[simp] theorem State.updCmd_regs (s : State) (k : Nat) (f : Cmd → Cmd) : (s.updCmd k f).regs = s.regs := rfl
@[simp] theorem State.updCmd_loaded (s : State) (k : Nat) (f : Cmd → Cmd) : (s.updCmd k f).loaded = s.loaded := rfl
@[simp] theorem State.updCmd_ctrs (s : State) (k : Nat) (f : Cmd → Cmd) : (s.updCmd k f).ctrs = s.ctrs := rfl
@[simp] theorem State.updCmd_shadow (s : State) (k : Nat) (f : Cmd → Cmd) : (s.updCmd k f).shadow = s.shadow := rfl
@[simp] theorem State.updCmd_mem (s : State) (k : Nat) (f : Cmd → Cmd) : (s.updCmd k f).mem = s.mem := rfl
@[simp] theorem State.updCmd_nor (s : State) (k : Nat) (f : Cmd → Cmd) : (s.updCmd k f).nor = s.nor := rfl
@[simp] theorem State.updCmd_gbit (s : State) (k : Nat) (f : Cmd → Cmd) : (s.updCmd k f).gbit = s.gbit := rfl
@[simp] theorem State.updCmd_rtcUs (s : State) (k : Nat) (f : Cmd → Cmd) : (s.updCmd k f).rtcUs = s.rtcUs := rfl
@[simp] theorem State.updCmd_splTime (s : State) (k : Nat) (f : Cmd → Cmd) : (s.updCmd k f).splTime = s.splTime := rfl
@[simp] theorem State.updCmd_cycFrac (s : State) (k : Nat) (f : Cmd → Cmd) : (s.updCmd k f).cycFrac = s.cycFrac := rfl
@[simp] theorem State.updCmd_free (s : State) (k : Nat) (f : Cmd → Cmd) : (s.updCmd k f).free = s.free := rfl
@[simp] theorem State.updCmd_outbox (s : State) (k : Nat) (f : Cmd → Cmd) : (s.updCmd k f).outbox = s.outbox := rfl
@[simp] theorem State.updCmd_power (s : State) (k : Nat) (f : Cmd → Cmd) : (s.updCmd k f).power = s.power := rfl
@[simp] theorem State.updCmd_trust (s : State) (k : Nat) (f : Cmd → Cmd) : (s.updCmd k f).trust = s.trust := rfl
@[simp] theorem State.updCmd_serial (s : State) (k : Nat) (f : Cmd → Cmd) : (s.updCmd k f).serial = s.serial := rfl
@[simp] theorem State.updCmd_fault (s : State) (k : Nat) (f : Cmd → Cmd) : (s.updCmd k f).fault = s.fault := rfl
@[simp] theorem State.updCmd_stg (s : State) (k : Nat) (f : Cmd → Cmd) : (s.updCmd k f).stg = s.stg := rfl
@[simp] theorem State.updCmd_integ (s : State) (k : Nat) (f : Cmd → Cmd) : (s.updCmd k f).integ = s.integ := rfl
@[simp] theorem State.updCmd_dram (s : State) (k : Nat) (f : Cmd → Cmd) : (s.updCmd k f).dram = s.dram := rfl
@[simp] theorem State.updCmd_seam (s : State) (k : Nat) (f : Cmd → Cmd) : (s.updCmd k f).seam = s.seam := rfl
@[simp] theorem State.updCmd_nand (s : State) (k : Nat) (f : Cmd → Cmd) : (s.updCmd k f).nand = s.nand := rfl
@[simp] theorem State.updCmd_selv (s : State) (k : Nat) (f : Cmd → Cmd) : (s.updCmd k f).selv = s.selv := rfl
@[simp] theorem State.updCmd_servo (s : State) (k : Nat) (f : Cmd → Cmd) : (s.updCmd k f).servo = s.servo := rfl
@[simp] theorem State.updCmd_trd (s : State) (k : Nat) (f : Cmd → Cmd) : (s.updCmd k f).trd = s.trd := rfl
@[simp] theorem State.updCmd_pink (s : State) (k : Nat) (f : Cmd → Cmd) : (s.updCmd k f).pink = s.pink := rfl
@[simp] theorem State.updCmd_pleat (s : State) (k : Nat) (f : Cmd → Cmd) : (s.updCmd k f).pleat = s.pleat := rfl
@[simp] theorem State.updCmd_gauge (s : State) (k : Nat) (f : Cmd → Cmd) : (s.updCmd k f).gauge = s.gauge := rfl
@[simp] theorem State.updCmd_spool (s : State) (k : Nat) (f : Cmd → Cmd) : (s.updCmd k f).spool = s.spool := rfl
@[simp] theorem State.updCmd_cores (s : State) (k : Nat) (f : Cmd → Cmd) : (s.updCmd k f).cores = s.cores := rfl
@[simp] theorem State.updCmd_caches (s : State) (k : Nat) (f : Cmd → Cmd) : (s.updCmd k f).caches = s.caches := rfl
@[simp] theorem State.updCmd_net (s : State) (k : Nat) (f : Cmd → Cmd) : (s.updCmd k f).net = s.net := rfl
@[simp] theorem State.updCmd_panels (s : State) (k : Nat) (f : Cmd → Cmd) : (s.updCmd k f).panels = s.panels := rfl
@[simp] theorem State.updCmd_uartTx (s : State) (k : Nat) (f : Cmd → Cmd) : (s.updCmd k f).uartTx = s.uartTx := rfl
@[simp] theorem State.updCmd_uartRx (s : State) (k : Nat) (f : Cmd → Cmd) : (s.updCmd k f).uartRx = s.uartRx := rfl
@[simp] theorem State.updCmd_pending (s : State) (k : Nat) (f : Cmd → Cmd) : (s.updCmd k f).pending = s.pending := rfl

/-! ### postCpl -/

@[simp] theorem State.postCpl_part (s : State) (c : Cpl) : (s.postCpl c).part = s.part := rfl
@[simp] theorem State.postCpl_board (s : State) (c : Cpl) : (s.postCpl c).board = s.board := rfl
@[simp] theorem State.postCpl_regs (s : State) (c : Cpl) : (s.postCpl c).regs = s.regs := rfl
@[simp] theorem State.postCpl_loaded (s : State) (c : Cpl) : (s.postCpl c).loaded = s.loaded := rfl
@[simp] theorem State.postCpl_ctrs (s : State) (c : Cpl) : (s.postCpl c).ctrs = s.ctrs := rfl
@[simp] theorem State.postCpl_shadow (s : State) (c : Cpl) : (s.postCpl c).shadow = s.shadow := rfl
@[simp] theorem State.postCpl_mem (s : State) (c : Cpl) : (s.postCpl c).mem = s.mem := rfl
@[simp] theorem State.postCpl_nor (s : State) (c : Cpl) : (s.postCpl c).nor = s.nor := rfl
@[simp] theorem State.postCpl_gbit (s : State) (c : Cpl) : (s.postCpl c).gbit = s.gbit := rfl
@[simp] theorem State.postCpl_rtcUs (s : State) (c : Cpl) : (s.postCpl c).rtcUs = s.rtcUs := rfl
@[simp] theorem State.postCpl_splTime (s : State) (c : Cpl) : (s.postCpl c).splTime = s.splTime := rfl
@[simp] theorem State.postCpl_cycFrac (s : State) (c : Cpl) : (s.postCpl c).cycFrac = s.cycFrac := rfl
@[simp] theorem State.postCpl_free (s : State) (c : Cpl) : (s.postCpl c).free = s.free := rfl
@[simp] theorem State.postCpl_outbox (s : State) (c : Cpl) : (s.postCpl c).outbox = s.outbox := rfl
@[simp] theorem State.postCpl_power (s : State) (c : Cpl) : (s.postCpl c).power = s.power := rfl
@[simp] theorem State.postCpl_trust (s : State) (c : Cpl) : (s.postCpl c).trust = s.trust := rfl
@[simp] theorem State.postCpl_serial (s : State) (c : Cpl) : (s.postCpl c).serial = s.serial := rfl
@[simp] theorem State.postCpl_fault (s : State) (c : Cpl) : (s.postCpl c).fault = s.fault := rfl
@[simp] theorem State.postCpl_stg (s : State) (c : Cpl) : (s.postCpl c).stg = s.stg := rfl
@[simp] theorem State.postCpl_integ (s : State) (c : Cpl) : (s.postCpl c).integ = s.integ := rfl
@[simp] theorem State.postCpl_dram (s : State) (c : Cpl) : (s.postCpl c).dram = s.dram := rfl
@[simp] theorem State.postCpl_seam (s : State) (c : Cpl) : (s.postCpl c).seam = s.seam := rfl
@[simp] theorem State.postCpl_nand (s : State) (c : Cpl) : (s.postCpl c).nand = s.nand := rfl
@[simp] theorem State.postCpl_selv (s : State) (c : Cpl) : (s.postCpl c).selv = s.selv := rfl
@[simp] theorem State.postCpl_servo (s : State) (c : Cpl) : (s.postCpl c).servo = s.servo := rfl
@[simp] theorem State.postCpl_trd (s : State) (c : Cpl) : (s.postCpl c).trd = s.trd := rfl
@[simp] theorem State.postCpl_pink (s : State) (c : Cpl) : (s.postCpl c).pink = s.pink := rfl
@[simp] theorem State.postCpl_pleat (s : State) (c : Cpl) : (s.postCpl c).pleat = s.pleat := rfl
@[simp] theorem State.postCpl_gauge (s : State) (c : Cpl) : (s.postCpl c).gauge = s.gauge := rfl
@[simp] theorem State.postCpl_cores (s : State) (c : Cpl) : (s.postCpl c).cores = s.cores := rfl
@[simp] theorem State.postCpl_caches (s : State) (c : Cpl) : (s.postCpl c).caches = s.caches := rfl
@[simp] theorem State.postCpl_nvme (s : State) (c : Cpl) : (s.postCpl c).nvme = s.nvme := rfl
@[simp] theorem State.postCpl_net (s : State) (c : Cpl) : (s.postCpl c).net = s.net := rfl
@[simp] theorem State.postCpl_panels (s : State) (c : Cpl) : (s.postCpl c).panels = s.panels := rfl
@[simp] theorem State.postCpl_uartTx (s : State) (c : Cpl) : (s.postCpl c).uartTx = s.uartTx := rfl
@[simp] theorem State.postCpl_uartRx (s : State) (c : Cpl) : (s.postCpl c).uartRx = s.uartRx := rfl
@[simp] theorem State.postCpl_pending (s : State) (c : Cpl) : (s.postCpl c).pending = s.pending := rfl

/-! ### setDom -/

@[simp] theorem State.setDom_part (s : State) (d : Nat) (b : Bool) : (s.setDom d b).part = s.part := by unfold State.setDom; split <;> rfl
@[simp] theorem State.setDom_board (s : State) (d : Nat) (b : Bool) : (s.setDom d b).board = s.board := by unfold State.setDom; split <;> rfl
@[simp] theorem State.setDom_loaded (s : State) (d : Nat) (b : Bool) : (s.setDom d b).loaded = s.loaded := by unfold State.setDom; split <;> rfl
@[simp] theorem State.setDom_ctrs (s : State) (d : Nat) (b : Bool) : (s.setDom d b).ctrs = s.ctrs := by unfold State.setDom; split <;> rfl
@[simp] theorem State.setDom_shadow (s : State) (d : Nat) (b : Bool) : (s.setDom d b).shadow = s.shadow := by unfold State.setDom; split <;> rfl
@[simp] theorem State.setDom_mem (s : State) (d : Nat) (b : Bool) : (s.setDom d b).mem = s.mem := by unfold State.setDom; split <;> rfl
@[simp] theorem State.setDom_nor (s : State) (d : Nat) (b : Bool) : (s.setDom d b).nor = s.nor := by unfold State.setDom; split <;> rfl
@[simp] theorem State.setDom_gbit (s : State) (d : Nat) (b : Bool) : (s.setDom d b).gbit = s.gbit := by unfold State.setDom; split <;> rfl
@[simp] theorem State.setDom_rtcUs (s : State) (d : Nat) (b : Bool) : (s.setDom d b).rtcUs = s.rtcUs := by unfold State.setDom; split <;> rfl
@[simp] theorem State.setDom_splTime (s : State) (d : Nat) (b : Bool) : (s.setDom d b).splTime = s.splTime := by unfold State.setDom; split <;> rfl
@[simp] theorem State.setDom_cycFrac (s : State) (d : Nat) (b : Bool) : (s.setDom d b).cycFrac = s.cycFrac := by unfold State.setDom; split <;> rfl
@[simp] theorem State.setDom_free (s : State) (d : Nat) (b : Bool) : (s.setDom d b).free = s.free := by unfold State.setDom; split <;> rfl
@[simp] theorem State.setDom_outbox (s : State) (d : Nat) (b : Bool) : (s.setDom d b).outbox = s.outbox := by unfold State.setDom; split <;> rfl
@[simp] theorem State.setDom_power (s : State) (d : Nat) (b : Bool) : (s.setDom d b).power = s.power := by unfold State.setDom; split <;> rfl
@[simp] theorem State.setDom_trust (s : State) (d : Nat) (b : Bool) : (s.setDom d b).trust = s.trust := by unfold State.setDom; split <;> rfl
@[simp] theorem State.setDom_serial (s : State) (d : Nat) (b : Bool) : (s.setDom d b).serial = s.serial := by unfold State.setDom; split <;> rfl
@[simp] theorem State.setDom_fault (s : State) (d : Nat) (b : Bool) : (s.setDom d b).fault = s.fault := by unfold State.setDom; split <;> rfl
@[simp] theorem State.setDom_stg (s : State) (d : Nat) (b : Bool) : (s.setDom d b).stg = s.stg := by unfold State.setDom; split <;> rfl
@[simp] theorem State.setDom_integ (s : State) (d : Nat) (b : Bool) : (s.setDom d b).integ = s.integ := by unfold State.setDom; split <;> rfl
@[simp] theorem State.setDom_dram (s : State) (d : Nat) (b : Bool) : (s.setDom d b).dram = s.dram := by unfold State.setDom; split <;> rfl
@[simp] theorem State.setDom_seam (s : State) (d : Nat) (b : Bool) : (s.setDom d b).seam = s.seam := by unfold State.setDom; split <;> rfl
@[simp] theorem State.setDom_nand (s : State) (d : Nat) (b : Bool) : (s.setDom d b).nand = s.nand := by unfold State.setDom; split <;> rfl
@[simp] theorem State.setDom_selv (s : State) (d : Nat) (b : Bool) : (s.setDom d b).selv = s.selv := by unfold State.setDom; split <;> rfl
@[simp] theorem State.setDom_servo (s : State) (d : Nat) (b : Bool) : (s.setDom d b).servo = s.servo := by unfold State.setDom; split <;> rfl
@[simp] theorem State.setDom_trd (s : State) (d : Nat) (b : Bool) : (s.setDom d b).trd = s.trd := by unfold State.setDom; split <;> rfl
@[simp] theorem State.setDom_pink (s : State) (d : Nat) (b : Bool) : (s.setDom d b).pink = s.pink := by unfold State.setDom; split <;> rfl
@[simp] theorem State.setDom_pleat (s : State) (d : Nat) (b : Bool) : (s.setDom d b).pleat = s.pleat := by unfold State.setDom; split <;> rfl
@[simp] theorem State.setDom_gauge (s : State) (d : Nat) (b : Bool) : (s.setDom d b).gauge = s.gauge := by unfold State.setDom; split <;> rfl
@[simp] theorem State.setDom_spool (s : State) (d : Nat) (b : Bool) : (s.setDom d b).spool = s.spool := by unfold State.setDom; split <;> rfl
@[simp] theorem State.setDom_cores (s : State) (d : Nat) (b : Bool) : (s.setDom d b).cores = s.cores := by unfold State.setDom; split <;> rfl
@[simp] theorem State.setDom_caches (s : State) (d : Nat) (b : Bool) : (s.setDom d b).caches = s.caches := by unfold State.setDom; split <;> rfl
@[simp] theorem State.setDom_nvme (s : State) (d : Nat) (b : Bool) : (s.setDom d b).nvme = s.nvme := by unfold State.setDom; split <;> rfl
@[simp] theorem State.setDom_net (s : State) (d : Nat) (b : Bool) : (s.setDom d b).net = s.net := by unfold State.setDom; split <;> rfl
@[simp] theorem State.setDom_panels (s : State) (d : Nat) (b : Bool) : (s.setDom d b).panels = s.panels := by unfold State.setDom; split <;> rfl
@[simp] theorem State.setDom_uartTx (s : State) (d : Nat) (b : Bool) : (s.setDom d b).uartTx = s.uartTx := by unfold State.setDom; split <;> rfl
@[simp] theorem State.setDom_uartRx (s : State) (d : Nat) (b : Bool) : (s.setDom d b).uartRx = s.uartRx := by unfold State.setDom; split <;> rfl
@[simp] theorem State.setDom_pending (s : State) (d : Nat) (b : Bool) : (s.setDom d b).pending = s.pending := by unfold State.setDom; split <;> rfl

/-! ### countN -/

@[simp] theorem State.countN_part (s : State) (p off n : Nat) : (s.countN p off n).part = s.part := by unfold State.countN; split <;> rfl
@[simp] theorem State.countN_board (s : State) (p off n : Nat) : (s.countN p off n).board = s.board := by unfold State.countN; split <;> rfl
@[simp] theorem State.countN_regs (s : State) (p off n : Nat) : (s.countN p off n).regs = s.regs := by unfold State.countN; split <;> rfl
@[simp] theorem State.countN_loaded (s : State) (p off n : Nat) : (s.countN p off n).loaded = s.loaded := by unfold State.countN; split <;> rfl
@[simp] theorem State.countN_shadow (s : State) (p off n : Nat) : (s.countN p off n).shadow = s.shadow := by unfold State.countN; split <;> rfl
@[simp] theorem State.countN_mem (s : State) (p off n : Nat) : (s.countN p off n).mem = s.mem := by unfold State.countN; split <;> rfl
@[simp] theorem State.countN_nor (s : State) (p off n : Nat) : (s.countN p off n).nor = s.nor := by unfold State.countN; split <;> rfl
@[simp] theorem State.countN_gbit (s : State) (p off n : Nat) : (s.countN p off n).gbit = s.gbit := by unfold State.countN; split <;> rfl
@[simp] theorem State.countN_rtcUs (s : State) (p off n : Nat) : (s.countN p off n).rtcUs = s.rtcUs := by unfold State.countN; split <;> rfl
@[simp] theorem State.countN_splTime (s : State) (p off n : Nat) : (s.countN p off n).splTime = s.splTime := by unfold State.countN; split <;> rfl
@[simp] theorem State.countN_cycFrac (s : State) (p off n : Nat) : (s.countN p off n).cycFrac = s.cycFrac := by unfold State.countN; split <;> rfl
@[simp] theorem State.countN_free (s : State) (p off n : Nat) : (s.countN p off n).free = s.free := by unfold State.countN; split <;> rfl
@[simp] theorem State.countN_outbox (s : State) (p off n : Nat) : (s.countN p off n).outbox = s.outbox := by unfold State.countN; split <;> rfl
@[simp] theorem State.countN_power (s : State) (p off n : Nat) : (s.countN p off n).power = s.power := by unfold State.countN; split <;> rfl
@[simp] theorem State.countN_trust (s : State) (p off n : Nat) : (s.countN p off n).trust = s.trust := by unfold State.countN; split <;> rfl
@[simp] theorem State.countN_serial (s : State) (p off n : Nat) : (s.countN p off n).serial = s.serial := by unfold State.countN; split <;> rfl
@[simp] theorem State.countN_fault (s : State) (p off n : Nat) : (s.countN p off n).fault = s.fault := by unfold State.countN; split <;> rfl
@[simp] theorem State.countN_stg (s : State) (p off n : Nat) : (s.countN p off n).stg = s.stg := by unfold State.countN; split <;> rfl
@[simp] theorem State.countN_integ (s : State) (p off n : Nat) : (s.countN p off n).integ = s.integ := by unfold State.countN; split <;> rfl
@[simp] theorem State.countN_dram (s : State) (p off n : Nat) : (s.countN p off n).dram = s.dram := by unfold State.countN; split <;> rfl
@[simp] theorem State.countN_seam (s : State) (p off n : Nat) : (s.countN p off n).seam = s.seam := by unfold State.countN; split <;> rfl
@[simp] theorem State.countN_nand (s : State) (p off n : Nat) : (s.countN p off n).nand = s.nand := by unfold State.countN; split <;> rfl
@[simp] theorem State.countN_selv (s : State) (p off n : Nat) : (s.countN p off n).selv = s.selv := by unfold State.countN; split <;> rfl
@[simp] theorem State.countN_servo (s : State) (p off n : Nat) : (s.countN p off n).servo = s.servo := by unfold State.countN; split <;> rfl
@[simp] theorem State.countN_trd (s : State) (p off n : Nat) : (s.countN p off n).trd = s.trd := by unfold State.countN; split <;> rfl
@[simp] theorem State.countN_pink (s : State) (p off n : Nat) : (s.countN p off n).pink = s.pink := by unfold State.countN; split <;> rfl
@[simp] theorem State.countN_pleat (s : State) (p off n : Nat) : (s.countN p off n).pleat = s.pleat := by unfold State.countN; split <;> rfl
@[simp] theorem State.countN_gauge (s : State) (p off n : Nat) : (s.countN p off n).gauge = s.gauge := by unfold State.countN; split <;> rfl
@[simp] theorem State.countN_spool (s : State) (p off n : Nat) : (s.countN p off n).spool = s.spool := by unfold State.countN; split <;> rfl
@[simp] theorem State.countN_cores (s : State) (p off n : Nat) : (s.countN p off n).cores = s.cores := by unfold State.countN; split <;> rfl
@[simp] theorem State.countN_caches (s : State) (p off n : Nat) : (s.countN p off n).caches = s.caches := by unfold State.countN; split <;> rfl
@[simp] theorem State.countN_nvme (s : State) (p off n : Nat) : (s.countN p off n).nvme = s.nvme := by unfold State.countN; split <;> rfl
@[simp] theorem State.countN_net (s : State) (p off n : Nat) : (s.countN p off n).net = s.net := by unfold State.countN; split <;> rfl
@[simp] theorem State.countN_panels (s : State) (p off n : Nat) : (s.countN p off n).panels = s.panels := by unfold State.countN; split <;> rfl
@[simp] theorem State.countN_uartTx (s : State) (p off n : Nat) : (s.countN p off n).uartTx = s.uartTx := by unfold State.countN; split <;> rfl
@[simp] theorem State.countN_uartRx (s : State) (p off n : Nat) : (s.countN p off n).uartRx = s.uartRx := by unfold State.countN; split <;> rfl
@[simp] theorem State.countN_pending (s : State) (p off n : Nat) : (s.countN p off n).pending = s.pending := by unfold State.countN; split <;> rfl

/-! ### count -/

@[simp] theorem State.count_part (s : State) (p off : Nat) : (s.count p off).part = s.part := State.countN_part s p off 1
@[simp] theorem State.count_board (s : State) (p off : Nat) : (s.count p off).board = s.board := State.countN_board s p off 1
@[simp] theorem State.count_regs (s : State) (p off : Nat) : (s.count p off).regs = s.regs := State.countN_regs s p off 1
@[simp] theorem State.count_loaded (s : State) (p off : Nat) : (s.count p off).loaded = s.loaded := State.countN_loaded s p off 1
@[simp] theorem State.count_shadow (s : State) (p off : Nat) : (s.count p off).shadow = s.shadow := State.countN_shadow s p off 1
@[simp] theorem State.count_mem (s : State) (p off : Nat) : (s.count p off).mem = s.mem := State.countN_mem s p off 1
@[simp] theorem State.count_nor (s : State) (p off : Nat) : (s.count p off).nor = s.nor := State.countN_nor s p off 1
@[simp] theorem State.count_gbit (s : State) (p off : Nat) : (s.count p off).gbit = s.gbit := State.countN_gbit s p off 1
@[simp] theorem State.count_rtcUs (s : State) (p off : Nat) : (s.count p off).rtcUs = s.rtcUs := State.countN_rtcUs s p off 1
@[simp] theorem State.count_splTime (s : State) (p off : Nat) : (s.count p off).splTime = s.splTime := State.countN_splTime s p off 1
@[simp] theorem State.count_cycFrac (s : State) (p off : Nat) : (s.count p off).cycFrac = s.cycFrac := State.countN_cycFrac s p off 1
@[simp] theorem State.count_free (s : State) (p off : Nat) : (s.count p off).free = s.free := State.countN_free s p off 1
@[simp] theorem State.count_outbox (s : State) (p off : Nat) : (s.count p off).outbox = s.outbox := State.countN_outbox s p off 1
@[simp] theorem State.count_power (s : State) (p off : Nat) : (s.count p off).power = s.power := State.countN_power s p off 1
@[simp] theorem State.count_trust (s : State) (p off : Nat) : (s.count p off).trust = s.trust := State.countN_trust s p off 1
@[simp] theorem State.count_serial (s : State) (p off : Nat) : (s.count p off).serial = s.serial := State.countN_serial s p off 1
@[simp] theorem State.count_fault (s : State) (p off : Nat) : (s.count p off).fault = s.fault := State.countN_fault s p off 1
@[simp] theorem State.count_stg (s : State) (p off : Nat) : (s.count p off).stg = s.stg := State.countN_stg s p off 1
@[simp] theorem State.count_integ (s : State) (p off : Nat) : (s.count p off).integ = s.integ := State.countN_integ s p off 1
@[simp] theorem State.count_dram (s : State) (p off : Nat) : (s.count p off).dram = s.dram := State.countN_dram s p off 1
@[simp] theorem State.count_seam (s : State) (p off : Nat) : (s.count p off).seam = s.seam := State.countN_seam s p off 1
@[simp] theorem State.count_nand (s : State) (p off : Nat) : (s.count p off).nand = s.nand := State.countN_nand s p off 1
@[simp] theorem State.count_selv (s : State) (p off : Nat) : (s.count p off).selv = s.selv := State.countN_selv s p off 1
@[simp] theorem State.count_servo (s : State) (p off : Nat) : (s.count p off).servo = s.servo := State.countN_servo s p off 1
@[simp] theorem State.count_trd (s : State) (p off : Nat) : (s.count p off).trd = s.trd := State.countN_trd s p off 1
@[simp] theorem State.count_pink (s : State) (p off : Nat) : (s.count p off).pink = s.pink := State.countN_pink s p off 1
@[simp] theorem State.count_pleat (s : State) (p off : Nat) : (s.count p off).pleat = s.pleat := State.countN_pleat s p off 1
@[simp] theorem State.count_gauge (s : State) (p off : Nat) : (s.count p off).gauge = s.gauge := State.countN_gauge s p off 1
@[simp] theorem State.count_spool (s : State) (p off : Nat) : (s.count p off).spool = s.spool := State.countN_spool s p off 1
@[simp] theorem State.count_cores (s : State) (p off : Nat) : (s.count p off).cores = s.cores := State.countN_cores s p off 1
@[simp] theorem State.count_caches (s : State) (p off : Nat) : (s.count p off).caches = s.caches := State.countN_caches s p off 1
@[simp] theorem State.count_nvme (s : State) (p off : Nat) : (s.count p off).nvme = s.nvme := State.countN_nvme s p off 1
@[simp] theorem State.count_net (s : State) (p off : Nat) : (s.count p off).net = s.net := State.countN_net s p off 1
@[simp] theorem State.count_panels (s : State) (p off : Nat) : (s.count p off).panels = s.panels := State.countN_panels s p off 1
@[simp] theorem State.count_uartTx (s : State) (p off : Nat) : (s.count p off).uartTx = s.uartTx := State.countN_uartTx s p off 1
@[simp] theorem State.count_uartRx (s : State) (p off : Nat) : (s.count p off).uartRx = s.uartRx := State.countN_uartRx s p off 1
@[simp] theorem State.count_pending (s : State) (p off : Nat) : (s.count p off).pending = s.pending := State.countN_pending s p off 1

/-! ### msix1 -/

@[simp] theorem State.msix1_part (s : State) (v : Nat) : (s.msix1 v).part = s.part := by unfold State.msix1 State.whenB; split <;> rfl
@[simp] theorem State.msix1_board (s : State) (v : Nat) : (s.msix1 v).board = s.board := by unfold State.msix1 State.whenB; split <;> rfl
@[simp] theorem State.msix1_regs (s : State) (v : Nat) : (s.msix1 v).regs = s.regs := by unfold State.msix1 State.whenB; split <;> rfl
@[simp] theorem State.msix1_loaded (s : State) (v : Nat) : (s.msix1 v).loaded = s.loaded := by unfold State.msix1 State.whenB; split <;> rfl
@[simp] theorem State.msix1_ctrs (s : State) (v : Nat) : (s.msix1 v).ctrs = s.ctrs := by unfold State.msix1 State.whenB; split <;> rfl
@[simp] theorem State.msix1_shadow (s : State) (v : Nat) : (s.msix1 v).shadow = s.shadow := by unfold State.msix1 State.whenB; split <;> rfl
@[simp] theorem State.msix1_mem (s : State) (v : Nat) : (s.msix1 v).mem = s.mem := by unfold State.msix1 State.whenB; split <;> rfl
@[simp] theorem State.msix1_nor (s : State) (v : Nat) : (s.msix1 v).nor = s.nor := by unfold State.msix1 State.whenB; split <;> rfl
@[simp] theorem State.msix1_gbit (s : State) (v : Nat) : (s.msix1 v).gbit = s.gbit := by unfold State.msix1 State.whenB; split <;> rfl
@[simp] theorem State.msix1_rtcUs (s : State) (v : Nat) : (s.msix1 v).rtcUs = s.rtcUs := by unfold State.msix1 State.whenB; split <;> rfl
@[simp] theorem State.msix1_splTime (s : State) (v : Nat) : (s.msix1 v).splTime = s.splTime := by unfold State.msix1 State.whenB; split <;> rfl
@[simp] theorem State.msix1_cycFrac (s : State) (v : Nat) : (s.msix1 v).cycFrac = s.cycFrac := by unfold State.msix1 State.whenB; split <;> rfl
@[simp] theorem State.msix1_free (s : State) (v : Nat) : (s.msix1 v).free = s.free := by unfold State.msix1 State.whenB; split <;> rfl
@[simp] theorem State.msix1_power (s : State) (v : Nat) : (s.msix1 v).power = s.power := by unfold State.msix1 State.whenB; split <;> rfl
@[simp] theorem State.msix1_trust (s : State) (v : Nat) : (s.msix1 v).trust = s.trust := by unfold State.msix1 State.whenB; split <;> rfl
@[simp] theorem State.msix1_serial (s : State) (v : Nat) : (s.msix1 v).serial = s.serial := by unfold State.msix1 State.whenB; split <;> rfl
@[simp] theorem State.msix1_fault (s : State) (v : Nat) : (s.msix1 v).fault = s.fault := by unfold State.msix1 State.whenB; split <;> rfl
@[simp] theorem State.msix1_stg (s : State) (v : Nat) : (s.msix1 v).stg = s.stg := by unfold State.msix1 State.whenB; split <;> rfl
@[simp] theorem State.msix1_integ (s : State) (v : Nat) : (s.msix1 v).integ = s.integ := by unfold State.msix1 State.whenB; split <;> rfl
@[simp] theorem State.msix1_dram (s : State) (v : Nat) : (s.msix1 v).dram = s.dram := by unfold State.msix1 State.whenB; split <;> rfl
@[simp] theorem State.msix1_seam (s : State) (v : Nat) : (s.msix1 v).seam = s.seam := by unfold State.msix1 State.whenB; split <;> rfl
@[simp] theorem State.msix1_nand (s : State) (v : Nat) : (s.msix1 v).nand = s.nand := by unfold State.msix1 State.whenB; split <;> rfl
@[simp] theorem State.msix1_selv (s : State) (v : Nat) : (s.msix1 v).selv = s.selv := by unfold State.msix1 State.whenB; split <;> rfl
@[simp] theorem State.msix1_servo (s : State) (v : Nat) : (s.msix1 v).servo = s.servo := by unfold State.msix1 State.whenB; split <;> rfl
@[simp] theorem State.msix1_trd (s : State) (v : Nat) : (s.msix1 v).trd = s.trd := by unfold State.msix1 State.whenB; split <;> rfl
@[simp] theorem State.msix1_pink (s : State) (v : Nat) : (s.msix1 v).pink = s.pink := by unfold State.msix1 State.whenB; split <;> rfl
@[simp] theorem State.msix1_pleat (s : State) (v : Nat) : (s.msix1 v).pleat = s.pleat := by unfold State.msix1 State.whenB; split <;> rfl
@[simp] theorem State.msix1_gauge (s : State) (v : Nat) : (s.msix1 v).gauge = s.gauge := by unfold State.msix1 State.whenB; split <;> rfl
@[simp] theorem State.msix1_spool (s : State) (v : Nat) : (s.msix1 v).spool = s.spool := by unfold State.msix1 State.whenB; split <;> rfl
@[simp] theorem State.msix1_cores (s : State) (v : Nat) : (s.msix1 v).cores = s.cores := by unfold State.msix1 State.whenB; split <;> rfl
@[simp] theorem State.msix1_caches (s : State) (v : Nat) : (s.msix1 v).caches = s.caches := by unfold State.msix1 State.whenB; split <;> rfl
@[simp] theorem State.msix1_nvme (s : State) (v : Nat) : (s.msix1 v).nvme = s.nvme := by unfold State.msix1 State.whenB; split <;> rfl
@[simp] theorem State.msix1_net (s : State) (v : Nat) : (s.msix1 v).net = s.net := by unfold State.msix1 State.whenB; split <;> rfl
@[simp] theorem State.msix1_panels (s : State) (v : Nat) : (s.msix1 v).panels = s.panels := by unfold State.msix1 State.whenB; split <;> rfl
@[simp] theorem State.msix1_uartTx (s : State) (v : Nat) : (s.msix1 v).uartTx = s.uartTx := by unfold State.msix1 State.whenB; split <;> rfl
@[simp] theorem State.msix1_uartRx (s : State) (v : Nat) : (s.msix1 v).uartRx = s.uartRx := by unfold State.msix1 State.whenB; split <;> rfl
@[simp] theorem State.msix1_pending (s : State) (v : Nat) : (s.msix1 v).pending = s.pending := by unfold State.msix1 State.whenB; split <;> rfl

/-! ### raise -/

@[simp] theorem State.raise_part (s : State) (p b : Nat) : (s.raise p b).part = s.part := by unfold State.raise State.announce State.whenB; simp only; split <;> simp
@[simp] theorem State.raise_board (s : State) (p b : Nat) : (s.raise p b).board = s.board := by unfold State.raise State.announce State.whenB; simp only; split <;> simp
@[simp] theorem State.raise_loaded (s : State) (p b : Nat) : (s.raise p b).loaded = s.loaded := by unfold State.raise State.announce State.whenB; simp only; split <;> simp
@[simp] theorem State.raise_ctrs (s : State) (p b : Nat) : (s.raise p b).ctrs = s.ctrs := by unfold State.raise State.announce State.whenB; simp only; split <;> simp
@[simp] theorem State.raise_shadow (s : State) (p b : Nat) : (s.raise p b).shadow = s.shadow := by unfold State.raise State.announce State.whenB; simp only; split <;> simp
@[simp] theorem State.raise_mem (s : State) (p b : Nat) : (s.raise p b).mem = s.mem := by unfold State.raise State.announce State.whenB; simp only; split <;> simp
@[simp] theorem State.raise_nor (s : State) (p b : Nat) : (s.raise p b).nor = s.nor := by unfold State.raise State.announce State.whenB; simp only; split <;> simp
@[simp] theorem State.raise_gbit (s : State) (p b : Nat) : (s.raise p b).gbit = s.gbit := by unfold State.raise State.announce State.whenB; simp only; split <;> simp
@[simp] theorem State.raise_rtcUs (s : State) (p b : Nat) : (s.raise p b).rtcUs = s.rtcUs := by unfold State.raise State.announce State.whenB; simp only; split <;> simp
@[simp] theorem State.raise_splTime (s : State) (p b : Nat) : (s.raise p b).splTime = s.splTime := by unfold State.raise State.announce State.whenB; simp only; split <;> simp
@[simp] theorem State.raise_cycFrac (s : State) (p b : Nat) : (s.raise p b).cycFrac = s.cycFrac := by unfold State.raise State.announce State.whenB; simp only; split <;> simp
@[simp] theorem State.raise_free (s : State) (p b : Nat) : (s.raise p b).free = s.free := by unfold State.raise State.announce State.whenB; simp only; split <;> simp
@[simp] theorem State.raise_power (s : State) (p b : Nat) : (s.raise p b).power = s.power := by unfold State.raise State.announce State.whenB; simp only; split <;> simp
@[simp] theorem State.raise_trust (s : State) (p b : Nat) : (s.raise p b).trust = s.trust := by unfold State.raise State.announce State.whenB; simp only; split <;> simp
@[simp] theorem State.raise_serial (s : State) (p b : Nat) : (s.raise p b).serial = s.serial := by unfold State.raise State.announce State.whenB; simp only; split <;> simp
@[simp] theorem State.raise_fault (s : State) (p b : Nat) : (s.raise p b).fault = s.fault := by unfold State.raise State.announce State.whenB; simp only; split <;> simp
@[simp] theorem State.raise_stg (s : State) (p b : Nat) : (s.raise p b).stg = s.stg := by unfold State.raise State.announce State.whenB; simp only; split <;> simp
@[simp] theorem State.raise_integ (s : State) (p b : Nat) : (s.raise p b).integ = s.integ := by unfold State.raise State.announce State.whenB; simp only; split <;> simp
@[simp] theorem State.raise_dram (s : State) (p b : Nat) : (s.raise p b).dram = s.dram := by unfold State.raise State.announce State.whenB; simp only; split <;> simp
@[simp] theorem State.raise_seam (s : State) (p b : Nat) : (s.raise p b).seam = s.seam := by unfold State.raise State.announce State.whenB; simp only; split <;> simp
@[simp] theorem State.raise_nand (s : State) (p b : Nat) : (s.raise p b).nand = s.nand := by unfold State.raise State.announce State.whenB; simp only; split <;> simp
@[simp] theorem State.raise_selv (s : State) (p b : Nat) : (s.raise p b).selv = s.selv := by unfold State.raise State.announce State.whenB; simp only; split <;> simp
@[simp] theorem State.raise_servo (s : State) (p b : Nat) : (s.raise p b).servo = s.servo := by unfold State.raise State.announce State.whenB; simp only; split <;> simp
@[simp] theorem State.raise_trd (s : State) (p b : Nat) : (s.raise p b).trd = s.trd := by unfold State.raise State.announce State.whenB; simp only; split <;> simp
@[simp] theorem State.raise_pink (s : State) (p b : Nat) : (s.raise p b).pink = s.pink := by unfold State.raise State.announce State.whenB; simp only; split <;> simp
@[simp] theorem State.raise_pleat (s : State) (p b : Nat) : (s.raise p b).pleat = s.pleat := by unfold State.raise State.announce State.whenB; simp only; split <;> simp
@[simp] theorem State.raise_gauge (s : State) (p b : Nat) : (s.raise p b).gauge = s.gauge := by unfold State.raise State.announce State.whenB; simp only; split <;> simp
@[simp] theorem State.raise_spool (s : State) (p b : Nat) : (s.raise p b).spool = s.spool := by unfold State.raise State.announce State.whenB; simp only; split <;> simp
@[simp] theorem State.raise_cores (s : State) (p b : Nat) : (s.raise p b).cores = s.cores := by unfold State.raise State.announce State.whenB; simp only; split <;> simp
@[simp] theorem State.raise_caches (s : State) (p b : Nat) : (s.raise p b).caches = s.caches := by unfold State.raise State.announce State.whenB; simp only; split <;> simp
@[simp] theorem State.raise_nvme (s : State) (p b : Nat) : (s.raise p b).nvme = s.nvme := by unfold State.raise State.announce State.whenB; simp only; split <;> simp
@[simp] theorem State.raise_net (s : State) (p b : Nat) : (s.raise p b).net = s.net := by unfold State.raise State.announce State.whenB; simp only; split <;> simp
@[simp] theorem State.raise_panels (s : State) (p b : Nat) : (s.raise p b).panels = s.panels := by unfold State.raise State.announce State.whenB; simp only; split <;> simp
@[simp] theorem State.raise_uartTx (s : State) (p b : Nat) : (s.raise p b).uartTx = s.uartTx := by unfold State.raise State.announce State.whenB; simp only; split <;> simp
@[simp] theorem State.raise_uartRx (s : State) (p b : Nat) : (s.raise p b).uartRx = s.uartRx := by unfold State.raise State.announce State.whenB; simp only; split <;> simp
@[simp] theorem State.raise_pending (s : State) (p b : Nat) : (s.raise p b).pending = s.pending := by unfold State.raise State.announce State.whenB; simp only; split <;> simp

/-! ### err -/

@[simp] theorem State.err_part (s : State) (p code info addr : Nat) : (s.err p code info addr).part = s.part := by unfold State.err; split <;> rfl
@[simp] theorem State.err_board (s : State) (p code info addr : Nat) : (s.err p code info addr).board = s.board := by unfold State.err; split <;> rfl
@[simp] theorem State.err_loaded (s : State) (p code info addr : Nat) : (s.err p code info addr).loaded = s.loaded := by unfold State.err; split <;> rfl
@[simp] theorem State.err_ctrs (s : State) (p code info addr : Nat) : (s.err p code info addr).ctrs = s.ctrs := by unfold State.err; split <;> rfl
@[simp] theorem State.err_shadow (s : State) (p code info addr : Nat) : (s.err p code info addr).shadow = s.shadow := by unfold State.err; split <;> rfl
@[simp] theorem State.err_mem (s : State) (p code info addr : Nat) : (s.err p code info addr).mem = s.mem := by unfold State.err; split <;> rfl
@[simp] theorem State.err_nor (s : State) (p code info addr : Nat) : (s.err p code info addr).nor = s.nor := by unfold State.err; split <;> rfl
@[simp] theorem State.err_gbit (s : State) (p code info addr : Nat) : (s.err p code info addr).gbit = s.gbit := by unfold State.err; split <;> rfl
@[simp] theorem State.err_rtcUs (s : State) (p code info addr : Nat) : (s.err p code info addr).rtcUs = s.rtcUs := by unfold State.err; split <;> rfl
@[simp] theorem State.err_splTime (s : State) (p code info addr : Nat) : (s.err p code info addr).splTime = s.splTime := by unfold State.err; split <;> rfl
@[simp] theorem State.err_cycFrac (s : State) (p code info addr : Nat) : (s.err p code info addr).cycFrac = s.cycFrac := by unfold State.err; split <;> rfl
@[simp] theorem State.err_free (s : State) (p code info addr : Nat) : (s.err p code info addr).free = s.free := by unfold State.err; split <;> rfl
@[simp] theorem State.err_outbox (s : State) (p code info addr : Nat) : (s.err p code info addr).outbox = s.outbox := by unfold State.err; split <;> rfl
@[simp] theorem State.err_power (s : State) (p code info addr : Nat) : (s.err p code info addr).power = s.power := by unfold State.err; split <;> rfl
@[simp] theorem State.err_trust (s : State) (p code info addr : Nat) : (s.err p code info addr).trust = s.trust := by unfold State.err; split <;> rfl
@[simp] theorem State.err_serial (s : State) (p code info addr : Nat) : (s.err p code info addr).serial = s.serial := by unfold State.err; split <;> rfl
@[simp] theorem State.err_fault (s : State) (p code info addr : Nat) : (s.err p code info addr).fault = s.fault := by unfold State.err; split <;> rfl
@[simp] theorem State.err_stg (s : State) (p code info addr : Nat) : (s.err p code info addr).stg = s.stg := by unfold State.err; split <;> rfl
@[simp] theorem State.err_integ (s : State) (p code info addr : Nat) : (s.err p code info addr).integ = s.integ := by unfold State.err; split <;> rfl
@[simp] theorem State.err_dram (s : State) (p code info addr : Nat) : (s.err p code info addr).dram = s.dram := by unfold State.err; split <;> rfl
@[simp] theorem State.err_seam (s : State) (p code info addr : Nat) : (s.err p code info addr).seam = s.seam := by unfold State.err; split <;> rfl
@[simp] theorem State.err_nand (s : State) (p code info addr : Nat) : (s.err p code info addr).nand = s.nand := by unfold State.err; split <;> rfl
@[simp] theorem State.err_selv (s : State) (p code info addr : Nat) : (s.err p code info addr).selv = s.selv := by unfold State.err; split <;> rfl
@[simp] theorem State.err_servo (s : State) (p code info addr : Nat) : (s.err p code info addr).servo = s.servo := by unfold State.err; split <;> rfl
@[simp] theorem State.err_trd (s : State) (p code info addr : Nat) : (s.err p code info addr).trd = s.trd := by unfold State.err; split <;> rfl
@[simp] theorem State.err_pink (s : State) (p code info addr : Nat) : (s.err p code info addr).pink = s.pink := by unfold State.err; split <;> rfl
@[simp] theorem State.err_pleat (s : State) (p code info addr : Nat) : (s.err p code info addr).pleat = s.pleat := by unfold State.err; split <;> rfl
@[simp] theorem State.err_gauge (s : State) (p code info addr : Nat) : (s.err p code info addr).gauge = s.gauge := by unfold State.err; split <;> rfl
@[simp] theorem State.err_spool (s : State) (p code info addr : Nat) : (s.err p code info addr).spool = s.spool := by unfold State.err; split <;> rfl
@[simp] theorem State.err_cores (s : State) (p code info addr : Nat) : (s.err p code info addr).cores = s.cores := by unfold State.err; split <;> rfl
@[simp] theorem State.err_caches (s : State) (p code info addr : Nat) : (s.err p code info addr).caches = s.caches := by unfold State.err; split <;> rfl
@[simp] theorem State.err_nvme (s : State) (p code info addr : Nat) : (s.err p code info addr).nvme = s.nvme := by unfold State.err; split <;> rfl
@[simp] theorem State.err_net (s : State) (p code info addr : Nat) : (s.err p code info addr).net = s.net := by unfold State.err; split <;> rfl
@[simp] theorem State.err_panels (s : State) (p code info addr : Nat) : (s.err p code info addr).panels = s.panels := by unfold State.err; split <;> rfl
@[simp] theorem State.err_uartTx (s : State) (p code info addr : Nat) : (s.err p code info addr).uartTx = s.uartTx := by unfold State.err; split <;> rfl
@[simp] theorem State.err_uartRx (s : State) (p code info addr : Nat) : (s.err p code info addr).uartRx = s.uartRx := by unfold State.err; split <;> rfl
@[simp] theorem State.err_pending (s : State) (p code info addr : Nat) : (s.err p code info addr).pending = s.pending := by unfold State.err; split <;> rfl

end Sys2Proof.Machine
end

