-- ==== Sys2Proof/Laws/Table.lean ====
section
/-!
SUPPORT. Sys2Proof/Laws/Table.lean: tables and memory: a read after a write, and the canonical form of memory kept by every
write.
-/

namespace Sys2Proof.Machine

variable {β : Type}

/-! ### Tables -/

@[simp] theorem Tbl.at?_nil (k : Nat) : Tbl.at? ([] : Tbl β) k = none := rfl

theorem Tbl.at?_put (t : Tbl β) (k j : Nat) (v : β) : Tbl.at? (Tbl.put t k v) j = if k = j then some v else Tbl.at? t j := by
  induction t with
  | nil => simp [Tbl.put, Tbl.at?]
  | cons e r ih =>
    obtain ⟨a, w⟩ := e
    simp only [Tbl.put]
    split
    · simp [Tbl.at?]
    · split
      · rename_i h; subst h; by_cases hj : k = j <;> simp [Tbl.at?, hj]
      · rename_i h1 h2
        simp only [Tbl.at?, ih]
        by_cases hj : a = j
        · subst hj; simp [h2]
        · simp [hj]

@[simp] theorem Tbl.at?_put_same (t : Tbl β) (k : Nat) (v : β) : Tbl.at? (Tbl.put t k v) k = some v := by simp [Tbl.at?_put]

theorem Tbl.at?_put_ne (t : Tbl β) {k j : Nat} (v : β) (h : k ≠ j) : Tbl.at? (Tbl.put t k v) j = Tbl.at? t j := by
  simp [Tbl.at?_put, h]

theorem Tbl.at?_del (t : Tbl β) (k j : Nat) : Tbl.at? (Tbl.del t k) j = if k = j then none else Tbl.at? t j := by
  induction t with
  | nil => simp [Tbl.del]
  | cons e r ih =>
    obtain ⟨a, w⟩ := e
    simp only [Tbl.del, List.filter] at ih ⊢
    by_cases ha : a = k
    · subst ha; simp only [ne_eq, not_true_eq_false, decide_false, ih, Tbl.at?]
      by_cases hj : a = j <;> simp [hj]
    · simp only [ne_eq, ha, not_false_eq_true, decide_true, Tbl.at?, ih]
      by_cases hj : a = j
      · subst hj; simp [Ne.symm ha]
      · simp [hj]

theorem Tbl.at?_upd (t : Tbl β) (k j : Nat) (f : β → β) :
    Tbl.at? (Tbl.upd t k f) j = if k = j then (Tbl.at? t j).map f else Tbl.at? t j := by
  induction t with
  | nil => simp [Tbl.upd]
  | cons e r ih =>
    obtain ⟨a, w⟩ := e
    simp only [Tbl.upd, List.map_cons] at ih ⊢
    by_cases ha : a = k
    · subst ha; simp only [if_pos, Tbl.at?, ih]
      by_cases hj : a = j <;> simp [hj]
    · simp only [if_neg ha, Tbl.at?, ih]
      by_cases hj : a = j
      · subst hj; simp [Ne.symm ha]
      · simp [hj]

/-! ### Memory -/

/-- A byte read after a byte is written. -/
theorem memAt_memSet (m : Memory) (a b : Nat) (v : Byte) : memAt (memSet m a v) b = if a = b then v else memAt m b := by
  unfold memAt memSet
  split
  · rename_i h; subst h; rw [Tbl.at?_del]; by_cases hb : a = b <;> simp [hb]
  · rw [Tbl.at?_put]; by_cases hb : a = b <;> simp [hb]

/-- A byte outside the bytes written reads as before. -/
theorem memAt_memWrite_out (l : List Byte) : ∀ (m : Memory) (a b : Nat), (b < a ∨ a + l.length ≤ b) → memAt (memWrite m a l) b = memAt m b := by
  induction l with
  | nil => intro m a b _; rfl
  | cons v r ih =>
    intro m a b h
    simp only [List.length_cons] at h
    rw [memWrite, ih _ _ _ (by omega), memAt_memSet, if_neg (by omega)]

/-- The byte at offset `i` of the bytes written. -/
theorem memAt_memWrite_in (l : List Byte) : ∀ (m : Memory) (a i : Nat) (h : i < l.length), memAt (memWrite m a l) (a + i) = l[i] := by
  induction l with
  | nil => intro m a i h; exact absurd h (by simp)
  | cons v r ih =>
    intro m a i h
    cases i with
    | zero =>
      rw [memWrite, memAt_memWrite_out _ _ _ _ (by omega), memAt_memSet]; simp
    | succ i =>
      have := ih (memSet m a v) (a + 1) i (by simpa using h)
      rw [memWrite, show a + (i + 1) = a + 1 + i by omega, this]; simp

theorem Tbl.mem_put {t : Tbl β} {k : Nat} {v : β} {e : Nat × β} (h : e ∈ Tbl.put t k v) : e = (k, v) ∨ e ∈ t := by
  induction t with
  | nil => simpa [Tbl.put] using h
  | cons x r ih =>
    obtain ⟨a, w⟩ := x
    simp only [Tbl.put] at h
    split at h
    · simpa using h
    · split at h
      · rcases List.mem_cons.1 h with h | h
        · exact .inl h
        · exact .inr (List.mem_cons_of_mem _ h)
      · rcases List.mem_cons.1 h with h | h
        · exact .inr (by simp [h])
        · rcases ih h with h | h
          · exact .inl h
          · exact .inr (List.mem_cons_of_mem _ h)

/-- A table keeps its keys rising. -/
theorem Tbl.pairwise_put {t : Tbl β} (k : Nat) (v : β) (h : List.Pairwise (fun a b : Nat × β => a.1 < b.1) t) :
    List.Pairwise (fun a b : Nat × β => a.1 < b.1) (Tbl.put t k v) := by
  induction t with
  | nil => simp [Tbl.put]
  | cons x r ih =>
    obtain ⟨a, w⟩ := x
    have hr := List.pairwise_cons.1 h
    simp only [Tbl.put]
    split
    · rename_i hk
      refine List.pairwise_cons.2 ⟨?_, h⟩
      intro e he
      rcases List.mem_cons.1 he with rfl | he
      · exact hk
      · exact Nat.lt_trans hk (hr.1 e he)
    · split
      · rename_i hk; subst hk; exact List.pairwise_cons.2 ⟨hr.1, hr.2⟩
      · rename_i h1 h2
        refine List.pairwise_cons.2 ⟨?_, ih hr.2⟩
        intro e he
        rcases Tbl.mem_put he with rfl | he
        · show a < k; omega
        · exact hr.1 e he

theorem Memory.wf_iff (m : Memory) :
    Memory.wf m = true ↔ List.Pairwise (fun a b : Host.Cell => a.1 < b.1) m ∧ ∀ e ∈ m, e.2 ≠ 0 := by
  simp [Memory.wf]

@[simp] theorem Memory.wf_nil : Memory.wf [] = true := by decide

/-- A byte written keeps memory in canonical form. -/
theorem Memory.wf_memSet {m : Memory} (a : Nat) (v : Byte) (h : Memory.wf m = true) : Memory.wf (memSet m a v) = true := by
  rw [Memory.wf_iff] at h ⊢
  unfold memSet
  split
  · exact ⟨h.1.filter _, fun e he => h.2 e (List.mem_filter.1 he).1⟩
  · rename_i hv
    refine ⟨Tbl.pairwise_put a v h.1, fun e he => ?_⟩
    rcases Tbl.mem_put he with rfl | he
    · exact hv
    · exact h.2 e he

/-- Bytes written keep memory in canonical form. -/
theorem Memory.wf_memWrite {m : Memory} (a : Nat) (l : List Byte) (h : Memory.wf m = true) : Memory.wf (memWrite m a l) = true := by
  induction l generalizing m a with
  | nil => exact h
  | cons v r ih => exact ih (a + 1) (Memory.wf_memSet a v h)

/-- Entries taken out keep memory in canonical form. -/
theorem Memory.wf_filter {m : Memory} (f : Host.Cell → Bool) (h : Memory.wf m = true) : Memory.wf (m.filter f) = true := by
  rw [Memory.wf_iff] at h ⊢
  exact ⟨h.1.filter _, fun e he => h.2 e (List.mem_filter.1 he).1⟩

end Sys2Proof.Machine
end

