-- ==== Sys2Proof/Laws/Regs.lean ====
section
/-!
SUPPORT. Sys2Proof/Laws/Regs.lean: registers: what a read gives after each shared operation.
-/

namespace Sys2Proof.Machine

/-- A field read after a field is set. -/
theorem State.rdI_wrI (s : State) (p q : Nat) (f g : Fld) (i j v : Nat) :
    (s.wrI p f i v).rdI q g j = if fkey p f i = fkey q g j then v % 2 ^ f.w else s.rdI q g j := by
  simp only [State.rdI, State.wrI, Tbl.at?_put]
  split <;> rfl

@[simp] theorem State.rdI_wrI_same (s : State) (p : Nat) (f : Fld) (i v : Nat) : (s.wrI p f i v).rdI p f i = v % 2 ^ f.w := by
  simp [State.rdI_wrI]

theorem State.rdI_wrI_ne (s : State) {p q : Nat} {f g : Fld} {i j : Nat} (v : Nat) (h : fkey p f i ≠ fkey q g j) :
    (s.wrI p f i v).rdI q g j = s.rdI q g j := by simp [State.rdI_wrI, h]

theorem State.rd_wr (s : State) (p q : Nat) (f g : Fld) (v : Nat) :
    (s.wr p f v).rd q g = if fkey p f 0 = fkey q g 0 then v % 2 ^ f.w else s.rd q g := State.rdI_wrI s p q f g 0 0 v

@[simp] theorem State.rd_wr_same (s : State) (p : Nat) (f : Fld) (v : Nat) : (s.wr p f v).rd p f = v % 2 ^ f.w := State.rdI_wrI_same s p f 0 v

theorem State.rd_wr_ne (s : State) {p q : Nat} {f g : Fld} (v : Nat) (h : fkey p f 0 ≠ fkey q g 0) : (s.wr p f v).rd q g = s.rd q g :=
  State.rdI_wrI_ne s v h

@[simp] theorem State.wrI_regs (s : State) (p : Nat) (f : Fld) (i v : Nat) :
    (s.wrI p f i v).regs = Tbl.put s.regs (fkey p f i) (v % 2 ^ f.w) := rfl
@[simp] theorem State.wr_regs (s : State) (p : Nat) (f : Fld) (v : Nat) :
    (s.wr p f v).regs = Tbl.put s.regs (fkey p f 0) (v % 2 ^ f.w) := rfl
@[simp] theorem State.flag_regs (s : State) (p : Nat) (f : Fld) : (s.flag p f).regs = Tbl.put s.regs (fkey p f 0) (1 % 2 ^ f.w) := rfl
@[simp] theorem State.setDev_regs (s : State) (d : Nat) :
    (s.setDev d).regs = Tbl.put s.regs (fkey P.glb R.glb_DEVSTATE 0) (d % 2 ^ R.glb_DEVSTATE.w) := rfl

/-- An interrupt raised sets its INT_RAW bit and no other field. -/
@[simp] theorem State.raise_regs (s : State) (p b : Nat) :
    (s.raise p b).regs =
      Tbl.put s.regs (fkey p R.common_INT_RAW 0) (bitPut (s.rd p R.common_INT_RAW) b true % 2 ^ R.common_INT_RAW.w) := by
  unfold State.raise State.announce State.whenB; simp only; split <;> simp

/-- A read of a field after a step that leaves the registers and the part alone. -/
theorem State.rdI_congr {s t : State} (h : t.regs = s.regs) (hp : t.part = s.part) (p : Nat) (f : Fld) (i : Nat) :
    t.rdI p f i = s.rdI p f i := by simp [State.rdI, h, hp]

@[simp] theorem State.rdI_send (s : State) (o : Output) (p : Nat) (f : Fld) (i : Nat) : (s.send o).rdI p f i = s.rdI p f i := rfl
@[simp] theorem State.rd_send (s : State) (o : Output) (p : Nat) (f : Fld) : (s.send o).rd p f = s.rd p f := rfl
@[simp] theorem State.rdI_countN (s : State) (p o n q : Nat) (f : Fld) (i : Nat) : (s.countN p o n).rdI q f i = s.rdI q f i :=
  State.rdI_congr (by simp) (by simp) q f i
@[simp] theorem State.rd_countN (s : State) (p o n q : Nat) (f : Fld) : (s.countN p o n).rd q f = s.rd q f := State.rdI_countN s p o n q f 0
@[simp] theorem State.rdI_count (s : State) (p o q : Nat) (f : Fld) (i : Nat) : (s.count p o).rdI q f i = s.rdI q f i :=
  State.rdI_countN s p o 1 q f i
@[simp] theorem State.rd_count (s : State) (p o q : Nat) (f : Fld) : (s.count p o).rd q f = s.rd q f := State.rdI_countN s p o 1 q f 0
@[simp] theorem State.rd_drawFree (s : State) (w q : Nat) (f : Fld) : (s.drawFree w).2.rd q f = s.rd q f := rfl
@[simp] theorem State.rd_postCpl (s : State) (c : Cpl) (q : Nat) (f : Fld) : (s.postCpl c).rd q f = s.rd q f := rfl
@[simp] theorem State.rd_updCore (s : State) (c : CoreId) (g : Core → Core) (q : Nat) (f : Fld) : (s.updCore c g).rd q f = s.rd q f := rfl

theorem State.rd_raise (s : State) (p b q : Nat) (f : Fld) :
    (s.raise p b).rd q f =
      if fkey p R.common_INT_RAW 0 = fkey q f 0 then bitPut (s.rd p R.common_INT_RAW) b true % 2 ^ 32 else s.rd q f := by
  simp only [State.rd, State.rdI, State.raise_regs, State.raise_part, Tbl.at?_put]
  split <;> rfl

/-- An interrupt raised changes no field but INT_RAW of its page. -/
theorem State.rd_raise_ne (s : State) {p q : Nat} (b : Nat) {f : Fld} (h : fkey p R.common_INT_RAW 0 ≠ fkey q f 0) :
    (s.raise p b).rd q f = s.rd q f := by simp [State.rd_raise, h]

/-- A counter advances by `n` modulo 2^64, unless its page or GLB freezes it. -/
theorem State.ctr_countN (s : State) (p o n : Nat) :
    (s.countN p o n).ctr p o = if s.frozen p then s.ctr p o else (s.ctr p o + n) % 2 ^ 64 := by
  unfold State.countN State.ctr
  split <;> simp

/-- The first error of a page is captured; a later one adds to ERR_MORE. -/
theorem State.rd_err_code (s : State) (p code info addr : Nat) (h : s.rd p R.common_ERR_CODE = 0) :
    (s.err p code info addr).rd p R.common_ERR_CODE = code % 2 ^ 8 := by
  unfold State.err
  rw [if_pos h, State.rd_wr_ne, State.rd_wr_ne, State.rd_wr_ne, State.rd_wr_same] <;> simp [fkey, R.common_ERR_CODE, R.common_ERR_INFO,
    R.common_ERR_ADDR_LO, R.common_ERR_ADDR_HI]

end Sys2Proof.Machine
end

