-- ==== Sys2Proof/Laws/Gate.lean ====
section
/-!
SUPPORT. Sys2Proof/Laws/Gate.lean: register accesses that reach their page, and instructions that meet no exception: what each
leaves, said once.
-/

namespace Sys2Proof.Machine

/-- With the device running, or already waking, no wake source acts. -/
theorem State.wakeBy_run {s : State} (h : s.power.seq = .run ∨ ∃ l n, s.power.seq = .wake l n) (n : Nat) : s.wakeBy n = s := by
  unfold State.wakeBy; rcases h with h | ⟨l, m, h⟩ <;> split <;> simp [h]

/-- A register access that reaches its page does what the page does. -/
theorem State.gated_reaches {s : State} {ag : Agent} {p : Nat} (h : Reaches s ag p) (off : Nat) (w : Bool) (f : State → State) :
    s.gated ag p off w f = f s := by
  obtain ⟨h1, h2, h3, h4, h5⟩ := h
  simp [State.gated, State.accessWake, State.wakeBy_run h1, h2, h3, h4, h5]

/-- An instruction that is ready and whose effect completes leaves the state of `agEnd`. -/
theorem State.agRun_ready {s : State} {c : CoreId} {i : AgInsn} {x : AgIn} {sem : Sem} {o : AgOut} (h : AgReady s c i x)
    (hs : sem x = .done o) : s.agRun c i sem = agEnd s c x o := by
  obtain ⟨h1, h2, h3⟩ := h
  simp only [State.agRun, h1, h2, State.once, agEnd, h3, hs, Bool.not_true, Bool.false_eq_true, if_false]

/-- An instruction that is ready and whose effect is an exception raises it. -/
theorem State.agRun_exc {s : State} {c : CoreId} {i : AgInsn} {x : AgIn} {sem : Sem} {e : Exc} (h : AgReady s c i x)
    (hs : sem x = .exc e) : s.agRun c i sem = s.raiseExc c e := by
  obtain ⟨h1, h2, h3⟩ := h
  simp only [State.agRun, h1, h2, State.once, h3, hs, Bool.not_true, Bool.false_eq_true, if_false]

/-- What an instruction computes with names its own core. -/
theorem State.operandsOf_id {s : State} {c : CoreId} {i : AgInsn} {r : Bool} {n l : Nat} {x : AgIn}
    (h : s.operandsOf c i r n l = .ok x) : x.id = c := by
  unfold State.operandsOf at h
  simp only at h
  repeat' split at h
  all_goals first | (cases h; rfl) | cases h

end Sys2Proof.Machine
end

