-- ==== Sys2Proof/Tests/Slice0.lean ====
section
/-!
SUPPORT. Sys2Proof/Tests/Slice0.lean: ill-formed commands refused; worked examples and encodings of the spec; and for every statement of
Certificates/Slice0/Obligations.lean that has hypotheses, concrete states and operands that meet them, clause by clause.
-/

namespace Sys2Proof.Tests

set_option Elab.async false

open Sys2Proof Sys2Proof.Machine

/-! ### Small states -/

/-- The device running in Ready: powered, every sequence done, function 1 and Bobbin reachable. -/
def up : State :=
  { State.reset with
    power := { State.reset.power with seq := .run, regEn := List.range 8 }
    trust := { State.reset.trust with fwRunning := true } }.setDev Dev.ready
/-- A state with registers set: page, register, entry of the array, value. -/
def with_ (s : State) (l : List (Nat × Fld × Nat × Nat)) : State := l.foldl (fun s e => s.wrI e.1 e.2.1 e.2.2.1 e.2.2.2) s

/-! ### Ill-formed commands -/

def h0 : Hdr := { src := .pcie, q := 0, cid := 0, nsid := 0, rsvd := 0 }
def w0 : WedgeSample := { found := true, wedge := 0, track := 0, ambiguous := false, altTrack := 0, a := 0, b := 0, cAboveD := true, cycles := 0, offset := 0, resync := true }
def d0 : DramAcc := { d := 0, isWrite := false, bytes := 64, who := .block 0, control := false }
def m0 : MemWord := { page := 0, addr := 0, control := false }
def n0 : NandInfo := { cePresent := 0, lunsM1 := 0, iface := 0, fastest := 0 }
/-- Every part that has a check of its own is refused. -/
theorem test_wf_parts :
    ([Spec.imm4 16, .imm [], .imm (List.replicate 9 0), .abs32 (2 ^ 32), .abs48 (2 ^ 48), .disp8 8 0, .disp8 0 256, .disp16 8 0, .disp16 0 65536, .disp32 8 0, .disp32 0 (2 ^ 32),
      .index 8 0, .index 0 256, .postInc 8, .preDec 8, .memInd 8 0, .memInd 0 65536, .pcRel (2 ^ 32), .fpRel 65536, .bitAbs (2 ^ 24), .bitBase 8 0, .bitBase 0 65536,
      .lsShort 4096, .reserved 256, .reserved 0x40].all fun x => !x.wf) = true ∧
    ([CoreId.shuttle 32, .bobbin 8].all fun x => !x.wf) = true ∧
    ([{ h0 with q := 65536 }, { h0 with cid := 65536 }, { h0 with nsid := 2 ^ 32 }, { h0 with rsvd := 2 ^ 32 }].all fun x => !x.wf) = true ∧
    ([DataPtr.segs [(2 ^ 64, 0)], .segs [(0, 2 ^ 32)], .h2c (2 ^ 32)].all fun x => !x.wf) = true ∧
    ([IoCmd.read (2 ^ 64) 0 (.segs []), .write 0 65537 (.segs []), .compare 0 0 (.h2c (2 ^ 32)), .verify (2 ^ 64) 0, .writeZeroes 0 65537 false, .datasetManagement [(2 ^ 64, 0)] true, .copy 0 [(0, 2 ^ 32)],
      .executeProgram 65536 (.segs []), .memoryRead (2 ^ 64) 0 (.segs []), .memoryWrite 0 (2 ^ 32) (.segs []), .registerRecordRange (2 ^ 40) 0 0 false, .registerRecordRange 0 (2 ^ 33) 0 false,
      .registerRecordRange 0 0 65536 false, .hemCreate (2 ^ 40) 0, .hemAppend 4096 0 (.segs []), .unpick 0 (2 ^ 33)].all fun x => !x.wf) = true ∧
    ([{ w0 with wedge := 1024 }, { w0 with track := 2 ^ 24 }, { w0 with altTrack := 2 ^ 24 }, { w0 with a := 2 ^ 16 }, { w0 with b := 2 ^ 16 }].all fun x => !x.wf) = true ∧
    ([{ d0 with d := 2 ^ 40 }, { d0 with bytes := 65 }].all fun x => !x.wf) = true ∧ ([{ m0 with page := 0x8E }, { m0 with addr := 2 ^ 48 }].all fun x => !x.wf) = true ∧
    ([{ n0 with cePresent := 2 ^ 16 }, { n0 with lunsM1 := 4 }, { n0 with iface := 4 }, { n0 with fastest := 4096 }].all fun x => !x.wf) = true ∧
    ([CodeOutcome.corrected (2 ^ 32), .uncorrectable (2 ^ 32)].all fun x => !x.wf) = true ∧
    AgInsn.wf ⟨.nop, .b, List.replicate 4 (.lsShort 0)⟩ = false := by decide +kernel

/-! One ill-formed command for each check of `Instr.wf`. -/

theorem test_wf_commands_1 :
    ([
    .regulatorPgood 8, .regulatorPgoodTimeout 8, .pwrPgoodLoss 8, .xtalRetry (.bobbin 8), .pllLockAcquired (2 ^ 41), .pllLockLost 41,
    .fillSramDone (2 ^ 16), .dramTrainingDone 4 false, .fillDramDone 65536, .rebuildPhaseDone 65536 [], .devRst (.bobbin 8) 0, .devRst .host 256,
    .sreset (.bobbin 8) 0, .sreset .host 0x8E, .dozeRequest (.bobbin 8), .slumberRequest (.bobbin 8), .vaultRequest (.bobbin 8), .wakeEvent 8,
    .retentionCheckDone (2 ^ 32) false 0, .retentionCheckDone 0 false (2 ^ 32), .dramSelfRefreshExitDone 4 false, .nandTrainingDone 24 n0 .full,
    .nandTrainingDone 0 { n0 with lunsM1 := 4 } .full, .domOffGo (.bobbin 8), .domOnGo (.bobbin 8), .powerLimitAverage (2 ^ 16),
    .padTackRel (.bobbin 8) 0 0, .padTackRel .host (2 ^ 32) 0, .padTackRel .host 0 64, .dvfsReq (.bobbin 8) 0 0, .dvfsReq .host 8 0,
    .dvfsReq .host 0 4, .dvfsCoresStopped 8, .dvfsDone 8, .faultRequest 256 0 0 0, .faultRequest 0 256 0 0, .faultRequest 0 0 (2 ^ 32) 0,
    .faultRequest 0 0 0 (2 ^ 48), .wdogKick (.bobbin 8), .registerWrite (.bobbin 8) 0 0 0, .registerWrite .host (2 ^ 24) 0 0,
    .registerWrite .host 0 65536 0, .registerWrite .host 0 0 (2 ^ 64), .misalignedRegisterAccess (.bobbin 8) 0 0 false,
    .misalignedRegisterAccess .host (2 ^ 24) 0 false, .misalignedRegisterAccess .host 0 65536 false, .counterLowRead (.bobbin 8) 0,
    .counterLowRead .host (2 ^ 24), .lockTake 0x8E [], .lockTake 0 [.bobbin 8], .lockRelease (.bobbin 8) 0, .lockRelease .host 0x8E,
    .intClr (.bobbin 8) 0 0 0, .intClr .host 0x8E 0 0, .intClr .host 0 (2 ^ 32) 0, .intClr .host 0 0 (2 ^ 32), .intEn (.bobbin 8) 0 0,
    .intEn .host 0x8E 0, .intEn .host 0 (2 ^ 32), .errCodeClear (.bobbin 8) 0 0
    ] : List Instr).all (fun i => !i.wf) = true := by decide +kernel
theorem test_wf_commands_2 :
    ([
    .errCodeClear .host 0x8E 0, .errCodeClear .host 0 (2 ^ 32), .routeWrite (.bobbin 8) 0 0, .routeWrite .host 0x8E 0, .routeWrite .host 0 (2 ^ 32),
    .interruptEntry (.shuttle 32), .txData (.bobbin 8) 0, .txData .host 256, .uartRxByte 256, .rxDataRead (.bobbin 8), .gpioEdge 16 false,
    .stgMinWrite (.bobbin 8) .media 0, .stgMinWrite .host .media 1024, .stagingAllocRequest .media 64 0, .stagingAllocRequest .media 0 (2 ^ 32),
    .ceLeakPeriod 0x8E none, .ceLeakPeriod 0 (some (2 ^ 48, 0)), .capClr (.bobbin 8), .scrubRead { m0 with page := 0x8E } .correct false,
    .scrubRead m0 (.corrected (2 ^ 32)) false, .dramAccess { d0 with bytes := 65 } .correct, .dramAccess d0 (.corrected (2 ^ 32)),
    .dramRefreshDue 4 0 false false, .dramRefreshDue 0 2 false false, .dramRetrainCheck 4 0 0, .dramRetrainCheck 0 2 0,
    .dramRetrainCheck 0 0 (2 ^ 16), .dramRetrainDone 4 0 false, .dramRetrainDone 0 2 false, .caParityAlert 4 0, .caParityAlert 0 2,
    .drcCtrlEnClear (.bobbin 8) 0 false, .drcCtrlEnClear .host 4 false, .sqTailDoorbell 65536 0, .sqTailDoorbell 0 65536,
    .read { h0 with cid := 65536 } 0 0 (.segs []), .read h0 (2 ^ 64) 0 (.segs []), .read h0 0 65537 (.segs []), .read h0 0 0 (.h2c (2 ^ 32)),
    .write { h0 with cid := 65536 } 0 0 (.segs []), .write h0 (2 ^ 64) 0 (.segs []), .write h0 0 65537 (.segs []), .write h0 0 0 (.h2c (2 ^ 32)),
    .flush { h0 with cid := 65536 }, .compare { h0 with cid := 65536 } 0 0 (.segs []), .compare h0 (2 ^ 64) 0 (.segs []),
    .compare h0 0 65537 (.segs []), .compare h0 0 0 (.h2c (2 ^ 32)), .verify { h0 with cid := 65536 } 0 0, .verify h0 (2 ^ 64) 0, .verify h0 0 65537,
    .writeZeroes { h0 with cid := 65536 } 0 0 false, .writeZeroes h0 (2 ^ 64) 0 false, .writeZeroes h0 0 65537 false,
    .datasetManagement { h0 with cid := 65536 } [] false, .datasetManagement h0 [(2 ^ 64, 0)] false, .copy { h0 with cid := 65536 } 0 [],
    .copy h0 (2 ^ 64) [], .copy h0 0 [(2 ^ 64, 0)], .identify { h0 with cid := 65536 } 0 (.segs [])
    ] : List Instr).all (fun i => !i.wf) = true := by decide +kernel
theorem test_wf_commands_3 :
    ([
    .identify h0 256 (.segs []), .identify h0 0 (.h2c (2 ^ 32)), .getFeatures { h0 with cid := 65536 } 0, .getFeatures h0 256,
    .setFeatures { h0 with cid := 65536 } 0 0, .setFeatures h0 256 0, .setFeatures h0 0 (2 ^ 32),
    .getLogPage { h0 with cid := 65536 } 0 0 0 (.segs []), .getLogPage h0 256 0 0 (.segs []), .getLogPage h0 0 (2 ^ 64) 0 (.segs []),
    .getLogPage h0 0 0 (2 ^ 34) (.segs []), .getLogPage h0 0 0 0 (.h2c (2 ^ 32)), .abort { h0 with cid := 65536 } 0 0, .abort h0 65536 0,
    .abort h0 0 65536, .asynchronousEventRequest { h0 with cid := 65536 }, .keepAlive { h0 with cid := 65536 },
    .firmwareImageDownload { h0 with cid := 65536 } 0 (.segs []), .firmwareImageDownload h0 (2 ^ 64) (.segs []),
    .firmwareImageDownload h0 0 (.h2c (2 ^ 32)), .firmwareCommit { h0 with cid := 65536 }, .formatNvm { h0 with cid := 65536 } 0 0,
    .formatNvm h0 256 0, .formatNvm h0 0 8, .namespaceCreate { h0 with cid := 65536 } 0 0, .namespaceCreate h0 (2 ^ 48) 0, .namespaceCreate h0 0 256,
    .namespaceDelete { h0 with cid := 65536 }, .namespaceAttachment { h0 with cid := 65536 } 0, .namespaceAttachment h0 64,
    .createIoSq { h0 with cid := 65536 } 0 0 0, .createIoSq h0 65536 0 0, .createIoSq h0 0 65537 0, .createIoSq h0 0 0 65536,
    .createIoCq { h0 with cid := 65536 } 0 0 0, .createIoCq h0 65536 0 0, .createIoCq h0 0 65537 0, .createIoCq h0 0 0 65536,
    .deleteIoSq { h0 with cid := 65536 } 0, .deleteIoSq h0 65536, .deleteIoCq { h0 with cid := 65536 } 0, .deleteIoCq h0 65536,
    .programDownload { h0 with cid := 65536 } 0 0 (.segs []), .programDownload h0 65536 0 (.segs []), .programDownload h0 0 256 (.segs []),
    .programDownload h0 0 0 (.h2c (2 ^ 32)), .programDelete { h0 with cid := 65536 } 0, .programDelete h0 65536,
    .executeProgram { h0 with cid := 65536 } 0 (.segs []), .executeProgram h0 65536 (.segs []), .executeProgram h0 0 (.h2c (2 ^ 32)),
    .memoryRangeSet { h0 with cid := 65536 } 0 [], .memoryRangeSet h0 65536 [], .memoryRangeSet h0 0 [(2 ^ 64, 0)],
    .memoryRead { h0 with cid := 65536 } 0 0 (.segs []), .memoryRead h0 (2 ^ 64) 0 (.segs []), .memoryRead h0 0 (2 ^ 32) (.segs []),
    .memoryRead h0 0 0 (.h2c (2 ^ 32)), .memoryWrite { h0 with cid := 65536 } 0 0 (.segs []), .memoryWrite h0 (2 ^ 64) 0 (.segs [])
    ] : List Instr).all (fun i => !i.wf) = true := by decide +kernel
theorem test_wf_commands_4 :
    ([
    .memoryWrite h0 0 (2 ^ 32) (.segs []), .memoryWrite h0 0 0 (.h2c (2 ^ 32)), .memoryCopy { h0 with cid := 65536 } 0 0 0 0 false,
    .memoryCopy h0 (2 ^ 64) 0 0 0 false, .memoryCopy h0 0 (2 ^ 32) 0 0 false, .memoryCopy h0 0 0 (2 ^ 64) 0 false, .memoryCopy h0 0 0 0 65537 false,
    .registerRecordRange { h0 with cid := 65536 } 0 0 0 false, .registerRecordRange h0 (2 ^ 40) 0 0 false,
    .registerRecordRange h0 0 (2 ^ 33) 0 false, .registerRecordRange h0 0 0 65536 false, .filterStream { h0 with cid := 65536 } 0 0 0 0 0 false 0 0,
    .filterStream h0 (2 ^ 48) 0 0 0 0 false 0 0, .filterStream h0 0 (2 ^ 48) 0 0 0 false 0 0, .filterStream h0 0 0 (2 ^ 40) 0 0 false 0 0,
    .filterStream h0 0 0 0 (2 ^ 33) 0 false 0 0, .filterStream h0 0 0 0 0 4 false 0 0, .filterStream h0 0 0 0 0 0 false 65536 0,
    .filterStream h0 0 0 0 0 0 false 0 (2 ^ 32), .hemCreate { h0 with cid := 65536 } 0 0, .hemCreate h0 (2 ^ 40) 0, .hemCreate h0 0 (2 ^ 33),
    .hemAppend { h0 with cid := 65536 } 0 0 (.segs []), .hemAppend h0 4096 0 (.segs []), .hemAppend h0 0 (2 ^ 32) (.segs []),
    .hemAppend h0 0 0 (.h2c (2 ^ 32)), .unpick { h0 with cid := 65536 } 0 0, .unpick h0 (2 ^ 40) 0, .unpick h0 0 (2 ^ 33),
    .pleatJob { h0 with cid := 65536 } 0, .pleatJob h0 (2 ^ 48), .setLegacyProfile { h0 with cid := 65536 } 0 (.segs []),
    .setLegacyProfile h0 65536 (.segs []), .setLegacyProfile h0 0 (.h2c (2 ^ 32)), .bindLegacyProfile { h0 with cid := 65536 } 0,
    .bindLegacyProfile h0 65536, .mapUpdateApply (2 ^ 48), .flushDone 65536 false false, .nandSlotDecoded 0 16 false 0,
    .nandSlotDecoded 0 0 false (2 ^ 32), .softJobSubmit 0 16, .lddJobComplete 8 false, .targetBusyTimeout 24 0, .targetBusyTimeout 0 16,
    .nfcCtrlEnClear (.bobbin 8) 0, .nfcCtrlEnClear .host 24, .vfyGo (.bobbin 8), .hemSealTimer 4096, .hemMigrationTrigger 4096,
    .hemMigrationReadDone 4096, .hemRelease (.bobbin 8), .paGo (.bobbin 8), .paFrameDone 256, .ringTailWrite (.bobbin 8) 0,
    .ringTailWrite .host 65536, .slvAbort false 1024, .slvCtrlEnClear (.bobbin 8), .zoneCfgWrite (.bobbin 8) 0 0 0, .zoneCfgWrite .host 32 0 0,
    .zoneCfgWrite .host 0 4096 0
    ] : List Instr).all (fun i => !i.wf) = true := by decide +kernel
theorem test_wf_commands_5 :
    ([
    .zoneCfgWrite .host 0 0 1024, .servoWedge { w0 with track := 2 ^ 24 }, .seekGo (.bobbin 8), .spnGo (.bobbin 8), .spnStop (.bobbin 8),
    .park (.bobbin 8), .treadleResponse (2 ^ 32), .trdNop (.bobbin 8), .rdReg (.bobbin 8), .wrReg (.bobbin 8), .clrFlt (.bobbin 8),
    .svoCtrlEnClear (.bobbin 8), .loadGo (.bobbin 8) 0, .loadGo .host 28, .pinkLoadDone 28, .pnkUnitFiltered 28, .pnkCtrlEnClear (.bobbin 8) 0,
    .pnkCtrlEnClear .host 28, .jobGo (.bobbin 8) 0, .jobGo .host 8, .inlineJobEnqueue (2 ^ 48), .pleatJobComplete 8 0, .pleatJobComplete 0 4,
    .pltCtrlEnClear (.bobbin 8) 0, .pltCtrlEnClear .host 8, .batchGo (.bobbin 8), .gaugeSpreadMove 131072 0, .gaugeSpreadMove 0 131072,
    .widthWrite (.bobbin 8) 0, .widthWrite .host 4, .gcbFrameReceive [65536] false, .gcbFrameTimeout (2 ^ 16), .gauCtrlEnClear (.bobbin 8),
    .affinityAgeExpiry 65536, .program 65536, .seamStream 65536, .seamRegister 65536, .seamUnpick 65536, .seamHemCreate 65536, .seamHemAppend 65536,
    .pinkLoad 65536, .pleat 65536, .gauge 65536, .dma 65536, .dmaRequestComplete 65536 0, .dmaRequestComplete 0 256, .dmaTimeout 65536,
    .bufRelease 65536, .stgRelGo (.bobbin 8), .cancelGo (.bobbin 8), .splCtrlEnClear (.bobbin 8), .coreEnWrite (.bobbin 8) 0 0,
    .coreEnWrite .host 8 0, .coreEnWrite .host 0 (2 ^ 32), .bobbinRestart 8 false, .pcieLinkUp 16 0 false, .pcieLinkUp 0 32 false, .ethPortUp 4,
    .ethPortDown 4, .groupingWrite (.bobbin 8) 0
    ] : List Instr).all (fun i => !i.wf) = true := by decide +kernel
theorem test_wf_commands_6 :
    ([
    .groupingWrite .host (2 ^ 32), .tcpConnect [256] 0 0 false false, .tcpConnect [] 65536 0 false false, .tcpConnect [] 0 65536 false false,
    .tcpConnectionLost 65536, .tcpRetransmitTimeout 65536, .nvmeTcpCapsule 65536 0 0 0 .flush, .nvmeTcpCapsule 0 65536 0 0 .flush,
    .nvmeTcpCapsule 0 0 (2 ^ 32) 0 .flush, .nvmeTcpCapsule 0 0 0 (2 ^ 32) .flush, .nvmeTcpCapsule 0 0 0 0 (.unpick (2 ^ 40) 0),
    .networkControlPacket 4 .arp, .readNvmeMiDataStructure 256, .configurationGet 65536, .configurationSet 65536 0, .configurationSet 0 (2 ^ 32),
    .vpdRead (2 ^ 64) 0, .vpdRead 0 (2 ^ 32), .panActivate (.bobbin 8), .panReset (.bobbin 8), .panRemove (.bobbin 8), .sqPanelWrite (.bobbin 8) 0 0,
    .sqPanelWrite .host 65536 0, .sqPanelWrite .host 0 64, .reqGo (.bobbin 8), .patternRead (.bobbin 8), .patternWrite (.bobbin 8),
    .keyUnlock (.bobbin 8), .keyLock (.bobbin 8), .keyPolicy (.bobbin 8), .fwWrite (.bobbin 8), .mov (.shuttle 32) .b (.lsShort 0) (.lsShort 0),
    .mov .thimble .b (.lsShort 4096) (.lsShort 0), .mov .thimble .b (.lsShort 0) (.lsShort 4096), .clr (.shuttle 32) .b (.lsShort 0),
    .clr .thimble .b (.lsShort 4096), .neg (.shuttle 32) .b (.lsShort 0) (.lsShort 0), .neg .thimble .b (.lsShort 4096) (.lsShort 0),
    .neg .thimble .b (.lsShort 0) (.lsShort 4096), .not (.shuttle 32) .b (.lsShort 0) (.lsShort 0), .not .thimble .b (.lsShort 4096) (.lsShort 0),
    .not .thimble .b (.lsShort 0) (.lsShort 4096), .add (.shuttle 32) .b (.lsShort 0) (.lsShort 0), .add .thimble .b (.lsShort 4096) (.lsShort 0),
    .add .thimble .b (.lsShort 0) (.lsShort 4096), .sub (.shuttle 32) .b (.lsShort 0) (.lsShort 0), .sub .thimble .b (.lsShort 4096) (.lsShort 0),
    .sub .thimble .b (.lsShort 0) (.lsShort 4096), .adc (.shuttle 32) .b (.lsShort 0) (.lsShort 0), .adc .thimble .b (.lsShort 4096) (.lsShort 0),
    .adc .thimble .b (.lsShort 0) (.lsShort 4096), .sbc (.shuttle 32) .b (.lsShort 0) (.lsShort 0), .sbc .thimble .b (.lsShort 4096) (.lsShort 0),
    .sbc .thimble .b (.lsShort 0) (.lsShort 4096), .mul (.shuttle 32) .b (.lsShort 0) (.lsShort 0), .mul .thimble .b (.lsShort 4096) (.lsShort 0),
    .mul .thimble .b (.lsShort 0) (.lsShort 4096), .div (.shuttle 32) .b (.lsShort 0) (.lsShort 0), .div .thimble .b (.lsShort 4096) (.lsShort 0),
    .div .thimble .b (.lsShort 0) (.lsShort 4096)
    ] : List Instr).all (fun i => !i.wf) = true := by decide +kernel
theorem test_wf_commands_7 :
    ([
    .divu (.shuttle 32) .b (.lsShort 0) (.lsShort 0), .divu .thimble .b (.lsShort 4096) (.lsShort 0), .divu .thimble .b (.lsShort 0) (.lsShort 4096),
    .rem (.shuttle 32) .b (.lsShort 0) (.lsShort 0), .rem .thimble .b (.lsShort 4096) (.lsShort 0), .rem .thimble .b (.lsShort 0) (.lsShort 4096),
    .remu (.shuttle 32) .b (.lsShort 0) (.lsShort 0), .remu .thimble .b (.lsShort 4096) (.lsShort 0), .remu .thimble .b (.lsShort 0) (.lsShort 4096),
    .and (.shuttle 32) .b (.lsShort 0) (.lsShort 0), .and .thimble .b (.lsShort 4096) (.lsShort 0), .and .thimble .b (.lsShort 0) (.lsShort 4096),
    .or (.shuttle 32) .b (.lsShort 0) (.lsShort 0), .or .thimble .b (.lsShort 4096) (.lsShort 0), .or .thimble .b (.lsShort 0) (.lsShort 4096),
    .xor (.shuttle 32) .b (.lsShort 0) (.lsShort 0), .xor .thimble .b (.lsShort 4096) (.lsShort 0), .xor .thimble .b (.lsShort 0) (.lsShort 4096),
    .andn (.shuttle 32) .b (.lsShort 0) (.lsShort 0), .andn .thimble .b (.lsShort 4096) (.lsShort 0), .andn .thimble .b (.lsShort 0) (.lsShort 4096),
    .shl (.shuttle 32) .b (.lsShort 0) (.lsShort 0), .shl .thimble .b (.lsShort 4096) (.lsShort 0), .shl .thimble .b (.lsShort 0) (.lsShort 4096),
    .shr (.shuttle 32) .b (.lsShort 0) (.lsShort 0), .shr .thimble .b (.lsShort 4096) (.lsShort 0), .shr .thimble .b (.lsShort 0) (.lsShort 4096),
    .sar (.shuttle 32) .b (.lsShort 0) (.lsShort 0), .sar .thimble .b (.lsShort 4096) (.lsShort 0), .sar .thimble .b (.lsShort 0) (.lsShort 4096),
    .sal (.shuttle 32) .b (.lsShort 0) (.lsShort 0), .sal .thimble .b (.lsShort 4096) (.lsShort 0), .sal .thimble .b (.lsShort 0) (.lsShort 4096),
    .rol (.shuttle 32) .b (.lsShort 0) (.lsShort 0), .rol .thimble .b (.lsShort 4096) (.lsShort 0), .rol .thimble .b (.lsShort 0) (.lsShort 4096),
    .ror (.shuttle 32) .b (.lsShort 0) (.lsShort 0), .ror .thimble .b (.lsShort 4096) (.lsShort 0), .ror .thimble .b (.lsShort 0) (.lsShort 4096),
    .cmp (.shuttle 32) .b (.lsShort 0) (.lsShort 0), .cmp .thimble .b (.lsShort 4096) (.lsShort 0), .cmp .thimble .b (.lsShort 0) (.lsShort 4096),
    .tst (.shuttle 32) .b (.lsShort 0), .tst .thimble .b (.lsShort 4096), .inc (.shuttle 32) .b (.lsShort 0), .inc .thimble .b (.lsShort 4096),
    .dec (.shuttle 32) .b (.lsShort 0), .dec .thimble .b (.lsShort 4096), .xchg (.shuttle 32) .b (.lsShort 0) (.lsShort 0),
    .xchg .thimble .b (.lsShort 4096) (.lsShort 0), .xchg .thimble .b (.lsShort 0) (.lsShort 4096), .sxtbh (.shuttle 32) (.lsShort 0) (.lsShort 0),
    .sxtbh .thimble (.lsShort 4096) (.lsShort 0), .sxtbh .thimble (.lsShort 0) (.lsShort 4096), .sxtbw (.shuttle 32) (.lsShort 0) (.lsShort 0),
    .sxtbw .thimble (.lsShort 4096) (.lsShort 0), .sxtbw .thimble (.lsShort 0) (.lsShort 4096), .sxtbl (.shuttle 32) (.lsShort 0) (.lsShort 0),
    .sxtbl .thimble (.lsShort 4096) (.lsShort 0), .sxtbl .thimble (.lsShort 0) (.lsShort 4096)
    ] : List Instr).all (fun i => !i.wf) = true := by decide +kernel
theorem test_wf_commands_8 :
    ([
    .sxthw (.shuttle 32) (.lsShort 0) (.lsShort 0), .sxthw .thimble (.lsShort 4096) (.lsShort 0), .sxthw .thimble (.lsShort 0) (.lsShort 4096),
    .sxthl (.shuttle 32) (.lsShort 0) (.lsShort 0), .sxthl .thimble (.lsShort 4096) (.lsShort 0), .sxthl .thimble (.lsShort 0) (.lsShort 4096),
    .sxtwl (.shuttle 32) (.lsShort 0) (.lsShort 0), .sxtwl .thimble (.lsShort 4096) (.lsShort 0), .sxtwl .thimble (.lsShort 0) (.lsShort 4096),
    .zxtbl (.shuttle 32) (.lsShort 0) (.lsShort 0), .zxtbl .thimble (.lsShort 4096) (.lsShort 0), .zxtbl .thimble (.lsShort 0) (.lsShort 4096),
    .zxthl (.shuttle 32) (.lsShort 0) (.lsShort 0), .zxthl .thimble (.lsShort 4096) (.lsShort 0), .zxthl .thimble (.lsShort 0) (.lsShort 4096),
    .zxtwl (.shuttle 32) (.lsShort 0) (.lsShort 0), .zxtwl .thimble (.lsShort 4096) (.lsShort 0), .zxtwl .thimble (.lsShort 0) (.lsShort 4096),
    .nrwlw (.shuttle 32) (.lsShort 0) (.lsShort 0), .nrwlw .thimble (.lsShort 4096) (.lsShort 0), .nrwlw .thimble (.lsShort 0) (.lsShort 4096),
    .nrwlh (.shuttle 32) (.lsShort 0) (.lsShort 0), .nrwlh .thimble (.lsShort 4096) (.lsShort 0), .nrwlh .thimble (.lsShort 0) (.lsShort 4096),
    .nrwlb (.shuttle 32) (.lsShort 0) (.lsShort 0), .nrwlb .thimble (.lsShort 4096) (.lsShort 0), .nrwlb .thimble (.lsShort 0) (.lsShort 4096),
    .eal (.shuttle 32) (.lsShort 0) (.lsShort 0), .eal .thimble (.lsShort 4096) (.lsShort 0), .eal .thimble (.lsShort 0) (.lsShort 4096),
    .pushe (.shuttle 32) (.lsShort 0), .pushe .thimble (.lsShort 4096), .push (.shuttle 32) (.lsShort 0), .push .thimble (.lsShort 4096),
    .pop (.shuttle 32) (.lsShort 0), .pop .thimble (.lsShort 4096), .bset (.shuttle 32) (.lsShort 0), .bset .thimble (.lsShort 4096),
    .bclr (.shuttle 32) (.lsShort 0), .bclr .thimble (.lsShort 4096), .bcom (.shuttle 32) (.lsShort 0), .bcom .thimble (.lsShort 4096),
    .bmov (.shuttle 32) (.lsShort 0) (.lsShort 0), .bmov .thimble (.lsShort 4096) (.lsShort 0), .bmov .thimble (.lsShort 0) (.lsShort 4096),
    .btst (.shuttle 32) (.lsShort 0), .btst .thimble (.lsShort 4096), .btas (.shuttle 32) (.lsShort 0), .btas .thimble (.lsShort 4096),
    .btac (.shuttle 32) (.lsShort 0), .btac .thimble (.lsShort 4096), .band (.shuttle 32) (.lsShort 0) (.lsShort 0),
    .band .thimble (.lsShort 4096) (.lsShort 0), .band .thimble (.lsShort 0) (.lsShort 4096), .bor (.shuttle 32) (.lsShort 0) (.lsShort 0),
    .bor .thimble (.lsShort 4096) (.lsShort 0), .bor .thimble (.lsShort 0) (.lsShort 4096), .bxor (.shuttle 32) (.lsShort 0) (.lsShort 0),
    .bxor .thimble (.lsShort 4096) (.lsShort 0), .bxor .thimble (.lsShort 0) (.lsShort 4096)
    ] : List Instr).all (fun i => !i.wf) = true := by decide +kernel
theorem test_wf_commands_9 :
    ([
    .bscan (.shuttle 32) (.lsShort 0) (.lsShort 0) (.lsShort 0), .bscan .thimble (.lsShort 4096) (.lsShort 0) (.lsShort 0),
    .bscan .thimble (.lsShort 0) (.lsShort 4096) (.lsShort 0), .bscan .thimble (.lsShort 0) (.lsShort 0) (.lsShort 4096),
    .bfex (.shuttle 32) (.lsShort 0) (.lsShort 0) (.lsShort 0), .bfex .thimble (.lsShort 4096) (.lsShort 0) (.lsShort 0),
    .bfex .thimble (.lsShort 0) (.lsShort 4096) (.lsShort 0), .bfex .thimble (.lsShort 0) (.lsShort 0) (.lsShort 4096),
    .bfin (.shuttle 32) (.lsShort 0) (.lsShort 0) (.lsShort 0), .bfin .thimble (.lsShort 4096) (.lsShort 0) (.lsShort 0),
    .bfin .thimble (.lsShort 0) (.lsShort 4096) (.lsShort 0), .bfin .thimble (.lsShort 0) (.lsShort 0) (.lsShort 4096),
    .bbt (.shuttle 32) (.lsShort 0) (.lsShort 0), .bbt .thimble (.lsShort 4096) (.lsShort 0), .bbt .thimble (.lsShort 0) (.lsShort 4096),
    .bbf (.shuttle 32) (.lsShort 0) (.lsShort 0), .bbf .thimble (.lsShort 4096) (.lsShort 0), .bbf .thimble (.lsShort 0) (.lsShort 4096),
    .dadd (.shuttle 32) (.lsShort 0) (.lsShort 0) (.lsShort 0), .dadd .thimble (.lsShort 4096) (.lsShort 0) (.lsShort 0),
    .dadd .thimble (.lsShort 0) (.lsShort 4096) (.lsShort 0), .dadd .thimble (.lsShort 0) (.lsShort 0) (.lsShort 4096),
    .dsub (.shuttle 32) (.lsShort 0) (.lsShort 0) (.lsShort 0), .dsub .thimble (.lsShort 4096) (.lsShort 0) (.lsShort 0),
    .dsub .thimble (.lsShort 0) (.lsShort 4096) (.lsShort 0), .dsub .thimble (.lsShort 0) (.lsShort 0) (.lsShort 4096),
    .dmul (.shuttle 32) (.lsShort 0) (.lsShort 0) (.lsShort 0), .dmul .thimble (.lsShort 4096) (.lsShort 0) (.lsShort 0),
    .dmul .thimble (.lsShort 0) (.lsShort 4096) (.lsShort 0), .dmul .thimble (.lsShort 0) (.lsShort 0) (.lsShort 4096),
    .ddiv (.shuttle 32) (.lsShort 0) (.lsShort 0) (.lsShort 0), .ddiv .thimble (.lsShort 4096) (.lsShort 0) (.lsShort 0),
    .ddiv .thimble (.lsShort 0) (.lsShort 4096) (.lsShort 0), .ddiv .thimble (.lsShort 0) (.lsShort 0) (.lsShort 4096),
    .dmov (.shuttle 32) (.lsShort 0) (.lsShort 0) (.lsShort 0), .dmov .thimble (.lsShort 4096) (.lsShort 0) (.lsShort 0),
    .dmov .thimble (.lsShort 0) (.lsShort 4096) (.lsShort 0), .dmov .thimble (.lsShort 0) (.lsShort 0) (.lsShort 4096),
    .dcmp (.shuttle 32) (.lsShort 0) (.lsShort 0) (.lsShort 0), .dcmp .thimble (.lsShort 4096) (.lsShort 0) (.lsShort 0),
    .dcmp .thimble (.lsShort 0) (.lsShort 4096) (.lsShort 0), .dcmp .thimble (.lsShort 0) (.lsShort 0) (.lsShort 4096),
    .dshf (.shuttle 32) (.lsShort 0) (.lsShort 0) (.lsShort 0), .dshf .thimble (.lsShort 4096) (.lsShort 0) (.lsShort 0),
    .dshf .thimble (.lsShort 0) (.lsShort 4096) (.lsShort 0), .dshf .thimble (.lsShort 0) (.lsShort 0) (.lsShort 4096),
    .dtst (.shuttle 32) (.lsShort 0) (.lsShort 0), .dtst .thimble (.lsShort 4096) (.lsShort 0), .dtst .thimble (.lsShort 0) (.lsShort 4096),
    .dtol (.shuttle 32) (.lsShort 0) (.lsShort 0) (.lsShort 0), .dtol .thimble (.lsShort 4096) (.lsShort 0) (.lsShort 0),
    .dtol .thimble (.lsShort 0) (.lsShort 4096) (.lsShort 0), .dtol .thimble (.lsShort 0) (.lsShort 0) (.lsShort 4096),
    .ltod (.shuttle 32) (.lsShort 0) (.lsShort 0) (.lsShort 0), .ltod .thimble (.lsShort 4096) (.lsShort 0) (.lsShort 0),
    .ltod .thimble (.lsShort 0) (.lsShort 4096) (.lsShort 0), .ltod .thimble (.lsShort 0) (.lsShort 0) (.lsShort 4096),
    .ztod (.shuttle 32) (.lsShort 0) (.lsShort 0) (.lsShort 0), .ztod .thimble (.lsShort 4096) (.lsShort 0) (.lsShort 0),
    .ztod .thimble (.lsShort 0) (.lsShort 4096) (.lsShort 0)
    ] : List Instr).all (fun i => !i.wf) = true := by decide +kernel
theorem test_wf_commands_10 :
    ([
    .ztod .thimble (.lsShort 0) (.lsShort 0) (.lsShort 4096), .dtoz (.shuttle 32) (.lsShort 0) (.lsShort 0) (.lsShort 0),
    .dtoz .thimble (.lsShort 4096) (.lsShort 0) (.lsShort 0), .dtoz .thimble (.lsShort 0) (.lsShort 4096) (.lsShort 0),
    .dtoz .thimble (.lsShort 0) (.lsShort 0) (.lsShort 4096), .zadd (.shuttle 32) (.lsShort 0) (.lsShort 0) (.lsShort 0),
    .zadd .thimble (.lsShort 4096) (.lsShort 0) (.lsShort 0), .zadd .thimble (.lsShort 0) (.lsShort 4096) (.lsShort 0),
    .zadd .thimble (.lsShort 0) (.lsShort 0) (.lsShort 4096), .zsub (.shuttle 32) (.lsShort 0) (.lsShort 0) (.lsShort 0),
    .zsub .thimble (.lsShort 4096) (.lsShort 0) (.lsShort 0), .zsub .thimble (.lsShort 0) (.lsShort 4096) (.lsShort 0),
    .zsub .thimble (.lsShort 0) (.lsShort 0) (.lsShort 4096), .zcmp (.shuttle 32) (.lsShort 0) (.lsShort 0) (.lsShort 0),
    .zcmp .thimble (.lsShort 4096) (.lsShort 0) (.lsShort 0), .zcmp .thimble (.lsShort 0) (.lsShort 4096) (.lsShort 0),
    .zcmp .thimble (.lsShort 0) (.lsShort 0) (.lsShort 4096), .zmov (.shuttle 32) (.lsShort 0) (.lsShort 0) (.lsShort 0),
    .zmov .thimble (.lsShort 4096) (.lsShort 0) (.lsShort 0), .zmov .thimble (.lsShort 0) (.lsShort 4096) (.lsShort 0),
    .zmov .thimble (.lsShort 0) (.lsShort 0) (.lsShort 4096), .smov (.shuttle 32) (.lsShort 0) (.lsShort 0) (.lsShort 0),
    .smov .thimble (.lsShort 4096) (.lsShort 0) (.lsShort 0), .smov .thimble (.lsShort 0) (.lsShort 4096) (.lsShort 0),
    .smov .thimble (.lsShort 0) (.lsShort 0) (.lsShort 4096), .sfil (.shuttle 32) (.lsShort 0) (.lsShort 0) (.lsShort 0),
    .sfil .thimble (.lsShort 4096) (.lsShort 0) (.lsShort 0), .sfil .thimble (.lsShort 0) (.lsShort 4096) (.lsShort 0),
    .sfil .thimble (.lsShort 0) (.lsShort 0) (.lsShort 4096), .scmp (.shuttle 32) (.lsShort 0) (.lsShort 0) (.lsShort 0),
    .scmp .thimble (.lsShort 4096) (.lsShort 0) (.lsShort 0), .scmp .thimble (.lsShort 0) (.lsShort 4096) (.lsShort 0),
    .scmp .thimble (.lsShort 0) (.lsShort 0) (.lsShort 4096), .sxlt (.shuttle 32) (.lsShort 0) (.lsShort 0) (.lsShort 0),
    .sxlt .thimble (.lsShort 4096) (.lsShort 0) (.lsShort 0), .sxlt .thimble (.lsShort 0) (.lsShort 4096) (.lsShort 0),
    .sxlt .thimble (.lsShort 0) (.lsShort 0) (.lsShort 4096), .sfnd (.shuttle 32) (.lsShort 0) (.lsShort 0) (.lsShort 0),
    .sfnd .thimble (.lsShort 4096) (.lsShort 0) (.lsShort 0), .sfnd .thimble (.lsShort 0) (.lsShort 4096) (.lsShort 0),
    .sfnd .thimble (.lsShort 0) (.lsShort 0) (.lsShort 4096), .sskp (.shuttle 32) (.lsShort 0) (.lsShort 0) (.lsShort 0),
    .sskp .thimble (.lsShort 4096) (.lsShort 0) (.lsShort 0), .sskp .thimble (.lsShort 0) (.lsShort 4096) (.lsShort 0),
    .sskp .thimble (.lsShort 0) (.lsShort 0) (.lsShort 4096), .sscn (.shuttle 32) (.lsShort 0) (.lsShort 0) (.lsShort 0),
    .sscn .thimble (.lsShort 4096) (.lsShort 0) (.lsShort 0), .sscn .thimble (.lsShort 0) (.lsShort 4096) (.lsShort 0),
    .sscn .thimble (.lsShort 0) (.lsShort 0) (.lsShort 4096), .scrc (.shuttle 32) (.lsShort 0) (.lsShort 0) (.lsShort 0),
    .scrc .thimble (.lsShort 4096) (.lsShort 0) (.lsShort 0), .scrc .thimble (.lsShort 0) (.lsShort 4096) (.lsShort 0),
    .scrc .thimble (.lsShort 0) (.lsShort 0) (.lsShort 4096), .br (.shuttle 32) (.lsShort 0), .br .thimble (.lsShort 4096),
    .beq (.shuttle 32) (.lsShort 0), .beq .thimble (.lsShort 4096), .bne (.shuttle 32) (.lsShort 0), .bne .thimble (.lsShort 4096),
    .blt (.shuttle 32) (.lsShort 0)
    ] : List Instr).all (fun i => !i.wf) = true := by decide +kernel
theorem test_wf_commands_11 :
    ([
    .blt .thimble (.lsShort 4096), .bge (.shuttle 32) (.lsShort 0), .bge .thimble (.lsShort 4096), .ble (.shuttle 32) (.lsShort 0),
    .ble .thimble (.lsShort 4096), .bgt (.shuttle 32) (.lsShort 0), .bgt .thimble (.lsShort 4096), .bltu (.shuttle 32) (.lsShort 0),
    .bltu .thimble (.lsShort 4096), .bgeu (.shuttle 32) (.lsShort 0), .bgeu .thimble (.lsShort 4096), .bleu (.shuttle 32) (.lsShort 0),
    .bleu .thimble (.lsShort 4096), .bgtu (.shuttle 32) (.lsShort 0), .bgtu .thimble (.lsShort 4096), .bvs (.shuttle 32) (.lsShort 0),
    .bvs .thimble (.lsShort 4096), .bvc (.shuttle 32) (.lsShort 0), .bvc .thimble (.lsShort 4096), .bds (.shuttle 32) (.lsShort 0),
    .bds .thimble (.lsShort 4096), .call (.shuttle 32) (.lsShort 0), .call .thimble (.lsShort 4096), .dbp (.shuttle 32) (.lsShort 0) (.lsShort 0),
    .dbp .thimble (.lsShort 4096) (.lsShort 0), .dbp .thimble (.lsShort 0) (.lsShort 4096),
    .cas (.shuttle 32) .b (.lsShort 0) (.lsShort 0) (.lsShort 0), .cas .thimble .b (.lsShort 4096) (.lsShort 0) (.lsShort 0),
    .cas .thimble .b (.lsShort 0) (.lsShort 4096) (.lsShort 0), .cas .thimble .b (.lsShort 0) (.lsShort 0) (.lsShort 4096),
    .xadd (.shuttle 32) .b (.lsShort 0) (.lsShort 0), .xadd .thimble .b (.lsShort 4096) (.lsShort 0), .xadd .thimble .b (.lsShort 0) (.lsShort 4096),
    .post (.shuttle 32) (.lsShort 0) (.lsShort 0), .post .thimble (.lsShort 4096) (.lsShort 0), .post .thimble (.lsShort 0) (.lsShort 4096),
    .wcpl (.shuttle 32) (.lsShort 0), .wcpl .thimble (.lsShort 4096), .rcpl (.shuttle 32) (.lsShort 0), .rcpl .thimble (.lsShort 4096),
    .trap (.shuttle 32) (.lsShort 0), .trap .thimble (.lsShort 4096), .rep (.shuttle 32) ⟨.nop, .b, []⟩,
    .rep .thimble ⟨.nop, .b, List.replicate 4 (.lsShort 0)⟩, .repz (.shuttle 32) ⟨.nop, .b, []⟩,
    .repz .thimble ⟨.nop, .b, List.replicate 4 (.lsShort 0)⟩, .repnz (.shuttle 32) ⟨.nop, .b, []⟩,
    .repnz .thimble ⟨.nop, .b, List.replicate 4 (.lsShort 0)⟩, .repu (.shuttle 32) ⟨.nop, .b, []⟩,
    .repu .thimble ⟨.nop, .b, List.replicate 4 (.lsShort 0)⟩, .chkrd (.shuttle 32) (.lsShort 0) (.lsShort 0),
    .chkrd .thimble (.lsShort 4096) (.lsShort 0), .chkrd .thimble (.lsShort 0) (.lsShort 4096), .chkwr (.shuttle 32) (.lsShort 0) (.lsShort 0),
    .chkwr .thimble (.lsShort 4096) (.lsShort 0), .chkwr .thimble (.lsShort 0) (.lsShort 4096), .winset (.shuttle 32) (.lsShort 0) (.lsShort 0),
    .winset .thimble (.lsShort 4096) (.lsShort 0), .winset .thimble (.lsShort 0) (.lsShort 4096), .winget (.shuttle 32) (.lsShort 0) (.lsShort 0)
    ] : List Instr).all (fun i => !i.wf) = true := by decide +kernel
theorem test_wf_commands_12 :
    ([
    .winget .thimble (.lsShort 4096) (.lsShort 0), .winget .thimble (.lsShort 0) (.lsShort 4096), .kload (.shuttle 32) (.lsShort 0) (.lsShort 0),
    .kload .thimble (.lsShort 4096) (.lsShort 0), .kload .thimble (.lsShort 0) (.lsShort 4096), .kzap (.shuttle 32) (.lsShort 0),
    .kzap .thimble (.lsShort 4096), .nop (.shuttle 32), .halt (.shuttle 32), .ret (.shuttle 32), .rte (.shuttle 32), .fence (.shuttle 32),
    .exit (.shuttle 32), .yield (.shuttle 32), .wfi (.shuttle 32), .bkpt (.shuttle 32), .illegalOpcode (.shuttle 32) [],
    .illegalOpcode .thimble [256], .cqHeadDoorbell 65536 0, .cqHeadDoorbell 0 65536, .h2cdataPdu 65536 0 0 [], .h2cdataPdu 0 65536 0 [],
    .h2cdataPdu 0 0 (2 ^ 64) [], .i3cDynamicAddressAssignment 128, .dramPowerDownIdle 4, .pauseFrameReceived 4 0 0, .pauseFrameReceived 0 256 0,
    .pauseFrameReceived 0 0 65536
    ] : List Instr).all (fun i => !i.wf) = true := by decide +kernel
/-! ### Agrek -/

/-- Local store of the test core at 0x500: packed +123 (4 bytes), packed −45, packed 0, a bad packed number; at 0x580 zoned +1234, zoned −5678
with zone 0xF, a bad zoned number; at 0x600 and 0x700 the string 1 2 3 4, at 0x800 the string 1 9 3 4. -/
def lsTest : Memory :=
  [(0x500, 0x00), (0x501, 0x00), (0x502, 0x12), (0x503, 0x3C), (0x512, 0x04), (0x513, 0x5D), (0x523, 0x0C), (0x533, 0xAC),
   (0x580, 0xF1), (0x581, 0xF2), (0x582, 0xF3), (0x583, 0xC4), (0x590, 0xF5), (0x591, 0xF6), (0x592, 0xF7), (0x593, 0xD8),
   (0x5A0, 0xFA), (0x5A3, 0xC1),
   (0x600, 1), (0x601, 2), (0x602, 3), (0x603, 4), (0x700, 1), (0x701, 2), (0x702, 3), (0x703, 4),
   (0x800, 1), (0x801, 9), (0x802, 3), (0x803, 4), (0xA02, 7)].filter fun e => e.2 ≠ 0
/-- A core running from local store: B0 = 3, B1 = 10, B2 and B7 in local store, the rest 0. -/
def coreT : Core :=
  { coreZero with
    b := [3, 10, BitVec.ofNat 64 (lsBase + 0x900), 0, 0, 0, 0, BitVec.ofNat 64 (lsBase + 0x3000)], pc := lsBase + 0x2000
    ls := lsTest, st := .run }
/-- The device with one core of a kind running. -/
def agS (c : CoreId) (k : Core) : State := { up with cores := [(keyOf c, k)] }
/-- Whether an instruction meets no exception before it computes, and its operands meet `P`. -/
def ready (s : State) (c : CoreId) (i : AgInsn) (P : AgIn → Bool) : Bool :=
  let j := fullInsn i
  s.coreRuns? c && (s.fetchExc c (insnLen j) (decodeExc c j)).isNone &&
    (match s.operandsOf c j false (addr48 ((s.core (keyOf c)).pc + insnLen j)) (opcodeLen j.mn) with
     | .ok x => P x
     | .error _ => false)
/-- What `ready` says. -/
theorem ready_sound {s : State} {c : CoreId} {i : AgInsn} {P : AgIn → Bool} (h : ready s c i P = true) :
    ∃ x, AgReady s c i x ∧ P x = true := by
  unfold ready at h
  simp only [Bool.and_eq_true, Option.isNone_iff_eq_none] at h
  obtain ⟨⟨h1, h2⟩, h3⟩ := h
  cases e : s.operandsOf c (fullInsn i) false (addr48 ((s.core (keyOf c)).pc + insnLen (fullInsn i))) (opcodeLen (fullInsn i).mn) with
  | error y => rw [e] at h3; cases h3
  | ok x => rw [e] at h3; exact ⟨x, ⟨h1, h2, e⟩, h3⟩

/-- A specifier that may stand for an operand. -/
def sampleSpec (two : Bool) (j : Nat) (f : Form) : Spec :=
  match f.ty with
  | .int n => if f.rd && !f.wr && !f.a && n ≤ 4 then .imm (natLE n 8) else .lsShort (0x400 + 0x40 * j)
  | .len => .imm [4, if two then 4 else 0]
  | .dec z b => .lsShort (if z then (if b then 0x590 else 0x580) else if b then 0x510 else 0x500)
  | .bit => .bitAbs j
  | .field => .bitAbs 100
  | .str => .lsShort (if j = 1 then 0x600 else 0x700)
  | .blk _ => .disp16 2 0x100
  | .addr => .disp8 2 0x40
/-- An instruction with such specifiers. -/
def sample (mn : Mn) : AgInsn :=
  let forms := formsOf mn (if isSized mn then .l else .b)
  let two := forms.any fun f => match f.ty with | .dec _ b => b | _ => false
  ⟨mn, if isSized mn then .l else .b, forms.zipIdx.map fun e => sampleSpec two e.2 e.1⟩

theorem test_ready_int : ((allMn.take 44).all fun mn => ready (agS .thimble coreT) .thimble (sample mn) fun _ => true) = true := by
  decide +kernel
theorem test_ready_bits : (((allMn.drop 44).take 39).all fun mn => ready (agS .thimble coreT) .thimble (sample mn) fun _ => true) = true := by
  decide +kernel
theorem test_ready_ctl : ((allMn.drop 83).all fun mn => ready (agS .thimble coreT) .thimble (sample mn) fun _ => true) = true := by
  decide +kernel
/-- R297: every instruction of the opcode map meets no exception somewhere: the hypothesis of each Agrek statement, and the only one of
AgrekMoves, AgrekAddSubtract, AgrekStack, AgrekBranches, AgrekBits and AgrekPost. -/
theorem witness_AgrekReady (mn : Mn) (h : mn ∈ allMn) : ∃ x, AgReady (agS .thimble coreT) .thimble (sample mn) x := by
  have hall : (allMn.all fun mn => ready (agS .thimble coreT) .thimble (sample mn) fun _ => true) = true := by
    have e : allMn = allMn.take 44 ++ ((allMn.drop 44).take 39 ++ allMn.drop 83) := by decide +kernel
    rw [e, List.all_append, List.all_append, test_ready_int, test_ready_bits, test_ready_ctl]; rfl
  obtain ⟨x, hx, _⟩ := ready_sound (List.all_eq_true.mp hall mn h)
  exact ⟨x, hx⟩
/-- The same on a Shuttle and on a Bobbin core for the instructions whose effect depends on the core's kind. -/
theorem witness_AgrekKinds :
    ready (agS (.shuttle 5) coreT) (.shuttle 5) (sample .exit) (fun _ => true) = true ∧
    ready (agS (.shuttle 5) coreT) (.shuttle 5) (sample .yield) (fun _ => true) = true ∧
    ready (agS (.bobbin 7) coreT) (.bobbin 7) (sample .exit) (fun _ => true) = true ∧
    ready (agS (.bobbin 7) coreT) (.bobbin 7) (sample .yield) (fun _ => true) = true ∧
    ready (agS (.bobbin 7) coreT) (.bobbin 7) (sample .halt) (fun _ => true) = true := by decide +kernel

/-- The test core with other values in B0 and B1. -/
def coreAB (a b : Nat) : Core := (coreT.setB 0 a).setB 1 b
/-- An instruction on B0 and B1 (an integer of any size stands in a register's low bytes). -/
def onAB (mn : Mn) (z : Sz) : AgInsn := ⟨mn, z, [.lsShort 0, .lsShort 8]⟩
/-- Whether some Agrek statement's conditions hold of an instruction of Thimble's core `k`. -/
def agMeets (k : Core) (i : AgInsn) (P : AgIn → Bool) : Bool := ready (agS .thimble k) .thimble i P

/-- Division by the most negative operand's opposite corner, by 1 and by 0 (R301). -/
theorem witness_AgrekMultiplyDivide : ([Mn.div, .divu, .rem, .remu].all fun mn =>
    agMeets (coreAB (2 ^ 64 - 1) (2 ^ 63)) (onAB mn .l) (fun x => x.v 0 != 0) &&
    agMeets (coreAB 1 (2 ^ 63)) (onAB mn .b) (fun x => x.v 0 != 0) &&
    agMeets (coreAB 0 5) (onAB mn .l) (fun x => x.v 0 == 0) && agMeets (coreAB 256 5) (onAB mn .b) (fun x => x.v 0 == 0)) = true := by
  decide +kernel
/-- Counts 0, 1, the width, beyond it and 255 (R302). -/
theorem witness_AgrekLogicShift : ([Mn.shl, .shr, .sar, .sal, .rol, .ror].all fun mn =>
    agMeets (coreAB 0 5) (onAB mn .l) (fun x => x.v 0 == 0 && x.v 0 % x.w == 0) &&
    [1, 7, 9, 255].all (fun n => agMeets (coreAB n 5) (onAB mn .b) fun x => x.v 0 != 0 && x.v 0 % x.w != 0) &&
    agMeets (coreAB 64 5) (onAB mn .l) (fun x => x.v 0 != 0 && x.v 0 % x.w == 0)) = true := by decide +kernel

/-- A decimal instruction with two lengths and two operand places. -/
def decI (mn : Mn) (n m a b : Nat) : AgInsn := ⟨mn, .b, [.imm [BitVec.ofNat 8 n, BitVec.ofNat 8 m], .lsShort a, .lsShort b]⟩
/-- The value of an operand's decimal; none where it raises. -/
def decOf (z : Bool) (i : Nat) (x : AgIn) : Option Int := match x.dec z i with | .ok a => some a | .error _ => none
/-- Valid operands of each decimal instruction, a zero divisor, shifts both ways, and operands that are no decimals (R272, R304). -/
theorem witness_AgrekDecimal :
    ([Mn.dadd, .dsub, .dmul, .ddiv, .dcmp].all fun mn =>
      agMeets coreT (decI mn 4 4 0x500 0x510) fun x => decOf false 1 x == some 123 && decOf false 2 x == some (-45)) = true ∧
    ([Mn.zadd, .zsub, .zcmp].all fun mn =>
      agMeets coreT (decI mn 4 4 0x580 0x590) fun x => decOf true 1 x == some 1234 && decOf true 2 x == some (-5678)) = true ∧
    agMeets coreT (decI .ddiv 4 4 0x520 0x510) (fun x => decOf false 1 x == some 0 && decOf false 2 x == some (-45)) = true ∧
    agMeets coreT (decI .dmov 4 16 0x500 0x510) (fun x => decOf false 1 x == some 123) = true ∧
    agMeets coreT (decI .ztod 4 4 0x580 0x510) (fun x => decOf true 1 x == some 1234) = true ∧
    agMeets coreT (decI .dtoz 4 31 0x510 0x590) (fun x => decOf false 1 x == some (-45)) = true ∧
    agMeets coreT (decI .zmov 4 1 0x590 0x580) (fun x => decOf true 1 x == some (-5678)) = true ∧
    agMeets coreT ⟨.dshf, .b, [.imm [4, 0], .imm4 2, .lsShort 0x500]⟩ (fun x => decOf false 2 x == some 123 && 0 ≤ toSigned 8 (x.v 1)) = true ∧
    agMeets coreT ⟨.dshf, .b, [.imm [4, 0], .imm [0xFF], .lsShort 0x500]⟩ (fun x => decOf false 2 x == some 123 && toSigned 8 (x.v 1) < 0)
      = true ∧
    agMeets coreT ⟨.dtst, .b, [.imm [4, 0], .lsShort 0x520]⟩ (fun x => decOf false 1 x == some 0) = true ∧
    agMeets coreT (decI .dtol 4 0 0x510 0x400) (fun x => decOf false 1 x == some (-45)) = true ∧
    agMeets coreT (decI .dadd 4 4 0x530 0x500) (fun x => decOf false 1 x == none) = true ∧
    agMeets coreT (decI .zadd 4 4 0x580 0x5A0) (fun x => decOf true 1 x == some 1234 && decOf true 2 x == none) = true := by decide +kernel

/-- A string instruction of `n` bytes. -/
def strI (mn : Mn) (n : Nat) (a : Spec) (b : Nat) : AgInsn := ⟨mn, .b, [.imm [BitVec.ofNat 8 n, BitVec.ofNat 8 (n / 256)], a, .lsShort b]⟩
/-- Equal strings, a difference at the second byte, a table apart from its buffer and one inside it; a byte found first, last and not (R309). -/
theorem witness_AgrekStrings :
    agMeets coreT (strI .scmp 4 (.lsShort 0x600) 0x700) (fun x => x.bytes 1 == x.bytes 2) = true ∧
    agMeets coreT (strI .scmp 0 (.lsShort 0x600) 0x800) (fun x => x.bytes 1 == x.bytes 2) = true ∧
    agMeets coreT (strI .scmp 4 (.lsShort 0x600) 0x800) (fun x => decide (1 < (x.bytes 1).length) && decide (1 < (x.bytes 2).length) &&
      (x.bytes 1).getD 0 0 == (x.bytes 2).getD 0 0 && (x.bytes 1).getD 1 0 != (x.bytes 2).getD 1 0) = true ∧
    agMeets coreT (strI .sxlt 4 (.disp16 2 0x100) 0x700) (fun x => decide (x.apart ≤ -256 ∨ ((x.bytes 2).length : Int) ≤ x.apart)) = true ∧
    agMeets coreT (strI .sxlt 0x100 (.lsShort 0x680) 0x600) (fun x => decide (0 ≤ x.apart ∧ x.apart < (x.bytes 2).length)) = true ∧
    agMeets coreT (strI .sfnd 4 (.imm4 1) 0x600) (fun x => decide (0 < (x.bytes 2).length) && (x.bytes 2).getD 0 0 == 1) = true ∧
    agMeets coreT (strI .sfnd 4 (.imm4 4) 0x600) (fun x => (x.bytes 2).getD 3 0 == 4 && ((x.bytes 2).take 3).all (· != 4)) = true ∧
    agMeets coreT (strI .sfnd 4 (.imm4 9) 0x600) (fun x => (x.bytes 2).all (· != 9)) = true ∧
    agMeets coreT (strI .sskp 4 (.imm4 1) 0x600) (fun x => (x.bytes 2).getD 1 0 != 1 && (x.bytes 2).getD 0 0 == 1) = true ∧
    agMeets coreT (strI .sskp 1 (.imm4 1) 0x600) (fun x => (x.bytes 2).all (· == 1)) = true ∧
    agMeets coreT (strI .sscn 4 (.disp16 2 0x100) 0x600) (fun x => (x.bytes 1).getD 2 0 == 7 && (x.bytes 2).getD 1 0 == 2 &&
      (x.bytes 1).getD 1 0 == 0) = true ∧
    agMeets coreT (strI .sscn 1 (.disp16 2 0x100) 0x600) (fun x => (x.bytes 1).getD 1 0 == 0 && (x.bytes 2) == [1]) = true := by
  decide +kernel

/-- Target and expected equal, and different (R314). -/
theorem witness_AgrekAtomic :
    agMeets (coreAB 7 7) ⟨.cas, .l, [.imm4 3, .lsShort 0, .lsShort 8]⟩ (fun x => x.bytes 2 == x.bytes 1) = true ∧
    agMeets (coreAB 7 8) ⟨.cas, .b, [.imm4 3, .lsShort 0, .lsShort 8]⟩ (fun x => x.bytes 2 != x.bytes 1) = true := by decide +kernel
/-- The device with the first line of DRAM, all 7, in the cache of core 0. -/
def lineS : State := { agS (.shuttle 0) coreT with caches := ⟨[(0, [(dramBase / 64, List.replicate 64 7)])]⟩ }
/-- A line held, the last byte of it, and a line not held; memory without a bad word (R326). -/
theorem witness_AgrekAtomic_cache :
    dramBase + 63 + 1 ≤ hostBase ∧ inRegs (dramBase + 63) 1 = false ∧ (dramBase + 63) % 64 + 1 ≤ 64 ∧
    lineS.heldLine 0 ((dramBase + 63) / 64) = some (List.replicate 64 7) ∧ lineS.heldLine 0 (dramBase / 64 + 1) = none ∧
    lineS.poison (64 * (dramBase / 64 + 1)) 64 = none := by decide +kernel
/-- A stale line is read until the core invalidates its cache; memory holds 0 (R326). -/
theorem test_stale_line :
    (match (lineS.coreRead (.shuttle 0) coreT (.fab (dramBase + 62) 0 true) 4).1 with | .ok b => b | .error _ => []) = [7, 7, 0, 0] ∧
    (match ((lineS.dropLines (.shuttle 0)).coreRead (.shuttle 0) coreT (.fab (dramBase + 62) 0 true) 4).1 with
      | .ok b => b | .error _ => []) = [0, 0, 0, 0] := by decide +kernel

/-- The device with an interrupt of page GAU pending at vector 2 of Thimble. -/
def pendS (k : Core) : State := with_ (agS .thimble k)
  [(P.gau, R.common_INT_RAW, 0, 1), (P.gau, R.common_INT_EN, 0, 1), (P.glb, R.glb_THM_EN, P.gau, 1), (P.glb, R.glb_THM_VEC, P.gau, 2)]
/-- A pending interrupt and none; a window refused and one taken; a completion waiting and none (R280, R312, R316). -/
theorem witness_AgrekControl :
    ready (pendS coreT) .thimble (sample .wfi) (fun x => (x.s.nextVec .thimble).isSome) = true ∧
    agMeets coreT (sample .wfi) (fun x => x.s.nextVec .thimble == none) = true ∧
    agMeets coreT (sample .halt) (fun x => x.s.nextVec .thimble == none) = true ∧
    agMeets coreT ⟨.winset, .b, [.imm4 0, .lsShort 0x600]⟩ (fun x => x.s.winRefused x.c (x.v 0) (x.bytes 1)) = true ∧
    agMeets coreT ⟨.winset, .b, [.imm4 0, .lsShort 0x900]⟩ (fun x => !x.s.winRefused x.c (x.v 0) (x.bytes 1)) = true ∧
    ([Mn.wcpl, .rcpl].all fun mn => agMeets { coreT with cplQ := [5] } (sample mn) (fun x => x.c.cplQ.head? == some 5) &&
      agMeets coreT (sample mn) fun x => x.c.cplQ == []) = true := by decide +kernel

/-- Whether an instruction under a prefix meets no exception before its iteration computes. -/
def readyRep (s : State) (c : CoreId) (p : Rp) (i : AgInsn) : Bool :=
  let j := fullInsn i
  !escFF j.mn && s.coreRuns? c && (s.core (keyOf c)).rcnt != 0 &&
    (s.fetchExc c (1 + insnLen j) (decodeExc c j ++ repeatExc s c p j)).isNone &&
    (match s.operandsOf c j true (addr48 ((s.core (keyOf c)).pc + (1 + insnLen j))) (1 + opcodeLen j.mn) with | .ok _ => true | .error _ => false)
/-- Under each prefix with RCNT 1 and 2, and REP with RCNT 0; a repeated branch (R318 to R320). -/
theorem witness_AgrekRepeat :
    ([Rp.rep, .repz, .repnz].all fun p => [1, 2, 2 ^ 32 - 1].all fun n => readyRep (agS (.shuttle 0) { coreT with rcnt := n }) (.shuttle 0) p
      ⟨.inc, .l, [.postInc 2]⟩) = true ∧
    readyRep (agS (.shuttle 0) { coreT with rcnt := 1 }) (.shuttle 0) .repu ⟨.inc, .l, [.postInc 2]⟩ = true ∧
    (agS (.shuttle 0) coreT).fetchExc (.shuttle 0) (1 + insnLen (fullInsn ⟨.inc, .l, [.postInc 2]⟩))
      (decodeExc (.shuttle 0) (fullInsn ⟨.inc, .l, [.postInc 2]⟩) ++
        repeatExc (agS (.shuttle 0) coreT) (.shuttle 0) .rep (fullInsn ⟨.inc, .l, [.postInc 2]⟩)) = none ∧
    coreT.rcnt = 0 ∧ coreT.psw.testBit 10 = false ∧ (agS (.shuttle 0) coreT).coreRuns? (.shuttle 0) = true ∧ escFF .inc = false ∧
    noRepeat .call = true ∧ decodeExc (.shuttle 0) (fullInsn (sample .call)) = [] ∧
    (placeOf (.shuttle 0) coreT coreT.pc (1 + insnLen (fullInsn (sample .call))) .ex).isSome = true := by decide +kernel
/-- The iteration completes (R318). -/
theorem witness_AgrekRepeatDone : ∀ x, ∃ o, semOf .inc x = .done o := fun _ => ⟨_, rfl⟩
/-- No word is known bad where none is listed. -/
theorem witness_poison (c : CoreId) (k : Core) : ∀ a n, (agS c k).poison a n = none := fun _ _ => rfl

/-- The PC outside every place, and in local store; a class above a Shuttle core's level (R262, R288). -/
theorem witness_AgrekDecodeExceptions :
    (agS (.shuttle 0) coreT).coreRuns? (.shuttle 0) = true ∧ (agS (.shuttle 0) { coreT with pc := 0 }).coreRuns? (.shuttle 0) = true ∧
    placeOf (.shuttle 0) { coreT with pc := 0 } 0 1 .ex = none ∧ placeOf (.shuttle 0) { coreT with pc := 0 } 0 2 .ex = none ∧
    (placeOf (.shuttle 0) coreT coreT.pc 2 .ex).isSome = true ∧ levelOf (.shuttle 0) < classOf .halt ∧
    levelOf (.bobbin 0) < classOf .kload := by decide +kernel

/-- A core whose vector 9 leads to local store, with its stack pointer where `sp` says. -/
def coreExc (sp : Nat) : Core :=
  ({ coreT with ls := [(0x14B, 0x12), (0x14D, 0xFF)], psw := 0x607 } : Core).setB 7 (lsBase + sp)
/-- The lowest and the highest stack that lies above the register block in local store (R323). -/
theorem witness_ExceptionEntry : [0x118, 0x40000].all (fun sp =>
    let k := coreExc sp
    decide (k.b.length = 8) && decide (leNat (k.lsRead (0x100 + 8 * 9) 8) % 2 ^ 48 ≠ 0) &&
      decide (lsBase + 0x100 + 24 ≤ k.breg 7 ∧ k.breg 7 ≤ lsBase + lsSize (.shuttle 0) ∧ k.psw < 2 ^ 64)) = true ∧
    Tbl.at? (agS (.shuttle 0) (coreExc 0x118)).cores (keyOf (.shuttle 0)) = some (coreExc 0x118) := by decide +kernel
/-- No handler on any kind of core (R324). -/
theorem witness_ExceptionNoHandler : [CoreId.shuttle 31, .bobbin 0, .thimble].all (fun c =>
    leNat (((agS c coreT).core (keyOf c)).lsRead (0x100 + 8 * 9) 8) % 2 ^ 48 == 0) = true := by decide +kernel
/-- An interrupt pending with IE set, one with IE clear and the core in WFI, and none (R294, R510). -/
theorem witness_InterruptEntry :
    (pendS { coreT with psw := 0x200 }).nextVec .thimble = some (18, P.gau) ∧
    (({ coreT with psw := 0x200 } : Core).psw.testBit 9) = true ∧ coreT.psw.testBit 9 = false ∧ coreT.halted = false ∧
    Tbl.at? (pendS coreT).cores (keyOf .thimble) = some coreT ∧
    ((pendS { coreT with st := .waitInt }).updCore .thimble fun d => { d with st := .run }).coreRuns? .thimble = true ∧
    (agS .thimble coreT).nextVec .thimble = none := by decide +kernel

/-- A core with a window on DRAM at 0x10000. -/
def coreW : Core :=
  { coreT with wins := [(0, { vbase := 0x10000, target := dramBase, size := 0x10000, rd := true, wr := true, ex := true, ca := true, panel := 0 })] }
/-- The operands of an instruction, where it meets no exception. -/
def opsOf (s : State) (c : CoreId) (i : AgInsn) : Option AgIn :=
  match s.operandsOf c (fullInsn i) false (addr48 ((s.core (keyOf c)).pc + insnLen (fullInsn i))) (opcodeLen (fullInsn i).mn) with
  | .ok x => some x
  | .error _ => none
/-- A store of B0 to DRAM through a window. -/
def storeI : AgInsn := ⟨.mov, .w, [.lsShort 0, .abs32 0x10000]⟩
theorem test_store_stores : ((opsOf (agS (.shuttle 0) coreW) (.shuttle 0) storeI).map fun x =>
    match semOf .mov x with
    | .done o => (finishInsn (.shuttle 0) x o).2 == [] && (o.stores (.shuttle 0) x == [(dramBase, 4)])
    | _ => false) = some true ∧ dramBase < hostBase ∧ inRegs dramBase 4 = false ∧
    ((agS (.shuttle 0) coreW).core (keyOf (.shuttle 0))).psw.testBit 10 = false := by decide +kernel
theorem test_store_state : (opsOf (agS (.shuttle 0) coreW) (.shuttle 0) storeI).map (·.s) = some (agS (.shuttle 0) coreW) := rfl
/-- Reading its operands leaves the state, and it changes nothing but through its operands (R290 to R292). -/
theorem witness_AgrekFrame : ready (agS (.shuttle 0) coreW) (.shuttle 0) storeI (fun _ => true) = true ∧
    ∀ x, ∃ o, semOf .mov x = .done o ∧ o.s = x.s ∧ o.fin = id := ⟨by decide +kernel, fun _ => ⟨_, rfl, rfl, rfl⟩⟩
/-- The register forms with B0 and B7, and with one register twice, at the highest local-store PC (R265). -/
theorem witness_AgrekRegisterForm :
    placeOf (.shuttle 0) coreT coreT.pc 5 .ex = some (.ls 0x2000) ∧
    placeOf (.thimble) { coreT with pc := romBase } romBase 5 .ex = some (.rom 0) ∧
    placeOf (.shuttle 0) { coreT with pc := lsBase + 0x3FFFB } (lsBase + 0x3FFFB) 5 .ex = some (.ls 0x3FFFB) ∧
    coreT.b.length = 8 ∧ coreT.psw < 2 ^ 64 ∧ coreT.psw.testBit 5 = false ∧ coreT.psw.testBit 10 = false := by decide +kernel

/-! ### Power, reset, registers, memory -/

/-- Whether a register access of an agent reaches a page. -/
def rch (s : State) (ag : Agent) (p : Nat) : Bool :=
  (match s.power.seq with | .run | .wake _ _ => true | _ => false) && s.agentUp ag && s.pageOpen p && s.dev != Dev.ward && !s.lockedOut ag p
/-- What `rch` says. -/
theorem rch_sound {s : State} {ag : Agent} {p : Nat} (h : rch s ag p = true) : Reaches s ag p := by
  unfold rch at h
  simp only [Bool.and_eq_true, bne_iff_ne, Bool.not_eq_true'] at h
  obtain ⟨⟨⟨⟨h1, h2⟩, h3⟩, h4⟩, h5⟩ := h
  refine ⟨?_, h2, h3, h4, h5⟩
  cases e : s.power.seq with
  | run => exact .inl rfl
  | wake l n => exact .inr ⟨l, n, rfl⟩
  | _ => rw [e] at h1; cases h1
/-- A state in another step of the power sequences. -/
def seqS (q : PowerSeq) (d : Nat) : State := { up with power := { up.power with seq := q } }.setDev d
/-- The three agents and every kind of page that they reach. -/
theorem witness_Reaches : ([Agent.host, .bobbin 7, .thimble].all fun ag =>
    [P.glb, P.pwr, P.clk, P.rst, P.flt, P.thm, P.dbg, P.gpio, P.eic, P.shc 7, P.drc 3, P.trl, P.gau, P.glb].all fun p => rch up ag p) = true := by
  decide +kernel

/-- Power held in reset, each regulator awaited, the crystal awaited, PGOOD lost while running (R519, R520). -/
theorem witness_PowerUp :
    State.reset.power.seq = .heldInReset ∧
    ((List.range 8).all fun r => ({ seqS (.upRegulator r) Dev.fill with power := { up.power with seq := .upRegulator r, regEn := [r] } } :
      State).power.regEn.contains r) = true ∧
    (seqS .upCrystal Dev.fill).power.seq = .upCrystal ∧
    up.powered = true ∧ ((List.range 8).all fun r => up.power.regEn.contains r) = true ∧ up.dev ≠ Dev.boot := by decide +kernel
/-- The crystal awaited in a wake, then held; the PLLs at the ends of both words (R453, R461). -/
theorem witness_Clocks :
    (seqS (.wake .vault 2) Dev.boot).rd P.clk R.clk_CLK_DEGRADED = 0 ∧
    rch (with_ (seqS (.wake .slumber 3) Dev.boot) [(P.clk, R.clk_CLK_DEGRADED, 0, 1)]) .thimble P.clk = true ∧
    up.power.seq = .run ∧ up.power.dvfs = [] ∧ up.rd P.clk R.clk_CLK_DEGRADED = 0 ∧
    ([0, 9, 10, 31, 32, 40].all fun p => up.pllPresent p) = true ∧ up.powered = true ∧ up.pagesAwake = true := by decide +kernel
/-- A request from Ready, one refused, automatic Doze, and each wait of an entry with and without a latched wake (R444 to R449). -/
theorem witness_LowPowerEntry :
    rch up .host P.pwr = true ∧ up.power.seq = .run ∧ up.rd P.pwr R.pwr_STATE_BUSY = 0 ∧ up.upState = true ∧
    up.rd P.pwr R.pwr_REF_HEAD < 8 ∧
    (with_ up [(P.pwr, R.pwr_DOZE_AUTO, 0, 1)]).rd P.pwr R.pwr_DOZE_AUTO = 1 ∧
    (with_ up [(P.pwr, R.pwr_DOZE_AUTO, 0, 1)]).blocker .doze = none ∧
    (seqS (.entry .doze 2) Dev.ready).power.latched = 0 ∧
    ({ seqS (.entry .doze 2) Dev.ready with power := { up.power with seq := .entry .doze 2, latched := 1 } } : State).power.latched ≠ 0 ∧
    (seqS (.entry .vault 3) Dev.ready).power.seq = .entry .vault 3 ∧
    (with_ (seqS (.entry .slumber 3) Dev.ready) [(P.drm, R.drm_SET, 0, 15)]).rd P.drm R.drm_SET = 15 := by decide +kernel
/-- Every source enabled and disabled, during an entry and in each state (R449 to R451). -/
theorem witness_Wake :
    ((List.range 8).all fun n => ((with_ up [(P.pwr, R.pwr_WAKE_EN, 0, 0)]).rd P.pwr R.pwr_WAKE_EN).testBit n == false &&
      ((with_ up [(P.pwr, R.pwr_WAKE_EN, 0, 255)]).rd P.pwr R.pwr_WAKE_EN).testBit n) = true ∧
    (wakeApplies 0 .slumber && wakeApplies 1 .vault && wakeApplies 4 .vault && wakeApplies 3 .slumber) = true ∧
    (seqS (.asleep .doze) Dev.doze).power.seq = .asleep .doze ∧
    (with_ (seqS (.asleep .doze) Dev.doze) [(P.pwr, R.pwr_WAKE_TIMER_S, 0, 1), (P.pwr, R.pwr_WAKE_EN, 0, 255)]).rd P.pwr R.pwr_WAKE_TIMER_S ≠ 0 ∧
    ((with_ (seqS (.asleep .doze) Dev.doze) [(P.pwr, R.pwr_WAKE_TIMER_S, 0, 1), (P.pwr, R.pwr_WAKE_EN, 0, 255)]).rd P.pwr
      R.pwr_WAKE_EN).testBit 4 = true := by decide +kernel
/-- The host's states both ways, PERST_N low, a channel of the set in Doze (R450, R437). -/
theorem witness_HostPower :
    up.mode M.host = true ∧ up.nvme.d3hot = !true ∧ ({ up.nvme with d3hot := true } : Nvme).d3hot = !false ∧
    ({ up.nvme with perstLow := true } : Nvme).perstLow = true ∧
    (with_ (seqS (.asleep .doze) Dev.doze) [(P.drm, R.drm_SET, 0, 8)]).dev = Dev.doze ∧
    ((with_ (seqS (.asleep .doze) Dev.doze) [(P.drm, R.drm_SET, 0, 8)]).rd P.drm R.drm_SET).testBit 3 = true ∧
    (seqS (.asleep .doze) Dev.doze).dram.powerDown.contains 3 = false := by decide +kernel
/-- A cluster whose DVFS change stands in a phase. -/
def dvfsS (d : Dvfs) (v : Bool) : State := { up with power := { up.power with dvfs := [(7, d)], vidWait := v } }
/-- A point below, at and above the present one; each phase of a change (R328, R457). -/
theorem witness_Dvfs :
    7 < nClusters up.part ∧ rch up (.bobbin 0) (P.shc 7) = true ∧ up.rd (P.shc 7) R.shc_DVFS_BUSY = 0 ∧
    ((List.range 3).any fun n => decide (n ≤ up.rd (P.shc 7) R.shc_DVFS_MAX ∧ n ≠ up.rd (P.shc 7) R.shc_DVFS_CUR)) = true ∧
    (with_ up [(P.shc 7, R.shc_DVFS_CUR, 0, 2)]).rd (P.shc 7) R.shc_DVFS_CUR = 2 ∧
    (dvfsS ⟨2, 0⟩ true).power.vidWait = true ∧ (dvfsS ⟨2, 0⟩ true).power.seq = .run ∧
    Tbl.at? (dvfsS ⟨2, 0⟩ true).power.dvfs 7 = some ⟨2, 0⟩ ∧ Tbl.at? (dvfsS ⟨1, 1⟩ false).power.dvfs 7 = some ⟨1, 1⟩ ∧
    Tbl.at? (dvfsS ⟨2, 3⟩ false).power.dvfs 7 = some ⟨2, 3⟩ ∧ (dvfsS ⟨2, 3⟩ false).power.vidWait = false := by decide +kernel
/-- Domains of each kind; the average above the limit; the limit long kept; the pads of both parts (R441 to R443, R457 to R459). -/
theorem witness_DomainsAndPads :
    rch up .host P.pwr = true ∧ up.essential 0 = true ∧ ((List.range 38).any fun d => !up.essential d && (up.domWork d).isNone) = true ∧
    ((List.range 38).any fun d => !up.essential d && (up.domWork d).isSome) = true ∧
    domainPresent up.part 37 = true ∧ up.dev = Dev.ready ∧ up.rd P.pwr R.pwr_PWR_LIMIT_W < 255 ∧
    ({ up.power with underMs := 100 } : Power).underMs = 100 ∧ up.domOn 8 = true ∧
    up.part = .od7400 ∧ rch up .host P.pad = true ∧ rch { up with part := .od7420 } .host P.pad = true ∧
    (let s := with_ { up with part := .od7420 } [(P.pad, R.pad_PAD_TACK_LO, 0, 2 ^ 30)]
     domainPresent s.part 30 && s.domOn 30 && (s.rd P.pad R.pad_PAD_TACK_LO).testBit 30) = true := by decide +kernel
/-- A signed Bobbin image of one byte, version 1, key 0: its key is the base point, private key 1, its signature made with nonce 1. -/
def imageT : List Byte :=
  [0x4C, 0x49, 0x4D, 0x47, 1, 0, 0, 0, 1, 0, 0, 0, 1, 0, 0, 0] ++ (natLE 48 p384g.1).reverse ++ (natLE 48 p384g.2).reverse ++
    List.replicate 16 0 ++ [0] ++
    (natLE 48 0xAA87CA22BE8B05378EB1C71EF320AD746E1D3B628BA79B9859F741E082542A385502F25DBF55296C3A545E3872760AB7).reverse ++
    (natLE 48 0xA112800AD98A3D607F88C9845DC759610538E85A6BC2FF8FF31289F3CE0F99657457E39E1DD02650D82B0243BD370CF0).reverse
/-- The device in Boot, before firmware runs, with SPI NOR as given and the test image's key digest in the part. -/
def bootS (nor : Memory) : State :=
  ({ up with
      nor := nor
      trust := { up.trust with
        fwRunning := false
        keyHashes := [(natLE 48 0xA19D4DB171B582EB8052B0CFE555E17894AA22D1C8A9770950697DD8F796D2FA4BF0A56AD80006B7EA08E1191F814B65).reverse] } } :
    State).setDev Dev.boot
/-- The image in slot 1; both slots with a length of 0 and nothing else. -/
def norImage : Memory := (imageT.zipIdx.map fun e => (norSlot 1 + e.2, ~~~ e.1)).filter fun e => e.2 ≠ 0
def norNone : Memory := [(0x10000C, 0xFF), (0x10000D, 0xFF), (0x10000E, 0xFF), (0x10000F, 0xFF),
  (0x90000C, 0xFF), (0x90000D, 0xFF), (0x90000E, 0xFF), (0x90000F, 0xFF)]
/-- R472, by a signature made outside the model: the image is accepted, and not with another version. -/
theorem test_signed_image : (bootS norImage).imageOk 1 imageT = true := by decide +kernel
theorem test_changed_image : (bootS norImage).imageOk 1 (imageT.set 8 2) = false := by decide +kernel
theorem test_slot_image : (bootS norImage).slotImage 1 = imageT := by decide +kernel
/-- Fill's steps, the last DRAM channel, Boot without and with an image (R410, R424, R425, R475). -/
theorem witness_FillAndBoot :
    ({ up with dram := { up.dram with fill := 1 } } : State).dram.fill = 1 ∧
    (let s : State := { up with dram := { up.dram with fill := 2, trained := [(0, true), (1, true), (2, true)] } }
     s.dram.fill = 2 ∧ 3 < nDram s.part ∧ Tbl.at? s.dram.trained 3 = none ∧ s.dram.trained.length + 1 = nDram s.part) ∧
    (bootS norImage).dev = Dev.boot ∧ (bootS norImage).dram.fill = 0 ∧ (bootS norImage).trust.fwRunning = false ∧ (bootS norImage).power.seq = .run ∧
    (bootS norImage).fault.held = false ∧ (bootS norImage).mode M.arch = false ∧
    (bootS norNone).dev = Dev.boot ∧ (bootS norNone).imageOk 1 ((bootS norNone).slotImage 0) = false ∧ (bootS norNone).imageOk 1 ((bootS norNone).slotImage 1) = false := by
  decide +kernel
theorem witness_FillAndBoot_image : (bootS norImage).imageOk 1 ((bootS norImage).slotImage 1) = true := by rw [test_slot_image]; exact test_signed_image
/-- A channel to train (R111). -/
theorem witness_NandTraining : up.trust.fwRunning = true ∧ 23 < nChannels up.part ∧ up.pageUp (P.nfc 23) = true ∧ up.dev ≠ Dev.ward ∧
    up.power.seq = .run := by decide +kernel
/-- The device in a phase of Rebuild with a channel present. -/
def rebuildS (n : Nat) : State := (with_ { up with trust := { up.trust with rebuild := n } } [(P.nfc 0, R.nfc_CE_PRESENT, 0, 3)]).setDev Dev.rebuild
/-- Each phase of Rebuild, and the power-fail hold (R56). -/
theorem witness_Rebuild : ((List.range 7).all fun n => (rebuildS n).dev == Dev.rebuild && (rebuildS n).trust.rebuild == n &&
      (rebuildS n).chans != [] && !(rebuildS n).seam.pfailHold) = true ∧
    ({ (rebuildS 1).seam with pfailHold := true } : Seam).pfailHold = true := by decide +kernel
/-- The steps of a wake from Slumber, with a bank kept; the last channel out of self-refresh (R437, R454). -/
theorem witness_WakeSteps :
    (with_ (seqS (.wake .slumber 4) Dev.slumber) [(P.pwr, R.pwr_SLUMBER_BANKS, 0, 2 ^ 32 - 1)]).power.seq = .wake .slumber 4 ∧
    ((with_ (seqS (.wake .slumber 4) Dev.slumber) [(P.pwr, R.pwr_SLUMBER_BANKS, 0, 2 ^ 32 - 1)]).rd P.pwr R.pwr_SLUMBER_BANKS).testBit 31 = true ∧
    up.spool.items = [] ∧
    (let s := with_ (seqS (.wake .slumber 5) Dev.slumber) [(P.drm, R.drm_SET, 0, 1), (P.drc 0, R.drc_SR_STATE, 0, 3)]
     s.dramSet = [0] ∧ s.rd (P.drc 0) R.drc_SR_STATE = 3 ∧ s.power.seq = .wake .slumber 5 ∧ s.dram.waits = []) ∧
    (seqS (.wake .slumber 6) Dev.slumber).power.seq = .wake .slumber 6 := by decide +kernel
/-- Every reset's conditions outside Ward and in it (R352, R464). -/
theorem witness_Resets :
    rch up .thimble P.rst = true ∧ rch up (.bobbin 0) P.rst = true ∧ rch up .host P.gau = true ∧
    (let s : State := { up with nvme := { up.nvme with linkUp := true, ccEn := true } }
     s.power.seq = .run ∧ s.mode M.host = true ∧ s.dev ≠ Dev.ward ∧ s.nvme.linkUp = true ∧ s.hostUp = true ∧ s.nvme.ccEn = true) ∧
    (({ up with nvme := { up.nvme with linkUp := true } } : State).setDev Dev.ward).dev = Dev.ward ∧
    (({ up with nvme := { up.nvme with linkUp := true } } : State).setDev Dev.ward).mode M.host = true ∧
    (let s := with_ up [(P.mode, R.mode_MODE_EN, 0, 0)]
     s.powered = true ∧ s.nvme.perstLow = false ∧ s.mode M.host = false) := by decide +kernel
/-- A block enabled, and one running (R463). -/
theorem witness_SoftReset :
    rch up .thimble P.gau = true ∧ pageInfo P.gau = some (.gau, 0x48, 0) ∧ isControl .gau = false ∧
    (with_ up [(P.gau, R.common_EN, 0, 1)]).on P.gau R.common_EN = true ∧
    ({ up with trd := { up.trd with last := [0] } } : State).running P.trl = true ∧ rch up .thimble P.trl = true := by decide +kernel
/-- The device in Ready and in Ward; a fault captured and none (R487 to R493). -/
theorem witness_DeviceFaults :
    up.powered = true ∧ up.wdogRuns = true ∧ Dev.boot ≤ up.dev ∧ up.dev ≤ Dev.ward ∧ rch up .thimble P.flt = true ∧ rch up .host P.flt = true ∧
    (up.setDev Dev.ward).rd P.flt R.flt_QUIESCED = 0 ∧ (up.setDev Dev.ward).nand.ops = [] ∧ (up.setDev Dev.ward).rd P.slv R.slv_WG_STATE = 0 ∧
    (let s := with_ (up.setDev Dev.ward) [(P.flt, R.flt_QUIESCED, 0, 1), (P.flt, R.flt_WARD_RESET_S, 0, 30), (P.flt, R.flt_FAULT_VALID, 0, 1)]
     s.dev = Dev.ward ∧ s.rd P.flt R.flt_QUIESCED = 1 ∧ s.rd P.flt R.flt_WARD_RESET_S ≠ 0 ∧ s.rd P.flt R.flt_FAULT_VALID ≠ 0) ∧
    up.rd P.flt R.flt_FAULT_VALID = 0 ∧ up.dev = Dev.ready := by decide +kernel
/-- A page whose lock an agent holds, and the test page's lock free (R507). -/
def lockS (p code : Nat) : State := with_ up [(p, R.common_OWNER, 0, code)]
/-- Locks free, held by oneself and by another; both kinds of route (R504 to R509). -/
theorem witness_RegisterHeader :
    rch up .host P.gau = true ∧ up.rd P.gau R.common_OWNER = 0 ∧ agCode .host ≤ agCode (.bobbin 0) ∧ agCode (.bobbin 0) ≤ agCode .thimble ∧
    rch (lockS P.gau (agCode (.bobbin 7))) (.bobbin 7) P.gau = true ∧
    (lockS P.gau (agCode (.bobbin 7))).rd P.gau R.common_OWNER = agCode (.bobbin 7) ∧
    rch (lockS P.gau (agCode .host)) .thimble P.gau = true ∧
    (lockS P.dbg (agCode .thimble)).lockedOut .host P.dbg = true ∧ (lockS P.dbg (agCode .thimble)).pageOpen P.dbg = true ∧
    (lockS P.dbg (agCode .thimble)).agentUp .host = true ∧
    rch up .thimble P.flt = true ∧ rch up .host P.glb = true ∧ (pageInfo P.flt).isSome = true ∧ (pageInfo 0x8D).isSome = true := by decide +kernel
/-- Each kind of access (R499 to R501, R511). -/
theorem witness_RegisterAccess :
    rch up .host P.gpio = true ∧ up.agentUp .host = true ∧ up.frozen P.glb = false ∧ [1, 2, 4, 8].contains 3 = false ∧ 6 % 4 ≠ 0 ∧
    rch up .host P.seam = true ∧ (pageInfo P.seam).isSome = true ∧ 0 < counterCount .seam ∧ up.ctr P.seam 0x040 < 2 ^ 64 ∧
    rch up .host P.dbg = true ∧ up.uartTx.length < 16 ∧ ({ up with uartTx := List.replicate 15 0 } : State).uartTx.length = 15 ∧
    up.rd P.dbg R.dbg_UART_THM = 0 ∧ up.uartRx = [] ∧ up.dev ≠ Dev.fill ∧
    ({ up with uartRx := [7] } : State).uartRx = [7] ∧ up.rd P.dbg R.common_ERR_CODE = 0 ∧
    ((up.rd P.gpio R.gpio_GPIO_IN).testBit 15 != true) = true ∧
    ((with_ up [(P.gpio, R.gpio_GPIO_WAKE, 0, 2 ^ 15)]).rd P.gpio R.gpio_GPIO_WAKE).testBit 15 = true ∧
    (up.rd P.gpio R.gpio_GPIO_WAKE).testBit 0 = false := by decide +kernel
/-- Minima at the sum's limit and beyond; a buffer to be had and none; each outcome of scrub (R16, R17, R409, R413 to R417). -/
theorem witness_StagingAndIntegrity :
    rch up .thimble P.glb = true ∧ up.stg.waits = [] ∧
    ((stgClasses.filter (· ≠ .media)).map up.stgMin).sum + (992 - ((stgClasses.filter (· ≠ .media)).map up.stgMin).sum) % 1024 ≤ 992 ∧
    992 < ((stgClasses.filter (· ≠ .media)).map up.stgMin).sum + 1023 % 1024 ∧
    rch up .host P.glb = true ∧ rch up (.bobbin 3) P.glb = true ∧ up.upState = true ∧ up.stgMay .media (up.panelOf 0) = true ∧
    (let s : State := { up with stg := { up.stg with bufs := (List.range 992).map fun n => (n + 32, ⟨.media, 0, .request n⟩) } }
     s.stgMay .media (s.panelOf 0) = false) ∧
    up.pagesAwake = true ∧ up.pageUp P.eic = true ∧ up.isHard P.eic 0 = false ∧ up.watched P.eic 0 = false ∧
    (with_ up [(P.eic, R.eic_CE_VALID, 0, 1)]).rd P.eic R.eic_CE_VALID = 1 ∧ rch up .host P.eic = true ∧
    up.scrubs = true ∧ up.knownBad (P.drc 0) 0 = false ∧ up.isHard (P.drc 0) 0 = false ∧ up.watched (P.drc 0) 0 = false ∧
    up.rd (P.drc 0) R.common_LEVEL < up.rd (P.drc 0) R.common_CAPACITY ∧ up.rd P.eic R.eic_CE_VALID = 0 := by decide +kernel
/-- The device with its DRAM channels in service. -/
def dramS : State := with_ up [(P.drm, R.drm_SET, 0, 15), (P.drm, R.drm_NCH, 0, 4)]
/-- A demand read of the first line. -/
def dramA (d : Nat) : DramAcc := { d := d, isWrite := false, bytes := 64, who := .block P.seam, control := false }
/-- Refreshes pulled in, postponed and neither; an access served, one that pauses; drifts at and above the limit; alerts 1,000 and 1,001 µs
apart; channels in and out of the set (R429 to R438). -/
theorem witness_DramController :
    dramS.chanActive 3 = true ∧ 0 < dramS.board.ranks ∧ dramS.postponed 3 0 < 4 ∧ dramS.pulledIn 3 0 = 0 ∧
    0 < (dramS.setPulledIn 3 0 4).pulledIn 3 0 ∧ (dramS.setPostponed 3 0 3).postponed 3 0 < 4 ∧
    (match dramS.dramPlace 0 with
     | some p => dramS.chanActive p.ch && !dramS.dram.pausing.contains (subKey p.ch p.sub) && decide (dramS.postponed p.ch p.rank < 4) &&
         dramS.rd (P.drc p.ch) R.drc_RFM_REQ == 0 && !dramS.knownBad (P.drc p.ch) (lineOf (dramA 0)) &&
         (actTable (dramS.actOf p) p.row).all fun e => decide (e.2 < dramS.rd (P.drc p.ch) R.drc_DARN_THR)
     | none => false) = true ∧
    (match dramS.dramPlace 0x40 with
     | some p => ({ dramS with dram := { dramS.dram with pausing := [subKey p.ch p.sub] } } : State).dram.pausing.contains (subKey p.ch p.sub)
     | none => false) = true ∧
    dramS.rd (P.drc 0) R.drc_RETRAIN_PS < 2 ^ 16 ∧ dramS.dram.waits = [] ∧ dramS.dram.zqDue = false ∧ dramS.dram.pausing = [] ∧
    Tbl.at? dramS.dram.lastAlert (subKey 3 1) = none ∧
    (let s : State := { dramS with rtcUs := 1001, dram := { dramS.dram with lastAlert := [(subKey 3 1, 0)] } }
     1000 < s.rtcUs - 0 ∧ Tbl.at? s.dram.lastAlert (subKey 3 1) = some 0) ∧
    (let s : State := { dramS with rtcUs := 1000, dram := { dramS.dram with lastAlert := [(subKey 3 1, 0)] } }
     s.rtcUs - 0 ≤ 1000 ∧ Tbl.at? s.dram.lastAlert (subKey 3 1) = some 0) ∧
    rch dramS .thimble (P.drc 3) = true ∧ dramS.dramSet.contains 3 = true ∧ (with_ up [(P.drm, R.drm_SET, 0, 1)]).dramSet.contains 3 = false ∧ rch up .thimble (P.drc 3) = true ∧
    dramS.power.seq = .run ∧
    (let s := with_ { dramS with dram := { dramS.dram with bytes := [(0, 4096)] } } [(P.drm, R.drm_IMB_THR, 0, 50)]
     s.rd P.drm R.drm_IMB_THR < s.imbalance.2) := by decide +kernel
/-- Tables with a listed row, a free entry, and sixteen entries; a sequence in which one row makes up more than a sixteenth (R430). -/
theorem witness_ActivationTable :
    (((List.range 16).map fun i => (i, 5)).map (·.1)).Nodup ∧ (15, 5) ∈ ((List.range 16).map fun i => (i, 5)) ∧
    16 ∉ ((List.range 16).map fun i => (i, 5)).map (·.1) ∧ 16 ∉ ((List.range 15).map fun i => (i, 5)).map (·.1) ∧
    ((List.range 30) ++ [3]).length < 16 * ((List.range 30) ++ [3]).count 3 ∧
    (seqS (.entry .slumber 3) Dev.ready).power.seq = .entry .slumber 3 := by decide +kernel
/-! ### NVMe -/

/-- The controller enabled: an admin queue and I/O queue 1 with a command waiting in each, an NVMe/TCP I/O connection 3, two namespaces of
2,048 blocks of 4,096 bytes with their key slots open, 64 KiB of local memory, a NAND channel. -/
def nv : State :=
  with_ { up with
    board := { up.board with blocks := 4096 }
    nvme := { up.nvme with
      linkUp := true, ccEn := true, csts := true
      sqs := [(0, ⟨4096, 0, 0, 0, 1⟩), (1, ⟨64, 1, 0, 0, 1⟩)], cqs := [(0, ⟨4096, 0, 0, 0⟩), (1, ⟨64, 1, 0, 0⟩), (2, ⟨64, 2, 0, 0⟩)]
      ns := [(0, ⟨2048, 1, 0, none⟩), (1, ⟨2048, 1, 0, none⟩)] }
    net := { up.net with conns := [(3, { ctrl := 1, qid := 1, panel := 0, nqn := [], waits := [] }), (4, { ctrl := 1, qid := 0, panel := 0, nqn := [], waits := [] })] }
    panels := { up.panels with slm := [(0, (dramBase, 0x100000))] }
    trust := { up.trust with keySlots := [(0, zeros 64), (1, zeros 64)] } } [(P.nfc 0, R.nfc_CE_PRESENT, 0, 3), (P.recl, R.recl_RESERVE_ROWS, 0, 8)]
/-- Headers: of the admin queue, of an I/O queue, of the I/O and the admin connection. -/
def hAdm : Hdr := { src := .pcie, q := 0, cid := 7, nsid := 1, rsvd := 0 }
def hIo : Hdr := { src := .pcie, q := 1, cid := 7, nsid := 1, rsvd := 0 }
def hTcp : Hdr := { src := .tcp 3, q := 1, cid := 7, nsid := 1, rsvd := 0 }
def hTcpA : Hdr := { src := .tcp 4, q := 0, cid := 7, nsid := 1, rsvd := 0 }
/-- Whether the fetch of a command succeeds. -/
def fch (s : State) (h : Hdr) (p : Nat) : Bool :=
  decide (s.fetchPanel h = some p) && decide (s.power.seq = .run) && s.upState && !s.seam.pfailHold && !s.panels.closed.contains p &&
    s.cmdRoom p && !Tbl.has s.nvme.cmds (cmdKey h)
/-- What `fch` says. -/
theorem fch_sound {s : State} {h : Hdr} {p : Nat} (e : fch s h p = true) : Fetches s h p := by
  unfold fch at e
  simp only [Bool.and_eq_true, decide_eq_true_eq, Bool.not_eq_true'] at e
  obtain ⟨⟨⟨⟨⟨⟨h1, h2⟩, h3⟩, h4⟩, h5⟩, h6⟩, h7⟩ := e
  exact ⟨h1, h2, h3, h4, h5, h6, h7⟩
/-- The queues' states: enabled or not, a doorbell in and out of range, an entry freed with one held back, an item held for want of room (R348,
R352, R354). -/
theorem witness_NvmeControl :
    (let s : State := { nv with nvme := { nv.nvme with ccEn := false } }
     s.power.seq = .run ∧ s.hostUp = true ∧ s.nvme.ccEn = false ∧ s.dev ≠ Dev.ward) ∧
    nv.hostUp = true ∧ nv.nvme.ccEn = true ∧ Tbl.at? nv.nvme.sqs 1 = some ⟨64, 1, 0, 0, 1⟩ ∧ nv.nvme.aers = [] ∧
    Tbl.at? nv.nvme.cqs 1 = some ⟨64, 1, 0, 0⟩ ∧ nv.nvme.cqHeld = [] ∧ (63 + 1) % 64 ≠ 1 ∧
    (let s : State := { nv with nvme := { nv.nvme with cqs := [(1, ⟨64, 1, 0, 63⟩)], cqHeld := [(1, .nvmeCqe 1 7 0 0 0)] } }
     Tbl.at? s.nvme.cqs 1 = some ⟨64, 1, 0, 63⟩ ∧ s.nvme.cqHeld = [(1, .nvmeCqe 1 7 0 0 0)]) ∧
    nv.spool.heldCmds = [] ∧
    (let s := nv.addCmd { hIo with cid := 9 } .spool 0 (.segs []) 0 0 none
     let k := cmdKey { hIo with cid := 9 }
     ((Tbl.at? s.nvme.cmds k).map fun c => s.splRoom (c.toItem k)) = some true) ∧
    fch nv hIo 0 = true ∧ nv.onAdmin hIo = false ∧ fch nv hAdm 0 = true ∧ nv.onAdmin hAdm = true ∧ fch nv hTcp 0 = true ∧ nv.onAdmin hTcp = false ∧
    fch nv hTcpA 0 = true ∧ nv.onAdmin hTcpA = true ∧ Tbl.has nv.net.conns 3 = true ∧
    Tbl.at? nv.nvme.cqs (nv.cqOf 1) = some ⟨64, 1, 0, 0⟩ ∧ (⟨64, 1, 0, 0⟩ : Cq).room = true := by decide +kernel
/-- No room for one more command: the limit of outstanding commands is met. -/
theorem witness_NvmeControl_full (l : Tbl Cmd) (h : l.length = 131072) :
    ({ nv with nvme := { nv.nvme with cmds := l } } : State).cmdRoom 0 = false := by
  simp [State.cmdRoom, h]
/-- Whether a command's namespace is reached. -/
def ons (s : State) (h : Hdr) (p : Nat) (n : Ns) : Bool := decide (Tbl.at? s.nvme.ns (hdrNs h) = some n) && h.nsid != 0 && s.panelOf n.panel == p
/-- What `ons` says. -/
theorem ons_sound {s : State} {h : Hdr} {p : Nat} {n : Ns} (e : ons s h p n = true) : OnNs s h p n := by
  unfold ons at e
  simp only [Bool.and_eq_true, decide_eq_true_eq, bne_iff_ne, beq_iff_eq] at e
  exact ⟨e.1.1, e.1.2, e.2⟩
/-- The first namespace with its key slot locked; with a Hem region over its first units; in Read-only. -/
def nvLocked : State := { nv with trust := { nv.trust with keySlots := [] } }
def regionT : HemRegion :=
  { ns := 0, first := 0, count := 2, seq := 1, nextIdx := 1, tail := zeros 32, openData := [], openIdx := none, appends := [], passedTo := 0,
    passed := [], migWm := 0, sealedAt := [], migrating := false, migStop := false, freedTo := 0 }
def nvHem : State := { nv with seam := { nv.seam with hem := [(0, regionT)] } }
def nvRo : State := with_ nv [(P.recl, R.recl_READONLY, 0, 1)]
/-- Ranges that end at the namespace's end and beyond it, the key slot locked and open, over a Hem region and beside it, in Read-only, never
written (R14, R85, R86, R98, R350, R353). -/
theorem witness_NvmeData :
    fch nv hIo 0 = true ∧ nv.onAdmin hIo = false ∧ ons nv hIo 0 ⟨2048, 1, 0, none⟩ = true ∧
    fch nv hTcp 0 = true ∧ nv.onAdmin hTcp = false ∧ ons nv hTcp 0 ⟨2048, 1, 0, none⟩ = true ∧
    1 * (⟨2048, 1, 0, none⟩ : Ns).lbaBytes ≤ mdts ∧ dpFar (.segs [(0, 2 ^ 47)]) = false ∧ 2048 < 2048 + 1 ∧ 2047 + 1 ≤ 2048 ∧
    fch nvLocked hIo 0 = true ∧ nvLocked.keyOpen 0 = false ∧ nv.keyOpen 0 = true ∧ nv.profileOf ⟨2048, 1, 0, none⟩ = none ∧
    fch nvHem hIo 0 = true ∧ nvHem.hemTouched 0 0 4096 = true ∧ nv.hemTouched 0 0 4096 = false ∧ nvHem.hemTouched 0 (2 * unitBytes) 4096 = false ∧
    fch nvRo hIo 0 = true ∧ nvRo.rd P.recl R.recl_READONLY ≠ 0 ∧ nv.rd P.recl R.recl_READONLY = 0 ∧ nv.mode M.legacy = false ∧
    0 * 4096 / unitBytes = (0 * 4096 + 1 * 4096 - 1) / unitBytes ∧ eUnmapped (nv.entry 0 0) = true ∧ nv.onDisk 0 0 = none ∧
    (nv.slmOf 0).2 = 0x100000 ∧ 0xFF000 + 1 * 4096 ≤ (nv.slmOf 0).2 ∧ (nv.slmOf 0).2 < 0xFF001 + 1 * 4096 ∧ nv.touchesImage 0 0 4096 = false ∧
    ({ nv with nvme := { nv.nvme with progs := [(5, { panel := 0, addr := dramBase, len := 0x20, entry := 0 })] } } : State).touchesImage 0 0 4096
      = true ∧ nv.poison dramBase 4096 = none := by decide +kernel
/-- A mode clear and set; ranges of units inside and outside; addresses at 2^47; a program of the panel; local memory's end (R358 to R363). -/
theorem witness_NvmeVendor :
    fch nv { hIo with rsvd := 1 } 0 = true ∧ hIo.rsvd = 0 ∧ nv.mode M.hem = false ∧ nv.mode M.unpick = false ∧
    (let s := with_ nv [(P.mode, R.mode_MODE_EN, 0, 0xFFF)]
     fch s hIo 0 = true ∧ s.mode M.hem = true ∧ s.mode M.unpick = true ∧ ons s hIo 0 ⟨2048, 1, 0, none⟩ = true) ∧
    (⟨2048, 1, 0, none⟩ : Ns).hasUnits 0 (2048 * 4096 / unitBytes) = true ∧
    (⟨2048, 1, 0, none⟩ : Ns).hasUnits 0 (2048 * 4096 / unitBytes + 1) = false ∧
    (let r := (nv.count P.nvm 0x048).hostRead 0 (2 ^ 47 - 64) 64
     leAt r.1 4 6 + leAt r.1 16 4 ≤ 2 ^ 47 ∧ leAt r.1 10 6 + leAt r.1 20 4 ≤ 2 ^ 47 ∧ leAt r.1 24 6 + 1 ≤ 2 ^ 47) ∧
    (let s : State := { nv with nvme := { nv.nvme with progs := [(5, { panel := 0, addr := dramBase, len := 0x20, entry := 0 })] } }
     fch s hIo 0 = true ∧ (Tbl.at? s.nvme.progs 5).map (·.panel) = some 0 ∧ s.touchesImage 0 0x10 8 = true) ∧
    leAt (zeros 32) 28 1 < 16 ∧ leAt (zeros 32) 30 2 < 4096 ∧ (zeros 32).length = 32 ∧
    (nv.slmOf 0).2 = 0x100000 ∧ nv.poison dramBase 0x100000 = none ∧ nv.touchesImage 0 0xFFFFF 1 = false := by decide +kernel
/-- Every admin command's conditions (R353 to R360, R365 to R367, R378 to R380, R474). -/
theorem witness_NvmeAdmin :
    fch nv hAdm 0 = true ∧ nv.onAdmin hAdm = true ∧ fch nv hTcpA 0 = true ∧ nv.onAdmin hTcpA = true ∧
    ((nv.fetched hAdm).identifyData true 0 1 0).isSome = true ∧ ((nv.fetched hAdm).logPage 0xC1).isSome = true ∧
    (nv.fetched hAdm).logPage 0x77 = none ∧ nv.nvme.cmds = [] ∧ nv.nvme.events = [] ∧ (2 ^ 20 : Nat) + 16 ≤ slotSize ∧
    ons nv hAdm (nv.panelOf 0) ⟨2048, 1, 0, none⟩ = true ∧ nv.holdsHem 0 = false ∧ nvHem.holdsHem 0 = true ∧ fch nvHem hAdm 0 = true ∧
    Tbl.freeKey nv.nvme.ns 1024 0 = 2 ∧ nv.exported + 1 * 4096 ≤ nv.capOffer ∧ Tbl.has nv.nvme.ns (hdrNs hAdm) = true ∧
    nv.panelActive 0 = true ∧ nv.panelOf 0 = 0 ∧ Tbl.has nv.nvme.cqs 512 = false ∧ Tbl.has nv.nvme.sqs 512 = false ∧ nv.mode M.panel = false ∧
    Tbl.has nv.nvme.cqs 1 = true ∧ (nv.nvme.sqs.filter fun e => e.1 ≠ 0 ∧ e.2.panel = 0).length < 512 ∧
    Tbl.has (nv.fetched hAdm).nvme.sqs 1 = true ∧ Tbl.has nv.nvme.cqs 2 = true ∧ ((nv.fetched hAdm).nvme.sqs.all fun e => e.2.cq != 2) = true ∧
    hAdm.rsvd = 0 ∧ 0 + 0x100000 ≤ (nv.slmOf 0).2 ∧
    (let b : List Byte := [4, 0, 0, 0] ++ zeros 20
     Tbl.has nv.nvme.progs 255 = false ∧ 16 ≤ b.length ∧ zeroAt b 4 12 = true ∧ 16 + leAt b 0 4 < b.length ∧ (nv.imagePlace 0 b.length).isSome = true) ∧
    (let s : State := { nv with nvme := { nv.nvme with progs := [(5, { panel := 0, addr := dramBase, len := 0x20, entry := 0 })] } }
     fch s hAdm 0 = true ∧ (Tbl.at? s.nvme.progs 5).map (·.panel) = some 0) := by decide +kernel
/-! ### Seam and the media -/

/-- The device with channel 0 trained, a deep decoder enabled, two tracked read levels in the profile. -/
def sm : State :=
  with_ { nv with trust := { nv.trust with pattern := nv.trust.pattern.set 0x840 2 } }
    [(P.nfc 0, R.common_EN, 0, 1), (P.nfc 0, R.nfc_TRAINED_MTS, 0, 1200), (P.nfc 0, R.nfc_RR_HARD, 0, 2), (P.ldd 7, R.common_EN, 0, 1)]
/-- A unit on its way to the media. -/
def unitT (u : WriteFor) (passed : Bool) : UnitWrite :=
  { seq := 5, ns := 0, unit := 3, fine := none, kind := 0, panel := 0, cmp := false, data := zeros 8, use := u, locs := [17], passed := passed,
    applied := false, hemReg := 0, hemIdx := 0 }
/-- The device with that unit in flight, for command `key` where it is a host's. -/
def flightS (u : UnitWrite) : State :=
  { sm.addCmd hIo .write 0 (.segs []) 0 4096 none with seam := { sm.seam with flight := [u] } }.updCmd (cmdKey hIo) fun c => { c with left := 1 }
/-- A fine group of unit 3, and the device that holds it. -/
def groupT (written : Bool) : FineGroup :=
  { entries := List.replicate 16 0, ns := 0, unit := 3, promoted := 0, copying := true, written := written }
def groupS (written : Bool) (heat : Nat) : State :=
  { sm with seam := { sm.seam with fine := [(9, groupT written)], flight := [unitT (.demote 9) true]
                                   map := [(mapKey 0 3, { entry := 0, heat := heat })] } }
/-- A relocation copy that has passed. -/
def copyT (src : Nat) : Copy :=
  { id := 4, ns := 0, unit := 3, fine := none, src := src, from_ := [1], seq := 5, srcRow := 0, locs := [17], passed := true }
/-- A unit passed and not passed, of the system and of a host; heat above and at 0; a group written and not written; an entry that still names
its source and one that does not (R38, R42, R44, R45, R76). -/
theorem witness_SeamMap :
    (flightS (unitT .system true)).seam.flight = [unitT .system true] ∧ (flightS (unitT .system true)).seam.held = [] ∧
    eUnmapped ((flightS (unitT .system true)).entry 0 3) = true ∧
    ((Tbl.at? (flightS (unitT (.host (cmdKey hIo)) true)).nvme.cmds (cmdKey hIo)).map (·.left)) = some 1 ∧
    (unitT .system false).passed = false ∧ sm.upState = true ∧ (sm.seam.map.map (·.1)).Nodup ∧
    (groupS false 0).group? 9 = some (groupT false) ∧ ((groupS false 0).mapWord 0 3).heat = 0 ∧ 0 < ((groupS false 1).mapWord 0 3).heat ∧
    ((groupS true 0).seam.flight.find? fun u => u.use = .demote 9 ∧ u.passed) = some (unitT (.demote 9) true) ∧ (groupT true).written = true ∧
    (let s : State := { groupS false 0 with seam := { (groupS false 0).seam with copies := [copyT 0, { copyT 7 with id := 6 }] } }
     (s.seam.copies.find? fun y => y.id = 4 ∧ y.passed) = some (copyT 0) ∧ s.entry 0 3 = 0 ∧ eUnmapped 0 = false ∧
     (s.seam.copies.find? fun y => y.id = 6 ∧ y.passed) = some { copyT 7 with id := 6 } ∧ s.entry 0 3 ≠ 7) := by decide +kernel

/-- A checkpoint in progress with a root of an even or odd number. -/
def ckptT (n : Nat) (due : Bool) : CkptRun :=
  { root := { seqCut := 3, number := n, map := [], fine := [], ranges := [], ptrs := [], lists := [], unpicks := [], hem := [], archive := [] }
    due := due, unpicks := [] }
def ckptS (n : Nat) (due : Bool) : State := { sm with seam := { sm.seam with ckpt := some (ckptT n due) } }
/-- No checkpoint, one in progress with another due and without; PFAIL_N low in each mode and state; a flush that runs and none (R52 to R66). -/
theorem witness_CheckpointAndPfail :
    sm.upState = true ∧ sm.seam.pfailHold = false ∧ sm.seam.ckpt = none ∧ (ckptS 2 false).seam.ckpt = some (ckptT 2 false) ∧
    (ckptS 3 true).seam.ckpt = some (ckptT 3 true) ∧ (ckptS 3 false).power.seq = .run ∧ (ckptT 2 false).due = false ∧ sm.seam.unpicks = [] ∧
    sm.powered = true ∧ sm.seam.pfailLow = false ∧
    (let s : State := { sm with seam := { sm.seam with pfailLow := true } }
     s.seam.pfailLow = true ∧ s.upState = true ∧ s.mode M.compat = false ∧ (s.setDev Dev.slumber).dev = Dev.slumber ∧ (s.setDev Dev.vault).dev = Dev.vault ∧ (with_ s [(P.mode, R.mode_MODE_EN, 0, 0xFFF)]).mode M.compat = true) ∧
    ({ sm.seam with flushing := true } : Seam).flushing = true ∧ sm.seam.flushing = false := by decide +kernel

/-- A read job of one slot at place 17 in a state of the ladder. -/
def jobT (st : SlotSt) (step retry : Nat) (issued : Bool) : ReadJob :=
  { id := 1, use := .host (cmdKey hIo) 0 0 4096, ns := 0, unit := 0, cmp := false, slots := [{ idx := 0, loc := 17, st := st, step := step }]
    issued := issued, retry := retry, cls := 0, decode := 0, pnk := 0 }
def jobS (st : SlotSt) (step retry : Nat) (issued : Bool) : State := { sm with seam := { sm.seam with reads := [jobT st step retry issued] } }
/-- An operation that has started. -/
def opT (k : NandOpKind) : NandOp :=
  { id := 2, ch := 0, row := 0, kind := k, slots := [17], cls := 2, started := true, suspends := 0, suspended := false }
/-- Each step of the ladder with retries on and off; each kind of operation; a read that waits for its buffer and one that does not; a channel
enabled with and without DRAIN (R11, R79 to R81, R116 to R124). -/
theorem witness_NandMedia :
    (let s := jobS .sensing 1 0 true
     (s.job? 1).map (·.slots) = some [{ idx := 0, loc := 17, st := .sensing, step := 1 }] ∧ s.lunHeld (rowLunKey (locRow 17)) = false) ∧
    sm.retries (locCh 17) ≠ 0 ∧ (with_ sm [(P.nfc 0, R.nfc_RR_HARD, 0, 0)]).retries (locCh 17) = 0 ∧
    ((jobS .retry 2 0 true).job? 1).map (·.slots) = some [{ idx := 0, loc := 17, st := .retry, step := 2 }] ∧
    sm.retries (locCh 17) ≤ sm.retries (locCh 17) - 1 + 1 ∧
    (leastBy (fun d => ((jobS .softWait 3 0 true).lddQueue d).length)
      ((jobS .softWait 3 0 true).ldds.filter fun d => ((jobS .softWait 3 0 true).lddQueue d).length < 16)).isSome = true ∧
    (let s : State := { jobS (.softJob 0) 3 0 true with nand := { sm.nand with soft := [(0, [⟨0, 1, 0, 2⟩])] } }
     s.lddQueue 0 = [⟨0, 1, 0, 2⟩] ∧ (s.job? 1).isSome = true) ∧
    (jobS .sensing 1 0 false).stgFor (.job 1) = none ∧ (jobS .sensing 1 0 false).onDisk 0 0 = none ∧
    ({ jobS .sensing 1 0 false with stg := { sm.stg with bufs := [(40, ⟨.media, 0, .job 1⟩)] } } : State).stgFor (.job 1) ≠ none ∧
    (let s : State := { sm with nand := { sm.nand with ops := [opT (.programUnits [5])] } }
     s.op? 2 = some (opT (.programUnits [5]))) ∧
    (let s : State := { sm with nand := { sm.nand with ops := [opT .erase] } }
     s.op? 2 = some (opT .erase)) ∧
    sm.chanPresent 0 = true ∧ sm.pageUp (P.nfc 0) = true ∧ sm.rd (P.nfc 0) R.common_ERR_CODE = 0 ∧ rch sm .thimble (P.nfc 0) = true ∧
    sm.en (P.nfc 0) = true ∧ 0 < nChannels sm.part ∧ sm.rd (P.nfc 0) R.common_DRAIN = 0 ∧
    (with_ sm [(P.nfc 0, R.common_DRAIN, 0, 1)]).rd (P.nfc 0) R.common_DRAIN ≠ 0 := by decide +kernel
/-! ### Hem, Selvedge, servo -/

/-- A read of fabric memory that meets no bad word hands its bytes on. -/
theorem read_ok (s : State) (p a n : Nat) (h : a < hostBase) (e : s.poison a n = none) : ∀ f, s.busRead p a n f = f (memRead s.mem a n) s := by
  intro f
  unfold State.busRead State.blockRead
  rw [if_neg (by omega), e]
/-- A region of two units of which one is sealed at time 0 and passed, with bytes open or not. -/
def regionM (open_ : List Byte) : HemRegion := { regionT with passedTo := 1, sealedAt := [(0, 0)], openData := open_ }
/-- The device in ARCH with that region, the disk at speed. -/
def hm (open_ : List Byte) : State :=
  with_ { sm with seam := { sm.seam with hem := [(0, regionM open_)] } }
    [(P.mode, R.mode_MODE_EN, 0, 0xFFF), (P.hem, R.common_EN, 0, 1), (P.slv, R.common_EN, 0, 1), (P.svo, R.common_EN, 0, 1), (P.trl, R.common_EN, 0, 1)]
/-- The unit of the region on its way from flash to disk. -/
def migT : Mig := ⟨7, 0, 0, .hem 0 0, [], 0, 0, 0, 0⟩
def hmMig : State :=
  { hm [] with seam := { (hm []).seam with migs := [migT], flight := [{ unitT (.hem 0 0) true with data := [1, 2] }] }
               stg := { (hm []).stg with bufs := [(40, ⟨.media, 0, .job 7⟩)] } }
/-- The check asked for and in progress, an open unit empty and not, a unit old enough to migrate, one that must not, a unit read back, the disk not
ready, a release by the host (R94 to R102, R483). -/
theorem witness_HemChain :
    rch (hm []) .host P.hem = true ∧ (hm []).rd P.hem R.hem_VFY_REGION % 4096 = 0 ∧ (hm []).seam.vfy = none ∧ (hm []).en P.hem = true ∧
    Tbl.at? (hm []).seam.hem 0 = some (regionM []) ∧ Tbl.at? (hm [1]).seam.hem 0 = some (regionM [1]) ∧
    ({ (hm []).seam with vfy := some 0 } : Seam).vfy = some 0 ∧
    (hm []).hemWalk 0 (regionM []) 0 0 (zeros 32) = none ∧ hmMig.hemBytes 0 (regionM []) 0 = some [1, 2] ∧
    (hm []).seamRuns = true ∧ (hm []).seam.pfailHold = false ∧ (hm []).mode M.arch = true ∧
    (regionM []).migrating = false ∧ (regionM []).canMigrate = true ∧
    ({ hm [] with rtcUs := 10 ^ 15 } : State).hemAged (regionM []) = true ∧ regionT.canMigrate = false ∧
    hmMig.seam.migs = [migT] ∧ migT.phase = 0 ∧ migT.bytes = [] ∧ migT.unit - (regionM []).first = 0 ∧ migT.use = .hem 0 0 ∧
    hmMig.stgFor (.job 7) = some 40 ∧ hmMig.slvReady = false ∧
    rch (hm []) .host P.thm = true ∧ (hm []).rd P.thm R.thm_MB_BUSY = 0 ∧ (hm []).serial.queue = [] ∧ (hm []).serialBusy = false ∧
    (hm []).rd P.thm R.thm_MB_ARG0 = 0 := by decide +kernel

/-- A request of the ring or of the HEM queue, and the request in progress at its first sector. -/
def reqT (hem : Bool) (op sector : Nat) : SlvReq :=
  { fromHem := hem, idx := 3, op := op, head := 0, retry := 0, track := 5, sector := sector, count := 2, ns := 0, kind := 1, lba := 0, slot := 0
    region := 0, hemIdx := 0, buf := dramBase, bad := false }
def runT (hem : Bool) (op : Nat) (seeking : Bool) (tried : Nat) (cands : List (Int × Nat)) : SlvRun :=
  { req := reqT hem op 1024, at_ := 0, aborted := false, paFault := false, seeking := seeking, cands := cands, tried := tried }
/-- The device in ARCH with requests 3 and 4 in the ring and a request in progress. -/
def sl (r : Option SlvRun) (l : List (Nat × Fld × Nat × Nat)) : State :=
  with_ { hm [] with selv := { (hm []).selv with run := r, disk := [(diskPlace 0 5 1024, ⟨0, true⟩)] } }
    ([(P.slv, R.slv_RING_LEN, 0, 8), (P.slv, R.slv_RING_HEAD, 0, 3), (P.slv, R.slv_RING_TAIL, 0, 5)] ++ l)
/-- With a preamplifier frame in progress, sent or not, and frames that wait. -/
def slPa (r : Option SlvRun) (sent : Bool) (q : List Nat) : State :=
  { sl r [(P.svo, R.svo_WR_INHIBIT, 0, 0)] with selv := { (sl r []).selv with paFrame := some 0x8123, paSent := sent, paQ := q } }
/-- The HEM queue holding a request, the last one taken from it or not. -/
def slHem (last : Bool) : State := { sl none [] with selv := { (sl none []).selv with hemQ := [reqT true 1 4], lastHem := last } }
/-- A whole sector at a place beyond those that a tag can name reads as a mismatch. -/
theorem fetch_inr (w : State) (q : SlvReq) (i b : Nat) (h : Tbl.at? w.selv.disk (diskPlace q.head q.track (q.sector + i)) = some ⟨b, true⟩)
    (hq : 1024 ≤ q.sector + i) : w.slvFetch q i = some (.inr 4) := by
  unfold State.slvFetch
  rw [h]
  simp only [if_true, State.slvCheck]
  rw [if_pos]
  refine Or.inr (Or.inr (Or.inl ?_))
  have := Nat.mod_lt (leAt (sliceOf (slvInfo q.track (q.sector + i) b) 4096 32) 16 2) (show 0 < 1024 by decide)
  omega
/-- The preamplifier port in each state, ARC_FLT_N with a read, a write and nothing in progress, both queues holding and not holding requests, each
step of a decode, a write, the end of a request, aborts of each kind, the ring given back, a zone in and out of range (R130 to R161). -/
theorem witness_Selvedge :
    rch (sl none []) .host P.slv = true ∧ rch (sl none []) .thimble P.slv = true ∧ (sl none []).rd P.slv R.slv_PA_BUSY = 0 ∧
    (sl none []).selv.paFrame = none ∧ (sl none [(P.slv, R.slv_PA_BUSY, 0, 1)]).rd P.slv R.slv_PA_BUSY ≠ 0 ∧
    (slPa none true []).selv.paFrame = some 0x8123 ∧ (slPa none true []).selv.paSent = true ∧ (slPa none true []).selv.paQ = [] ∧
    (slPa none true []).selv.run = none ∧
    ((slPa (some (runT false 2 false 0 [])) true []).selv.run.map fun r => (r.seeking, r.req.op)) = some (false, 2) ∧
    (slPa (some (runT false 2 false 0 [])) true []).rd P.svo R.svo_WR_INHIBIT = 0 ∧
    (slPa none true [9]).selv.paQ = [9] ∧ (slPa none true [9]).rd P.slv R.slv_WG_STATE = 0 ∧
    (sl none []).pagesAwake = true ∧ (sl none []).pageUp P.slv = true ∧ (sl none []).dev ≠ Dev.ward ∧ (sl none []).dev ≠ Dev.fill ∧
    (slHem false).migKick.selv.hemQ = [reqT true 1 4] ∧ ((slHem false).migKick.ringHas && (slHem false).migKick.selv.lastHem) = false ∧
    (slHem true).migKick.ringHas = true ∧ (slHem true).migKick.selv.lastHem = true ∧
    (hm []).selv.run = none ∧ (hm []).migKick.ringHas = false ∧ (hm []).migKick.selv.hemQ = [] ∧ (reqT false 1 4).fromHem = false ∧
    ((sl (some (runT false 1 false 0 [])) []).selv.run.map fun r => (r.seeking, r.req.op)) = some (false, 1) ∧
    (let s := sl (some (runT false 1 false 0 [])) []
     (s.slvCands 0 [])[0]? = none ∧ (s.slvCands 0 [(0, 48), (1, 47)])[0]? = some (0, 48) ∧ (s.slvCands 0 [(0, 48), (1, 47)]).length = 2) ∧
    (runT false 1 false 1 [(0, 48), (1, 47)]).cands[1]? = some (1, 47) ∧ (runT false 1 false 1 [(0, 48), (1, 47)]).cands.length ≤ 1 + 1 ∧
    (let s := sl (some (runT false 1 false 0 [])) []
     let v := (s.drawFree 1).2.wr P.slv R.slv_TL_LOCK (s.drawFree 1).1
     let w := ((v.wr P.slv R.slv_LAST_SCORE 48).wr P.slv R.slv_LAST_OFFSET (ofSigned 6 0)).wr P.slv R.slv_LAST_CAND 1
     Tbl.at? w.selv.disk (diskPlace 0 5 1024) = some ⟨0, true⟩) ∧
    (sl (some (runT false 2 false 0 [])) [(P.slv, R.slv_WG_STATE, 0, 1)]).on P.slv R.slv_WG_STATE = true ∧
    (sl none []).poison dramBase 4096 = none ∧
    (runT false 1 false 0 []).at_ + 1 ≠ (runT false 1 false 0 []).req.count ∧ ({ runT false 1 false 0 [] with at_ := 1 } : SlvRun).at_ + 1 = 2 ∧
    (sl none []).inRing 3 = true ∧ (sl none []).inRing 6 = false ∧ (sl none []).selv.hemQ = [] ∧ (sl none []).selv.aborts = [] ∧
    (sl none []).en P.slv = true ∧ (sl none []).rd P.slv R.common_DRAIN = 0 ∧ (sl none []).rd P.slv R.slv_RING_TAIL < 1024 ∧
    (sl none [(P.slv, R.common_DRAIN, 0, 1)]).rd P.slv R.common_DRAIN ≠ 0 ∧
    1 ≤ (sl none []).sptMax 4000 ∧ (sl none []).sptMax 4000 < 1023 := by decide +kernel
/-- A sector that a decode gives, of the request in progress: R142's mismatch. -/
theorem witness_Selvedge_fetch (w : State) (h : Tbl.at? w.selv.disk (diskPlace 0 5 1024) = some ⟨0, true⟩) :
    w.slvFetch (runT false 1 false 0 []).req (runT false 1 false 0 []).at_ = some (.inr 4) :=
  fetch_inr w (runT false 1 false 0 []).req 0 0 h (by decide)
/-- The bytes of a sector to write are read from fabric memory. -/
theorem witness_Selvedge_read : ∀ f, (sl none []).busRead 0 ((reqT false 2 0).buf + 4096 * 0) 4096 f = f (memRead (sl none []).mem dramBase 4096) (sl none []) :=
  read_ok _ _ _ _ (by decide +kernel) (by decide +kernel)

/-- The servo in step with its wedges. -/
def sv (v : Servo → Servo) (l : List (Nat × Fld × Nat × Nat)) : State :=
  with_ { hm [] with servo := v { (hm []).servo with synced := true } } l
/-- A Treadle frame answered well: status 0, the right CRC. -/
def goodT : Nat := 0x1000 * 65536 + crc8 (0x1000 * 256)
/-- Wedges found and missed, the eighth in a row, the block off, write inhibit with and without a write, the sixteenth revolution in range and one
out of range, seeks, the spindle, a shock, and responses good and bad (R158, R168 to R185). -/
theorem witness_Servo :
    (sv id []).svoUp = true ∧ (sv id []).servo.synced = true ∧ nv.svoUp = false ∧
    (sv (fun v => { v with missed := 7 }) []).servo.missed = 7 ∧ (sv id []).rd P.svo R.svo_SERVO_LOST = 0 ∧ (sv id []).servo.missed < 7 ∧
    (sl none []).rd P.slv R.slv_WG_STATE = 0 ∧ (sl (some (runT false 2 false 0 [])) [(P.slv, R.slv_WG_STATE, 0, 1)]).rd P.slv R.slv_WG_STATE ≠ 0 ∧
    (let s := sv (fun v => { v with inRange := 15 }) []
     let c := 12000000000 / s.rd P.svo R.svo_RPM
     s.servo.inRange = 15 ∧ ((c * s.rd P.svo R.svo_RPM : Int) - 12000000000).natAbs * 1000 ≤ 12000000000 ∧ 12000000000 < ((2 * c * s.rd P.svo R.svo_RPM : Int) - 12000000000).natAbs * 1000) ∧
    rch (sv id []) .host P.svo = true ∧ rch (sv id []) .host P.trl = true ∧ (sv id []).en P.svo = true ∧
    (sl none []).ringHas = true ∧ (sv id []).selv.run = none ∧ (sv id []).ringHas = false ∧ (sv id []).selv.hemQ = [] ∧
    (sv id []).servo.seek = none ∧ (sv (fun v => { v with seek := some ⟨5, 0, true, false⟩ }) []).servo.seek = some ⟨5, 0, true, false⟩ ∧
    (sv id []).trlUp = true ∧ (sv id []).trd.sw = none ∧ (sv (fun v => { v with vcmOff := false }) []).servo.vcmOff = false ∧
    (sv id [(P.svo, R.svo_SPN_AT_SPEED, 0, 1)]).rd P.svo R.svo_SPN_AT_SPEED ≠ 0 ∧ (sv id []).rd P.svo R.svo_SPN_AT_SPEED = 0 ∧
    (sv (fun v => { v with spinMode := 1 }) []).servo.spinMode = 1 ∧ (sv id []).pagesAwake = true ∧ (sv id []).pageUp P.svo = true ∧
    (let s : State := { sv id [] with trd := { (sv id []).trd with last := [0x13000000] } }
     s.trd.last = [0x13000000]) ∧
    crc8 (goodT / 256 % 2 ^ 24) = goodT % 256 ∧ crc8 ((goodT + 1) / 256 % 2 ^ 24) ≠ (goodT + 1) % 256 ∧
    (sv id []).trd.fails < 2 ∧ ({ (sv id []).trd with fails := 2 } : Treadle).fails = 2 ∧
    (sv id []).rd P.trl R.trl_LINK_FAULT = 0 ∧ bitsAt goodT 19 4 = 0 ∧ goodT.testBit 23 = false ∧ (sv id []).servo.attn = false ∧
    (sv id []).rd P.trl R.trl_SW_BUSY = 0 ∧ (sv id [(P.trl, R.trl_SW_BUSY, 0, 1)]).rd P.trl R.trl_SW_BUSY ≠ 0 := by decide +kernel
/-! ### Pinking, Pleat, Gauge -/

/-- A filter program: one term, EQ with 0, on the unsigned byte at offset 0 of records of 16 bytes. -/
def pgT : List Byte := [1, 1, 0, 0, 16, 0] ++ zeros 58 ++ [0, 0x10, 0x10]
/-- A load of unit 24 in progress, a stream and a unit of it queued at Pinking unit 24, failed or not. -/
def loadT : PnkLoad := ⟨2, dramBase, 0, none⟩
def streamT (strm : Bool) : Stream :=
  { id := 1, item := 0, panel := 0, ns := 0, first := 0, count := 1, slot := 0, strm := strm, firstOff := 0, report := 0, unit := 24, done := []
    failed := 0, aborted := false, out := none, full := false, carry := none, nextOff := 0, pendRep := none }
def pnkT (failed : Bool) : PnkUnit := { stream := 1, seq := 0, data := zeros 32, failed := failed, disabled := false, fallback := false }
def pk (streams : List Stream) (q : List PnkUnit) (l : List (Nat × Fld × Nat × Nat)) : State :=
  with_ { hm [] with seam := { (hm []).seam with streams := streams }, pink := { (hm []).pink with queue := [(24, q)] } } ([(P.pnk 24, R.common_EN, 0, 1)] ++ l)
/-- A load asked for with none and one in progress, a load done, a program that passes, a unit of no stream, of one, and failed, CTRL.EN (R191 to R211). -/
theorem witness_Pinking :
    (pk [] [] []).pnkPresent 24 = true ∧ rch (pk [] [] []) .host (P.pnk 24) = true ∧ (pk [] [] []).rd (P.pnk 24) R.pnk_LOAD_BUSY = 0 ∧
    Tbl.has (pk [] [] []).pink.load 24 = false ∧ (pk [] [] [(P.pnk 24, R.pnk_LOAD_BUSY, 0, 1)]).rd (P.pnk 24) R.pnk_LOAD_BUSY ≠ 0 ∧
    (let s : State := { pk [] [] [] with pink := { (pk [] [] []).pink with load := [(24, loadT)] } }
     Tbl.at? s.pink.load 24 = some loadT ∧ loadT.item = none ∧ s.pink.loadWait = [] ∧ s.poison dramBase 9216 = none) ∧
    (pk [] [] []).mode M.pink = true ∧ (up.mode M.pink) = false ∧ (pk [] [] []).slotBusy 0 = false ∧ (pk [streamT true] [] []).slotBusy 0 = true ∧
    loadCheck pgT = 0 ∧ pgNagg pgT = 0 ∧ pgNterms pgT = 1 ∧ (termVal (pgTerm pgT 0) (zeros 16)).isSome = true ∧
    (pk [] [pnkT false] []).pnkQueue 24 = [pnkT false] ∧ (pk [] [pnkT false] []).stream? 1 = none ∧
    (pk [streamT false] [pnkT false] []).stream? 1 = some (streamT false) ∧ (pnkT false).failed = false ∧ (pnkT true).failed = true ∧
    (pk [streamT true] [pnkT true] []).stream? 1 = some (streamT true) ∧ (pk [] [] []).pnkQueue 24 = [] ∧
    (pk [] [] []).en (P.pnk 24) = true := by decide +kernel

/-- A held unit for Pleat, a read whose block waits for an engine, engine 2 on with a queue of n jobs. -/
def heldT : HeldUnit := { id := 9, ns := 0, unit := 3, panel := 0, new := [], use := .system, whole := some (zeros 8), fine := false, phase := 1 }
def jobPlt (n : Nat) : List PleatJob := List.replicate n ⟨.go, dramBase, 0, false, [], 0⟩
def pl (n : Nat) (l : List (Nat × Fld × Nat × Nat)) : State :=
  with_ { hm [] with
    seam := { (hm []).seam with held := [heldT], reads := [{ jobT .done 0 0 true with decode := 1 }, { jobT .done 0 0 true with id := 2 }] }
    pleat := { (hm []).pleat with queue := [(2, jobPlt n)] } } l
def plOn : List (Nat × Fld × Nat × Nat) := [(P.plt 2, R.common_EN, 0, 1), (P.plt 2, R.plt_INLINE_EN, 0, 1)]
/-- An engine on and off with room and without, all its lanes taken, a unit held and none, a decode wanted and not, a job that completes (R213 to R235). -/
theorem witness_Pleat :
    (pl 0 plOn).pltPresent 2 = true ∧ rch (pl 0 plOn) .host (P.plt 2) = true ∧ 32 ≤ ((pl 32 plOn).pltQueue 2).length ∧
    ((pl 31 plOn).pltQueue 2).length < 32 ∧ (pl 0 plOn).pltOn 2 = true ∧ (pl 0 []).pltOn 2 = false ∧
    (let s : State := { pl 0 plOn with pleat := { (pl 0 plOn).pleat with lanes := (List.range 4).map fun l => (8 + l, ⟨.inline 9, 0, 0, false, [], 0⟩) } }
     ((List.range 4).all fun l => Tbl.has s.pleat.lanes (2 * 4 + l)) = true ∧ Tbl.at? s.pleat.lanes (2 * 4 + 3) = some ⟨.inline 9, 0, 0, false, [], 0⟩) ∧
    (⟨.go, 0, 0, false, [], 0⟩ : PleatJob).origin = .go ∧
    (pl 0 plOn).heldAt 8 = none ∧ (pl 0 plOn).heldAt 9 = some heldT ∧ heldT.phase = 1 ∧
    ((pl 0 []).pltPick fun e => (pl 0 []).on (P.plt e) R.plt_INLINE_EN) = none ∧
    ((pl 31 plOn).pltPick fun e => (pl 31 plOn).on (P.plt e) R.plt_INLINE_EN) = some 2 ∧
    ((pl 32 plOn).pltPick fun e => (pl 32 plOn).on (P.plt e) R.plt_INLINE_EN) = some 2 ∧
    (pl 0 plOn).job? 1 = some { jobT .done 0 0 true with decode := 1 } ∧ ((pl 0 []).pltPick fun _ => true) = none ∧
    ((pl 0 plOn).pltPick fun _ => true) = some 2 ∧ (pl 0 plOn).job? 2 = some { jobT .done 0 0 true with id := 2 } ∧
    (jobT .done 0 0 true).decode ≠ 1 ∧ Tbl.at? (pl 0 plOn).pleat.lanes 8 = none ∧ (pl 0 plOn).en (P.plt 2) = true ∧
    ([1] : List Byte) ≠ [] ∧ ([1] : List Byte).length ≤ 65536 := by decide +kernel

/-- A batch of an operation with one key or record at the start of DRAM, and its results behind it. -/
def batchT (op : Nat) : Batch :=
  { addr := dramBase + 512, panel := 0, item := none, block := natLE 1 op ++ natLE 1 0 ++ natLE 2 0 ++ natLE 6 dramBase ++ natLE 6 (dramBase + 256) ++ zeros 16
    next := 0, done := 0, abort := false, err := false, multi := false }
def rowT : GauRow := ⟨0, 2 ^ 80 - 1, 0⟩
/-- The table holding an entry in place 5; a record in memory; more of Gauge set. -/
def gs (rec : List Byte) (f : Gauge → Gauge) (l : List (Nat × Fld × Nat × Nat)) : State :=
  with_ { hm [] with gauge := f { (hm []).gauge with rows := [(5, rowT)] }, mem := memWrite [] dramBase rec } ([(P.gau, R.common_EN, 0, 1), (P.gcb, R.gcb_CASC_EN, 0, 1)] ++ l)
def gs0 : State := gs [] id []
/-- A record of an operation on a rank. -/
def recT (op rank : Nat) : List Byte := natLE 1 op ++ natLE 3 0 ++ natLE 4 rank ++ natLE 8 0 ++ natLE 40 7 ++ natLE 40 (2 ^ 80 - 1)
/-- An own frame on the ring, and frames of this device and of another. -/
def ownT (r : Bool) : GcbOut := ⟨4, gcbFrame (2 ^ 13) 4 (List.replicate 5 0) 0 0, 0, none, 0, r⟩
/-- Batches refused and taken, a key of each kind, an entry that matches, records of each operation at a rank in use and beyond, a full table and a full
share, a move and none, a spread move, the width, frames of each kind, the link (R237 to R259). -/
theorem witness_Gauge :
    rch gs0 .host P.gau = true ∧ 32 ≤ (gs [] (fun g => { g with queue := List.replicate 32 (batchT 1) }) []).gauge.queue.length ∧
    gs0.gauge.queue.length < 32 ∧ gs0.poison dramBase 32 = none ∧ gs0.mode M.gauge = true ∧
    ((gs [] (fun g => { g with look := some (batchT 1) }) []).gauge.look) = some (batchT 1) ∧ (batchT 1).abort = false ∧
    (batchT 1).next < (batchT 1).num ∧ (batchT 1).casc = false ∧ (batchT 1).op = 1 ∧ (batchT 2).op = 2 ∧ gs0.gauTr (batchT 1) dramBase = dramBase ∧
    gs0.gauHits 0 0 = [0] ∧ gs0.gauAt 0 0 = some (5, rowT) ∧ gs0.gauAt 0 1 = none ∧
    ([1, 2, 3, 4].all fun op => [0, 1].all fun rank =>
      let s := gs (recT op rank) (fun g => { g with upd := some (batchT 3) }) []
      decide (s.gauge.upd = some (batchT 3) ∧ s.gauge.move = none ∧ s.rd P.gau R.gau_WIDTH ≤ 2 ∧ memRead s.mem (s.gauTr (batchT 3) ((batchT 3).src + 96 * (batchT 3).next)) 96 = recT op rank ∧ s.poison dramBase 96 = none) &&
        s.viewOk (s.gauPoster (batchT 3)) (batchT 3).panel ((batchT 3).src + 96 * (batchT 3).next) 96 .wr) = true ∧
    gs0.gauRows = 1 ∧ gs0.gauge.rows.length < gs0.gauCap ∧ (gs0.gauOf 0).length < gs0.gauQuota ∧ (gs0.gauOf 0).length < 2 ∧
    (let s := gs [] (fun g => { g with upd := some (batchT 3), move := some ⟨6, 5, rowT, 0⟩ }) []
     s.gauge.upd = some (batchT 3) ∧ s.gauge.move = some ⟨6, 5, rowT, 0⟩) ∧
    gs0.gauge.move = none ∧ Tbl.at? gs0.gauge.rows 5 = some rowT ∧ (gs [] id [(P.gau, R.gau_SPREAD_EN, 0, 1)]).rd P.gau R.gau_SPREAD_EN ≠ 0 ∧
    9 < gs0.gauCap ∧ (∀ e ∈ gs0.gauge.rows, ¬ (5 < e.1 ∧ e.1 ≤ 9) ∧ ¬ (9 ≤ e.1 ∧ e.1 < 5)) ∧ gs0.gauge.rows ≠ [] ∧
    (hm []).gauge.rows = [] ∧ gs0.gcbPort = true ∧ (∀ w ∈ (ownT false).words, w < 65536) ∧
    ([] : List Nat).length ≠ 5 + gcbKeyWords (bitsAt (([] : List Nat).getD 0 0) 11 2) ∧
    (ownT false).words.length = 5 + gcbKeyWords (bitsAt ((ownT false).words.getD 0 0) 11 2) ∧
    gcbCrc ((ownT false).words.take 9) = (ownT false).words.getD 9 0 ∧ (ownT false).words.getD 0 0 / 2 ^ 13 = 1 ∧
    bitsAt ((ownT false).words.getD 0 0) 8 3 = gs0.rd P.gcb R.gcb_POS ∧ bitsAt ((gcbFrame (2 ^ 13 + 3 * 2 ^ 8) 4 [] 0 0).getD 0 0) 8 3 ≠ gs0.rd P.gcb R.gcb_POS ∧
    (let s := gs [] (fun g => { g with out := [ownT false] }) []
     s.gauge.out = [ownT false] ∧ (ownT false).tag = (ownT false).words.getD 1 0) ∧
    gs0.rd P.gcb R.gcb_LINK_UP = 0 ∧ (gs [] id [(P.gcb, R.gcb_LINK_UP, 0, 1)]).rd P.gcb R.gcb_LINK_UP ≠ 0 ∧ gs0.en P.gau = true := by decide +kernel
/-- A table as full as it can be. -/
theorem witness_Gauge_full (l : Tbl GauRow) (h : l.length = 131072) :
    ({ gs0 with gauge := { gs0.gauge with rows := l } } : State).gauCap ≤ ({ gs0 with gauge := { gs0.gauge with rows := l } } : State).gauge.rows.length := by
  have e : ({ gs0 with gauge := { gs0.gauge with rows := l } } : State).gauCap ≤ 131072 := by
    unfold State.gauCap
    split
    · exact Nat.div_le_self _ _
    · exact Nat.le_trans (Nat.div_le_self _ _) (by decide)
  simpa [h] using e
/-- A share used up: with every panel active each has less than the table, and one panel's entries reach it. -/
theorem witness_Gauge_quota (s : State) (g : Nat → GauRow) (hp : ∀ k, (g k).panel = 0) :
    let t : State := { s with gauge := { s.gauge with rows := (List.range s.gauQuota).map fun k => (k, g k) } }
    t.gauQuota ≤ (t.gauOf 0).length := by
  intro t
  have e : t.gauOf 0 = (List.range s.gauQuota).map fun k => (k, g k) := by
    show List.filter (fun e : Nat × GauRow => decide (e.2.panel = 0)) ((List.range s.gauQuota).map fun k => (k, g k)) = _
    rw [List.filter_eq_self]
    intro x hx
    obtain ⟨k, -, rfl⟩ := List.mem_map.mp hx
    simp [hp]
  rw [e]
  simp
  exact Nat.le_refl _
/-- A table in rising order, a move into a free place above and below, and a spread move that completes (R239, R248, R250). -/
theorem witness_GaugeRanks :
    gs0.gauge.rows.Pairwise (fun a b => a.1 < b.1) ∧ Tbl.at? gs0.gauge.rows 6 = none ∧ (6 : Nat) ≠ 5 ∧ Tbl.at? gs0.gauge.rows 4 = none ∧
    (match exec (.gaugeSpreadMove 5 9) (gs [] id [(P.gau, R.gau_SPREAD_EN, 0, 1)]) with | .next t => t.gauge.rows | _ => []) = [(9, rowT)] := by decide +kernel
/-! ### Spool, the units, the network, panels, modes, the mailbox -/

/-- An item of a kind in a state. -/
def itemT (kind : Nat) (st : ItemSt) : Item :=
  { kind := kind, list := 3, cplTo := 1, flow := 0, deadline := 0, clusters := 0, banks := 0, target := dramBase, entry := 0, cplAddr := dramBase, arg0 := 0, arg1 := 0
    arg2 := 0, panel := 0, poster := .startList, accepted := 0, key := 0, order := 0, st := st, core := none, aged := false, saved := none, cancel := false
    unit := 0x30, dmaDone := 0, word := 0, heldCpls := [] }
/-- The device with Spool, two clusters and the network on, holding an item 5. -/
def sp (i : Option Item) (l : List (Nat × Fld × Nat × Nat)) : State :=
  with_ { hm [] with spool := { (hm []).spool with items := i.toList.map fun i => (5, i) } }
    ([(P.spl, R.common_EN, 0, 1), (P.shc 0, R.common_EN, 0, 1), (P.shc 0, R.shc_CORE_EN, 0, 15)] ++ l)
/-- The device with completions at given sources of Take-up. -/
def tk (l : List Nat) (rot : Nat) : State :=
  with_ { sp none [] with spool := { (sp none []).spool with cpls := l.map fun x => ⟨x, none, 0, 0, 0⟩ } } [(P.tku, R.tku_ROT_PTR, 0, rot)]
/-- R345: with ROT_PTR 50 and sources 3, 30, 61, 64, 70 requesting, the four granted are 61, 64, 70, 3, and ROT_PTR becomes 4. -/
theorem test_takeup : (tk [3, 30, 61, 64, 70] 50).tkuGrants = [61, 64, 70, 3] := by decide +kernel
theorem test_takeup_rot : (match exec .takeupGrant (tk [3, 30, 61, 64, 70] 50) with | .next t => t.rd P.tku R.tku_ROT_PTR | _ => 99) = 4 := by decide +kernel
/-- A dispatch with and without a candidate to a core and to a unit, an item that ages, a program to start, cancels in each state, a buffer held and
none, CTRL.EN with DRAIN and without, completions at the sources and granted, records to write (R332 to R346). -/
theorem witness_Spool :
    (sp none []).splRuns = true ∧ (sp none []).shuttlePick = none ∧
    ((sp (some (itemT 1 .waiting)) []).shuttlePick.map fun e => (e.1, e.2.2)) = some (5, 0) ∧ (sp (some (itemT 1 .waiting)) []).splRuns = true ∧
    (sp (some (itemT 1 .waiting)) []).programs.length = 1 ∧ (sp none []).mode M.deadline = true ∧
    (let s := sp (some (itemT 2 .waiting)) []
     ((s.firstOf false (lowestList (s.spool.items.filter fun e => e.2.kind != 1 && s.eligible e && (s.unitFor e.2).isSome))).map (·.1)) = some 5) ∧
    (sp (some (itemT 1 .waiting)) []).item? 5 = some (itemT 1 .waiting) ∧
    (let i := { itemT 1 .dispatched with core := some 2 }
     (sp (some i) []).item? 5 = some i ∧ i.st = .dispatched ∧ i.kind = 1 ∧ i.core = some 2 ∧ i.saved = none) ∧
    rch (sp none []) .host P.spl = true ∧ stgOfAddr ((sp none []).rd P.spl R.spl_STG_REL_LO + (sp none []).rd P.spl R.spl_STG_REL_HI * 2 ^ 32) = none ∧
    (let s := with_ { sp none [] with stg := { (sp none []).stg with bufs := [(40, ⟨.media, 0, .job 1⟩)] } } [(P.spl, R.spl_STG_REL_LO, 0, stgAddr 40 % 2 ^ 32), (P.spl, R.spl_STG_REL_HI, 0, stgAddr 40 / 2 ^ 32)]
     stgOfAddr (s.rd P.spl R.spl_STG_REL_LO + s.rd P.spl R.spl_STG_REL_HI * 2 ^ 32) = some 40 ∧ Tbl.has s.stg.bufs 40 = true) ∧
    (sp none []).en P.spl = true ∧ (sp none []).rd P.spl R.common_DRAIN = 0 ∧ (sp none [(P.spl, R.common_DRAIN, 0, 1)]).rd P.spl R.common_DRAIN ≠ 0 ∧
    (∀ e ∈ (sp (some (itemT 2 .running)) []).spool.items, e.2.st ≠ .waiting) ∧ (sp none []).item? 5 = none ∧
    (sp (some (itemT 2 .done)) []).itemEnded 5 (itemT 2 .done) = true ∧ (sp (some (itemT 2 .waiting)) []).itemEnded 5 (itemT 2 .waiting) = false ∧
    (sp (some (itemT 6 .running)) []).itemEnded 5 (itemT 6 .running) = false ∧ (sp (some (itemT 6 .running)) []).item? 5 = some (itemT 6 .running) ∧
    (sp (some (itemT 4 .running)) []).itemEnded 5 (itemT 4 .running) = false ∧ (sp (some (itemT 4 .running)) []).item? 5 = some (itemT 4 .running) ∧
    0 < nClusters (sp none []).part ∧ rch (sp none []) (.bobbin 7) (P.shc 0) = true ∧ (∀ e ∈ (sp (some (itemT 2 .waiting)) []).spool.items, e.2.kind ≠ 1) ∧
    (tk [3] 0).dev ≠ Dev.ward ∧ (tk [3] 0).tkuGrants.getLast? = some 3 ∧ (tk [3] 0).requests 3 = true ∧ (tk [3] 0).tkuGrants.length < 4 ∧
    (tk [] 0).tkuGrants = [] ∧ (tk [] 0).spool.granted = [] ∧ ({ (tk [] 0).spool with granted := [⟨61, none, 0, 0, 7⟩] } : Spool).granted = [⟨61, none, 0, 0, 7⟩] ∧
    (sp (some (itemT 2 .running)) []).rd P.trc R.trc_TRC_ON = 0 ∧ (itemT 2 .running).cplTo = 1 ∧ ({ itemT 2 .running with cplTo := 2 } : Item).cplTo = 2 ∧
    (sp none []).spool.trcBuf = [] ∧ ({ (sp none []).spool with trcBuf := [zeros 16] } : Spool).trcBuf = [zeros 16] ∧ (sp none []).rd P.trx R.trx_TRX_EN = 0 ∧
    (((({ sp none [] with spool := { (sp none []).spool with trcBuf := [] } } : State).busWrite 0 dramBase (zeros 16)).count P.trc 0x040).rd P.trx R.trx_TRX_EN) = 0 := by
  decide +kernel

/-- A SEAM item of an operation on units 8 and 9 of the first namespace. -/
def seamT (op : Nat) : Item := { itemT 2 .dispatched with arg0 := op + 8 * 2 ^ 18, arg1 := 2, arg2 := dramBase }
/-- Whether item 5 stands queued for Seam with an operation. -/
def queuedT (s : State) (op : Nat) : Bool :=
  decide (s.item? 5 = some (seamT op) ∧ (seamT op).op = op ∧ s.nsPanel (s.itemNs (seamT op)) = 0)
/-- A DMA item of 8 bytes to DRAM, from DRAM or from the host. -/
def dmaT (st : ItemSt) (src : Nat) : Item := { itemT 6 st with arg0 := src, arg1 := dramBase + 64, arg2 := 8 }
/-- Every operation of Seam with its mode off and on, its key slot locked and open, over a Hem region and beside it; loads, jobs, batches; DMA with the
link down and up and of an inactive panel; a buffer of the panel and none (R50, R89, R94, R189, R339, R351, R393). -/
theorem witness_SpoolUnits :
    ([1, 2, 3, 4, 5].all fun op => queuedT (sp (some (seamT op)) []) op && (sp (some (seamT op)) []).keyOpen 0 &&
      !({ sp (some (seamT op)) [] with trust := { (hm []).trust with keySlots := [] } } : State).keyOpen 0) = true ∧
    (let s := sp (some (seamT 1)) []
     s.mode M.pink = true ∧ s.mode M.unpick = true ∧ s.mode M.hem = true ∧ (with_ s [(P.mode, R.mode_MODE_EN, 0, 0)]).mode M.pink = false ∧ (with_ s [(P.mode, R.mode_MODE_EN, 0, 0)]).mode M.hem = false) ∧
    (let s := sp (some (seamT 1)) []
     (s.begun 5).streamRefusal 0 8 2 0 false ≠ 0) ∧
    (let s := { sp (some (seamT 1)) [] with pink := { (hm []).pink with slots := (List.range 28).map fun u => (u * 4, ⟨pgT, 0⟩) } }
     (s.begun 5).streamRefusal 0 8 2 0 true = 0) ∧
    (let r : RecRange := ⟨0, 9, 1, 16, false, 0⟩
     ([r].any fun r => decide (r.ns = (seamT 2).ns) && meets (seamT 2).first (seamT 2).units r.first r.count) = true) ∧
    (sp (some (seamT 2)) []).seam.ranges = [] ∧ (sp (some (seamT 3)) []).touchesHem 0 8 2 = false ∧ (sp (some (seamT 3)) []).touchesHem 0 1 2 = true ∧
    (sp (some (seamT 4)) []).seam.hem.length < 4096 ∧ (sp (some (seamT 5)) []).rd P.recl R.recl_READONLY = 0 ∧
    (sp (some (seamT 5)) [(P.recl, R.recl_READONLY, 0, 1)]).rd P.recl R.recl_READONLY ≠ 0 ∧ ((sp (some (seamT 5)) []).begun 5).poison dramBase 2 = none ∧
    ([3, 4, 5, 6, 7].all fun k => decide ((sp (some (itemT k .dispatched)) []).item? 5 = some (itemT k .dispatched))) = true ∧
    (let s := sp (some (dmaT .dispatched hostBase)) [(P.mode, R.mode_MODE_EN, 0, 0)]
     s.mode M.host = false ∧ s.mode M.net = false) ∧
    (let s := { sp (some (dmaT .dispatched hostBase)) [] with nvme := { (hm []).nvme with linkUp := false } }
     (dmaT .dispatched hostBase).toHost = true ∧ s.nvme.linkUp = false) ∧
    (sp none []).mode M.host = true ∧ (dmaT .running dramBase).toHost = false ∧ (sp none []).nvme.linkUp = true ∧
    (dmaT .running dramBase).dmaDone < (dmaT .running dramBase).arg2 ∧ (sp (some (dmaT .running dramBase)) []).item? 5 = some (dmaT .running dramBase) ∧
    (dmaT .running dramBase).st = .running ∧ (sp (some (dmaT .running dramBase)) []).poison dramBase 8 = none ∧
    (let s : State := { sp (some { itemT 7 .dispatched with arg0 := stgAddr 40 }) [] with stg := { (hm []).stg with bufs := [(40, ⟨.media, 0, .job 1⟩)] } }
     stgOfAddr (stgAddr 40) = some 40 ∧ Tbl.at? s.stg.bufs 40 = some ⟨.media, 0, .job 1⟩) ∧
    stgOfAddr (itemT 7 .dispatched).arg0 = none := by decide +kernel
/-- The data of an append that names DRAM is read from it. -/
theorem witness_SpoolUnits_append : ∀ f, ((sp (some (seamT 5)) []).begun 5).appendData (seamT 5) f =
    f (memRead ((sp (some (seamT 5)) []).begun 5).mem dramBase 2) ((sp (some (seamT 5)) []).begun 5) :=
  read_ok ((sp (some (seamT 5)) []).begun 5) 0 dramBase 2 (by decide +kernel) (by decide +kernel)
/-- The data of a DMA request is read from DRAM. -/
theorem witness_SpoolUnits_dma : ∀ f, (sp (some (dmaT .running dramBase)) []).busRead 0 dramBase 8 f =
    f (memRead (sp (some (dmaT .running dramBase)) []).mem dramBase 8) (sp (some (dmaT .running dramBase)) []) :=
  read_ok (sp (some (dmaT .running dramBase)) []) 0 dramBase 8 (by decide +kernel) (by decide +kernel)
/-- The record ranges and the Hem regions used up. -/
theorem witness_SpoolUnits_full (r : RecRange) (h : HemRegion) :
    4096 ≤ (List.replicate 4096 r).length ∧ 4096 ≤ ((List.range 4096).map fun k => (k, h)).length := by
  rw [List.length_replicate, List.length_map, List.length_range]
  exact ⟨Nat.le_refl _, Nat.le_refl _⟩

/-- The network on with port 1 up and connection 3, or the part OD-7420. -/
def nt (l : List (Nat × Fld × Nat × Nat)) : State :=
  with_ (sp none []) ([(P.eth, R.common_EN, 0, 1), (P.toe, R.common_EN, 0, 1), (P.eth, R.eth_PORT_UP, 0, 2)] ++ l)
/-- The network with a first host entry, of the empty NQN, for panel 0. -/
def ntHost : State :=
  { nt [] with trust := { (nt []).trust with pattern := List.replicate 0x9C0 0 ++ (sha256 []).take 28 ++ [0x80, 0, 0, 0] ++ List.replicate 0x620 0 } }
def nt20 : State := { nt [] with part := .od7420 }
/-- A link to train and one in use, ports down and up, GROUPING on both parts, connections accepted and refused, lost, and each way that a command
brings its data, pause frames, the sideband over SMBus and I3C (R3, R348, R370 to R374). -/
theorem witness_Network :
    (nt []).mode M.host = true ∧ (nt []).domOn 36 = true ∧ (nt []).nvme.perstLow = false ∧ (nt []).nvme.linkUp = true ∧
    (nt [(P.mode, R.mode_MODE_EN, 0, 0)]).mode M.host = false ∧ nt20.domOn 36 = true ∧ nt20.part = .od7420 ∧
    (nt []).netUp = true ∧ 1 < (nt []).nPorts ∧ (nt []).pageUp P.eth = true ∧ ((nt []).rd P.eth R.eth_PORT_UP).testBit 1 = true ∧
    rch (nt []) .host P.eth = true ∧ rch (nt []) .thimble P.eth = true ∧ rch nt20 .thimble P.eth = true ∧ (nt []).part ≠ .od7420 ∧
    (nt []).pageUp P.toe = true ∧ (nt []).en P.toe = true ∧ (nt []).upState = true ∧ (nt []).rd P.eth R.eth_PORT_UP ≠ 0 ∧
    (nt []).connectOk [] 9 1 true true = false ∧ ntHost.connectOk [] 9 0 true true = true ∧
    Tbl.has (nt []).net.conns 3 = true ∧ Tbl.has (nt []).net.conns 5 = false ∧ (∀ e ∈ (nt []).nvme.cmds, e.2.h.src ≠ .tcp 3) ∧
    (Tbl.at? (nt []).net.conns 3).map (·.waits) = some [] ∧ ioPtr .flush = none ∧ ioPtr (.write 0 1 (.inline [1])) = some (.inline [1]) ∧
    (nt []).portUp 1 = true ∧ (nt []).trust.fwRunning = true ∧
    (let s := (nt []).addCmd (connHdr 3 { ctrl := 1, qid := 1, panel := 0, nqn := [], waits := [] } 7 0 0) .write 0 (.h2c 16) 0 4096 none
     ((Tbl.at? s.nvme.cmds (cmdKey (connHdr 3 { ctrl := 1, qid := 1, panel := 0, nqn := [], waits := [] } 7 0 0))).map (·.dp)) = some (.h2c 16)) ∧
    (nt [(P.sbd, R.sbd_I3C_EN, 0, 1)]).rd P.sbd R.sbd_I3C_EN ≠ 0 ∧ (nt []).powered = true ∧ (nt []).dev ≠ Dev.fill ∧ (nt []).power.seq = .run ∧
    (nt [(P.sbd, R.sbd_SMB_EN, 0, 1)]).rd P.sbd R.sbd_SMB_EN ≠ 0 ∧
    Tbl.at? ({ (nt []).nvme with miConfig := [(1, 5)] } : Nvme).miConfig 1 = some 5 := by decide +kernel

/-- A panel command running at a step. -/
def pnT (step : Nat) : State := { sp none [] with serial := { (hm []).serial with pan := some ⟨1, 1, step, false⟩ } }
/-- A command while none runs and while one does; every step of a reset; a queue that exists and one that does not (R376 to R386). -/
theorem witness_Panels :
    ([Agent.host, .bobbin 0, .thimble].all fun ag => rch (sp none []) ag P.pan) = true ∧ (sp none []).rd P.pan R.pan_PAN_BUSY = 0 ∧
    (sp none [(P.pan, R.pan_PAN_BUSY, 0, 1)]).rd P.pan R.pan_PAN_BUSY ≠ 0 ∧ (sp none []).serial.queue = [] ∧ (sp none []).serialBusy = false ∧
    0 < (sp none []).rd P.pan R.pan_DRAIN_TMO_MS ∧ (sp none []).serial.pan = none ∧
    ([2, 3, 6].all fun n => decide ((pnT n).serial.pan = some ⟨1, 1, n, false⟩)) = true ∧
    (pnT 2).panelIdle 1 = true ∧ Tbl.has (sp none []).nvme.sqs 1 = true ∧ Tbl.has (sp none []).nvme.sqs 9 = false := by decide +kernel

/-- A mode request at a step, a pattern write at a copy, a halted Bobbin core 3, an unlock that has failed n times. -/
def mdT (step : Nat) : State := { sp none [] with serial := { (hm []).serial with mode := some ⟨0xFFF, true, step⟩ } }
def ptT (copy : Nat) (d : Nat) : State := ({ sp none [] with serial := { (hm []).serial with pat := some ⟨[1], copy⟩ } } : State).setDev d
def bbT (n : Nat) : State :=
  { sp none [] with cores := [(35, { coreZero with halted := true })], trust := { (hm []).trust with restarts := List.replicate n 0, keyFails := [(0, n)] } }
/-- Requests refused, begun and at each step; every mailbox command allowed and not; unlocks with attempts left and without; a slot open and locked; writes
of firmware in and out of range; both copies, in Ward and outside; restarts left and none (R391, R481 to R484). -/
theorem witness_ModesAndMailbox :
    rch (sp none []) .host P.mode = true ∧ rch (sp none []) (.bobbin 0) P.mode = true ∧ (sp none []).power.seq = .run ∧
    (sp none []).rd P.mode R.mode_REQ_BUSY = 0 ∧ (sp none [(P.mode, R.mode_REQ_BUSY, 0, 1)]).rd P.mode R.mode_REQ_BUSY ≠ 0 ∧
    (sp none []).serial.queue = [] ∧ (sp none []).serialBusy = false ∧ (mdT 0).serial.mode = some ⟨0xFFF, true, 0⟩ ∧ (mdT 1).serial.mode = some ⟨0xFFF, true, 1⟩ ∧
    (sp none []).serial.mode = none ∧ rch (sp none []) .host P.thm = true ∧ (sp none []).rd P.thm R.thm_MB_BUSY = 0 ∧
    (sp none [(P.thm, R.thm_MB_BUSY, 0, 1)]).rd P.thm R.thm_MB_BUSY ≠ 0 ∧ (sp none []).mbAllowed .host 7 = true ∧ rch (sp none []) (.bobbin 0) P.thm = true ∧
    (sp none []).mbAllowed (.bobbin 0) 7 = false ∧ ((sp none []).mbFrom 3).poison (sp none []).mbAddr 4096 = none ∧
    (sp none [(P.pat, R.pat_PATTERN_DEFAULTED, 0, 0)]).rd P.pat R.pat_PATTERN_DEFAULTED = 0 ∧ (sp none [(P.pat, R.pat_PATTERN_DEFAULTED, 0, 1)]).rd P.pat R.pat_PATTERN_DEFAULTED ≠ 0 ∧
    (sp none []).rd P.thm R.thm_MB_ARG0 = 0 ∧ 8 ≤ (Tbl.at? (bbT 8).trust.keyFails 0).getD 0 ∧ (Tbl.at? (bbT 2).trust.keyFails 0).getD 0 < 8 ∧
    Tbl.at? (sp none []).trust.keySlots 0 = some (zeros 64) ∧ Tbl.at? nvLocked.trust.keySlots 0 = none ∧
    (sp none []).rd P.thm R.thm_MB_ARG1 = 0 ∧ 0 < (sp none [(P.thm, R.thm_MB_ARG1, 0, 4)]).rd P.thm R.thm_MB_ARG1 ∧ (sp none [(P.thm, R.thm_MB_ARG1, 0, 4)]).rd P.thm R.thm_MB_ARG1 ≤ slotSize ∧
    (ptT 1 Dev.ready).serial.pat = some ⟨[1], 1⟩ ∧ (ptT 0 Dev.ready).serial.pat = some ⟨[1], 0⟩ ∧ (ptT 1 Dev.ward).dev = Dev.ward ∧
    ((ptT 1 Dev.ready).norWrite (norPattern 1) [1]).dev ≠ Dev.ward ∧
    Tbl.at? (bbT 3).cores (32 + 3) = some { coreZero with halted := true } ∧ (bbT 3).pagesAwake = true ∧ (bbT 3).dev ≠ Dev.ward ∧
    3 ≤ ((bbT 3).trust.restarts.filter fun t => (bbT 3).rtcUs < t + 3600000000).length ∧
    ((bbT 2).trust.restarts.filter fun t => (bbT 2).rtcUs < t + 3600000000).length < 3 := by decide +kernel
/-- The secret of an unlock, the block of a pattern write and the image of a firmware write are read from DRAM. -/
theorem witness_ModesAndMailbox_read (n k : Nat) (a : Nat) (s : State) (h : (s.mbFrom n).poison a k = none) :
    ∀ f, (s.mbFrom n).blockRead a k f = f (memRead (s.mbFrom n).mem a k) (s.mbFrom n) := by
  intro f
  unfold State.blockRead
  rw [h]

/-! ### The step and the Agrek encoding -/

/-- A command waiting, none in reset, none while running, a UART byte waiting, both ends of a microsecond (R23, R341, R511). -/
theorem witness_StepAndReset :
    ({ up with pending := [.gaugeSearch] } : State).pending = [.gaugeSearch] ∧ State.reset.pending = [] ∧ State.reset.power.seq = .heldInReset ∧
    up.pending = [] ∧ up.power.seq = .run ∧ up.uartTx = [] ∧ up.spool.coreItem = [] ∧ up.cycFrac + 1 < up.cyclesPerUs ∧
    up.cyclesPerUs ≤ ({ up with cycFrac := up.cyclesPerUs } : State).cycFrac + 1 ∧ up.frozen P.pwr = false ∧
    ({ up with uartTx := [7] } : State).uartTx = [7] := by decide +kernel
/-! ### Encodings and worked examples of the spec -/

/-- Bytes written as numbers. -/
def hex (l : List Nat) : List Byte := l.map (BitVec.ofNat 8)
/-- 10_agrek_model.md, totalling projected balances, and 11_agrek_instructions.md, totalling a posting batch. -/
theorem test_decode_dadd : decTop (hex [0x90, 0x11, 0x08, 0x10, 0x42, 0x07, 0xC0, 0xE0, 0xFF]) =
    (none, .insn ⟨.dadd, .b, [.imm [8, 0x10], .disp8 2 7, .fpRel 0xFFE0]⟩ []) := by decide +kernel
theorem test_decode_eal : decTop (hex [0x7C, 0x42, 0x0F, 0xF0, 0x10]) = (none, .insn ⟨.eal, .b, [.disp8 2 15, .lsShort 0x10]⟩ []) := by decide +kernel
theorem test_decode_dbp : decTop (hex [0xBF, 0xC0, 0xDC, 0xFF, 0xB0, 0xF2, 0xFF, 0xFF, 0xFF]) =
    (none, .insn ⟨.dbp, .b, [.fpRel 0xFFDC, .pcRel 0xFFFFFFF2]⟩ []) := by decide +kernel
theorem test_decode_eal_abs : decTop (hex [0x7C, 0x20, 0x00, 0x40, 0x00, 0x20, 0xF0, 0x10]) =
    (none, .insn ⟨.eal, .b, [.abs32 0x20004000, .lsShort 0x10]⟩ []) := by decide +kernel
theorem test_decode_movw : decTop (hex [0x02, 0x13, 0xF0, 0, 0, 0, 0xF0, 0x50]) =
    (none, .insn ⟨.mov, .w, [.imm [0xF0, 0, 0, 0], .lsShort 0x50]⟩ []) := by decide +kernel
theorem test_decode_rep_dadd : decTop (hex [0xE0, 0x90, 0x11, 0x08, 0x10, 0x82, 0xC0, 0xE0, 0xFF]) =
    (some .rep, .insn ⟨.dadd, .b, [.imm [8, 0x10], .postInc 2, .fpRel 0xFFE0]⟩ []) := by decide +kernel
theorem test_decode_dcmp : decTop (hex [0x95, 0x11, 0x10, 0x10, 0xC0, 0xE0, 0xFF, 0xC0, 0xD0, 0xFF]) =
    (none, .insn ⟨.dcmp, .b, [.imm [0x10, 0x10], .fpRel 0xFFE0, .fpRel 0xFFD0]⟩ []) := by decide +kernel
theorem test_decode_bne : decTop (hex [0xB2, 0xB0, 1, 2, 3, 4]) = (none, .insn ⟨.bne, .b, [.pcRel 0x04030201]⟩ []) := by decide +kernel
/-- The encoding claim's instructions: with their operands, and one that ends at a reserved specifier. -/
theorem witness_AgrekEncoding : insnCanon ⟨.dadd, .b, [.imm [8, 0x10], .disp8 2 7, .fpRel 0xFFE0]⟩ = true ∧ escFF .dadd = false ∧
    insnCanon ⟨.dadd, .b, [.reserved 0x4F]⟩ = true := by decide +kernel
/-- The same loop's decimal sums: the three balances added to the total, the last with N and without Z and D. -/
def sumT : State :=
  agS .thimble { coreT with ls := [(0x504, 0x01), (0x505, 0x25), (0x506, 0x04), (0x507, 0x0D), (0x51F, 0x0C)], fp := BitVec.ofNat 64 (lsBase + 0x530) }
theorem test_dadd_step : (match exec (.dadd .thimble (.imm [8, 0x10]) (.lsShort 0x500) (.fpRel 0xFFE0)) sumT with
    | .next t => (memRead (t.core 40).ls 0x51C 4, (t.core 40).psw, (t.core 40).pc) | _ => ([], 0, 0)) =
    (hex [0x01, 0x25, 0x04, 0x0D], 4, lsBase + 0x2009) := by decide +kernel
theorem test_dadd_chain :
    (packedVal (hex [0, 0, 0, 0, 0x01, 0x25, 0x04, 0x0D])).map (fun v => packedVal (packedOf 16 v.natAbs 0xD)) = some (some (-125040)) ∧
    packedVal (hex [0, 0, 0, 0, 0, 0x08, 0x71, 0x5D]) = some (-8715) ∧ packedVal (hex [0, 0, 0, 0, 0x23, 0, 0x60, 0x0D]) = some (-2300600) ∧
    (packedOf 16 (125040 + 8715 + 2300600) 0xD).drop 12 = hex [0x24, 0x34, 0x35, 0x5D] := by decide +kernel
/-- R273 and the member current-account file: 4417 0022 9315 packed with the sign 0xF, 0318 zoned with PSW.ZN = 0. -/
theorem test_packed_account : packedOf 7 441700229315 0xF = hex [0x04, 0x41, 0x70, 0x02, 0x29, 0x31, 0x5F] ∧
    zonedOf 4 318 0xF 0xC = hex [0xF0, 0xF3, 0xF1, 0xC8] := by decide +kernel
/-- 09_gauge.md, a blocked account on a four-device ring: position 2, rank 0, HIT and MULTI. -/
theorem test_gauge_ring : gauResult false 2 (some 0) 2 = 0x01A00000 := by decide +kernel
/-- 17_dram.md, one address: with the fold on DA and D′ = 0x4_8D15_9840, without it on DD. -/
def drS (fold : Nat) : State :=
  with_ { up with board := { up.board with ranks := 2, density32 := true } }
    [(P.drm, R.drm_NCH, 0, 4), (P.drm, R.drm_SET, 0, 15), (P.drm, R.drm_GRAIN, 0, 4), (P.drm, R.drm_XOR_EN, 0, fold)]
theorem test_dram_place : (drS 1).dramPlace 0x1234567840 = some { ch := 0, sub := 1, rank := 0, bank := 6 * 4 + 2, row := 0x48D1 } ∧
    localOff 12 2 0x1234567840 = 0x48D159840 ∧ ((drS 0).dramPlace 0x1234567840).map (·.ch) = some 3 := by decide +kernel
/-- 02_seam_map.md: the entry of unit 0x0002_0001. -/
theorem test_map_entry : mkEntry (9 * 2 ^ 36 + 5 * 2 ^ 32 + 2 * 2 ^ 30 + 0 * 2 ^ 28 + 0xBFF * 2 ^ 14 + 0x608 * 2 ^ 2) false false = 0x4AC17FEC1000 ∧
    natLE 6 0x4AC17FEC1000 = hex [0x00, 0x10, 0xEC, 0x7F, 0xC1, 0x4A] ∧ locCh (eLoc 0x4AC17FEC1000) = 9 := by decide +kernel
/-- 05_selvedge_channel.md, an outer-zone read: the first 18 bytes of the tag. -/
theorem test_archive_tag :
    (slvTag { fromHem := true, idx := 0, op := 1, head := 0, retry := 0, track := 1000, sector := 36, count := 1, ns := 3, kind := 3, lba := 0x40000, slot := 5
              region := 7, hemIdx := 0, buf := 0, bad := false } 0 [1]).take 18 =
      hex [0, 0, 4, 0, 0, 0x07, 0x50, 0x03, 0x0C, 0, 0, 0, 0, 0xE8, 0x03, 0, 0x24, 0] := by decide +kernel
/-- 06_selvedge_servo.md, shock during a migration write: the VCM_CUR frame of u = −1,200. -/
theorem test_treadle_frame : trlFrame 1 3 (ofSigned 16 (-1200)) = 0x13FB502B := by decide +kernel
/-- 07_pinking.md, the negative-balance filter: the program, a record with a balance and a status byte, the pad of one. -/
def negProg : List Byte :=
  hex [1, 2, 2, 2, 0xF0, 0] ++ zeros 58 ++
    (hex [0x0B, 0x80, 0x40, 0, 2] ++ zeros 11 ++ zeros 15 ++ hex [0x0C] ++ zeros 16) ++
    (hex [0x1B, 0x10, 0x60, 0, 0] ++ zeros 11 ++ hex [0xC3] ++ zeros 31) ++ zeros (832 - 160) ++
    hex [0x00, 0x70, 0x40, 0, 0x0B, 0x80, 0x40, 0] ++ zeros 24 ++ hex [0x0B, 0x80, 0x40, 0, 1, 0, 0, 0] ++ zeros 152 ++ hex [2]
def memberT (balance : List Nat) (status : Nat) : List Byte := zeros 6 ++ hex [0x1C] ++ zeros 4 ++ hex balance ++ zeros 8 ++ hex [status] ++ zeros 212
def unitF : List Byte :=
  memberT [0, 0, 0, 0, 0x01, 0x25, 0x04, 0x0D] 0xC1 ++ memberT [0, 0, 0, 0, 0x01, 0x25, 0x04, 0x0C] 0xC1 ++ memberT [0, 0, 0, 0, 0, 0x08, 0x71, 0x5D] 0xC1 ++
    memberT [0, 0, 0, 0, 0x01, 0x25, 0x04, 0x0D] 0xC3 ++ memberT [0, 0, 0, 0, 0x23, 0, 0x60, 0x0D] 0xC1 ++ zeros 16
def outF : FilterOut := (recordsOf (pgRecLen negProg) 0 unitF).foldl (filterRecord negProg) (FilterOut.start (pgNagg negProg))
theorem test_filter_program : loadCheck negProg = 0 := by decide +kernel
theorem test_filter_out : (outF.records, outF.survivors, outF.baddec, outF.out.length) = (5, 3, 0, 45) := by decide +kernel
theorem test_filter_report : let b := reportBytes negProg 0x20001 0 9 0 1 0 outF
    b.take 8 = hex [1, 0, 2, 0, 0, 0, 9, 0] ∧ sliceOf b 32 20 = hex [0, 0, 0, 0x0D] ++ zeros 12 ++ hex [0x24, 0x34, 0x35, 0x5D] ∧
      sliceOf b 52 20 = hex [0, 0, 0, 0x0C] ++ zeros 15 ++ hex [0x3C] ∧ b.getD 127 0 = 0xA5 := by decide +kernel

end Sys2Proof.Tests
end

section
/-!
PROOFS. The host link, the network ports and connections, and the sideband (13_host_network.md R348, R349, R370 to R374).
-/

namespace Sys2Proof.Machine

/-! ### One bit of a number replaced -/

/-- A number with bit `b` replaced: the bits above it, the new bit, the bits below it. -/
theorem bitPut_eq (v b : Nat) (on : Bool) :
    bitPut v b on = 2 ^ b * (2 * (v / 2 ^ b / 2) + on.toNat) + v % 2 ^ b := by
  have hv : 2 ^ b * (v / 2 ^ b) + v % 2 ^ b = v := Nat.div_add_mod v (2 ^ b)
  have hq : 2 * (v / 2 ^ b / 2) + v / 2 ^ b % 2 = v / 2 ^ b := Nat.div_add_mod _ 2
  have hsplit : 2 ^ b * (2 * (v / 2 ^ b / 2)) + v / 2 ^ b % 2 * 2 ^ b + v % 2 ^ b = v := by
    rw [Nat.mul_comm (v / 2 ^ b % 2), ← Nat.mul_add, hq, hv]
  cases on <;> simp only [bitPut, bitsPut, bitsAt, pow_one, Nat.mul_add, Bool.toNat] <;> simp <;> omega

theorem testBit_bitPut (v b c : Nat) (on : Bool) :
    (bitPut v b on).testBit c = if b = c then on else v.testBit c := by
  have hlow : v % 2 ^ b < 2 ^ b := Nat.mod_lt _ (Nat.two_pow_pos b)
  have hv : v.testBit c = (2 ^ b * (v / 2 ^ b) + v % 2 ^ b).testBit c := by rw [Nat.div_add_mod]
  rw [bitPut_eq, hv, Nat.testBit_two_pow_mul_add _ hlow, Nat.testBit_two_pow_mul_add _ hlow]
  rcases Nat.lt_trichotomy c b with h | rfl | h
  · simp [h, Nat.ne_of_gt h]
  · cases on <;> simp [Nat.testBit_zero]
  · obtain ⟨k, rfl⟩ := Nat.exists_eq_add_of_lt h
    have hk : b + k + 1 - b = k + 1 := by omega
    have hhalf : (2 * (v / 2 ^ b / 2) + on.toNat) / 2 = v / 2 ^ b / 2 := by have := on.toNat_lt; omega
    rw [if_neg (by omega), if_neg (by omega), if_neg (by omega), hk, Nat.testBit_succ, Nat.testBit_succ, hhalf]

/-! ### The shared operations as updates of a few fields -/

theorem State.whenB_true {s : State} {c : Bool} (h : c = true) (f : State → State) : s.whenB c f = f s := by
  simp [State.whenB, h]

theorem State.whenB_false {s : State} {c : Bool} (h : c = false) (f : State → State) : s.whenB c f = s := by
  simp [State.whenB, h]

/-- An interrupt raised may send messages after what was sent before. -/
theorem State.raise_outbox (s : State) (p b : Nat) : ∃ l, (s.raise p b).outbox = s.outbox ++ l := by
  unfold State.raise State.announce State.msix1 State.whenB
  simp only
  split
  · split
    · exact ⟨_, rfl⟩
    · exact ⟨[], by simp⟩
  · exact ⟨[], by simp⟩

/-- An interrupt raised changes registers and what is sent, and nothing else. -/
theorem State.raise_frame (s : State) (p b : Nat) :
    s.raise p b = { s with regs := (s.raise p b).regs, outbox := (s.raise p b).outbox } := by
  unfold State.raise State.announce State.msix1 State.whenB
  simp only
  split
  · split <;> rfl
  · rfl

/-- A counter advanced changes the counters and nothing else. -/
theorem State.count_frame (s : State) (p o : Nat) : s.count p o = { s with ctrs := (s.count p o).ctrs } := by
  unfold State.count State.countN
  split <;> rfl

theorem State.count_count_frame (s : State) (p o q r : Nat) :
    (s.count p o).count q r = { s with ctrs := ((s.count p o).count q r).ctrs } :=
  (State.count_frame (s.count p o) q r).trans
    (congrArg (fun u : State => { u with ctrs := ((s.count p o).count q r).ctrs }) (State.count_frame s p o))

/-- The bit of an interrupt stands in INT_RAW once it is raised. -/
theorem State.testBit_raise (s : State) (p : Nat) {b : Nat} (h : b < 32) :
    ((s.raise p b).rd p R.common_INT_RAW).testBit b = true := by
  rw [State.rd_raise, if_pos rfl, Nat.testBit_mod_two_pow, testBit_bitPut]
  simp [h]

theorem SameRegs.refl (s : State) (l : List Nat) : SameRegs s s l := fun _ _ => rfl

theorem Tbl.at?_put_of_notMem {β : Type} (t : Tbl β) {k j : Nat} {l : List Nat} (v : β) (hk : k ∈ l) (hj : j ∉ l) :
    Tbl.at? (Tbl.put t k v) j = Tbl.at? t j :=
  Tbl.at?_put_ne t v fun e => hj (e ▸ hk)

theorem SameRegs.wr {s t : State} {l : List Nat} (h : SameRegs s t l) {p : Nat} {f : Fld} (hk : fkey p f 0 ∈ l) (v : Nat) :
    SameRegs s (t.wr p f v) l := fun k hkl => by
  rw [State.wr_regs, Tbl.at?_put_of_notMem _ _ hk hkl, h k hkl]

theorem SameRegs.raise {s t : State} {l : List Nat} (h : SameRegs s t l) {p : Nat} (hk : fkey p R.common_INT_RAW 0 ∈ l) (b : Nat) :
    SameRegs s (t.raise p b) l := fun k hkl => by
  rw [State.raise_regs, Tbl.at?_put_of_notMem _ _ hk hkl, h k hkl]

/-! ### The PCIe link (R348, R349) -/

/-- The state after the link changes: its fields, whether it is up, and the interrupt `b` of the PCI page. -/
def State.linkTo (s : State) (speed width sris : Nat) (up : Bool) (b : Nat) : State :=
  ({ (s.wr P.pci R.pci_LINK_SPEED speed).wr P.pci R.pci_LINK_WIDTH width with nvme := { s.nvme with linkUp := up } }.wr
    P.pci R.pci_SRIS_ON sris).raise P.pci b

theorem State.linkTo_speed (s : State) (speed width sris b : Nat) (up : Bool) :
    (s.linkTo speed width sris up b).rd P.pci R.pci_LINK_SPEED = speed % 2 ^ 4 := by
  rw [State.linkTo, State.rd_raise_ne _ _ (by decide), State.rd_wr_ne _ _ (by decide)]
  exact (State.rd_wr_ne _ _ (by decide)).trans (State.rd_wr_same s P.pci R.pci_LINK_SPEED speed)

theorem State.linkTo_width (s : State) (speed width sris b : Nat) (up : Bool) :
    (s.linkTo speed width sris up b).rd P.pci R.pci_LINK_WIDTH = width % 2 ^ 5 := by
  rw [State.linkTo, State.rd_raise_ne _ _ (by decide), State.rd_wr_ne _ _ (by decide)]
  exact State.rd_wr_same (s.wr P.pci R.pci_LINK_SPEED speed) P.pci R.pci_LINK_WIDTH width

theorem State.linkTo_sris (s : State) (speed width sris b : Nat) (up : Bool) :
    (s.linkTo speed width sris up b).rd P.pci R.pci_SRIS_ON = sris % 2 := by
  rw [State.linkTo, State.rd_raise_ne _ _ (by decide)]
  exact State.rd_wr_same _ P.pci R.pci_SRIS_ON sris

@[simp] theorem State.linkTo_nvme (s : State) (speed width sris b : Nat) (up : Bool) :
    (s.linkTo speed width sris up b).nvme = { s.nvme with linkUp := up } := by simp [State.linkTo]

theorem State.testBit_linkTo (s : State) (speed width sris : Nat) (up : Bool) {b : Nat} (h : b < 32) :
    ((s.linkTo speed width sris up b).rd P.pci R.common_INT_RAW).testBit b = true := State.testBit_raise _ _ h

theorem State.linkTo_frame (s : State) (speed width sris b : Nat) (up : Bool) :
    s.linkTo speed width sris up b = { s with
      nvme := (s.linkTo speed width sris up b).nvme
      regs := (s.linkTo speed width sris up b).regs
      outbox := (s.linkTo speed width sris up b).outbox } := by
  rw [State.linkTo_nvme]
  exact State.raise_frame _ _ _

/-- The widths that a part's link supports fit their field. -/
theorem pcieWidth_lt {p : Part} {w : Nat} (h : w ∈ (if p = .od7420 then [1, 2, 4, 8] else [1, 2, 4, 8, 16])) : w < 2 ^ 5 := by
  split at h <;> simp at h <;> omega

theorem pcieLinkUp_does (s : State) (sp w : Nat) (b : Bool) (hm : s.mode M.host = true) (hd : s.domOn 36 = true)
    (hp : s.nvme.perstLow = false) (h1 : 1 ≤ sp) (h5 : sp ≤ 5)
    (hw : w ∈ (if s.part = .od7420 then [1, 2, 4, 8] else [1, 2, 4, 8, 16])) :
    Does (.pcieLinkUp sp w b) s fun t =>
      t.rd P.pci R.pci_LINK_SPEED = sp ∧ t.rd P.pci R.pci_LINK_WIDTH = w ∧ t.nvme = { s.nvme with linkUp := true } ∧
        t.rd P.pci R.pci_SRIS_ON = (if b = true then 1 else 0) ∧ (t.rd P.pci R.common_INT_RAW).testBit 0 = true ∧
        t = { s with nvme := t.nvme, regs := t.regs, outbox := t.outbox } := by
  have hexec : exec (.pcieLinkUp sp w b) s = .next (s.linkTo sp w (if b = true then 1 else 0) true 0) :=
    congrArg Host.Outcome.next (State.whenB_true (by simp [hm, hd, hp, h1, h5, hw]) _)
  refine ⟨_, hexec, ?_, ?_, State.linkTo_nvme .., ?_, State.testBit_linkTo _ _ _ _ _ (by decide), State.linkTo_frame ..⟩
  · rw [State.linkTo_speed, Nat.mod_eq_of_lt (by omega)]
  · rw [State.linkTo_width, Nat.mod_eq_of_lt (pcieWidth_lt hw)]
  · rw [State.linkTo_sris]; cases b <;> rfl

theorem exec_pcieLinkUp_hostOff (s : State) (sp w : Nat) (b : Bool) (hm : s.mode M.host = false) :
    exec (.pcieLinkUp sp w b) s = .next s :=
  congrArg Host.Outcome.next (State.whenB_false (by simp [hm]) _)

theorem pcieLinkDown_does (s : State) (hu : s.nvme.linkUp = true) :
    Does .pcieLinkDown s fun t => t.rd P.pci R.pci_LINK_SPEED = 0 ∧ t.rd P.pci R.pci_LINK_WIDTH = 0 ∧
      t.nvme = { s.nvme with linkUp := false } ∧ (t.rd P.pci R.common_INT_RAW).testBit 1 = true ∧
      t = { s with nvme := t.nvme, regs := t.regs, outbox := t.outbox } := by
  have hexec : exec .pcieLinkDown s = .next (s.linkTo 0 0 0 false 1) := congrArg Host.Outcome.next (State.whenB_true hu _)
  exact ⟨_, hexec, State.linkTo_speed .., State.linkTo_width .., State.linkTo_nvme .., State.testBit_linkTo _ _ _ _ _ (by decide),
    State.linkTo_frame ..⟩

/-! ### Ethernet ports (R3, R370) -/

theorem State.nPorts_le (s : State) : s.nPorts ≤ 4 :=
  (Nat.div_le_self _ _).trans (by split <;> omega)

/-- A bit of PORT_UP after one port's bit is written. -/
theorem testBit_putPort (s : State) (p q : Nat) (on : Bool) (hq : q < 4) :
    ((s.wr P.eth R.eth_PORT_UP (bitPut (s.rd P.eth R.eth_PORT_UP) p on)).rd P.eth R.eth_PORT_UP).testBit q =
      if p = q then on else (s.rd P.eth R.eth_PORT_UP).testBit q := by
  rw [State.rd_wr_same, Nat.testBit_mod_two_pow, testBit_bitPut]
  simp [hq, R.eth_PORT_UP]

theorem ethPortUp_does (s : State) (p : Nat) (hn : s.netUp = true) (hp : p < s.nPorts) :
    Does (.ethPortUp p) s fun t => (t.rd P.eth R.eth_PORT_UP).testBit p = true ∧
      (∀ q, q < 4 → q ≠ p → (t.rd P.eth R.eth_PORT_UP).testBit q = (s.rd P.eth R.eth_PORT_UP).testBit q) ∧
      (t.rd P.eth R.common_INT_RAW).testBit 0 = true ∧ t = { s with regs := t.regs, outbox := t.outbox } ∧
      SameRegs s t [fkey P.eth R.eth_PORT_UP 0, fkey P.eth R.common_INT_RAW 0] := by
  have hp4 : p < 4 := hp.trans_le s.nPorts_le
  refine ⟨_, congrArg Host.Outcome.next (State.whenB_true (by simp [hn, hp]) _), ?_, fun q hq hqp => ?_,
    State.testBit_raise _ _ (by decide), State.raise_frame _ _ _, ((SameRegs.refl s _).wr (by simp) _).raise (by simp) 0⟩
  · rw [State.rd_raise_ne _ _ (by decide), testBit_putPort _ _ _ _ hp4, if_pos rfl]
  · rw [State.rd_raise_ne _ _ (by decide), testBit_putPort _ _ _ _ hq, if_neg (Ne.symm hqp)]

theorem ethPortDown_does (s : State) (p : Nat) (hu : s.pageUp P.eth = true) (hp : p < 4)
    (hl : (s.rd P.eth R.eth_PORT_UP).testBit p = true) :
    Does (.ethPortDown p) s fun t =>
      (t.rd P.eth R.eth_PORT_UP).testBit p = false ∧ (∀ e, e ∈ t.net.paused ↔ e ∈ s.net.paused ∧ e.1 ≠ p) ∧
        (t.rd P.eth R.common_INT_RAW).testBit 1 = true ∧ t.net.conns = s.net.conns ∧
        t = { s with net := t.net, regs := t.regs, outbox := t.outbox } := by
  refine ⟨_, congrArg Host.Outcome.next (State.whenB_true (by simp [hu, hp, hl]) _), ?_, fun e => ?_,
    State.testBit_raise _ _ (by decide), ?_, ?_⟩
  · rw [State.rd_raise_ne _ _ (by decide)]
    exact (testBit_putPort _ p p false hp).trans (if_pos rfl)
  · simp
  · simp
  · rw [State.raise_net]
    exact State.raise_frame _ _ _

/-- GROUPING_WRITE by another agent, and of the reserved value, changes nothing. -/
theorem exec_groupingWrite_none (s : State) (ag : Agent) (v : Nat) (hr : Reaches s ag P.eth) (h : ag ≠ .thimble ∨ v = 3) :
    exec (.groupingWrite ag v) s = .next s := by
  refine congrArg Host.Outcome.next ((State.gated_reaches hr _ _ _).trans ?_)
  rcases h with h | rfl
  · exact State.whenB_false (by simpa using h) _
  · cases ag <;> rfl

theorem exec_groupingWrite_thimble (s : State) (v : Nat) (hr : Reaches s .thimble P.eth) :
    exec (.groupingWrite .thimble v) s = .next (s.setGrouping (v % 4)) :=
  congrArg Host.Outcome.next ((State.gated_reaches hr _ _ _).trans (State.whenB_true rfl _))

/-- One 400 Gbit/s port is refused on the OD-7420. -/
theorem groupingWrite_refused (s : State) (hr : Reaches s .thimble P.eth) (hp : s.part = .od7420) :
    Does (.groupingWrite .thimble 2) s fun t => t.rd P.eth R.eth_CFG_REJ = 1 ∧
      t.rd P.eth R.eth_GROUPING = s.rd P.eth R.eth_GROUPING ∧ (t.rd P.eth R.common_INT_RAW).testBit 2 = true := by
  have hset : s.setGrouping 2 = (s.flag P.eth R.eth_CFG_REJ).raise P.eth 2 := by simp [State.setGrouping, hp]
  refine ⟨_, exec_groupingWrite_thimble s 2 hr, ?_⟩
  rw [hset]
  refine ⟨?_, ?_, State.testBit_raise _ _ (by decide)⟩
  · rw [State.rd_raise_ne _ _ (by decide)]; exact State.rd_wr_same s P.eth R.eth_CFG_REJ 1
  · rw [State.rd_raise_ne _ _ (by decide)]; exact State.rd_wr_ne s 1 (by decide)

theorem groupingWrite_does (s : State) (v : Nat) (hr : Reaches s .thimble P.eth) (hv : v < 2 ∨ (v = 2 ∧ s.part ≠ .od7420)) :
    Does (.groupingWrite .thimble v) s fun t => t.rd P.eth R.eth_GROUPING = v ∧
      t.rd P.eth R.eth_PORT_UP = s.rd P.eth R.eth_PORT_UP % 2 ^ ((if s.part = .od7420 then 2 else 4) / 2 ^ v) ∧
      t = { s with regs := t.regs } ∧ SameRegs s t [fkey P.eth R.eth_GROUPING 0, fkey P.eth R.eth_PORT_UP 0] := by
  have hv4 : v % 4 = v := Nat.mod_eq_of_lt (by omega)
  have hgrp : (s.wr P.eth R.eth_GROUPING v).rd P.eth R.eth_GROUPING = v := (State.rd_wr_same ..).trans hv4
  have hports : (s.wr P.eth R.eth_GROUPING v).nPorts = (if s.part = .od7420 then 2 else 4) / 2 ^ v := by
    rw [State.nPorts, hgrp, State.wr_part]
  have hset : s.setGrouping v = (s.wr P.eth R.eth_GROUPING v).wr P.eth R.eth_PORT_UP
      (s.rd P.eth R.eth_PORT_UP % 2 ^ (s.wr P.eth R.eth_GROUPING v).nPorts) := by
    rw [State.setGrouping, if_neg (by omega), if_neg (by rintro ⟨rfl, hp⟩; simp [hp] at hv)]
    simp only [State.rd_wr_ne s v (show fkey P.eth R.eth_GROUPING 0 ≠ fkey P.eth R.eth_PORT_UP 0 by decide)]
  refine ⟨_, exec_groupingWrite_thimble s v hr, ?_⟩
  rw [hv4, hset]
  refine ⟨?_, ?_, rfl, ((SameRegs.refl s _).wr (by simp) _).wr (by simp) _⟩
  · rw [State.rd_wr_ne _ _ (by decide), hgrp]
  · rw [State.rd_wr_same, ← hports]
    exact Nat.mod_eq_of_lt ((Nat.mod_lt _ (Nat.two_pow_pos _)).trans_le (Nat.pow_le_pow_right (by decide) (State.nPorts_le _)))

/-- The state after PAUSE_FRAME_RECEIVED has stopped or released one priority of a port. -/
def State.pausePrio (port quanta : Nat) (s : State) (i : Nat) : State :=
  let others := s.net.paused.filter fun e => e ≠ (port, i)
  { s with net := { s.net with paused := if quanta = 0 then others else others ++ [(port, i)] } }.send (.pauseTx port i (quanta != 0))

theorem State.mem_pausePrio (port quanta : Nat) (s : State) (i : Nat) (e : Nat × Nat) :
    e ∈ (s.pausePrio port quanta i).net.paused ↔ if e = (port, i) then quanta ≠ 0 else e ∈ s.net.paused := by
  by_cases hq : quanta = 0 <;> by_cases he : e = (port, i) <;> simp [State.pausePrio, hq, he]

theorem State.mem_foldl_pausePrio (port quanta : Nat) (e : Nat × Nat) (l : List Nat) : ∀ s : State,
    e ∈ (l.foldl (State.pausePrio port quanta) s).net.paused ↔
      if e.1 = port ∧ e.2 ∈ l then quanta ≠ 0 else e ∈ s.net.paused := by
  induction l with
  | nil => intro s; simp
  | cons i l ih =>
    intro s
    rw [List.foldl_cons, ih, State.mem_pausePrio]
    simp only [List.mem_cons, Prod.ext_iff]
    grind

theorem State.foldl_pausePrio_frame (port quanta : Nat) (l : List Nat) : ∀ s : State,
    l.foldl (State.pausePrio port quanta) s =
      { s with net := { s.net with paused := (l.foldl (State.pausePrio port quanta) s).net.paused },
               outbox := s.outbox ++ l.map fun i => .pauseTx port i (quanta != 0) } := by
  induction l with
  | nil => intro s; simp
  | cons i l ih =>
    intro s
    rw [List.foldl_cons, ih]
    simp [State.pausePrio, State.send]

theorem pauseFrameReceived_does (s : State) (p m q : Nat) (hn : s.netUp = true) (hp : s.portUp p = true) :
    Does (.pauseFrameReceived p m q) s fun t =>
      let l := (List.range 8).filter fun i => s.rd P.eth R.eth_PFC_EN = 0 ∨ m.testBit i = true
      (∀ e, e ∈ t.net.paused ↔ if e.1 = p ∧ e.2 ∈ l then q ≠ 0 else e ∈ s.net.paused) ∧
        t.outbox = s.outbox ++ l.map (fun i => .pauseTx p i (q != 0)) ∧
        t = { s with net := { s.net with paused := t.net.paused }, ctrs := t.ctrs, outbox := t.outbox } := by
  have hl : ((List.range 8).filter fun i => !s.on P.eth R.eth_PFC_EN || m.testBit i) =
      (List.range 8).filter fun i => s.rd P.eth R.eth_PFC_EN = 0 ∨ m.testBit i = true := by
    simp [State.on, bne, beq_eq_decide]
  have hexec : exec (.pauseFrameReceived p m q) s =
      .next (((List.range 8).filter fun i => s.rd P.eth R.eth_PFC_EN = 0 ∨ m.testBit i = true).foldl (State.pausePrio p q)
        (s.count P.eth 0x040)) := by
    rw [← hl]
    exact congrArg Host.Outcome.next (State.whenB_true (by simp [hn, hp]) _)
  have hframe := State.foldl_pausePrio_frame p q
    ((List.range 8).filter fun i => s.rd P.eth R.eth_PFC_EN = 0 ∨ m.testBit i = true) (s.count P.eth 0x040)
  refine ⟨_, hexec, fun e => ?_, ?_, ?_⟩
  · rw [State.mem_foldl_pausePrio, State.count_net]
  · exact (congrArg State.outbox hframe).trans (by rw [State.count_outbox])
  · rw [hframe, State.count_frame s]

theorem networkControlPacket_does (s : State) (p : Nat) (k : NetKind) (hn : s.netUp = true) (hp : s.portUp p = true)
    (hu : s.upState = true) :
    Does (.networkControlPacket p k) s fun t =>
      t.outbox = s.outbox ++ (if s.trust.fwRunning = true then [.netReply p k] else []) ∧
        t = { s with ctrs := t.ctrs, outbox := t.outbox } := by
  refine ⟨_, congrArg Host.Outcome.next (State.whenB_true (by simp [hn, hp, hu]) _), ?_⟩
  simp only [State.count_trust]
  cases s.trust.fwRunning
  · rw [if_neg (by decide), if_neg (by decide), State.count_count_frame s]
    exact ⟨(List.append_nil _).symm, rfl⟩
  · rw [if_pos rfl, if_pos rfl, State.count_count_frame s]
    exact ⟨rfl, rfl⟩

/-! ### Connections (R370 to R372) -/

theorem tcpConnect_accepted (s : State) (nqn : List Nat) (c q : Nat) (hd dd : Bool)
    (hr : (s.netUp && s.pageUp P.toe && s.en P.toe && s.upState && s.rd P.eth R.eth_PORT_UP != 0) = true)
    (hok : s.connectOk (nqn.map (BitVec.ofNat 8)) c q hd dd = true) :
    Does (.tcpConnect nqn c q hd dd) s fun t =>
      t.net = { s.net with conns := Tbl.put s.net.conns s.newConn ⟨c, q, s.panelOf ((s.hostPanel (nqn.map (BitVec.ofNat 8))).getD 0),
        nqn.map (BitVec.ofNat 8), []⟩ } ∧ t = { s with net := t.net, ctrs := t.ctrs } := by
  refine ⟨_, congrArg Host.Outcome.next ((State.whenB_true hr _).trans (if_pos hok)), by simp, ?_⟩
  rw [State.count_net]
  exact State.count_frame _ _ _

theorem tcpConnect_refused (s : State) (nqn : List Nat) (c q : Nat) (hd dd : Bool)
    (hr : (s.netUp && s.pageUp P.toe && s.en P.toe && s.upState && s.rd P.eth R.eth_PORT_UP != 0) = true)
    (hok : s.connectOk (nqn.map (BitVec.ofNat 8)) c q hd dd = false) :
    Does (.tcpConnect nqn c q hd dd) s fun t => ∃ l, t.outbox = s.outbox ++ .tcpRefused c q :: l ∧
      (t.rd P.toe R.common_INT_RAW).testBit 1 = true ∧ t = { s with regs := t.regs, outbox := t.outbox } := by
  obtain ⟨l, hl⟩ := State.raise_outbox (s.send (.tcpRefused c q)) P.toe 1
  refine ⟨_, congrArg Host.Outcome.next ((State.whenB_true hr _).trans (if_neg (by simp [hok]))), l, ?_,
    State.testBit_raise _ _ (by decide), State.raise_frame _ _ _⟩
  rw [hl]
  simp [State.send]

theorem exec_tcpConnectionLost (s : State) {c : Nat} (hc : Tbl.has s.net.conns c = true) :
    exec (.tcpConnectionLost c) s = .next (s.loseConn c) :=
  congrArg Host.Outcome.next (State.whenB_true hc _)

theorem tcpRetransmitTimeout_does (s : State) {c : Nat} (hc : Tbl.has s.net.conns c = true) :
    Does (.tcpRetransmitTimeout c) s fun t => t.outbox = s.outbox ++ [.tcpSegment c] ∧ t = { s with ctrs := t.ctrs, outbox := t.outbox } := by
  refine ⟨_, congrArg Host.Outcome.next (State.whenB_true hc _), by simp [State.send], ?_⟩
  rw [State.count_frame s]
  rfl

/-- A connection lost with no command at work: the connection goes, the interrupt is raised, commands and memory stay. -/
theorem State.loseConn_idle (s : State) (c : Nat) (h : ∀ e ∈ s.nvme.cmds, e.2.h.src ≠ .tcp c) :
    Tbl.has (s.loseConn c).net.conns c = false ∧ ((s.loseConn c).rd P.toe R.common_INT_RAW).testBit 0 = true ∧
      (s.loseConn c).nvme = s.nvme ∧ (s.loseConn c).mem = s.mem := by
  have hmine : (s.nvme.cmds.filter fun e => e.2.h.src = .tcp c) = [] := by simpa using fun a b hab => h (a, b) hab
  simp only [State.loseConn, hmine, List.foldl_nil]
  exact ⟨by simp [Tbl.has, Tbl.at?_del], State.testBit_raise _ _ (by decide), by simp, by simp⟩

theorem exec_tcp_noConn (s : State) {c : Nat} (hc : Tbl.has s.net.conns c = false) :
    exec (.tcpConnectionLost c) s = .next s ∧ exec (.tcpRetransmitTimeout c) s = .next s :=
  ⟨congrArg Host.Outcome.next (State.whenB_false hc _), congrArg Host.Outcome.next (State.whenB_false hc _)⟩

/-! ### Capsules and their data (R371, R372) -/

theorem exec_nvmeTcpCapsule (s : State) {c : Nat} {x : Conn} (cid ns rs : Nat) (io : IoCmd) (hx : Tbl.at? s.net.conns c = some x)
    (hn : s.netUp = true) : exec (.nvmeTcpCapsule c cid ns rs io) s = .next (s.capsule c cid ns rs io x) := by
  show execNvmeTcpCapsule c cid ns rs io s = _
  simp [execNvmeTcpCapsule, hx, hn]

/-- A capsule with no data runs at once; in-capsule data runs within ICD_MAX; a write runs and takes its data later. -/
theorem State.capsule_runs (s : State) (c cid ns rs : Nat) (io : IoCmd) (x : Conn) :
    (ioPtr io = none → s.capsule c cid ns rs io x = s.ioRun (connHdr c x cid ns rs) io) ∧
    (∀ b, ioPtr io = some (.inline b) → s.capsule c cid ns rs io x =
      if s.rd P.toe R.toe_ICD_MAX < b.length then s.fetch (connHdr c x cid ns rs) (fun _ s => s.reply (connHdr c x cid ns rs) 0x00F 0 0)
      else s.ioRun (connHdr c x cid ns rs) io) ∧
    (∀ a k m, io = .write a k (.h2c m) → s.capsule c cid ns rs io x = s.ioRun (connHdr c x cid ns rs) io) := by
  refine ⟨fun h => ?_, fun b h => ?_, ?_⟩
  · simp only [State.capsule, h]
  · simp only [State.capsule, h]
  · rintro a k m rfl; rfl

theorem exec_h2cdataPdu_write (s : State) {c : Nat} {x : Conn} {y : Cmd} {n : Nat} (cid a : Nat) (d : List Byte)
    (hx : Tbl.at? s.net.conns c = some x) (hw : x.waits = []) (hy : Tbl.at? s.nvme.cmds (cmdKey (connHdr c x cid 0 0)) = some y)
    (hd : y.dp = .h2c n) :
    exec (.h2cdataPdu c cid a d) s =
      .next (s.updCmd (cmdKey (connHdr c x cid 0 0)) (fun z => { z with rxd := rxPut z.rxd a n d })).tryWrites := by
  show execH2cdataPdu c cid a d s = _
  simp [execH2cdataPdu, hx, hw, hy, hd]

theorem rxPut_cons (t : Tbl Byte) (a n : Nat) (b : Byte) (d : List Byte) :
    rxPut t a n (b :: d) = rxPut (if a < n then Tbl.put t a b else t) (a + 1) n d := by
  simp [rxPut, List.mapIdx_cons, Nat.add_comm, Nat.add_left_comm]

/-- A byte of the received data after a piece is laid in. -/
theorem at?_rxPut (n k : Nat) (d : List Byte) : ∀ (t : Tbl Byte) (a : Nat),
    Tbl.at? (rxPut t a n d) k = if a ≤ k ∧ k < a + d.length ∧ k < n then d[k - a]? else Tbl.at? t k := by
  induction d with
  | nil => intro t a; rw [if_neg (by simp; omega)]; rfl
  | cons b d ih =>
    intro t a
    rw [rxPut_cons, ih, List.length_cons]
    have hput : k ≠ a → Tbl.at? (if a < n then Tbl.put t a b else t) k = Tbl.at? t k := fun hk => by
      split
      · exact Tbl.at?_put_ne t b hk.symm
      · rfl
    rcases Nat.lt_trichotomy a k with h | rfl | h
    · rw [hput (by omega), show k - a = k - (a + 1) + 1 by omega, List.getElem?_cons_succ]
      exact if_congr (by omega) rfl rfl
    · rw [if_neg (by omega), Nat.sub_self, List.getElem?_cons_zero]
      by_cases hn : a < n <;> simp [hn]
    · rw [hput (by omega), if_neg (by omega), if_neg (by omega)]

/-! ### The sideband (R373, R374) -/

theorem i3cDynamicAddressAssignment_does (s : State) (a : Nat) (ha : a < 128) (he : s.rd P.sbd R.sbd_I3C_EN ≠ 0)
    (hp : s.powered = true) (hd : s.dev ≠ Dev.fill) :
    Does (.i3cDynamicAddressAssignment a) s fun t =>
      t.rd P.sbd R.sbd_I3C_DYN_ADDR = a ∧ t.rd P.sbd R.sbd_I3C_ADDR_VALID = 1 ∧ t = { s with regs := t.regs } ∧
        SameRegs s t [fkey P.sbd R.sbd_I3C_DYN_ADDR 0, fkey P.sbd R.sbd_I3C_ADDR_VALID 0] := by
  refine ⟨_, congrArg Host.Outcome.next (State.whenB_true (by simp [State.on, he, hp, hd]) _), ?_, State.rd_wr_same _ _ _ _, rfl,
    ((SameRegs.refl s _).wr (by simp) _).wr (by simp) _⟩
  rw [State.rd_wr_ne _ _ (by decide), State.rd_wr_same]
  exact Nat.mod_eq_of_lt ha

/-- A sideband command that the device answers. -/
theorem State.miCmd_up {s : State} (h : MiUp s) (f : State → State) : s.miCmd f = f ((s.count P.sbd 0x040).raise P.sbd 0) := by
  obtain ⟨hbus, hp, hd, hrun⟩ := h
  have hup : ((s.on P.sbd R.sbd_SMB_EN || (s.on P.sbd R.sbd_I3C_EN && s.on P.sbd R.sbd_I3C_ADDR_VALID)) && s.powered &&
      s.dev != Dev.fill) = true := by
    simpa [State.on, hp, hd] using hbus
  rw [State.miCmd, State.whenB_true hup, State.wakeBy_run (.inl hrun)]

theorem exec_mi_up (s : State) (h : MiUp s) : let u := (s.count P.sbd 0x040).raise P.sbd 0
    (∀ d, exec (.readNvmeMiDataStructure d) s = .next (u.send (.mi 0 (miBytes d 32)))) ∧
    exec .nvmSubsystemHealthStatusPoll s = .next (u.send (.mi 0 (miBytes 0x100 8))) ∧
    exec .controllerHealthStatusPoll s = .next (u.send (.mi 0 (miBytes 0x101 16))) ∧
    (∀ c v, Tbl.at? s.nvme.miConfig c = some v → exec (.configurationGet c) s = .next (u.send (.mi 0 (natLE 4 v)))) ∧
    (∀ c v, v < 2 ^ 32 → exec (.configurationSet c v) s =
      .next (({ u with nvme := { u.nvme with miConfig := Tbl.put s.nvme.miConfig c v } } : State).send (.mi 0 []))) ∧
    (∀ a k, ∃ b : List Byte, b.length = k ∧ exec (.vpdRead a k) s = .next (u.send (.mi 0 b))) ∧
    (∀ f, exec (.miTunnelledCommand (.getFeatures f)) s =
      .next ((u.count P.sbd 0x048).send (.mi 0 (natLE 4 ((u.count P.sbd 0x048).feature f))))) ∧
    (∀ o, exec (.miTunnelledCommand (.other o)) s = .next ((u.count P.sbd 0x048).send (.mi miBadOpcode []))) := by
  intro u
  have hu : u.nvme = s.nvme := by simp [u]
  have hnext {i : Instr} {f : State → State} (hi : exec i s = .next (s.miCmd f)) : exec i s = .next (f u) :=
    hi.trans (congrArg Host.Outcome.next (State.miCmd_up h f))
  refine ⟨fun d => (hnext rfl).trans rfl, (hnext rfl).trans rfl, (hnext rfl).trans rfl, fun c v hv => (hnext rfl).trans ?_,
    fun c v hv => (hnext rfl).trans ?_, fun a k => ⟨(List.range k).map fun i => Config.vpdByte (a + i), by simp, (hnext rfl).trans rfl⟩,
    fun f => (hnext rfl).trans rfl, fun o => (hnext rfl).trans rfl⟩
  · rw [hu, hv, Option.getD_some]
  · rw [hu, Nat.mod_eq_of_lt hv]

/-! ### The obligation -/

/-- Settles O56: each clause of the statement is the lemma above about its command. -/
theorem network : Obligations.Network := by
  unfold Obligations.Network
  intro s
  refine ⟨pcieLinkUp_does s, exec_pcieLinkUp_hostOff s, pcieLinkDown_does s, ethPortUp_does s, ethPortDown_does s,
    fun ag v hr h _ => exec_groupingWrite_none s ag v hr h,
    fun hr => ⟨groupingWrite_refused s hr, fun v hv => groupingWrite_does s v hr hv⟩,
    fun nqn c q hd dd hn ht he hu hp => ?_,
    fun c hc => ⟨exec_tcpConnectionLost s hc, tcpRetransmitTimeout_does s hc, s.loseConn_idle c⟩,
    fun c hc => exec_tcp_noConn s hc,
    fun c x cid ns rs io hx hn => ?_,
    networkControlPacket_does s, pauseFrameReceived_does s,
    fun c x cid a d n y hx hw hy hd => exec_h2cdataPdu_write s cid a d hx hw hy hd,
    fun t n a d k => ⟨fun j hj hk hn => ?_, fun h => ?_⟩,
    i3cDynamicAddressAssignment_does s, exec_mi_up s⟩
  · have hr : (s.netUp && s.pageUp P.toe && s.en P.toe && s.upState && s.rd P.eth R.eth_PORT_UP != 0) = true := by
      simp [hn, ht, he, hu, hp]
    exact ⟨tcpConnect_accepted s nqn c q hd dd hr, tcpConnect_refused s nqn c q hd dd hr⟩
  · rw [exec_nvmeTcpCapsule s cid ns rs io hx hn]
    simpa using s.capsule_runs c cid ns rs io x
  · subst hk
    rw [at?_rxPut, if_pos ⟨by omega, by omega, hn⟩, Nat.add_sub_cancel_left]
  · rw [at?_rxPut, if_neg (by omega)]

end Sys2Proof.Machine
end

section
/-!
PROOFS. The step: the command in front of the queue, one fabric cycle, and the state after reset (R23, R341, R465, R511, R519).
-/

namespace Sys2Proof.Machine

theorem step_cons (s : State) {c : Instr} {rest : List Instr} (h : s.pending = c :: rest) :
    step s = exec c { s with pending := rest } := by
  simp only [step, h]

theorem step_nil {s : State} (h : s.pending = []) : step s = .next s.tick := by
  simp only [step, h]

/-! ### One fabric cycle -/

theorem State.tick_held {s : State} (h : s.power.seq = .heldInReset) : s.tick = s := if_pos h

/-- The state as a cycle begins: one cycle more while the fabric clock runs, the Take-up port free, a waiting UART byte sent. -/
def State.cycleStart (s : State) : State :=
  let s := s.whenB s.fabricRuns fun s => { s with splTime := (s.splTime + 1) % 2 ^ 56 }
  { s with spool := { s.spool with portBusy := false } }.uartSend

theorem State.tick_eq {s : State} (h : s.power.seq ≠ .heldInReset) :
    s.tick = if s.cycleStart.cyclesPerUs ≤ s.cycleStart.cycFrac + 1 then s.cycleStart.microsecond
      else { s.cycleStart with cycFrac := s.cycleStart.cycFrac + 1 } := if_neg h

theorem State.tick_within {s u : State} (h : s.power.seq ≠ .heldInReset) (hu : s.cycleStart = u) (hus : u.cycFrac + 1 < u.cyclesPerUs) :
    s.tick = { u with cycFrac := u.cycFrac + 1 } := by
  rw [State.tick_eq h, hu, if_neg (by omega)]

theorem State.tick_microsecond {s u : State} (h : s.power.seq ≠ .heldInReset) (hu : s.cycleStart = u)
    (hus : u.cyclesPerUs ≤ u.cycFrac + 1) : s.tick = u.microsecond := by
  rw [State.tick_eq h, hu, if_pos hus]

theorem State.cycleStart_run {s : State} (hr : s.power.seq = .run) (hu : s.uartTx = []) :
    s.cycleStart = { s with splTime := (s.splTime + 1) % 2 ^ 56, spool := { s.spool with portBusy := false } } := by
  simp [State.cycleStart, State.whenB, State.fabricRuns, hr, State.uartSend, hu]

theorem State.cycleStart_uart {s : State} {b : Nat} {r : List Nat} (hu : s.uartTx = b :: r) :
    s.cycleStart.uartTx = r ∧ s.cycleStart.outbox = s.outbox ++ [.uart b] ∧ s.cycleStart.cycFrac = s.cycFrac ∧
      s.cycleStart.cyclesPerUs = s.cyclesPerUs := by
  unfold State.cycleStart State.whenB
  split <;> simp only [State.uartSend, hu] <;> exact ⟨rfl, rfl, rfl, rfl⟩

/-- With no task on a core, a microsecond moves the clock and counts the residency of the power state. -/
theorem State.microsecond_idle {s : State} (hc : s.spool.coreItem = []) :
    s.microsecond = { s with rtcUs := s.rtcUs + 1, cycFrac := 0 }.count P.pwr s.residency := by
  simp [State.microsecond, State.whenB, hc]

theorem State.ctr_count {s : State} {p : Nat} (o : Nat) (h : s.frozen p = false) :
    (s.count p o).ctr p o = (s.ctr p o + 1) % 2 ^ 64 := by
  rw [State.count, State.ctr_countN, h]; rfl

/-- The idle cycle of a running device. -/
theorem step_idle_run {s : State} (hp : s.pending = []) (hr : s.power.seq = .run) (hu : s.uartTx = []) (hc : s.spool.coreItem = []) :
    ∃ t : State, step s = .next t ∧ t.splTime = (s.splTime + 1) % 2 ^ 56 ∧
      (s.cycFrac + 1 < s.cyclesPerUs → t.cycFrac = s.cycFrac + 1 ∧ t.rtcUs = s.rtcUs ∧ t.ctrs = s.ctrs) ∧
      (s.cyclesPerUs ≤ s.cycFrac + 1 → t.cycFrac = 0 ∧ t.rtcUs = s.rtcUs + 1 ∧
        (s.frozen P.pwr = false → t.ctr P.pwr s.residency = (s.ctr P.pwr s.residency + 1) % 2 ^ 64)) ∧
      t = { s with splTime := t.splTime, cycFrac := t.cycFrac, rtcUs := t.rtcUs, ctrs := t.ctrs,
                   spool := { s.spool with portBusy := false } } := by
  have hheld : s.power.seq ≠ .heldInReset := by simp [hr]
  have hstart := State.cycleStart_run hr hu
  rcases Nat.lt_or_ge (s.cycFrac + 1) s.cyclesPerUs with hus | hus
  · exact ⟨_, (step_nil hp).trans (congrArg Host.Outcome.next (State.tick_within hheld hstart hus)), rfl, fun _ => ⟨rfl, rfl, rfl⟩,
      fun h => absurd hus (Nat.not_lt.2 h), rfl⟩
  · refine ⟨_, (step_nil hp).trans (congrArg Host.Outcome.next
      ((State.tick_microsecond hheld hstart hus).trans (State.microsecond_idle hc))), ?_, fun h => absurd h (Nat.not_lt.2 hus),
      fun _ => ⟨?_, ?_, fun hf => State.ctr_count s.residency hf⟩, ?_⟩
    · rw [State.count_splTime]
    · rw [State.count_cycFrac]
    · rw [State.count_rtcUs]
    · rw [State.count_splTime, State.count_cycFrac, State.count_rtcUs]
      exact State.count_frame _ _ _

/-- An idle cycle sends the first waiting UART byte. -/
theorem step_idle_uart {s : State} {b : Nat} {r : List Nat} (hp : s.pending = []) (hr : s.power.seq ≠ .heldInReset)
    (hu : s.uartTx = b :: r) (hf : s.cycFrac + 1 < s.cyclesPerUs) :
    ∃ t : State, step s = .next t ∧ t.uartTx = r ∧ t.outbox = s.outbox ++ [.uart b] := by
  obtain ⟨htx, hout, hfrac, hper⟩ := State.cycleStart_uart hu
  exact ⟨_, (step_nil hp).trans (congrArg Host.Outcome.next (State.tick_within hr rfl (by omega))), htx, hout⟩

/-! ### The state after reset -/

/-- At reset no field is listed, so each reads its reset value. -/
theorem State.rdI_reset (p : Nat) (f : Fld) (i : Nat) : State.reset.rdI p f i = fieldReset .od7400 p f i := rfl

/-- Settles O59: the queue's front is carried out, the idle step is one fabric cycle, and reset leaves the reset values. -/
theorem stepAndReset : Obligations.StepAndReset := by
  unfold Obligations.StepAndReset
  exact ⟨fun s _ _ h => step_cons s h,
    fun s hp h => (step_nil hp).trans (congrArg Host.Outcome.next (State.tick_held h)),
    fun s hp hr hu hc => step_idle_run hp hr hu hc,
    fun s _ _ hp hr hu hf => step_idle_uart hp hr hu hf,
    rfl, rfl, rfl, Memory.wf_nil, by decide, State.rdI_reset, by decide, by decide, by decide⟩

end Sys2Proof.Machine
end

section
/-!
PROOFS. Device controller reset, soft reset, the host's resets and power loss (R26, R352, R462 to R464, R519).
-/

namespace Sys2Proof.Machine

/-! ### DEV_RST and SRESET (R463, R464) -/

theorem State.rstGo_of_not_ward {s : State} (h : s.dev ≠ Dev.ward) : s.rstGo = (s.fault' 0x0D P.rst 0 0).resetFor 3 := by
  rw [State.rstGo, State.whenB_true (by simpa using h)]

theorem exec_devRst_go {s : State} {ag : Agent} {v : Nat} (h : Reaches s ag P.rst) (hv : v % 256 = 0xA5) :
    exec (.devRst ag v) s = .next ((s.fault' 0x0D P.rst 0 0).resetFor 3) := by
  obtain ⟨-, -, -, hward, -⟩ := id h
  calc exec (.devRst ag v) s = .next (s.devRst v) := congrArg Host.Outcome.next (State.gated_reaches h _ _ _)
    _ = .next s.rstGo := congrArg Host.Outcome.next (State.whenB_true (by simp [hv]) _)
    _ = _ := congrArg Host.Outcome.next (State.rstGo_of_not_ward hward)

theorem exec_devRst_ignored {s : State} {ag : Agent} {v : Nat} (h : Reaches s ag P.rst) (hv : v % 256 ≠ 0xA5) :
    exec (.devRst ag v) s = .next s :=
  congrArg Host.Outcome.next ((State.gated_reaches h _ _ _).trans (State.whenB_false (by simp [hv]) _))

theorem exec_sreset {s : State} {ag : Agent} {p : Nat} (h : Reaches s ag p) : exec (.sreset ag p) s = .next (s.softReset p) :=
  congrArg Host.Outcome.next (State.gated_reaches h _ _ _)

/-! ### Resets by the host (R352) -/

theorem State.pagesAwake_run {s : State} (h : s.power.seq = .run) : s.pagesAwake = true := by
  simp [State.pagesAwake, State.powered, h]

/-- Outside Ward and with the device running, a host reset is the controller's. -/
theorem State.hostRst_run {s : State} (hr : s.power.seq = .run) (hm : s.mode M.host = true) (hw : s.dev ≠ Dev.ward) (b : Bool) :
    s.hostRst b = s.hostReset.whenB (b && s.nvme.linkUp) State.linkDown := by
  simp [State.hostRst, State.accessWake, State.wakeBy_run (.inl hr), State.whenB, hm, State.pagesAwake_run hr, hw]

/-- In Ward it is the device's. -/
theorem State.hostRst_ward {s : State} (hr : s.power.seq = .run) (hm : s.mode M.host = true) (hw : s.dev = Dev.ward) (b : Bool) :
    s.hostRst b = s.resetFor 2 := by
  simp [State.hostRst, State.accessWake, State.wakeBy_run (.inl hr), State.whenB, hm, State.pagesAwake_run hr, hw]

theorem State.hostRst_false {s : State} (hr : s.power.seq = .run) (hm : s.mode M.host = true) (hw : s.dev ≠ Dev.ward) :
    s.hostRst false = s.hostReset :=
  (State.hostRst_run hr hm hw false).trans (State.whenB_false rfl _)

/-- The pages whose lock the host holds. -/
def State.hostLocks (s : State) : List Nat := (List.range 0x8E).filter fun p => s.rd p R.common_OWNER == 1

/-- The locks of the pages in a list set free. -/
def State.freeLocks (s : State) (l : List Nat) : State := l.foldl (fun (s : State) p => s.wr p R.common_OWNER 0) s

theorem fkey_owner_inj {p q : Nat} (h : fkey p R.common_OWNER 0 = fkey q R.common_OWNER 0) : p = q := by
  simp only [fkey, R.common_OWNER] at h
  omega

theorem State.rd_wr_owner (s : State) (p q : Nat) :
    (s.wr p R.common_OWNER 0).rd q R.common_OWNER = if p = q then 0 else s.rd q R.common_OWNER := by
  split
  · rename_i h; subst h; exact State.rd_wr_same ..
  · rename_i h; exact State.rd_wr_ne s 0 (mt fkey_owner_inj h)

theorem State.freeLocks_owner (l : List Nat) (q : Nat) : ∀ s : State,
    (s.freeLocks l).rd q R.common_OWNER = if q ∈ l then 0 else s.rd q R.common_OWNER := by
  induction l with
  | nil => intro s; simp [State.freeLocks]
  | cons p l ih =>
    intro s
    have hcons : s.freeLocks (p :: l) = (s.wr p R.common_OWNER 0).freeLocks l := rfl
    rw [hcons, ih, State.rd_wr_owner]
    by_cases hq : q ∈ l <;> simp [hq, eq_comm]

theorem State.freeLocks_frame (l : List Nat) : ∀ s : State, s.freeLocks l = { s with regs := (s.freeLocks l).regs } := by
  induction l with
  | nil => intro s; rfl
  | cons p l ih => intro s; exact ih (s.wr p R.common_OWNER 0)

theorem flrFunction1_does {s : State} (hm : s.mode M.host = true) (hw : s.dev ≠ Dev.ward) (hu : s.nvme.linkUp = true) :
    Does .flrFunction1 s fun t => t.nvme.fn1Masked = true ∧ (∀ p, p < 0x8E → t.rd p R.common_OWNER ≠ 1) ∧
      t = { s with nvme := t.nvme, regs := t.regs } := by
  have hexec : exec .flrFunction1 s =
      .next (({ s with nvme := { s.nvme with fn1Masked := true } } : State).freeLocks s.hostLocks) :=
    congrArg Host.Outcome.next (State.whenB_true (by simp [hm, hu, hw]) _)
  have hframe := State.freeLocks_frame s.hostLocks { s with nvme := { s.nvme with fn1Masked := true } }
  refine ⟨_, hexec, ?_, fun p hp => ?_, ?_⟩
  · rw [hframe]
  · rw [State.freeLocks_owner]
    by_cases h : s.rd p R.common_OWNER = 1
    · simp [State.hostLocks, hp, h]
    · rw [if_neg (by simp [State.hostLocks, h])]; exact h
  · rw [hframe]

/-! ### Power loss (R519) -/

theorem Tbl.at?_filter_key {β : Type} (t : Tbl β) (f : Nat → Bool) (k : Nat) :
    Tbl.at? (List.filter (fun e => f e.1) t) k = if f k = true then Tbl.at? t k else none := by
  induction t with
  | nil => simp
  | cons e r ih =>
    obtain ⟨a, v⟩ := e
    by_cases ha : a = k
    · subst ha; cases h : f a <;> simp [h, ih, Tbl.at?]
    · cases h : f a <;> simp [h, ih, Tbl.at?, ha]

theorem memAt_survivors (s : State) (a : Nat) : memAt s.survivors.mem a = if hostBase ≤ a then memAt s.mem a else 0 := by
  have hmem : s.survivors.mem = List.filter (fun e : Host.Cell => decide (hostBase ≤ e.1)) s.mem := rfl
  rw [memAt, hmem, Tbl.at?_filter_key s.mem (fun a => decide (hostBase ≤ a)) a]
  by_cases h : hostBase ≤ a <;> simp [h, memAt]

/-- Settles O32: each clause is the lemma above about its command. -/
theorem resets : Obligations.Resets := by
  unfold Obligations.Resets
  intro s
  refine ⟨fun ag v h hv => exec_devRst_go h hv, fun ag v h hv => exec_devRst_ignored h hv, fun ag p h => exec_sreset h, rfl,
    fun hr hm hw hu => ⟨fun hup hcc => ?_, ?_, ?_, flrFunction1_does hm hw hu⟩, fun hr hm hw hu => ?_, fun hp hl hm => ?_,
    s.cutMedia.survivors, rfl, rfl, rfl, rfl, rfl, rfl, rfl, fun a ha => ?_, fun a ha => ?_, rfl⟩
  · exact congrArg Host.Outcome.next ((State.whenB_true (by simp [hup, hcc]) _).trans (State.hostRst_false hr hm hw))
  · exact congrArg Host.Outcome.next ((State.whenB_true (by simp [hm, hu]) _).trans (State.hostRst_false hr hm hw))
  · exact congrArg Host.Outcome.next ((State.whenB_true (by simp [hm, hu]) _).trans (State.hostRst_run hr hm hw true))
  · exact congrArg Host.Outcome.next ((State.whenB_true (by simp [hm, hu]) _).trans (State.hostRst_ward hr hm hw false))
  · exact congrArg Host.Outcome.next ((State.whenB_true (by simp [hp, hl]) _).trans (State.whenB_false hm _))
  · rw [memAt_survivors, if_neg (Nat.not_le.2 ha)]
  · rw [memAt_survivors, if_pos ha]

end Sys2Proof.Machine
end

section
/-!
PROOFS. Staging buffers, the leak counter, captures and patrol scrub (R16, R17, R20, R409, R413 to R417).
-/

namespace Sys2Proof.Machine

/-! ### Fields at different offsets -/

theorem fkey_ne_of_off {p q : Nat} {f g : Fld} (h : f.off < 4096 ∧ g.off < 4096 ∧ f.lo < 32 ∧ g.lo < 32 ∧ f.off ≠ g.off) :
    fkey p f 0 ≠ fkey q g 0 := by
  simp only [fkey, Nat.mul_zero, Nat.add_zero]
  omega

/-- Setting a field leaves the fields at other offsets alone, on whatever page. -/
theorem State.rd_wr_off (s : State) {p q : Nat} {f g : Fld} (v : Nat)
    (h : f.off < 4096 ∧ g.off < 4096 ∧ f.lo < 32 ∧ g.lo < 32 ∧ f.off ≠ g.off) : (s.wr p f v).rd q g = s.rd q g :=
  State.rd_wr_ne s v (fkey_ne_of_off h)

theorem SameRegs.flag {s t : State} {l : List Nat} (h : SameRegs s t l) {p : Nat} {f : Fld} (hk : fkey p f 0 ∈ l) :
    SameRegs s (t.flag p f) l := h.wr hk 1

/-! ### Steps that touch registers, counters and what is sent alone -/

/-- `t` is `s` but for its registers, its counters and what has been sent. -/
def RegFrame (s t : State) : Prop := t = { s with regs := t.regs, ctrs := t.ctrs, outbox := t.outbox }

theorem RegFrame.refl (s : State) : RegFrame s s := rfl

theorem RegFrame.trans {s t u : State} (h : RegFrame s t) (g : RegFrame t u) : RegFrame s u :=
  Eq.trans g (congrArg (fun v : State => { v with regs := u.regs, ctrs := u.ctrs, outbox := u.outbox }) h)

theorem RegFrame.seam_eq {s t : State} (h : RegFrame s t) : t.seam = s.seam := by
  unfold RegFrame at h
  rw [h]

theorem RegFrame.nand_eq {s t : State} (h : RegFrame s t) : t.nand = s.nand := by
  unfold RegFrame at h
  rw [h]

theorem RegFrame.mem_eq {s t : State} (h : RegFrame s t) : t.mem = s.mem := by
  unfold RegFrame at h
  rw [h]

theorem RegFrame.wr {s t : State} (h : RegFrame s t) (p : Nat) (f : Fld) (v : Nat) : RegFrame s (t.wr p f v) := h.trans rfl

theorem RegFrame.count {s t : State} (h : RegFrame s t) (p o : Nat) : RegFrame s (t.count p o) := by
  refine h.trans ?_
  unfold State.count State.countN
  split <;> rfl

theorem RegFrame.raise {s t : State} (h : RegFrame s t) (p b : Nat) : RegFrame s (t.raise p b) := by
  refine h.trans ((State.raise_frame t p b).trans ?_)
  rw [State.raise_ctrs]

theorem RegFrame.err {s t : State} (h : RegFrame s t) (p code info addr : Nat) : RegFrame s (t.err p code info addr) := by
  refine h.trans ?_
  unfold State.err
  split <;> rfl

/-- A step that sends nothing. -/
theorem RegFrame.silent {s t : State} (h : RegFrame s t) (ho : t.outbox = s.outbox) : t = { s with regs := t.regs, ctrs := t.ctrs } :=
  Eq.trans h (congrArg (fun o => { s with regs := t.regs, ctrs := t.ctrs, outbox := o }) ho)

/-- A step that counts nothing. -/
theorem RegFrame.uncounted {s t : State} (h : RegFrame s t) (hc : t.ctrs = s.ctrs) :
    t = { s with regs := t.regs, outbox := t.outbox } :=
  Eq.trans h (congrArg (fun c => { s with regs := t.regs, ctrs := c, outbox := t.outbox }) hc)

/-! ### Minimums (R16, R20) -/

theorem exec_stgMinWrite_thimble {s : State} (h : Reaches s .thimble P.glb) (c : StgClass) (v : Nat) :
    exec (.stgMinWrite .thimble c v) s = .next (s.setStgMin c v) :=
  congrArg Host.Outcome.next ((State.gated_reaches h _ _ _).trans (State.whenB_true rfl _))

theorem exec_stgMinWrite_other {s : State} {ag : Agent} (hag : ag ≠ .thimble) (h : Reaches s ag P.glb) (c : StgClass) (v : Nat) :
    exec (.stgMinWrite ag c v) s = .next s :=
  congrArg Host.Outcome.next ((State.gated_reaches h _ _ _).trans (State.whenB_false (by simpa using hag) _))

theorem State.setStgMin_of_le {s : State} {c : StgClass} {v : Nat} (hw : s.stg.waits = [])
    (h : ((stgClasses.filter (· ≠ c)).map s.stgMin).sum + v % 1024 ≤ 992) : s.setStgMin c v = s.wr P.glb (clsMin c) v := by
  rw [State.setStgMin, if_neg (Nat.not_lt.2 h), hw]
  rfl

theorem State.setStgMin_of_lt {s : State} {c : StgClass} {v : Nat}
    (h : 992 < ((stgClasses.filter (· ≠ c)).map s.stgMin).sum + v % 1024) : s.setStgMin c v = s.flag P.glb R.glb_STG_CFG_REJ :=
  if_pos h

theorem clsMin_w (c : StgClass) : (clsMin c).w = 10 := by cases c <;> rfl

theorem stgMinWrite_does {s : State} (h : Reaches s .thimble P.glb) (hw : s.stg.waits = []) {c : StgClass} {v : Nat}
    (hs : ((stgClasses.filter (· ≠ c)).map s.stgMin).sum + v % 1024 ≤ 992) :
    Does (.stgMinWrite .thimble c v) s fun t =>
      t.stgMin c = v % 1024 ∧ t = { s with regs := t.regs } ∧ SameRegs s t [fkey P.glb (clsMin c) 0] := by
  refine ⟨s.wr P.glb (clsMin c) v, ?_, ?_, rfl, (SameRegs.refl s _).wr (by simp) v⟩
  · rw [exec_stgMinWrite_thimble h, State.setStgMin_of_le hw hs]
  · rw [State.stgMin, State.rd_wr_same, clsMin_w]
    rfl

theorem stgMinWrite_refused {s : State} (h : Reaches s .thimble P.glb) {c : StgClass} {v : Nat}
    (hs : 992 < ((stgClasses.filter (· ≠ c)).map s.stgMin).sum + v % 1024) :
    Does (.stgMinWrite .thimble c v) s fun t =>
      t.rd P.glb R.glb_STG_CFG_REJ = 1 ∧ t = { s with regs := t.regs } ∧ SameRegs s t [fkey P.glb R.glb_STG_CFG_REJ 0] := by
  refine ⟨s.flag P.glb R.glb_STG_CFG_REJ, ?_, State.rd_wr_same .., rfl, (SameRegs.refl s _).flag (by simp)⟩
  rw [exec_stgMinWrite_thimble h, State.setStgMin_of_lt hs]

/-! ### Requests for a buffer (R16, R17, R530) -/

theorem Tbl.mem_keys_of_has {β : Type} {t : Tbl β} {k : Nat} (h : Tbl.has t k = true) : k ∈ List.map Prod.fst t := by
  induction t with
  | nil => simp [Tbl.has] at h
  | cons e r ih =>
    obtain ⟨a, v⟩ := e
    by_cases ha : a = k
    · simp [ha]
    · exact List.mem_cons_of_mem _ (ih (by simpa [Tbl.has, Tbl.at?, ha] using h))

/-- While fewer than the 992 buffers are listed, a buffer of banks 1 to 31 is not. -/
theorem exists_free_buffer {β : Type} {t : Tbl β} (h : List.length t < 992) : ∃ n, 32 ≤ n ∧ n < 1024 ∧ Tbl.has t n = false := by
  by_contra hall
  have hsub : List.map (· + 32) (List.range 992) ⊆ List.map Prod.fst t := fun n hn => by
    obtain ⟨i, hi, rfl⟩ := List.mem_map.1 hn
    refine Tbl.mem_keys_of_has (Bool.not_eq_false _ |>.mp fun hf => hall ⟨i + 32, by omega, ?_, hf⟩)
    have := List.mem_range.1 hi
    omega
  have hnodup : (List.map (· + 32) (List.range 992)).Nodup :=
    (List.nodup_map_iff (add_left_injective 32)).2 List.nodup_range
  have hle := (hnodup.subperm hsub).length_le
  simp only [List.length_map, List.length_range] at hle
  omega

theorem State.stgFreeIn_eq_none {s : State} {b : Nat} :
    s.stgFreeIn b = none ↔ ∀ i, i < 32 → Tbl.has s.stg.bufs (stgNo b i) = true := by
  simp [State.stgFreeIn]

theorem State.stgFreeIn_eq_some {s : State} {b n : Nat} (h : s.stgFreeIn b = some n) :
    (∃ i, i < 32 ∧ n = stgNo b i) ∧ Tbl.has s.stg.bufs n = false := by
  obtain ⟨i, hi, hn⟩ := List.mem_map.1 (List.mem_of_find?_eq_some h)
  exact ⟨⟨i, List.mem_range.1 hi, hn.symm⟩, by simpa using List.find?_some h⟩

/-- The rotation of R530 passes every bank from 1 to 31. -/
theorem mem_bankOrder (l : Nat) {b : Nat} (h1 : 1 ≤ b) (h2 : b < 32) :
    b ∈ (List.range 31).map fun k => (l - 1 + 1 + k) % 31 + 1 := by
  refine List.mem_map.2 ⟨(b - 1 + 31 - (l - 1 + 1) % 31) % 31, List.mem_range.2 (by omega), by omega⟩

/-- While a buffer is free, the next allocation has one to take, in banks 1 to 31. -/
theorem State.stgPick_of_free {s : State} (h : s.stgFree ≠ 0) :
    ∃ n, s.stgPick = some n ∧ 32 ≤ n ∧ n < 1024 ∧ Tbl.at? s.stg.bufs n = none := by
  have hlen : List.length s.stg.bufs < 992 := by unfold State.stgFree at h; omega
  cases hp : s.stgPick with
  | none =>
    obtain ⟨n, hlo, hhi, hfree⟩ := exists_free_buffer hlen
    have hbank := List.findSome?_eq_none_iff.1 hp _ (mem_bankOrder s.stg.lastBank (b := n / 32) (by omega) (by omega))
    have hn : stgNo (n / 32) (n % 32) = n := Nat.div_add_mod' n 32
    have hhas := State.stgFreeIn_eq_none.1 hbank (n % 32) (by omega)
    rw [hn, hfree] at hhas
    cases hhas
  | some n =>
    obtain ⟨b, hb, hfree⟩ := List.exists_of_findSome?_eq_some hp
    obtain ⟨k, -, rfl⟩ := List.mem_map.1 hb
    obtain ⟨⟨i, hi, rfl⟩, hnot⟩ := State.stgFreeIn_eq_some hfree
    refine ⟨_, rfl, ?_, ?_, by simpa [Tbl.has] using hnot⟩ <;> unfold stgNo <;> omega

theorem State.stgFree_of_may {s : State} {c : StgClass} {p : Nat} (h : s.stgMay c p = true) : s.stgFree ≠ 0 := by
  intro h0
  simp [State.stgMay, h0] at h

theorem stagingAllocRequest_served {s : State} (hu : s.upState = true) {c : StgClass} {p : Nat} (x : Nat)
    (hm : s.stgMay c (s.panelOf p) = true) (hw : ∀ w ∈ s.stg.waits, w.cls ≠ c) :
    Does (.stagingAllocRequest c p x) s fun t =>
      ∃ n, 32 ≤ n ∧ n < 1024 ∧ Tbl.at? s.stg.bufs n = none ∧ Tbl.at? t.stg.bufs n = some ⟨c, s.panelOf p, .request x⟩ ∧
        (∀ m, m ≠ n → Tbl.at? t.stg.bufs m = Tbl.at? s.stg.bufs m) ∧
        t = { s with stg := { s.stg with bufs := t.stg.bufs, lastBank := n / 32 } } := by
  obtain ⟨n, hpick, hlo, hhi, hfree⟩ := State.stgPick_of_free (State.stgFree_of_may hm)
  have hgive : s.stgRequest ⟨c, s.panelOf p, .request x⟩ = s.stgGive ⟨c, s.panelOf p, .request x⟩ :=
    if_pos (by simpa [hm] using hw)
  refine ⟨_, (congrArg Host.Outcome.next (State.whenB_true hu _)).trans (congrArg Host.Outcome.next hgive), n, hlo, hhi, hfree, ?_⟩
  rw [State.stgGive, hpick]
  exact ⟨Tbl.at?_put_same _ _ _, fun m hmn => Tbl.at?_put_ne _ _ (Ne.symm hmn), rfl⟩

theorem exec_stagingAllocRequest_waits {s : State} (hu : s.upState = true) {c : StgClass} {p : Nat} (x : Nat)
    (h : s.stgMay c (s.panelOf p) = false ∨ ∃ w ∈ s.stg.waits, w.cls = c) :
    exec (.stagingAllocRequest c p x) s =
      .next { s with stg := { s.stg with waits := s.stg.waits ++ [⟨c, s.panelOf p, .request x⟩] } } := by
  refine (congrArg Host.Outcome.next (State.whenB_true hu _)).trans (congrArg Host.Outcome.next (if_neg ?_))
  rcases h with h | h
  · simp [h]
  · simp only [Bool.and_eq_true, Bool.not_eq_true', List.any_eq_false, decide_eq_true_eq, not_and]
    exact fun _ hall => h.elim fun w hw => hall w hw.1 hw.2

/-! ### The leak and the captures (R413, R414) -/

theorem exec_ceLeakPeriod {s : State} {p : Nat} (ha : s.pagesAwake = true) (hp : s.pageUp p = true) :
    exec (.ceLeakPeriod p none) s = .next (s.wr p R.common_LEVEL (s.rd p R.common_LEVEL - 1)) :=
  congrArg Host.Outcome.next (State.whenB_true (by simp [ha, hp]) _)

theorem State.captureCe_held {s : State} (h : s.rd P.eic R.eic_CE_VALID ≠ 0) (p a x : Nat) : s.captureCe p a x = s :=
  if_pos (by simpa [State.on] using h)

theorem State.captureCe_fresh {s : State} (h : s.rd P.eic R.eic_CE_VALID = 0) (p a x : Nat) :
    s.captureCe p a x = ((((s.wr P.eic R.eic_CE_PAGE p).wr P.eic R.eic_CE_ADDR_LO a).wr P.eic R.eic_CE_ADDR_HI (a / 2 ^ 32)).wr P.eic
      R.eic_CE_SYN x).wr P.eic R.eic_CE_VALID 1 :=
  if_neg (by simp [State.on, h])

theorem RegFrame.captureCe {s t : State} (h : RegFrame s t) (p a x : Nat) : RegFrame s (t.captureCe p a x) := by
  refine h.trans ?_
  unfold State.captureCe
  split <;> rfl

@[simp] theorem State.captureCe_integ (s : State) (p a x : Nat) : (s.captureCe p a x).integ = s.integ := by
  unfold State.captureCe
  split <;> rfl

@[simp] theorem State.captureCe_outbox (s : State) (p a x : Nat) : (s.captureCe p a x).outbox = s.outbox := by
  unfold State.captureCe
  split <;> rfl

/-- What the first correction's capture records. -/
theorem State.captureCe_fields {s : State} (h : s.rd P.eic R.eic_CE_VALID = 0) (p a x : Nat) :
    (s.captureCe p a x).rd P.eic R.eic_CE_VALID = 1 ∧ (s.captureCe p a x).rd P.eic R.eic_CE_PAGE = p % 256 ∧
      (s.captureCe p a x).rd P.eic R.eic_CE_SYN = x % 2 ^ 32 ∧ (s.captureCe p a x).rd P.eic R.eic_CE_ADDR_LO = a % 2 ^ 32 := by
  rw [State.captureCe_fresh h]
  refine ⟨State.rd_wr_same .., ?_, ?_, ?_⟩
  · rw [State.rd_wr_ne _ _ (by decide), State.rd_wr_ne _ _ (by decide), State.rd_wr_ne _ _ (by decide),
      State.rd_wr_ne _ _ (by decide)]
    exact State.rd_wr_same s P.eic R.eic_CE_PAGE p
  · rw [State.rd_wr_ne _ _ (by decide)]
    exact State.rd_wr_same _ P.eic R.eic_CE_SYN x
  · rw [State.rd_wr_ne _ _ (by decide), State.rd_wr_ne _ _ (by decide), State.rd_wr_ne _ _ (by decide)]
    exact State.rd_wr_same _ P.eic R.eic_CE_ADDR_LO a

/-- A capture leaves every field below the capture registers alone. -/
theorem State.rd_captureCe_low (s : State) (p a x q : Nat) {g : Fld} (h : g.off < 0x1C0 ∧ g.lo < 32) :
    (s.captureCe p a x).rd q g = s.rd q g := by
  obtain ⟨hoff, hlo⟩ := h
  have hne : ∀ f ∈ [R.eic_CE_PAGE, R.eic_CE_ADDR_LO, R.eic_CE_ADDR_HI, R.eic_CE_SYN, R.eic_CE_VALID],
      f.off < 4096 ∧ g.off < 4096 ∧ f.lo < 32 ∧ g.lo < 32 ∧ f.off ≠ g.off := by
    simp only [List.forall_mem_cons, R.eic_CE_PAGE, R.eic_CE_ADDR_LO, R.eic_CE_ADDR_HI, R.eic_CE_SYN, R.eic_CE_VALID]
    simp; omega
  simp only [List.forall_mem_cons] at hne
  obtain ⟨h1, h2, h3, h4, h5, -⟩ := hne
  unfold State.captureCe
  split
  · rfl
  · rw [State.rd_wr_off _ _ h5, State.rd_wr_off _ _ h4, State.rd_wr_off _ _ h3, State.rd_wr_off _ _ h2, State.rd_wr_off _ _ h1]

/-! ### Hard words and the watch list (R416, R417) -/

theorem State.isHard_congr {s t : State} (h : t.integ = s.integ) (p a : Nat) : t.isHard p a = s.isHard p a := by
  simp [State.isHard, h]

theorem State.passOf_congr {s t : State} (h : t.integ = s.integ) (p : Nat) : t.passOf p = s.passOf p := by
  simp [State.passOf, h]

theorem State.watched_congr {s t : State} (h : t.integ = s.integ) (p a : Nat) : t.watched p a = s.watched p a := by
  simp [State.watched, State.passOf_congr h, h]

theorem State.watch_frame (s : State) (p a : Nat) :
    s.watch p a = { s with ctrs := (s.watch p a).ctrs, integ := { s.integ with watch := (s.watch p a).integ.watch } } := by
  unfold State.watch State.whenB
  simp only
  split
  · simp only [State.count_integ]
    exact State.count_frame _ _ _
  · rfl

@[simp] theorem State.rd_watch (s : State) (p a q : Nat) (f : Fld) : (s.watch p a).rd q f = s.rd q f :=
  State.rdI_congr (by rw [State.watch_frame]) (by rw [State.watch_frame]) q f 0

/-- A word watched stands last in its page's list, with the pass number. -/
theorem State.watch_last (s : State) (p a : Nat) :
    ((Tbl.at? (s.watch p a).integ.watch p).getD []).getLast? = some (a, s.passOf p) := by
  have hlist : ∀ (c : Bool) (l : List (Nat × Nat)),
      ((Tbl.at? (State.whenB { s with integ := { s.integ with watch := Tbl.put s.integ.watch p (l ++ [(a, s.passOf p)]) } } c
        fun s => s.count P.eic 0x088).integ.watch p).getD []).getLast? = some (a, s.passOf p) := by
    intro c l
    cases c <;> simp [State.whenB]
  exact hlist _ _

/-! ### Corrections (R413, R414) -/

/-- A correction that meets the leak in its cycle, of a word neither hard nor watched, with the capture taken, is counted alone. -/
theorem ceLeakPeriod_cancelled {s : State} {p a : Nat} (x : Nat) (ha : s.pagesAwake = true) (hp : s.pageUp p = true)
    (hh : s.isHard p a = false) (hw : s.watched p a = false) (hv : s.rd P.eic R.eic_CE_VALID = 1) :
    Does (.ceLeakPeriod p (some (a, x))) s fun t => t = { s with ctrs := t.ctrs } := by
  have hcap : (s.count P.eic 0x040).captureCe p a x = s.count P.eic 0x040 := State.captureCe_held (by simp [hv]) p a x
  have hi : (s.count P.eic 0x040).integ = s.integ := State.count_integ ..
  refine ⟨s.count P.eic 0x040, congrArg Host.Outcome.next ((State.whenB_true (by simp [ha, hp]) _).trans ?_), State.count_frame _ _ _⟩
  simp only [hcap, State.isHard_congr hi, State.watched_congr hi, hh, hw, Bool.false_and, Bool.false_eq_true, if_false]
  rfl

theorem capClr_does {s : State} {ag : Agent} (h : Reaches s ag P.eic) :
    Does (.capClr ag) s fun t => t.rd P.eic R.eic_CE_VALID = 0 ∧ t.rd P.eic R.eic_UE_VALID = 0 ∧
      t = { s with regs := t.regs } ∧ SameRegs s t [fkey P.eic R.eic_CE_VALID 0, fkey P.eic R.eic_UE_VALID 0] := by
  refine ⟨_, congrArg Host.Outcome.next (State.gated_reaches h _ _ _), ?_, State.rd_wr_same .., rfl,
    ((SameRegs.refl s _).wr (by simp) _).wr (by simp) _⟩
  rw [State.rd_wr_ne _ _ (by decide)]
  exact State.rd_wr_same s P.eic R.eic_CE_VALID 0

/-- A correction of a word neither hard nor watched, with room in the page's bucket: counted, captured, poured in. -/
theorem State.correction_poured {s : State} {p a : Nat} (x : Nat) (hh : s.isHard p a = false) (hw : s.watched p a = false)
    (hl : s.rd p R.common_LEVEL < s.rd p R.common_CAPACITY) :
    s.correction p a x = ((s.count P.eic 0x040).captureCe p a x).wr p R.common_LEVEL (s.rd p R.common_LEVEL + 1) := by
  have hi : ((s.count P.eic 0x040).captureCe p a x).integ = s.integ := by simp
  have hlev (g : Fld) (hg : g.off < 0x1C0 ∧ g.lo < 32) : ((s.count P.eic 0x040).captureCe p a x).rd p g = s.rd p g := by
    rw [State.rd_captureCe_low _ _ _ _ _ hg, State.rd_count]
  have hbucket : ((s.count P.eic 0x040).captureCe p a x).bucket p =
      ((s.count P.eic 0x040).captureCe p a x).wr p R.common_LEVEL (s.rd p R.common_LEVEL + 1) := by
    rw [State.bucket, hlev R.common_LEVEL (by decide), hlev R.common_CAPACITY (by decide), if_pos hl]
  have hwatch : (((s.count P.eic 0x040).captureCe p a x).wr p R.common_LEVEL (s.rd p R.common_LEVEL + 1)).watched p a = false := by
    rw [State.watched_congr (s := s) (by simp), hw]
  simp only [State.correction, State.isHard_congr hi, hh, hbucket, hwatch, Bool.false_and, Bool.false_eq_true, if_false]
  rfl

theorem State.correction_poured_integ {s : State} {p a : Nat} (x : Nat) (hh : s.isHard p a = false) (hw : s.watched p a = false)
    (hl : s.rd p R.common_LEVEL < s.rd p R.common_CAPACITY) : (s.correction p a x).integ = s.integ := by
  rw [State.correction_poured x hh hw hl]
  simp

theorem State.correction_poured_frame {s : State} {p a : Nat} (x : Nat) (hh : s.isHard p a = false) (hw : s.watched p a = false)
    (hl : s.rd p R.common_LEVEL < s.rd p R.common_CAPACITY) :
    s.correction p a x = { s with regs := (s.correction p a x).regs, ctrs := (s.correction p a x).ctrs } := by
  rw [State.correction_poured x hh hw hl]
  exact ((((RegFrame.refl s).count _ _).captureCe _ _ _).wr _ _ _).silent (by simp)

/-! ### Patrol scrub (R409, R415 to R417) -/

theorem State.showsAs_good {s : State} {p a : Nat} (h : s.knownBad p a = false) (o : CodeOutcome) : s.showsAs p a o = (o, s) := by
  cases o <;> simp [State.showsAs, h]

theorem exec_scrubRead_correct {s : State} {w : MemWord} (hs : s.scrubs = true) (hk : s.knownBad w.page w.addr = false) (b : Bool) :
    exec (.scrubRead w .correct b) s = .next s := by
  refine congrArg Host.Outcome.next ((State.whenB_true hs _).trans ?_)
  rw [State.showsAs_good hk]

theorem exec_scrubRead_corrected {s : State} {w : MemWord} (hs : s.scrubs = true) (hk : s.knownBad w.page w.addr = false) (x : Nat) :
    exec (.scrubRead w (.corrected x) false) s =
      .next (((s.correction w.page w.addr x).count P.eic 0x060).watch w.page w.addr) := by
  refine congrArg Host.Outcome.next ((State.whenB_true hs _).trans ?_)
  simp only [State.showsAs_good hk, Bool.false_eq_true, if_false]

/-- What a corrected word's scrub leaves beside the registers: the counters and the watch list. -/
theorem State.scrubbed_frame {s : State} {p a : Nat} (x : Nat) (hh : s.isHard p a = false) (hw : s.watched p a = false)
    (hl : s.rd p R.common_LEVEL < s.rd p R.common_CAPACITY) :
    ((s.correction p a x).count P.eic 0x060).watch p a =
      { s with regs := (((s.correction p a x).count P.eic 0x060).watch p a).regs
               ctrs := (((s.correction p a x).count P.eic 0x060).watch p a).ctrs
               integ := { s.integ with watch := (((s.correction p a x).count P.eic 0x060).watch p a).integ.watch } } := by
  have hcount : (s.correction p a x).count P.eic 0x060 =
      { s with regs := (s.correction p a x).regs, ctrs := ((s.correction p a x).count P.eic 0x060).ctrs } :=
    (State.count_frame _ _ _).trans (congrArg (fun u : State => { u with ctrs := ((s.correction p a x).count P.eic 0x060).ctrs })
      (State.correction_poured_frame x hh hw hl))
  generalize ((s.correction p a x).count P.eic 0x060) = u at hcount ⊢
  have hregs : (u.watch p a).regs = (s.correction p a x).regs := by rw [State.watch_frame, hcount]
  rw [hregs]
  exact (State.watch_frame u p a).trans (congrArg (fun v : State => { v with
    ctrs := (u.watch p a).ctrs, integ := { v.integ with watch := (u.watch p a).integ.watch } }) hcount)

theorem scrubRead_corrected_does {s : State} {w : MemWord} (hs : s.scrubs = true) (hk : s.knownBad w.page w.addr = false) (x : Nat)
    (hh : s.isHard w.page w.addr = false) (hw : s.watched w.page w.addr = false)
    (hl : s.rd w.page R.common_LEVEL < s.rd w.page R.common_CAPACITY) (hv : s.rd P.eic R.eic_CE_VALID = 0) :
    Does (.scrubRead w (.corrected x) false) s fun t =>
      t.rd w.page R.common_LEVEL = (s.rd w.page R.common_LEVEL + 1) % 256 ∧ t.rd P.eic R.eic_CE_VALID = 1 ∧
        t.rd P.eic R.eic_CE_PAGE = w.page % 256 ∧ t.rd P.eic R.eic_CE_SYN = x % 2 ^ 32 ∧ t.rd P.eic R.eic_CE_ADDR_LO = w.addr % 2 ^ 32 ∧
        ((Tbl.at? t.integ.watch w.page).getD []).getLast? = some (w.addr, s.passOf w.page) ∧
        t = { s with regs := t.regs, ctrs := t.ctrs, integ := { s.integ with watch := t.integ.watch } } := by
  have hi := State.correction_poured_integ x hh hw hl
  have hrd (q : Nat) (g : Fld) : (((s.correction w.page w.addr x).count P.eic 0x060).watch w.page w.addr).rd q g =
      (s.correction w.page w.addr x).rd q g := by
    rw [State.rd_watch, State.rd_count]
  have hcap := State.captureCe_fields (s := s.count P.eic 0x040) ((State.rd_count ..).trans hv) w.page w.addr x
  have hlow (g : Fld) (hg : R.common_LEVEL.off < 4096 ∧ g.off < 4096 ∧ R.common_LEVEL.lo < 32 ∧ g.lo < 32 ∧ R.common_LEVEL.off ≠ g.off) :
      (s.correction w.page w.addr x).rd P.eic g = ((s.count P.eic 0x040).captureCe w.page w.addr x).rd P.eic g := by
    rw [State.correction_poured x hh hw hl]
    exact State.rd_wr_off _ _ hg
  obtain ⟨hvalid, hpage, hsyn, haddr⟩ := hcap
  refine ⟨_, exec_scrubRead_corrected hs hk x, ?_, ?_, ?_, ?_, ?_, ?_, State.scrubbed_frame x hh hw hl⟩
  · rw [hrd, State.correction_poured x hh hw hl]
    exact State.rd_wr_same ..
  · rw [hrd, hlow _ (by decide), hvalid]
  · rw [hrd, hlow _ (by decide), hpage]
  · rw [hrd, hlow _ (by decide), hsyn]
  · rw [hrd, hlow _ (by decide), haddr]
  · rw [State.watch_last, State.passOf_congr (by simpa using hi)]

/-! ### Uncorrectable words (R407, R409) -/

theorem RegFrame.captureUe {s t : State} (h : RegFrame s t) (p a x : Nat) : RegFrame s (t.captureUe p a x) := by
  unfold State.captureUe
  split
  · exact h
  · exact (((((h.wr _ _ _).wr _ _ _).wr _ _ _).wr _ _ _).wr _ _ _).raise _ _

theorem RegFrame.noteUe {s t : State} (h : RegFrame s t) (p a x : Nat) : RegFrame s (t.noteUe p a x) := (h.count _ _).captureUe _ _ _

/-- An uncorrectable word counted and captured, with the EIC's error. -/
theorem RegFrame.badWord (s : State) (p a x : Nat) : RegFrame s ((s.noteUe p a x).err P.eic 0x03 p a) :=
  ((RegFrame.refl s).noteUe p a x).err _ _ _ _

/-! ### DEVSTATE is left alone -/

theorem State.dev_wr (s : State) (p : Nat) {f : Fld} (v : Nat) (h : f.off < 4096 ∧ f.lo < 32 ∧ f.off ≠ 0x120) :
    (s.wr p f v).dev = s.dev := by
  obtain ⟨hoff, hlo, hne⟩ := h
  exact State.rd_wr_off s v ⟨hoff, by decide, hlo, by decide, hne⟩

@[simp] theorem State.dev_count (s : State) (p o : Nat) : (s.count p o).dev = s.dev := State.rd_count ..

@[simp] theorem State.dev_raise (s : State) (p b : Nat) : (s.raise p b).dev = s.dev :=
  State.rd_raise_ne s b (fkey_ne_of_off (by decide))

@[simp] theorem State.dev_err (s : State) (p code info addr : Nat) : (s.err p code info addr).dev = s.dev := by
  unfold State.err
  split
  · rw [State.dev_wr _ _ _ (by decide), State.dev_wr _ _ _ (by decide), State.dev_wr _ _ _ (by decide), State.dev_wr _ _ _ (by decide)]
  · rw [State.dev_wr _ _ _ (by decide)]

@[simp] theorem State.dev_captureUe (s : State) (p a x : Nat) : (s.captureUe p a x).dev = s.dev := by
  unfold State.captureUe
  split
  · rfl
  · rw [State.dev_raise, State.dev_wr _ _ _ (by decide), State.dev_wr _ _ _ (by decide), State.dev_wr _ _ _ (by decide),
      State.dev_wr _ _ _ (by decide), State.dev_wr _ _ _ (by decide)]

theorem State.dev_badWord (s : State) (p a x : Nat) : ((s.noteUe p a x).err P.eic 0x03 p a).dev = s.dev := by
  simp [State.noteUe]

/-! ### Scrub of an uncorrectable word, and its passes (R409, R415) -/

/-- A word recorded as uncorrectable, once. -/
def State.noteBad (s : State) (e : Nat × Nat) : State :=
  s.whenB (!s.integ.bad.contains e) fun s => { s with integ := { s.integ with bad := s.integ.bad ++ [e] } }

theorem State.noteBad_contains (s : State) (e : Nat × Nat) : (s.noteBad e).integ.bad.contains e = true := by
  cases h : s.integ.bad.contains e
  · rw [State.noteBad, State.whenB_true (by rw [h]; rfl)]
    simp
  · rw [State.noteBad, State.whenB_false (by rw [h]; rfl), h]

theorem State.noteBad_frame (s : State) (e : Nat × Nat) : s.noteBad e = { s with integ := (s.noteBad e).integ } := by
  unfold State.noteBad State.whenB
  split <;> rfl

theorem exec_scrubRead_uncorrectable {s : State} (hs : s.scrubs = true) (w : MemWord) (x : Nat) (b : Bool) :
    exec (.scrubRead w (.uncorrectable x) b) s = .next (if w.control = true then (s.noteUe w.page w.addr x).ueFault w.page w.addr
      else (((s.noteUe w.page w.addr x).err P.eic 0x03 w.page w.addr).noteBad (w.page, w.addr))) :=
  congrArg Host.Outcome.next (State.whenB_true hs _)

theorem scrubRead_uncorrectable_does {s : State} (hs : s.scrubs = true) {w : MemWord} (hc : w.control = false) (x : Nat) (b : Bool) :
    Does (.scrubRead w (.uncorrectable x) b) s fun t =>
      t.integ.bad.contains (w.page, w.addr) = true ∧ t.mem = s.mem ∧ t.dev = s.dev ∧
        t = { s with regs := t.regs, ctrs := t.ctrs, outbox := t.outbox, integ := t.integ } := by
  have hexec : exec (.scrubRead w (.uncorrectable x) b) s =
      .next (((s.noteUe w.page w.addr x).err P.eic 0x03 w.page w.addr).noteBad (w.page, w.addr)) := by
    rw [exec_scrubRead_uncorrectable hs, if_neg (by simp [hc])]
  have hbad := RegFrame.badWord s w.page w.addr x
  have hdev := State.dev_badWord s w.page w.addr x
  generalize (s.noteUe w.page w.addr x).err P.eic 0x03 w.page w.addr = u at hexec hbad hdev
  have hnote := State.noteBad_frame u (w.page, w.addr)
  have hframe : u.noteBad (w.page, w.addr) = { s with
      regs := u.regs, ctrs := u.ctrs, outbox := u.outbox, integ := (u.noteBad (w.page, w.addr)).integ } :=
    hnote.trans (congrArg (fun v : State => { v with integ := (u.noteBad (w.page, w.addr)).integ }) hbad)
  have hregs : (u.noteBad (w.page, w.addr)).regs = u.regs := by rw [hnote]
  have hctrs : (u.noteBad (w.page, w.addr)).ctrs = u.ctrs := by rw [hnote]
  have hout : (u.noteBad (w.page, w.addr)).outbox = u.outbox := by rw [hnote]
  refine ⟨_, hexec, u.noteBad_contains _, ?_, ?_, ?_⟩
  · rw [hframe]
  · rw [hnote]
    exact hdev
  · rw [hregs, hctrs, hout]
    exact hframe

/-- The state after a scrub pass has been counted. -/
def State.countPass (s : State) (d : Bool) : State :=
  if d then { s with integ := { s.integ with dramPass := s.integ.dramPass + 1 } }.count P.eic 0x080
  else { s with integ := { s.integ with sramPass := s.integ.sramPass + 1 } }.count P.eic 0x078

theorem State.countPass_integ (s : State) (d : Bool) : (s.countPass d).integ = { s.integ with
    dramPass := s.integ.dramPass + (if d = true then 1 else 0), sramPass := s.integ.sramPass + (if d = true then 0 else 1) } := by
  cases d <;> simp [State.countPass]

theorem State.countPass_frame (s : State) (d : Bool) :
    s.countPass d = { s with ctrs := (s.countPass d).ctrs, integ := (s.countPass d).integ } := by
  cases d
  · rw [State.countPass_integ]
    exact State.count_frame _ _ _
  · rw [State.countPass_integ]
    exact State.count_frame _ _ _

theorem exec_scrubPassTimer {s : State} (hs : s.scrubs = true) (d f : Bool) :
    exec (.scrubPassTimer d f) s =
      .next (if f = true then s.countPass d else ((s.countPass d).flag P.eic R.eic_SCRUB_LATE).raise P.eic 4) :=
  congrArg Host.Outcome.next (State.whenB_true hs _)

theorem scrubPassTimer_finished {s : State} (hs : s.scrubs = true) (d : Bool) : Does (.scrubPassTimer d true) s fun t =>
    t.integ.dramPass = s.integ.dramPass + (if d = true then 1 else 0) ∧ t.integ.sramPass = s.integ.sramPass + (if d = true then 0 else 1) ∧
      t = { s with ctrs := t.ctrs, integ := t.integ } := by
  refine ⟨_, (exec_scrubPassTimer hs d true).trans (congrArg Host.Outcome.next (if_pos rfl)), ?_, ?_, s.countPass_frame d⟩
  · rw [State.countPass_integ]
  · rw [State.countPass_integ]

theorem scrubPassTimer_late {s : State} (hs : s.scrubs = true) (d : Bool) : Does (.scrubPassTimer d false) s fun t =>
    t.rd P.eic R.eic_SCRUB_LATE = 1 ∧ (t.rd P.eic R.common_INT_RAW).testBit 4 = true ∧
      t = { s with regs := t.regs, ctrs := t.ctrs, integ := t.integ, outbox := t.outbox } := by
  refine ⟨_, (exec_scrubPassTimer hs d false).trans (congrArg Host.Outcome.next (if_neg (by decide))), ?_,
    State.testBit_raise _ _ (by decide), ?_⟩
  · rw [State.rd_raise_ne _ _ (by decide)]
    exact State.rd_wr_same ..
  · have hraise := State.raise_frame ((s.countPass d).flag P.eic R.eic_SCRUB_LATE) P.eic 4
    rw [State.raise_ctrs, State.raise_integ]
    refine hraise.trans ?_
    exact congrArg (fun u : State => { u with
      regs := (((s.countPass d).flag P.eic R.eic_SCRUB_LATE).raise P.eic 4).regs
      outbox := (((s.countPass d).flag P.eic R.eic_SCRUB_LATE).raise P.eic 4).outbox }) (s.countPass_frame d)

/-! ### The obligation -/

/-- Settles O37: each clause is the lemma above about its command. -/
theorem stagingAndIntegrity : Obligations.StagingAndIntegrity := by
  unfold Obligations.StagingAndIntegrity
  intro s
  refine ⟨fun c v h hw hs => stgMinWrite_does h hw hs, fun c v h hs => stgMinWrite_refused h hs,
    fun ag c v hag h => exec_stgMinWrite_other hag h c v,
    fun c p x hu => ⟨stagingAllocRequest_served hu x, exec_stagingAllocRequest_waits hu x⟩,
    fun p ha hp => ⟨_, exec_ceLeakPeriod ha hp, State.rd_wr_same .., rfl, (SameRegs.refl s _).wr (by simp) _⟩,
    fun p a x ha hp hh hw hv => ceLeakPeriod_cancelled x ha hp hh hw hv, fun ag h => capClr_does h,
    fun w hs hk => ⟨exec_scrubRead_correct hs hk, fun x hh hw hl hv => scrubRead_corrected_does hs hk x hh hw hl hv⟩,
    fun w x b hs hc => scrubRead_uncorrectable_does hs hc x b,
    fun w x b hs hc => (exec_scrubRead_uncorrectable hs w x b).trans (congrArg Host.Outcome.next (if_pos hc)),
    fun d hs => scrubPassTimer_finished hs d, fun d hs => scrubPassTimer_late hs d⟩

end Sys2Proof.Machine
end

section
/-!
PROOFS. NVMe data commands: the checks of a block range, reads, writes, copies (R14, R35, R85, R86, R98, R115, R350, R353, R354, R357).
-/

namespace Sys2Proof.Machine

/-! ### What the fetch of a command leaves -/

theorem State.fetched_frame (s : State) (h : Hdr) :
    s.fetched h = { s with nvme := { s.nvme with sqs := (s.fetched h).nvme.sqs }, regs := (s.fetched h).regs } := by
  unfold State.fetched State.sqAdvance
  split <;> rfl

@[simp] theorem State.fetched_mem (s : State) (h : Hdr) : (s.fetched h).mem = s.mem := by rw [State.fetched_frame]
@[simp] theorem State.fetched_nor (s : State) (h : Hdr) : (s.fetched h).nor = s.nor := by rw [State.fetched_frame]
@[simp] theorem State.fetched_outbox (s : State) (h : Hdr) : (s.fetched h).outbox = s.outbox := by rw [State.fetched_frame]
@[simp] theorem State.fetched_trust (s : State) (h : Hdr) : (s.fetched h).trust = s.trust := by rw [State.fetched_frame]
@[simp] theorem State.fetched_integ (s : State) (h : Hdr) : (s.fetched h).integ = s.integ := by rw [State.fetched_frame]
@[simp] theorem State.fetched_seam (s : State) (h : Hdr) : (s.fetched h).seam = s.seam := by rw [State.fetched_frame]
@[simp] theorem State.fetched_nand (s : State) (h : Hdr) : (s.fetched h).nand = s.nand := by rw [State.fetched_frame]
@[simp] theorem State.fetched_spool (s : State) (h : Hdr) : (s.fetched h).spool = s.spool := by rw [State.fetched_frame]
@[simp] theorem State.fetched_net (s : State) (h : Hdr) : (s.fetched h).net = s.net := by rw [State.fetched_frame]
@[simp] theorem State.fetched_panels (s : State) (h : Hdr) : (s.fetched h).panels = s.panels := by rw [State.fetched_frame]
@[simp] theorem State.fetched_ns (s : State) (h : Hdr) : (s.fetched h).nvme.ns = s.nvme.ns := by rw [State.fetched_frame]
@[simp] theorem State.fetched_progs (s : State) (h : Hdr) : (s.fetched h).nvme.progs = s.nvme.progs := by rw [State.fetched_frame]
@[simp] theorem State.fetched_profiles (s : State) (h : Hdr) : (s.fetched h).nvme.profiles = s.nvme.profiles := by
  rw [State.fetched_frame]

/-- A fetch changes no field but FETCH_PAUSED. -/
theorem State.rd_fetched (s : State) (h : Hdr) {q : Nat} {f : Fld} (hne : fkey P.nvm R.nvm_FETCH_PAUSED 0 ≠ fkey q f 0) :
    (s.fetched h).rd q f = s.rd q f := by
  refine (State.rd_wr_ne _ _ hne).trans (State.rdI_congr ?_ ?_ q f 0) <;> unfold State.sqAdvance <;> split <;> rfl

@[simp] theorem State.fetched_mode (s : State) (h : Hdr) (b : Nat) : (s.fetched h).mode b = s.mode b := by
  rw [State.mode, State.rd_fetched _ _ (by decide), State.mode]

@[simp] theorem State.fetched_onAdmin (s : State) (h : Hdr) : (s.fetched h).onAdmin h = s.onAdmin h := by
  simp [State.onAdmin]

@[simp] theorem State.fetched_panelOf (s : State) (h : Hdr) (p : Nat) : (s.fetched h).panelOf p = s.panelOf p := by
  simp [State.panelOf]

@[simp] theorem State.fetched_profileOf (s : State) (h : Hdr) (n : Ns) : (s.fetched h).profileOf n = s.profileOf n := by
  simp [State.profileOf]

@[simp] theorem State.fetched_keyOpen (s : State) (h : Hdr) (n : Nat) : (s.fetched h).keyOpen n = s.keyOpen n := by
  simp [State.keyOpen]

@[simp] theorem State.fetched_hemTouched (s : State) (h : Hdr) (ns off len : Nat) :
    (s.fetched h).hemTouched ns off len = s.hemTouched ns off len := by
  simp [State.hemTouched, State.touchesHem]

@[simp] theorem State.fetched_readOnly (s : State) (h : Hdr) :
    (s.fetched h).rd P.recl R.recl_READONLY = s.rd P.recl R.recl_READONLY := State.rd_fetched _ _ (by decide)

@[simp] theorem State.fetched_slmOf (s : State) (h : Hdr) (p : Nat) : (s.fetched h).slmOf p = s.slmOf p := by
  simp [State.slmOf]

@[simp] theorem State.fetched_touchesImage (s : State) (h : Hdr) (p off len : Nat) :
    (s.fetched h).touchesImage p off len = s.touchesImage p off len := by
  simp [State.touchesImage]

@[simp] theorem State.fetched_poison (s : State) (h : Hdr) (a n : Nat) : (s.fetched h).poison a n = s.poison a n := by
  simp [State.poison]

/-! ### A command fetched, on its namespace, checked -/

theorem State.fetch_ready {s : State} {h : Hdr} {p : Nat} (hf : Fetches s h p) (f : Nat → State → State) :
    s.fetch h f = f p (s.fetched h) := by
  obtain ⟨hp, hr, hup, hpf, hcl, hroom, hfree⟩ := hf
  have hopen : p ∉ s.panels.closed := by simpa using hcl
  simp [State.fetch, hp, State.wakeBy_run (.inl hr), hr, hup, hpf, hopen, hroom, hfree, State.fetched]

/-- An I/O command that is fetched and reaches its namespace. -/
theorem State.ioCmd_onNs {s : State} {h : Hdr} {p : Nat} {n : Ns} (hf : Fetches s h p) (ha : s.onAdmin h = false) (hn : OnNs s h p n)
    (f : Nat → Ns → State → State) : (s.ioCmd h fun p s => s.onNs h p (f p)) = f p n (s.fetched h) := by
  obtain ⟨hns, hid, hpan⟩ := hn
  rw [State.ioCmd, State.fetch_ready hf, State.fetched_onAdmin, ha]
  simp [State.onNs, hns, hid, hpan]

section
variable {s : State} {h : Hdr} {n : Ns} {a k limit : Nat} {far : Bool} (f : State → State)

/-- The length and the pointer of a data command are in order. -/
def LengthOk (n : Ns) (k limit : Nat) (far : Bool) : Prop := k ≠ 0 ∧ k * n.lbaBytes ≤ limit ∧ far = false

theorem State.checked_beyond (hl : LengthOk n k limit far) (hr : n.blocks < a + k) :
    s.checked h n a k limit far f = s.reply h St.lbaRange 0 0 := by
  obtain ⟨hk, hlim, hfar⟩ := hl
  rw [State.checked, if_neg (by simp [hk, hfar]; omega), if_pos hr]

theorem State.checked_locked (hl : LengthOk n k limit far) (hr : a + k ≤ n.blocks) (hkey : s.keyOpen (hdrNs h) = false) :
    s.checked h n a k limit far f = (s.keyRefused (hdrNs h)).reply h St.accessDenied 0 0 := by
  obtain ⟨hk, hlim, hfar⟩ := hl
  rw [State.checked, if_neg (by simp [hk, hfar]; omega), if_neg (by omega), if_pos (by simp [hkey])]

theorem State.checked_ok (hl : LengthOk n k limit far) (hr : a + k ≤ n.blocks) (hkey : s.keyOpen (hdrNs h) = true) :
    s.checked h n a k limit far f = f s := by
  obtain ⟨hk, hlim, hfar⟩ := hl
  rw [State.checked, if_neg (by simp [hk, hfar]; omega), if_neg (by omega), if_neg (by simp [hkey])]

theorem State.writable_hem {off len : Nat} (hh : s.hemTouched (hdrNs h) off len = true) :
    s.writable h off len f = s.reply h St.readOnlyRange 0 0 := if_pos hh

theorem State.writable_readOnly {off len : Nat} (hh : s.hemTouched (hdrNs h) off len = false) (hr : s.rd P.recl R.recl_READONLY ≠ 0) :
    s.writable h off len f = s.reply h St.writeProtected 0 0 := by
  rw [State.writable, if_neg (by simp [hh]), if_pos (by simpa [State.on] using hr)]

theorem State.writable_ok {off len : Nat} (hh : s.hemTouched (hdrNs h) off len = false) (hr : s.rd P.recl R.recl_READONLY = 0) :
    s.writable h off len f = f s := by
  rw [State.writable, if_neg (by simp [hh]), if_neg (by simp [State.on, hr])]

end

/-! ### The data commands as checks of a range -/

theorem mdts_le : mdts ≤ 65536 * 4096 := by decide

section
variable {s : State} {h : Hdr} {p : Nat} {n : Ns} (hf : Fetches s h p) (ha : s.onAdmin h = false) (hn : OnNs s h p n)
include hf ha hn

theorem exec_read_fetched (a k : Nat) (dp : DataPtr) : exec (.read h a k dp) s =
    .next ((s.fetched h).checked h n a k mdts (dpFar dp) fun u =>
      (u.addCmd h .read p dp (a * n.lbaBytes) (k * n.lbaBytes) (u.profileOf n)).readParts (cmdKey h) (hdrNs h) p (a * n.lbaBytes)
        (k * n.lbaBytes) 0) :=
  congrArg Host.Outcome.next (State.ioCmd_onNs hf ha hn _)

theorem exec_verify_fetched (a k : Nat) : exec (.verify h a k) s =
    .next ((s.fetched h).checked h n a k (65536 * 4096) false fun u =>
      (u.addCmd h .verify p (.segs []) (a * n.lbaBytes) (k * n.lbaBytes) (u.profileOf n)).readParts (cmdKey h) (hdrNs h) p
        (a * n.lbaBytes) (k * n.lbaBytes) 0) :=
  congrArg Host.Outcome.next (State.ioCmd_onNs hf ha hn _)

theorem exec_compare_fetched (a k : Nat) (dp : DataPtr) : ∃ f : State → State, exec (.compare h a k dp) s =
      .next ((s.fetched h).checked h n a k mdts (dpFar dp) f) ∧
    ∀ d, dp = .inline d → s.profileOf n = none → f (s.fetched h) =
      (((s.fetched h).addCmd h .compare p dp (a * n.lbaBytes) (k * n.lbaBytes) none).updCmd (cmdKey h) fun c =>
        { c with stored := fitTo (k * n.lbaBytes) d }).readParts (cmdKey h) (hdrNs h) p (a * n.lbaBytes) (k * n.lbaBytes) 0 := by
  refine ⟨_, congrArg Host.Outcome.next (State.ioCmd_onNs hf ha hn _), fun d hd hprof => ?_⟩
  subst hd
  simp only [State.fetched_profileOf, hprof, State.addCmd, Tbl.at?_put_same, State.fetchData, State.legacyData]

theorem exec_write_fetched (a k : Nat) (dp : DataPtr) : exec (.write h a k dp) s =
    .next ((s.fetched h).checked h n a k mdts (dpFar dp) fun u => u.writable h (a * n.lbaBytes) (k * n.lbaBytes) fun u =>
      let v := (unitParts (a * n.lbaBytes) (k * n.lbaBytes)).foldl (fun (v : State) _ => v.stgRequest ⟨.host, p, .write (cmdKey h)⟩)
        (u.addCmd h .write p dp (a * n.lbaBytes) (k * n.lbaBytes) (u.profileOf n))
      ({ v with seam := { v.seam with heldWrites := v.seam.heldWrites ++ [cmdKey h] } } : State).tryWrites) :=
  congrArg Host.Outcome.next (State.ioCmd_onNs hf ha hn _)

theorem exec_writeZeroes_fetched (a k : Nat) (z : Bool) : exec (.writeZeroes h a k z) s =
    .next ((s.fetched h).checked h n a k (65536 * 4096) false fun u =>
      if u.hemTouched (hdrNs h) (a * n.lbaBytes) (k * n.lbaBytes) then u.reply h St.readOnlyRange 0 0
      else if u.on P.recl R.recl_READONLY && !(z && u.wholeUnits (hdrNs h) (a * n.lbaBytes) (k * n.lbaBytes)) then
        u.reply h St.writeProtected 0 0
      else if z then u.underTok h p fun key v => v.dealloc (.host key) (hdrNs h) p (a * n.lbaBytes) (k * n.lbaBytes)
      else u.underTok h p fun key v => v.writeUnits key (hdrNs h) p (a * n.lbaBytes) (zeros (k * n.lbaBytes))) :=
  congrArg Host.Outcome.next (State.ioCmd_onNs hf ha hn _)

/-- Each command over a block range passes the same checks first. -/
theorem exec_dataCommand_checked {a k : Nat} {dp : DataPtr} (hk : k ≠ 0) (hlen : k * n.lbaBytes ≤ mdts) (hfar : dpFar dp = false)
    {ins : Instr} (hi : ins ∈ [Instr.read h a k dp, .write h a k dp, .compare h a k dp, .verify h a k, .writeZeroes h a k true]) :
    ∃ limit far f, LengthOk n k limit far ∧ exec ins s = .next ((s.fetched h).checked h n a k limit far f) := by
  have hshort : LengthOk n k mdts (dpFar dp) := ⟨hk, hlen, hfar⟩
  have hlong : LengthOk n k (65536 * 4096) false := ⟨hk, hlen.trans mdts_le, rfl⟩
  simp only [List.mem_cons, List.not_mem_nil, or_false] at hi
  rcases hi with rfl | rfl | rfl | rfl | rfl
  · exact ⟨_, _, _, hshort, exec_read_fetched hf ha hn a k dp⟩
  · exact ⟨_, _, _, hshort, exec_write_fetched hf ha hn a k dp⟩
  · obtain ⟨f, hex, -⟩ := exec_compare_fetched hf ha hn a k dp
    exact ⟨_, _, f, hshort, hex⟩
  · exact ⟨_, _, _, hlong, exec_verify_fetched hf ha hn a k⟩
  · exact ⟨_, _, _, hlong, exec_writeZeroes_fetched hf ha hn a k true⟩

/-! ### Refusals of a range (R98, R115, R353) -/

theorem exec_dataCommand_beyond {a k : Nat} {dp : DataPtr} (hk : k ≠ 0) (hlen : k * n.lbaBytes ≤ mdts) (hfar : dpFar dp = false)
    (hr : n.blocks < a + k) {ins : Instr}
    (hi : ins ∈ [Instr.read h a k dp, .write h a k dp, .compare h a k dp, .verify h a k, .writeZeroes h a k true]) :
    exec ins s = .next ((s.fetched h).reply h St.lbaRange 0 0) := by
  obtain ⟨limit, far, f, hok, hex⟩ := exec_dataCommand_checked hf ha hn hk hlen hfar hi
  rw [hex, State.checked_beyond f hok hr]

theorem exec_dataCommand_locked {a k : Nat} {dp : DataPtr} (hk : k ≠ 0) (hlen : k * n.lbaBytes ≤ mdts) (hfar : dpFar dp = false)
    (hr : a + k ≤ n.blocks) (hkey : s.keyOpen (hdrNs h) = false) {ins : Instr}
    (hi : ins ∈ [Instr.read h a k dp, .write h a k dp, .compare h a k dp, .verify h a k, .writeZeroes h a k true]) :
    exec ins s = .next (((s.fetched h).keyRefused (hdrNs h)).reply h St.accessDenied 0 0) := by
  obtain ⟨limit, far, f, hok, hex⟩ := exec_dataCommand_checked hf ha hn hk hlen hfar hi
  rw [hex, State.checked_locked f hok hr (by rw [State.fetched_keyOpen, hkey])]

/-! ### Reads, Compare and Verify carried out (R14, R353) -/

section
variable {a k : Nat} (hk : k ≠ 0) (hlen : k * n.lbaBytes ≤ mdts) (hr : a + k ≤ n.blocks) (hkey : s.keyOpen (hdrNs h) = true)
include hk hlen hr hkey

theorem exec_read_ok {dp : DataPtr} (hfar : dpFar dp = false) : exec (.read h a k dp) s =
    .next (((s.fetched h).addCmd h .read p dp (a * n.lbaBytes) (k * n.lbaBytes) ((s.fetched h).profileOf n)).readParts (cmdKey h)
      (hdrNs h) p (a * n.lbaBytes) (k * n.lbaBytes) 0) := by
  rw [exec_read_fetched hf ha hn, State.checked_ok _ ⟨hk, hlen, hfar⟩ hr (by rw [State.fetched_keyOpen, hkey])]

theorem exec_verify_ok : exec (.verify h a k) s =
    .next (((s.fetched h).addCmd h .verify p (.segs []) (a * n.lbaBytes) (k * n.lbaBytes) ((s.fetched h).profileOf n)).readParts
      (cmdKey h) (hdrNs h) p (a * n.lbaBytes) (k * n.lbaBytes) 0) := by
  rw [exec_verify_fetched hf ha hn, State.checked_ok _ ⟨hk, hlen.trans mdts_le, rfl⟩ hr (by rw [State.fetched_keyOpen, hkey])]

theorem exec_compare_ok {d : List Byte} (hprof : s.profileOf n = none) : exec (.compare h a k (.inline d)) s =
    .next ((((s.fetched h).addCmd h .compare p (.inline d) (a * n.lbaBytes) (k * n.lbaBytes) none).updCmd (cmdKey h) fun c =>
      { c with stored := fitTo (k * n.lbaBytes) d }).readParts (cmdKey h) (hdrNs h) p (a * n.lbaBytes) (k * n.lbaBytes) 0) := by
  obtain ⟨f, hex, hbody⟩ := exec_compare_fetched hf ha hn a k (.inline d)
  have hlength : LengthOk n k mdts (dpFar (.inline d)) := ⟨hk, hlen, rfl⟩
  rw [hex, State.checked_ok f hlength hr (by rw [State.fetched_keyOpen, hkey]), hbody d rfl hprof]

/-! ### Writes carried out and refused (R13, R85, R86, R98) -/

theorem exec_write_ok {dp : DataPtr} (hfar : dpFar dp = false) : exec (.write h a k dp) s =
    .next ((s.fetched h).writable h (a * n.lbaBytes) (k * n.lbaBytes) fun u =>
      let v := (unitParts (a * n.lbaBytes) (k * n.lbaBytes)).foldl (fun (v : State) _ => v.stgRequest ⟨.host, p, .write (cmdKey h)⟩)
        (u.addCmd h .write p dp (a * n.lbaBytes) (k * n.lbaBytes) (u.profileOf n))
      ({ v with seam := { v.seam with heldWrites := v.seam.heldWrites ++ [cmdKey h] } } : State).tryWrites) := by
  rw [exec_write_fetched hf ha hn, State.checked_ok _ ⟨hk, hlen, hfar⟩ hr (by rw [State.fetched_keyOpen, hkey])]

theorem exec_writeZeroes_ok (z : Bool) : exec (.writeZeroes h a k z) s =
    .next (if s.hemTouched (hdrNs h) (a * n.lbaBytes) (k * n.lbaBytes) then (s.fetched h).reply h St.readOnlyRange 0 0
      else if (s.fetched h).on P.recl R.recl_READONLY &&
          !(z && (s.fetched h).wholeUnits (hdrNs h) (a * n.lbaBytes) (k * n.lbaBytes)) then
        (s.fetched h).reply h St.writeProtected 0 0
      else if z then (s.fetched h).underTok h p fun key v => v.dealloc (.host key) (hdrNs h) p (a * n.lbaBytes) (k * n.lbaBytes)
      else (s.fetched h).underTok h p fun key v =>
        v.writeUnits key (hdrNs h) p (a * n.lbaBytes) (zeros (k * n.lbaBytes))) := by
  rw [exec_writeZeroes_fetched hf ha hn, State.checked_ok _ ⟨hk, hlen.trans mdts_le, rfl⟩ hr (by rw [State.fetched_keyOpen, hkey]),
    State.fetched_hemTouched]

theorem exec_writes_hem {dp : DataPtr} (hfar : dpFar dp = false)
    (hh : s.hemTouched (hdrNs h) (a * n.lbaBytes) (k * n.lbaBytes) = true) :
    exec (.write h a k dp) s = .next ((s.fetched h).reply h St.readOnlyRange 0 0) ∧
      ∀ z, exec (.writeZeroes h a k z) s = .next ((s.fetched h).reply h St.readOnlyRange 0 0) := by
  refine ⟨?_, fun z => ?_⟩
  · rw [exec_write_ok hf ha hn hk hlen hr hkey hfar, State.writable_hem _ (by rw [State.fetched_hemTouched, hh])]
  · rw [exec_writeZeroes_ok hf ha hn hk hlen hr hkey, if_pos hh]

theorem exec_writes_readOnly {dp : DataPtr} (hfar : dpFar dp = false)
    (hh : s.hemTouched (hdrNs h) (a * n.lbaBytes) (k * n.lbaBytes) = false) (hro : s.rd P.recl R.recl_READONLY ≠ 0) :
    exec (.write h a k dp) s = .next ((s.fetched h).reply h St.writeProtected 0 0) ∧
      exec (.writeZeroes h a k false) s = .next ((s.fetched h).reply h St.writeProtected 0 0) := by
  refine ⟨?_, ?_⟩
  · rw [exec_write_ok hf ha hn hk hlen hr hkey hfar, State.writable_readOnly _ (by rw [State.fetched_hemTouched, hh])
      (by rwa [State.fetched_readOnly])]
  · rw [exec_writeZeroes_ok hf ha hn hk hlen hr hkey, if_neg (by simp [hh]), if_pos (by simp [State.on, hro])]

theorem exec_write_held {dp : DataPtr} (hfar : dpFar dp = false)
    (hh : s.hemTouched (hdrNs h) (a * n.lbaBytes) (k * n.lbaBytes) = false) (hro : s.rd P.recl R.recl_READONLY = 0) {v : State}
    (hv : v = (unitParts (a * n.lbaBytes) (k * n.lbaBytes)).foldl (fun (v : State) _ => v.stgRequest ⟨.host, p, .write (cmdKey h)⟩)
      ((s.fetched h).addCmd h .write p dp (a * n.lbaBytes) (k * n.lbaBytes) ((s.fetched h).profileOf n))) :
    exec (.write h a k dp) s =
      .next ({ v with seam := { v.seam with heldWrites := v.seam.heldWrites ++ [cmdKey h] } } : State).tryWrites := by
  rw [exec_write_ok hf ha hn hk hlen hr hkey hfar, State.writable_ok _ (by rw [State.fetched_hemTouched, hh])
    (by rwa [State.fetched_readOnly]), hv]

theorem exec_writeZeroes_done (hh : s.hemTouched (hdrNs h) (a * n.lbaBytes) (k * n.lbaBytes) = false)
    (hro : s.rd P.recl R.recl_READONLY = 0) :
    exec (.writeZeroes h a k false) s = .next ((s.fetched h).underTok h p fun key s =>
      s.writeUnits key (hdrNs h) p (a * n.lbaBytes) (zeros (k * n.lbaBytes))) ∧
    exec (.writeZeroes h a k true) s = .next ((s.fetched h).underTok h p fun key s =>
      s.dealloc (.host key) (hdrNs h) p (a * n.lbaBytes) (k * n.lbaBytes)) := by
  have hon : (s.fetched h).on P.recl R.recl_READONLY = false := by simp [State.on, hro]
  refine ⟨?_, ?_⟩ <;> rw [exec_writeZeroes_ok hf ha hn hk hlen hr hkey, if_neg (by simp [hh]), if_neg (by simp [hon])]
  · rw [if_neg (by decide)]
  · rw [if_pos rfl]

end

/-! ### Dataset Management and Copy (R86, R353) -/

theorem exec_datasetManagement {l : List (Nat × Nat)} (d : Bool) (hr : ∀ r ∈ l, r.1 + r.2 ≤ n.blocks)
    (hkey : s.keyOpen (hdrNs h) = true)
    (hh : ∀ r ∈ l, 0 < r.2 → s.hemTouched (hdrNs h) (r.1 * n.lbaBytes) (r.2 * n.lbaBytes) = false) :
    exec (.datasetManagement h l d) s = .next (if d = true then
      (s.fetched h).underTok h p (fun key s => l.foldl (fun s r =>
        s.dealloc (.host key) (hdrNs h) p (r.1 * n.lbaBytes) (r.2 * n.lbaBytes)) s)
      else (s.fetched h).reply h St.ok 0 0) := by
  have hrange : (l.any fun r => decide (n.blocks < r.1 + r.2)) = false := by
    simpa using fun a b hab => hr (a, b) hab
  have hhem : (l.any fun r => decide (0 < r.2) && (s.fetched h).hemTouched (hdrNs h) (r.1 * n.lbaBytes) (r.2 * n.lbaBytes)) = false := by
    simpa using fun a b hab hb => hh (a, b) hab hb
  refine congrArg Host.Outcome.next ((State.ioCmd_onNs hf ha hn _).trans ?_)
  simp only [hrange, hhem, State.fetched_keyOpen, hkey, Bool.not_true, Bool.false_eq_true, if_false]
  cases d <;> rfl

theorem exec_copy_ok {d : Nat} {l : List (Nat × Nat)} (hl : ∀ r ∈ l, r.2 ≠ 0 ∧ r.1 + r.2 ≤ n.blocks) (hne : l ≠ [])
    (hlen : (l.map (·.2)).sum * n.lbaBytes ≤ 65536 * 4096) (hd : d + (l.map (·.2)).sum ≤ n.blocks)
    (hkey : s.keyOpen (hdrNs h) = true)
    (hh : s.hemTouched (hdrNs h) (d * n.lbaBytes) ((l.map (·.2)).sum * n.lbaBytes) = false) (hro : s.rd P.recl R.recl_READONLY = 0) :
    exec (.copy h d l) s = .next ((l.foldl (fun (a : Nat × State) r =>
      (a.1 + r.2 * n.lbaBytes, a.2.readParts (cmdKey h) (hdrNs h) p (r.1 * n.lbaBytes) (r.2 * n.lbaBytes) a.1))
        (0, ((s.fetched h).addCmd h .copy p (.segs []) (d * n.lbaBytes) ((l.map (·.2)).sum * n.lbaBytes) none).updCmd (cmdKey h)
          fun c => { c with dest := d * n.lbaBytes, left := 1 })).2.readTok (cmdKey h)) := by
  have hranges : (l.any fun r => decide (r.2 = 0 ∨ n.blocks < r.1 + r.2)) = false := by
    simpa using fun a b hab => hl (a, b) hab
  have hsum : (l.map (·.2)).sum ≠ 0 := fun h0 => by
    obtain ⟨r, hr⟩ := List.exists_mem_of_ne_nil l hne
    exact (hl r hr).1 (List.sum_eq_zero_iff.1 h0 r.2 (List.mem_map_of_mem hr))
  refine congrArg Host.Outcome.next ((State.ioCmd_onNs hf ha hn _).trans ?_)
  simp only [hranges, Bool.false_eq_true, if_false]
  rw [State.checked_ok _ ⟨hsum, hlen, rfl⟩ hd (by rw [State.fetched_keyOpen, hkey]),
    State.writable_ok _ (by rw [State.fetched_hemTouched, hh]) (by rw [State.fetched_readOnly, hro])]

/-! ### Copies between a namespace and local memory (R360) -/

theorem exec_memoryCopy_fetched (off a k : Nat) (z : Bool) : exec (.memoryCopy { h with nsid := 0 } off h.nsid a k z) s =
    .next ((s.fetched h).checked h n a k (65536 * 4096) false fun u =>
      if (u.slmOf p).2 < off + k * n.lbaBytes then u.reply h St.lbaRange 0 0
      else if z then
        if u.touchesImage p off (k * n.lbaBytes) then u.reply h St.accessDenied 0 0
        else ((u.addCmd h .memCopy p (.segs []) (a * n.lbaBytes) (k * n.lbaBytes) none).updCmd (cmdKey h) fun c =>
          { c with dest := (u.slmOf p).1 + off }).readParts (cmdKey h) (hdrNs h) p (a * n.lbaBytes) (k * n.lbaBytes) 0
      else u.writable h (a * n.lbaBytes) (k * n.lbaBytes) fun v =>
        v.blockRead ((u.slmOf p).1 + off) (k * n.lbaBytes) fun d v =>
          v.underTok h p fun key v => v.writeUnits key (hdrNs h) p (a * n.lbaBytes) d) :=
  congrArg Host.Outcome.next (State.ioCmd_onNs hf ha hn _)

section
variable {off a k : Nat} (hk : k ≠ 0) (hlen : k * n.lbaBytes ≤ 65536 * 4096) (hr : a + k ≤ n.blocks)
  (hkey : s.keyOpen (hdrNs h) = true)
include hk hlen hr hkey

theorem exec_memoryCopy_ok (z : Bool) : exec (.memoryCopy { h with nsid := 0 } off h.nsid a k z) s =
    .next (if (s.slmOf p).2 < off + k * n.lbaBytes then (s.fetched h).reply h St.lbaRange 0 0
      else if z then
        if s.touchesImage p off (k * n.lbaBytes) then (s.fetched h).reply h St.accessDenied 0 0
        else (((s.fetched h).addCmd h .memCopy p (.segs []) (a * n.lbaBytes) (k * n.lbaBytes) none).updCmd (cmdKey h) fun c =>
          { c with dest := (s.slmOf p).1 + off }).readParts (cmdKey h) (hdrNs h) p (a * n.lbaBytes) (k * n.lbaBytes) 0
      else (s.fetched h).writable h (a * n.lbaBytes) (k * n.lbaBytes) fun v =>
        v.blockRead ((s.slmOf p).1 + off) (k * n.lbaBytes) fun d v =>
          v.underTok h p fun key v => v.writeUnits key (hdrNs h) p (a * n.lbaBytes) d) := by
  rw [exec_memoryCopy_fetched hf ha hn, State.checked_ok _ ⟨hk, hlen, rfl⟩ hr (by rw [State.fetched_keyOpen, hkey]),
    State.fetched_slmOf, State.fetched_touchesImage]

theorem exec_memoryCopy_beyond (hm : (s.slmOf p).2 < off + k * n.lbaBytes) (z : Bool) :
    exec (.memoryCopy { h with nsid := 0 } off h.nsid a k z) s = .next ((s.fetched h).reply h St.lbaRange 0 0) := by
  rw [exec_memoryCopy_ok hf ha hn hk hlen hr hkey, if_pos hm]

theorem exec_memoryCopy_image (hm : off + k * n.lbaBytes ≤ (s.slmOf p).2) (hi : s.touchesImage p off (k * n.lbaBytes) = true) :
    exec (.memoryCopy { h with nsid := 0 } off h.nsid a k true) s = .next ((s.fetched h).reply h St.accessDenied 0 0) := by
  rw [exec_memoryCopy_ok hf ha hn hk hlen hr hkey, if_neg (Nat.not_lt.2 hm), if_pos rfl, if_pos hi]

theorem exec_memoryCopy_toMemory (hm : off + k * n.lbaBytes ≤ (s.slmOf p).2) (hi : s.touchesImage p off (k * n.lbaBytes) = false) :
    exec (.memoryCopy { h with nsid := 0 } off h.nsid a k true) s =
      .next ((((s.fetched h).addCmd h .memCopy p (.segs []) (a * n.lbaBytes) (k * n.lbaBytes) none).updCmd (cmdKey h) fun c =>
        { c with dest := (s.slmOf p).1 + off }).readParts (cmdKey h) (hdrNs h) p (a * n.lbaBytes) (k * n.lbaBytes) 0) := by
  rw [exec_memoryCopy_ok hf ha hn hk hlen hr hkey, if_neg (Nat.not_lt.2 hm), if_pos rfl, if_neg (by simp [hi])]

theorem exec_memoryCopy_fromMemory (hm : off + k * n.lbaBytes ≤ (s.slmOf p).2)
    (hh : s.hemTouched (hdrNs h) (a * n.lbaBytes) (k * n.lbaBytes) = false) (hro : s.rd P.recl R.recl_READONLY = 0)
    (hp : s.poison ((s.slmOf p).1 + off) (k * n.lbaBytes) = none) :
    exec (.memoryCopy { h with nsid := 0 } off h.nsid a k false) s = .next ((s.fetched h).underTok h p fun key w =>
      w.writeUnits key (hdrNs h) p (a * n.lbaBytes) (memRead s.mem ((s.slmOf p).1 + off) (k * n.lbaBytes))) := by
  rw [exec_memoryCopy_ok hf ha hn hk hlen hr hkey, if_neg (Nat.not_lt.2 hm), if_neg (by decide),
    State.writable_ok _ (by rw [State.fetched_hemTouched, hh]) (by rw [State.fetched_readOnly, hro]), State.blockRead,
    State.fetched_poison, hp, State.fetched_mem]

end

end

/-! ### Staging buffers given up change the staging allocator alone -/

theorem State.stgGive_frame (s : State) (r : StgReq) : s.stgGive r = { s with stg := (s.stgGive r).stg } := by
  unfold State.stgGive
  split <;> rfl

theorem State.stgServe_frame (s : State) : s.stgServe = { s with stg := s.stgServe.stg } := by
  unfold State.stgServe
  split
  · rfl
  · exact State.stgGive_frame _ _

theorem State.stgRelease_frame (s : State) (n : Nat) : s.stgRelease n = { s with stg := (s.stgRelease n).stg } := by
  unfold State.stgRelease
  split
  · exact State.stgServe_frame _
  · rfl

theorem State.foldl_stgRelease_frame (l : List Nat) : ∀ s : State,
    l.foldl State.stgRelease s = { s with stg := (l.foldl State.stgRelease s).stg } := by
  induction l with
  | nil => intro s; rfl
  | cons n l ih =>
    intro s
    exact (ih (s.stgRelease n)).trans
      (congrArg (fun u : State => { u with stg := (l.foldl State.stgRelease (s.stgRelease n)).stg }) (s.stgRelease_frame n))

theorem State.stgDrop_frame (s : State) (t : StgTag) : s.stgDrop t = { s with stg := (s.stgDrop t).stg } :=
  State.foldl_stgRelease_frame _ _

/-! ### The end of a command over NVMe/TCP (R14, R371) -/

theorem State.reply_tcp {s : State} {h : Hdr} {c : Nat} (hs : h.src = .tcp c) (hc : Tbl.has s.net.conns c = true) (st a b : Nat) :
    s.reply h st a b = (s.count P.nvm 0x040).send (.tcpResp c h.cid st a b) := by
  simp only [State.reply, hs]
  exact State.whenB_true (by simpa using hc) _

/-- The state as a command ends: its record and its buffers gone. -/
def State.ended (s : State) (key : Nat) : State :=
  ({ s with nvme := { s.nvme with cmds := Tbl.del s.nvme.cmds key, aers := s.nvme.aers.filter (· ≠ key) } } : State).stgDrop (.write key)

theorem State.ended_frame (s : State) (key : Nat) :
    s.ended key = { s with nvme := (s.ended key).nvme, stg := (s.ended key).stg } := by
  have h := State.stgDrop_frame
    { s with nvme := { s.nvme with cmds := Tbl.del s.nvme.cmds key, aers := s.nvme.aers.filter (· ≠ key) } } (.write key)
  have hn : (s.ended key).nvme = { s.nvme with cmds := Tbl.del s.nvme.cmds key, aers := s.nvme.aers.filter (· ≠ key) } := by
    unfold State.ended
    rw [h]
  rw [hn]
  exact h

theorem State.finish_tcp {s : State} {key k : Nat} {c : Cmd} (hc : Tbl.at? s.nvme.cmds key = some c) (hl : c.silent = false)
    (hs : c.h.src = .tcp k) (hk : Tbl.has s.net.conns k = true) (st a b : Nat) :
    s.finish key st a b = ((s.ended key).count P.nvm 0x040).send (.tcpResp k c.h.cid st a b) := by
  have hconn : Tbl.has (s.ended key).net.conns k = true := by rw [State.ended_frame]; exact hk
  simp only [State.finish, hc, hl, Bool.false_eq_true, if_false]
  exact State.reply_tcp hs hconn st a b

/-! ### A range never written reads as zeros (R35) -/

/-- A byte range within one unit is one part. -/
theorem unitParts_single {off len : Nat} (hlen : 0 < len) (hu : off / unitBytes = (off + len - 1) / unitBytes) :
    unitParts off len = [(off / unitBytes, off - off / unitBytes * unitBytes, len)] := by
  have hpos : 0 < unitBytes := by decide
  have hlo : off / unitBytes * unitBytes ≤ off := Nat.div_mul_le_self off unitBytes
  have hhi : off + len ≤ (off / unitBytes + 1) * unitBytes := by
    have hlast : off + len - 1 < (off / unitBytes + 1) * unitBytes :=
      Nat.lt_mul_of_div_lt (by rw [← hu]; exact Nat.lt_succ_self _) hpos
    omega
  rw [unitParts, if_neg (Nat.ne_of_gt hlen), ← hu, Nat.sub_self]
  simp only [Nat.zero_add, List.range_one, List.map_cons, List.map_nil, Nat.add_zero]
  rw [max_eq_left hlo, min_eq_left hhi, Nat.add_sub_cancel_left]

theorem Cmd.whole_single {c : Cmd} {d : List Byte} (hp : c.pieces = [(0, d)]) (hd : d.length = c.len) : c.whole = d := by
  simp [Cmd.whole, overlay, hp, zeros, hd]

theorem State.at?_updCmd {s : State} {key : Nat} {c : Cmd} (hc : Tbl.at? s.nvme.cmds key = some c) (f : Cmd → Cmd) :
    Tbl.at? (s.updCmd key f).nvme.cmds key = some (f c) := by
  simp [State.updCmd, Tbl.at?_upd, hc]

theorem State.at?_addCmd (s : State) (h : Hdr) (op : CmdOp) (p : Nat) (dp : DataPtr) (off len : Nat) (legacy : Option (List Byte)) :
    Tbl.at? (s.addCmd h op p dp off len legacy).nvme.cmds (cmdKey h) = some
      { h := h, op := op, panel := p, dp := dp, start := off, len := len, pieces := [], left := 0, status := 0, rxd := [],
        item := none, legacy := legacy, silent := false, dest := 0, stored := [] } := Tbl.at?_put_same _ _ _

/-- The state once a Read over NVMe/TCP, its data at hand, has sent it and completed. -/
def State.answeredRead (s : State) (key k cid : Nat) (d : List Byte) : State :=
  (((s.send (.tcpData k cid d)).ended key).count P.nvm 0x040).send (.tcpResp k cid St.ok 0 0)

/-- The last piece of a Read over NVMe/TCP: the data goes out, then the completion. -/
theorem State.endRead_tcp {s : State} {key k : Nat} {c : Cmd} (hc : Tbl.at? s.nvme.cmds key = some c) (hop : c.op = .read)
    (hst : c.status = 0) (hleg : c.legacy = none) (hl : c.silent = false) (hs : c.h.src = .tcp k)
    (hk : Tbl.has s.net.conns k = true) : s.endRead key c = s.answeredRead key k c.h.cid c.whole := by
  have hdeliver : s.deliverData c c.whole = s.send (.tcpData k c.h.cid c.whole) := by
    unfold State.deliverData
    rw [hs]
    exact State.whenB_true hk _
  rw [State.endRead, if_neg (by simp [hst])]
  simp only [hop, State.legacyData, hleg, hdeliver]
  exact State.finish_tcp (s := s.send (.tcpData k c.h.cid c.whole)) hc hl hs hk _ _ _

/-- A Read of a range within one unit that is neither mapped nor on disk: its one piece is zeros. -/
theorem State.readParts_bare {s : State} {ns off len : Nat} (key p : Nat) (hlen : 0 < len)
    (hu : off / unitBytes = (off + len - 1) / unitBytes) (hun : eUnmapped (s.entry ns (off / unitBytes)) = true)
    (hd : s.onDisk ns (off / unitBytes) = none) :
    s.readParts key ns p off len 0 = (s.updCmd key fun c => { c with left := c.left + 1 }).gather key 0 (zeros len) := by
  have hlo : off / unitBytes * unitBytes ≤ off := Nat.div_mul_le_self off unitBytes
  have hat : 0 + off / unitBytes * unitBytes + (off - off / unitBytes * unitBytes) - off = 0 := by omega
  have hbare : (eUnmapped ((s.updCmd key fun c => { c with left := c.left + 1 }).entry ns (off / unitBytes)) &&
      ((s.updCmd key fun c => { c with left := c.left + 1 }).onDisk ns (off / unitBytes)).isNone) = true := by
    have he : (s.updCmd key fun c => { c with left := c.left + 1 }).entry ns (off / unitBytes) = s.entry ns (off / unitBytes) := rfl
    have ho : (s.updCmd key fun c => { c with left := c.left + 1 }).onDisk ns (off / unitBytes) = s.onDisk ns (off / unitBytes) := rfl
    rw [he, ho, hun, hd]
    rfl
  simp only [State.readParts, unitParts_single hlen hu, List.length_singleton, List.foldl_cons, List.foldl_nil, hbare, if_true, hat]

theorem State.answeredRead_kept (s : State) (key k cid : Nat) (d : List Byte) :
    (s.answeredRead key k cid d).outbox = s.outbox ++ [.tcpData k cid d, .tcpResp k cid St.ok 0 0] ∧
      (s.answeredRead key k cid d).mem = s.mem ∧ (s.answeredRead key k cid d).seam = s.seam ∧
      (s.answeredRead key k cid d).nand = s.nand ∧ (s.answeredRead key k cid d).nor = s.nor ∧
      (s.answeredRead key k cid d).spool = s.spool := by
  unfold State.answeredRead
  rw [State.ended_frame]
  simp [State.send]

/-- A command's one read part begun, and its data laid in. -/
def State.gathered (s : State) (key : Nat) (d : List Byte) : State :=
  (s.updCmd key fun c => { c with left := c.left + 1 }).updCmd key fun c => { c with pieces := c.pieces ++ [(0, d)] }

/-- The whole of a Read over NVMe/TCP of a range never written. -/
theorem State.readParts_zeros {s : State} {h : Hdr} {k ns p off len : Nat} {dp : DataPtr} (hs : h.src = .tcp k)
    (hk : Tbl.has s.net.conns k = true) (hlen : 0 < len) (hu : off / unitBytes = (off + len - 1) / unitBytes)
    (hun : eUnmapped (s.entry ns (off / unitBytes)) = true) (hd : s.onDisk ns (off / unitBytes) = none) :
    (s.addCmd h .read p dp off len none).readParts (cmdKey h) ns p off len 0 =
      ((s.addCmd h .read p dp off len none).gathered (cmdKey h) (zeros len)).answeredRead (cmdKey h) k h.cid (zeros len) := by
  have hcmd := State.at?_updCmd (State.at?_updCmd (s.at?_addCmd h .read p dp off len none) fun c => { c with left := c.left + 1 })
    fun c => { c with pieces := c.pieces ++ [(0, zeros len)] }
  refine (State.readParts_bare (s := s.addCmd h .read p dp off len none) (cmdKey h) p hlen hu hun hd).trans ?_
  simp only [State.gather, State.readTok, hcmd]
  rw [if_neg (by decide), if_neg (by decide), State.endRead_tcp hcmd rfl rfl rfl rfl hs hk, Cmd.whole_single rfl (by simp [zeros])]
  rfl

/-- A Read over NVMe/TCP of a range of one unit never written: zeros go out, then the completion; memory and the media stay. -/
theorem read_unwritten_does {s : State} {h : Hdr} {p : Nat} {n : Ns} (hf : Fetches s h p) (ha : s.onAdmin h = false)
    (hn : OnNs s h p n) {a k : Nat} {dp : DataPtr} (hk : k ≠ 0) (hlen : k * n.lbaBytes ≤ mdts) (hfar : dpFar dp = false)
    (hr : a + k ≤ n.blocks) (hkey : s.keyOpen (hdrNs h) = true) {c : Nat} (hs : h.src = .tcp c)
    (hc : Tbl.has s.net.conns c = true) (hleg : s.mode M.legacy = false)
    (hu : a * n.lbaBytes / unitBytes = (a * n.lbaBytes + k * n.lbaBytes - 1) / unitBytes)
    (hun : eUnmapped (s.entry (hdrNs h) (a * n.lbaBytes / unitBytes)) = true)
    (hd : s.onDisk (hdrNs h) (a * n.lbaBytes / unitBytes) = none) :
    Does (.read h a k dp) s fun t =>
      t.outbox = s.outbox ++ [.tcpData c h.cid (zeros (k * n.lbaBytes)), .tcpResp c h.cid St.ok 0 0] ∧ t.mem = s.mem ∧
        t.seam = s.seam ∧ t.nand = s.nand ∧ t.nor = s.nor ∧ t.spool = s.spool := by
  have hb : 0 < n.lbaBytes := by unfold Ns.lbaBytes; split <;> decide
  have hpos : 0 < k * n.lbaBytes := Nat.mul_pos (Nat.pos_of_ne_zero hk) hb
  have hprof : (s.fetched h).profileOf n = none := by simp [State.profileOf, hleg]
  have hunu : eUnmapped ((s.fetched h).entry (hdrNs h) (a * n.lbaBytes / unitBytes)) = true := by
    simpa [State.entry, State.mapWord] using hun
  have hdu : (s.fetched h).onDisk (hdrNs h) (a * n.lbaBytes / unitBytes) = none := by simpa [State.onDisk] using hd
  have hdone := State.readParts_zeros (s := s.fetched h) (p := p) (dp := dp) hs (by simpa using hc) hpos hu hunu hdu
  obtain ⟨hout, hmem, hseam, hnand, hnor, hspool⟩ :=
    State.answeredRead_kept (((s.fetched h).addCmd h .read p dp (a * n.lbaBytes) (k * n.lbaBytes) none).gathered (cmdKey h)
      (zeros (k * n.lbaBytes))) (cmdKey h) c h.cid (zeros (k * n.lbaBytes))
  refine ⟨_, (exec_read_ok hf ha hn hk hlen hr hkey hfar).trans (congrArg Host.Outcome.next ?_),
    hout.trans (congrArg (· ++ _) (s.fetched_outbox h)), hmem.trans (s.fetched_mem h), hseam.trans (s.fetched_seam h),
    hnand.trans (s.fetched_nand h), hnor.trans (s.fetched_nor h), hspool.trans (s.fetched_spool h)⟩
  rw [hprof, hdone]

/-! ### The obligation -/

/-- Settles O41: each clause is the lemma above about its command. -/
theorem nvmeData : Obligations.NvmeData := by
  unfold Obligations.NvmeData
  intro s h p n hf ha hn
  refine ⟨fun a k dp hk hlen hfar => ⟨fun hr ins hi => exec_dataCommand_beyond hf ha hn hk hlen hfar hr hi,
    fun hr hkey ins hi => exec_dataCommand_locked hf ha hn hk hlen hfar hr hkey hi,
    fun hr hkey => ⟨exec_read_ok hf ha hn hk hlen hr hkey hfar, exec_verify_ok hf ha hn hk hlen hr hkey, ?_,
      exec_writes_hem hf ha hn hk hlen hr hkey hfar, exec_writes_readOnly hf ha hn hk hlen hr hkey hfar,
      fun hh hro => ⟨fun v hv => exec_write_held hf ha hn hk hlen hr hkey hfar hh hro hv,
        exec_writeZeroes_done hf ha hn hk hlen hr hkey hh hro⟩,
      fun c hs hc hleg hu hun hd => read_unwritten_does hf ha hn hk hlen hfar hr hkey hs hc hleg hu hun hd⟩⟩,
    fun l d hr hkey hh => exec_datasetManagement hf ha hn d hr hkey hh,
    fun d l hl hne hlen hd hkey hh hro => exec_copy_ok hf ha hn hl hne hlen hd hkey hh hro, ?_, ?_⟩
  · rintro d rfl hprof
    exact exec_compare_ok hf ha hn hk hlen hr hkey hprof
  · rintro off a k g rfl hk hlen hr hkey hm z
    exact exec_memoryCopy_beyond hf ha hn hk hlen hr hkey hm z
  · rintro off a k g rfl hk hlen hr hkey hm
    exact ⟨exec_memoryCopy_image hf ha hn hk hlen hr hkey hm, exec_memoryCopy_toMemory hf ha hn hk hlen hr hkey hm,
      exec_memoryCopy_fromMemory hf ha hn hk hlen hr hkey hm⟩

end Sys2Proof.Machine
end

section
/-!
PROOFS. Reading, programming and erasing the NAND media (R11, R79 to R81, R114, R116 to R118, R121 to R124).
-/

namespace Sys2Proof.Machine

/-! ### The first sensing (R116) -/

theorem exec_nandSlotDecoded {s : State} {j n : Nat} {i : ReadJob} {x : ReadSlot} (hj : s.job? j = some i)
    (hx : (i.slots.find? fun y => y.idx = n ∧ y.st = .sensing) = some x) (hl : s.lunHeld (rowLunKey (locRow x.loc)) = false)
    (ok : Bool) (b : Nat) : exec (.nandSlotDecoded j n ok b) s = .next (
      if ok then ((((s.count (P.nfc (locCh x.loc)) 0x040).countN (P.nfc (locCh x.loc)) 0x048 b).updJob j fun j =>
        j.updSlot n fun x => { x with st := .done }).checkJob j)
      else if s.retries (locCh x.loc) = 0 then (s.slotSoft j x 3).checkJob j
      else s.updJob j fun j => j.updSlot n fun x => { x with st := .retry, step := 2 }) := by
  show execNandSlotDecoded j n ok b s = _
  simp only [execNandSlotDecoded, hj, hx, hl, Bool.false_eq_true, if_false]

/-! ### Retries (R116) -/

theorem State.retries_congr {s t : State} (hr : t.regs = s.regs) (hp : t.part = s.part) (ht : t.trust = s.trust) (ch : Nat) :
    t.retries ch = s.retries ch := by
  simp only [State.retries, State.nofs, ht, State.rd, State.rdI_congr hr hp]

/-- A further attempt of a read whose one slot failed. -/
theorem exec_readRetryAttempt {s : State} {j : Nat} {i : ReadJob} {x : ReadSlot} (hj : s.job? j = some i) (hs : i.slots = [x])
    (hx : x.st = .retry) (l : List Nat) :
    let v := (s.updJob j fun y => { y with retry := i.retry + 1 }).count (P.nfc (locCh x.loc)) 0x050
    exec (.readRetryAttempt j l) s = .next ((if l.contains x.idx then
        (v.updJob j fun y => y.updSlot x.idx fun z => { z with st := .done }).updRow (locRow x.loc) fun r =>
          { r with levels := i.retry + 1 }
      else if v.retries (locCh x.loc) ≤ i.retry + 1 then v.slotSoft j x 3 else v).checkJob j) := by
  intro v
  have hfail : ([x].filter fun y => y.st = .retry) = [x] := by simp [hx]
  have hnot : ([x].any fun y => decide (y.st = .sensing)) = false := by simp [hx]
  show execReadRetryAttempt j l s = _
  simp only [execReadRetryAttempt, hj, hs, hfail, hnot]
  rw [if_neg (by simp)]
  rfl

theorem State.retry_retries (s : State) (j : Nat) (f : ReadJob → ReadJob) (p o ch : Nat) :
    ((s.updJob j f).count p o).retries ch = s.retries ch :=
  State.retries_congr (State.count_regs ..) (State.count_part ..) (State.count_trust ..) ch

/-! ### Soft jobs and the deep decoders (R117, R118) -/

/-- The queue of a deep decoder replaced. -/
def State.putLdd (s : State) (d : Nat) (q : List SoftJob) : State :=
  { s with nand := { s.nand with soft := Tbl.put s.nand.soft d q } }

theorem State.lddQueue_putLdd (s : State) (d e : Nat) (q : List SoftJob) :
    (s.putLdd d q).lddQueue e = if d = e then q else s.lddQueue e := by
  simp only [State.lddQueue, State.putLdd, Tbl.at?_put]
  split <;> rfl

theorem State.row_updRow (s : State) (r : Nat) (f : Row → Row) : (s.updRow r f).row r = f (s.row r) := by
  simp [State.updRow, State.row]

theorem exec_softJobSubmit {s : State} {j n d : Nat} {i : ReadJob} {x : ReadSlot} (hj : s.job? j = some i)
    (hx : (i.slots.find? fun y => y.idx = n ∧ y.st = .softWait) = some x)
    (hd : leastBy (fun d => (s.lddQueue d).length) (s.ldds.filter fun d => (s.lddQueue d).length < 16) = some d) :
    exec (.softJobSubmit j n) s =
      .next ((((s.putLdd d (s.lddQueue d ++ [⟨locCh x.loc, j, n, if x.step = 3 then 2 else 3⟩])).updJob j fun j =>
        j.updSlot n fun x => { x with st := .softJob d }).count (P.nfc (locCh x.loc)) 0x058).updRow (locRow x.loc) fun r =>
          { r with softAt := some s.rtcUs }) := by
  show execSoftJobSubmit j n s = _
  simp only [execSoftJobSubmit, hj, hx, hd, State.count_rtcUs]
  rfl

theorem softJobSubmit_does {s : State} {j n d : Nat} {i : ReadJob} {x : ReadSlot} (hj : s.job? j = some i)
    (hx : (i.slots.find? fun y => y.idx = n ∧ y.st = .softWait) = some x)
    (hd : leastBy (fun d => (s.lddQueue d).length) (s.ldds.filter fun d => (s.lddQueue d).length < 16) = some d) :
    Does (.softJobSubmit j n) s fun t =>
      t.lddQueue d = s.lddQueue d ++ [⟨locCh x.loc, j, n, if x.step = 3 then 2 else 3⟩] ∧
        (∀ e, e ≠ d → t.lddQueue e = s.lddQueue e) ∧ (t.row (locRow x.loc)).softAt = some s.rtcUs ∧
        t = { s with nand := { s.nand with soft := t.nand.soft }, seam := t.seam, ctrs := t.ctrs } := by
  have hq (v : State) (f : ReadJob → ReadJob) (p r e : Nat) (g : Row → Row) :
      (((v.updJob j f).count p 0x058).updRow r g).lddQueue e = v.lddQueue e :=
    congrArg (fun t : Nand => (Tbl.at? t.soft e).getD []) (State.count_nand (v.updJob j f) p 0x058)
  refine ⟨_, exec_softJobSubmit hj hx hd, ?_, fun e he => ?_, ?_, ?_⟩
  · rw [hq, State.lddQueue_putLdd, if_pos rfl]
  · rw [hq, State.lddQueue_putLdd, if_neg (Ne.symm he)]
  · rw [State.row_updRow]
  · rw [State.count_frame]
    rfl

/-- The state as the first job of a deep decoder leaves its queue. -/
def State.lddTaken (s : State) (d : Nat) (q : SoftJob) (r : List SoftJob) : State :=
  ((s.putLdd d r).count (P.ldd d) (if q.bits = 2 then 0x040 else 0x048)).wr (P.ldd d) R.ldd_LAST_CH q.ch

/-- A failed soft job goes on from a state that has reported it. -/
def State.softFailed (s : State) (d : Nat) (q : SoftJob) (x : ReadSlot) : State :=
  ((s.count (P.ldd d) 0x050).err (P.ldd d) 0x01 q.ch (x.loc * 128)).raise (P.ldd d) 0

theorem State.lddTaken_queue (s : State) (d : Nat) (q : SoftJob) (r : List SoftJob) : (s.lddTaken d q r).lddQueue d = r := by
  have hnand : (s.lddTaken d q r).nand = (s.putLdd d r).nand := by simp [State.lddTaken]
  rw [State.lddQueue, hnand]
  exact (State.lddQueue_putLdd s d d r).trans (if_pos rfl)

theorem State.lddTaken_seam (s : State) (d : Nat) (q : SoftJob) (r : List SoftJob) : (s.lddTaken d q r).seam = s.seam := by
  simp [State.lddTaken, State.putLdd]

theorem exec_lddJobComplete {s : State} {d : Nat} {q : SoftJob} {r : List SoftJob} {i : ReadJob} {x : ReadSlot}
    (hq : s.lddQueue d = q :: r) (hj : s.job? q.job = some i) (hx : (i.slots.find? fun y => y.idx = q.idx) = some x) (ok : Bool) :
    exec (.lddJobComplete d ok) s = .next (if ok then
        ((s.lddTaken d q r).updJob q.job fun y => y.updSlot q.idx fun z => { z with st := .done }).checkJob q.job
      else (((s.lddTaken d q r).softFailed d q x).slotSoft q.job x (x.step + 1)).checkJob q.job) := by
  have hslot : ((s.lddTaken d q r).job? q.job).bind (fun j => j.slots.find? fun y => y.idx = q.idx) = some x := by
    have hjob : (s.lddTaken d q r).job? q.job = some i := by
      rw [State.job?, State.lddTaken_seam]
      exact hj
    rw [hjob]
    exact hx
  show execLddJobComplete d ok s = _
  simp only [execLddJobComplete, hq]
  simp only [State.lddTaken, State.putLdd, State.softFailed] at hslot ⊢
  rw [hslot]

theorem lddJobComplete_does {s : State} {d : Nat} {q : SoftJob} {r : List SoftJob} {i : ReadJob} {x : ReadSlot}
    (hq : s.lddQueue d = q :: r) (hj : s.job? q.job = some i) (hx : (i.slots.find? fun y => y.idx = q.idx) = some x) : ∃ v : State,
    v.lddQueue d = r ∧ v.rd (P.ldd d) R.ldd_LAST_CH = q.ch % 32 ∧ v.seam = s.seam ∧
      exec (.lddJobComplete d true) s =
        .next ((v.updJob q.job fun y => y.updSlot q.idx fun z => { z with st := .done }).checkJob q.job) ∧
      ∃ w : State, exec (.lddJobComplete d false) s = .next ((w.slotSoft q.job x (x.step + 1)).checkJob q.job) ∧ w.seam = s.seam ∧
        (w.rd (P.ldd d) R.common_INT_RAW).testBit 0 = true := by
  refine ⟨s.lddTaken d q r, s.lddTaken_queue d q r, State.rd_wr_same .., s.lddTaken_seam d q r,
    (exec_lddJobComplete hq hj hx true).trans (congrArg Host.Outcome.next (if_pos rfl)), (s.lddTaken d q r).softFailed d q x,
    (exec_lddJobComplete hq hj hx false).trans (congrArg Host.Outcome.next (if_neg Bool.false_ne_true)), ?_,
    State.testBit_raise _ _ (by decide)⟩
  simpa [State.softFailed] using s.lddTaken_seam d q r

/-! ### Reads issued (R11, R35) -/

theorem exec_seamReadIssue_waits {s : State} {j : Nat} {i : ReadJob} (hj : s.job? j = some i) (hi : i.issued = false)
    (hu : ∀ x q, i.use ≠ .stream x q) (hb : s.stgFor (.job j) = none) : exec (.seamReadIssue j) s = .next s := by
  show execSeamReadIssue j s = _
  simp only [execSeamReadIssue, hj, hi, hb, Bool.false_eq_true, if_false, Option.isNone_none, if_true]

theorem exec_seamReadIssue_senses {s : State} {j : Nat} {i : ReadJob} (hj : s.job? j = some i) (hi : i.issued = false)
    (hu : ∀ x q, i.use ≠ .stream x q) (hb : s.stgFor (.job j) ≠ none) (hd : s.onDisk i.ns i.unit = none) :
    exec (.seamReadIssue j) s = .next (s.senseJob i) := by
  have hbuf : (s.stgFor (.job j)).isNone = false := by rwa [Option.isNone_eq_false_iff, Option.isSome_iff_ne_none]
  show execSeamReadIssue j s = _
  simp only [execSeamReadIssue, hj, hi, hbuf, hd, Bool.false_eq_true, if_false]
  cases h : i.use with
  | stream x q => exact absurd h (hu x q)
  | host _ _ _ _ => rfl
  | merge _ => rfl
  | demote _ => rfl
  | reclaim _ => rfl

/-! ### Ends of programs and erases (R79, R81, R123) -/

theorem exec_nandProgramDone_units {s : State} {n : Nat} {o : NandOp} {l : List Nat} (ho : s.op? n = some o) (hst : o.started = true)
    (hsus : o.suspended = false) (hk : o.kind = .programUnits l) (ok : Bool) : exec (.nandProgramDone n ok) s =
      .next (if ok then (((s.dropOp o).passUnits l).reclaimCheck).pfailSettle else (s.programFailed o).pfailSettle) := by
  show execNandProgramDone n ok s = _
  simp only [execNandProgramDone, ho, hst, hsus, hk, Bool.not_true, Bool.or_false, Bool.false_eq_true, if_false]

theorem State.dropOp_seam (s : State) (o : NandOp) : (s.dropOp o).seam = s.seam := by
  unfold State.dropOp State.startOp
  split
  · rfl
  · split <;> rfl

theorem exec_nandEraseDone_passed {s : State} {n : Nat} {o : NandOp} (ho : s.op? n = some o) (hst : o.started = true)
    (hsus : o.suspended = false) (hk : o.kind = .erase) (hu : ∀ u ∈ s.seam.unpicks, u.rows.contains o.row = false) :
    exec (.nandEraseDone n true false) s =
      .next ((((((s.dropOp o).rowErased o.row).unpickRow o.row false).levelCheck o.ch).reclaimCheck).checkSpace.pfailSettle) := by
  have hmine : ((s.dropOp o).seam.unpicks.find? fun u => u.rows.contains o.row) = none := by
    rw [State.dropOp_seam, List.find?_eq_none]
    exact fun u hmem => by rw [hu u hmem]; decide
  show execNandEraseDone n true false s = _
  simp only [execNandEraseDone, ho, hst, hsus, hk, hmine, Bool.not_true, Bool.or_false, ne_eq, not_true_eq_false, decide_false,
    Bool.false_eq_true, if_false, if_true, Option.isSome_none, State.whenB]

/-! ### Units that pass, and rows erased (R114, R39, R71) -/

/-- The slot that a unit of one slot leaves on the media. -/
def State.sealedSlot (s : State) (u : UnitWrite) : Slot :=
  ⟨u.tag (s.rangeOf u.ns u.unit).isSome 0 (u.data.take 4096), s.seal u.ns u.kind u.unit (u.fine.getD 0) (u.data.take 4096)⟩

/-- A unit that has passed leaves its slots on the media: the sealed bytes under its tag. -/
theorem State.passUnits_single {s : State} {u : UnitWrite} {l : Nat} (hf : s.seam.flight = [u]) (hu : u.use = .system)
    (hl : u.locs = [l]) : s.passUnits [u.seq] = { s with
      seam := { s.seam with flight := [{ u with passed := true }] }
      nand := { s.nand with slots := Tbl.put s.nand.slots l (s.sealedSlot u) } } := by
  have hfilter : ([u].filter fun x => [u.seq].contains x.seq) = [u] := by simp
  simp only [State.passUnits, hf, hfilter, List.foldl_cons, List.foldl_nil, List.map_cons, List.map_nil, if_true, hu,
    State.writeSlots, hl, List.mapIdx_cons, List.mapIdx_nil, Nat.mul_zero, List.drop_zero]
  rfl

theorem State.freeChanged_frame (s : State) : RegFrame s s.freeChanged := by
  have hraise (u : State) (c : Bool) (h : RegFrame s u) : RegFrame s (u.whenB c fun s => s.raise P.recl 0) := by
    cases c
    · exact h
    · exact h.raise _ _
  unfold State.freeChanged
  simp only
  split
  · exact ((hraise _ _ (((RegFrame.refl s).wr _ _ _).wr _ _ _)).wr _ _ _).wr _ _ _
  · exact hraise _ _ (((RegFrame.refl s).wr _ _ _).wr _ _ _)

/-- A row erased, before the free-space fields follow. -/
def State.rowFreed (s : State) (r : Nat) : State :=
  { s with nand := { s.nand with slots := s.nand.slots.filter fun e => locRow e.1 ≠ r } }.updRow r fun x =>
    { freshRow with erases := x.erases + 1 }

theorem State.rowErased_frame (s : State) (r : Nat) : RegFrame (s.rowFreed r) (s.rowErased r) :=
  ((RegFrame.refl _).count _ _).trans (State.freeChanged_frame _)

theorem State.rowErased_slotAt (s : State) (r l : Nat) :
    (s.rowErased r).slotAt l = if locRow l = r then none else s.slotAt l := by
  have hslots : (s.rowErased r).slotAt l = Tbl.at? (List.filter (fun e : Nat × Slot => decide (locRow e.1 ≠ r)) s.nand.slots) l :=
    congrArg (fun t : Nand => Tbl.at? t.slots l) (s.rowErased_frame r).nand_eq
  rw [hslots, Tbl.at?_filter_key s.nand.slots (fun k => decide (locRow k ≠ r)) l]
  by_cases h : locRow l = r
  · rw [if_neg (by simp [h]), if_pos h]
  · rw [if_pos (by simp [h]), if_neg h]
    rfl

theorem State.rowErased_row (s : State) (r : Nat) : (s.rowErased r).row r = { freshRow with erases := (s.row r).erases + 1 } := by
  have hrow : (s.rowErased r).row r = (s.rowFreed r).row r :=
    congrArg (fun t : Seam => (Tbl.at? t.rows r).getD freshRow) (s.rowErased_frame r).seam_eq
  exact hrow.trans (State.row_updRow _ _ _)

/-! ### Busy targets and disabled channels (R123, R124) -/

theorem targetBusyTimeout_does {s : State} {ch : Nat} (ce : Nat) (hc : s.chanPresent ch = true) (hp : s.pageUp (P.nfc ch) = true) :
    ∃ v : State, exec (.targetBusyTimeout ch ce) s = .next ((v.returnOps fun o => o.ch = ch && rowCe o.row == ce).failReads
        fun x => locCh x.loc == ch && locCe x.loc == ce) ∧ (s.rd (P.nfc ch) R.common_ERR_CODE = 0 → v.rd (P.nfc ch) R.common_ERR_CODE = 6) ∧
      (v.rd (P.nfc ch) R.common_INT_RAW).testBit 5 = true ∧ v = { s with regs := v.regs, outbox := v.outbox } := by
  refine ⟨(s.err (P.nfc ch) 0x06 0 (mkLoc ch ce 0 0 0 0 0 * 128)).raise (P.nfc ch) 5,
    congrArg Host.Outcome.next (State.whenB_true (by simp [hc, hp]) _), fun h => ?_, State.testBit_raise _ _ (by decide),
    (((RegFrame.refl s).err _ _ _ _).raise _ _).uncounted (by simp)⟩
  rw [State.rd_raise_ne _ _ (fkey_ne_of_off (by decide)), State.rd_err_code _ _ _ _ _ h]
  rfl

theorem exec_nfcCtrlEnClear {s : State} {ag : Agent} {ch : Nat} (hch : ch < nChannels s.part) (hr : Reaches s ag (P.nfc ch))
    (he : s.en (P.nfc ch) = true) : exec (.nfcCtrlEnClear ag ch) s = .next (s.nfcDisable ch) :=
  congrArg Host.Outcome.next ((State.whenB_true (by simpa using hch) _).trans
    ((State.gated_reaches hr _ _ _).trans (State.whenB_true he _)))

/-- EN cleared leaves DRAIN of the page as it was. -/
theorem State.rd_drain_disabled (s : State) (p : Nat) : (s.wr p R.common_EN 0).rd p R.common_DRAIN = s.rd p R.common_DRAIN :=
  State.rd_wr_ne s 0 (by simp only [fkey, R.common_EN, R.common_DRAIN]; omega)

theorem nfcCtrlEnClear_drains {s : State} {ag : Agent} {ch : Nat} (hch : ch < nChannels s.part) (hr : Reaches s ag (P.nfc ch))
    (he : s.en (P.nfc ch) = true) (hd : s.rd (P.nfc ch) R.common_DRAIN ≠ 0) :
    Does (.nfcCtrlEnClear ag ch) s fun t => t.rd (P.nfc ch) R.common_EN = 0 ∧
      t = { s with regs := t.regs } ∧ SameRegs s t [fkey (P.nfc ch) R.common_EN 0] := by
  refine ⟨s.wr (P.nfc ch) R.common_EN 0, (exec_nfcCtrlEnClear hch hr he).trans (congrArg Host.Outcome.next (if_pos ?_)),
    State.rd_wr_same .., rfl, (SameRegs.refl s _).wr (by simp) _⟩
  simpa [State.on, State.rd_drain_disabled] using hd

theorem nfcCtrlEnClear_returns {s : State} {ag : Agent} {ch : Nat} (hch : ch < nChannels s.part) (hr : Reaches s ag (P.nfc ch))
    (he : s.en (P.nfc ch) = true) (hd : s.rd (P.nfc ch) R.common_DRAIN = 0) :
    ∃ v : State, v = { s with regs := v.regs } ∧ v.rd (P.nfc ch) R.common_EN = 0 ∧ exec (.nfcCtrlEnClear ag ch) s =
      .next ((v.returnOps fun o => o.ch == ch).failReads fun x => locCh x.loc == ch && v.lunBusy (rowLunKey (locRow x.loc))) := by
  refine ⟨s.wr (P.nfc ch) R.common_EN 0, rfl, State.rd_wr_same .., (exec_nfcCtrlEnClear hch hr he).trans
    (congrArg Host.Outcome.next (if_neg ?_))⟩
  simp [State.on, State.rd_drain_disabled, hd]

/-! ### The obligation -/

/-- Settles O46: each clause is the lemma above about its command. -/
theorem nandMedia : Obligations.NandMedia := by
  unfold Obligations.NandMedia
  intro s
  refine ⟨fun j i x n hj hx hl => ⟨fun b => (exec_nandSlotDecoded hj hx hl true b).trans (congrArg Host.Outcome.next (if_pos rfl)),
      fun b hr => (exec_nandSlotDecoded hj hx hl false b).trans (congrArg Host.Outcome.next (if_pos hr)),
      fun b hr => (exec_nandSlotDecoded hj hx hl false b).trans (congrArg Host.Outcome.next (if_neg hr))⟩,
    fun j i x hj hs hx => ⟨fun l hl => ?_, fun l hl hr => ?_⟩,
    fun j i x n d hj hx hd => softJobSubmit_does hj hx hd,
    fun d q r i x hq hj hx => lddJobComplete_does hq hj hx,
    fun j i hj hi hu => ⟨exec_seamReadIssue_waits hj hi hu, exec_seamReadIssue_senses hj hi hu⟩,
    fun n o ho hst hsus => ⟨fun l hk => ⟨(exec_nandProgramDone_units ho hst hsus hk true).trans (congrArg Host.Outcome.next (if_pos rfl)),
      (exec_nandProgramDone_units ho hst hsus hk false).trans (congrArg Host.Outcome.next (if_neg Bool.false_ne_true))⟩,
      exec_nandEraseDone_passed ho hst hsus⟩,
    fun u l hf hu hl => ?_,
    fun r => ⟨s.rowErased_slotAt r, ?_, ?_, ?_, ?_⟩,
    fun ch ce hc hp => targetBusyTimeout_does ce hc hp,
    fun ag ch hch hr he => ⟨nfcCtrlEnClear_drains hch hr he, nfcCtrlEnClear_returns hch hr he⟩⟩
  · rw [exec_readRetryAttempt hj hs hx, if_pos (by simpa using hl)]
  · rw [exec_readRetryAttempt hj hs hx, if_neg (by simpa using hl), State.retry_retries, if_pos hr]
  · rw [State.passUnits_single hf hu hl]
    exact ⟨rfl, ⟨s.sealedSlot u, Tbl.at?_put_same _ _ _, rfl, rfl, rfl, rfl, rfl, rfl⟩,
      fun m hm => Tbl.at?_put_ne _ _ (Ne.symm hm), rfl⟩
  · rw [State.rowErased_row]
    rfl
  · rw [State.rowErased_row]
  · rw [(s.rowErased_frame r).seam_eq]
    rfl
  · exact (s.rowErased_frame r).mem_eq

end Sys2Proof.Machine
end

section
/-!
PROOFS. The Seam map: updates of passed units, heat, demotion copies and relocations (R38, R42, R44, R45, R76).
-/

namespace Sys2Proof.Machine

/-! ### Tables -/

theorem Tbl.at?_mapValue {β γ : Type} (t : Tbl β) (f : β → γ) (k : Nat) :
    Tbl.at? (List.map (fun e => (e.1, f e.2)) t) k = (Tbl.at? t k).map f := by
  induction t with
  | nil => rfl
  | cons e r ih =>
    obtain ⟨a, v⟩ := e
    by_cases ha : a = k <;> simp [Tbl.at?, ha, ih]

theorem Tbl.at?_eq_none_of_notMem {β : Type} {t : Tbl β} {k : Nat} (h : k ∉ List.map Prod.fst t) : Tbl.at? t k = none := by
  cases ht : Tbl.at? t k with
  | none => rfl
  | some v => exact absurd (Tbl.mem_keys_of_has (by simp [Tbl.has, ht])) h

/-- With no key listed twice, a filtered table holds a key where the value passes. -/
theorem Tbl.at?_filter_nodup {β : Type} (f : Nat × β → Bool) (k : Nat) {t : Tbl β} (h : (List.map Prod.fst t).Nodup) :
    Tbl.at? (List.filter f t) k = (Tbl.at? t k).filter fun v => f (k, v) := by
  induction t with
  | nil => rfl
  | cons e r ih =>
    obtain ⟨a, v⟩ := e
    obtain ⟨hnot, hr⟩ := List.nodup_cons.1 h
    by_cases ha : a = k
    · subst ha
      cases hf : f (a, v)
      · simp [Tbl.at?, hf, ih hr, Tbl.at?_eq_none_of_notMem hnot, Option.filter_some]
      · simp [Tbl.at?, hf, Option.filter_some]
    · cases hf : f (a, v) <;> simp [Tbl.at?, hf, ha, ih hr]

/-- A value that reads as the default may be left out of a table. -/
theorem getD_filter_ne_default {β : Type} [DecidableEq β] (o : Option β) (d : β) :
    (o.filter fun v => decide (v ≠ d)).getD d = o.getD d := by
  cases o with
  | none => rfl
  | some v => by_cases h : v = d <;> simp [Option.filter_some, h]

/-! ### Map words (R34 to R37) -/

theorem State.at?_setWord (s : State) (ns u : Nat) (w : MapWord) (k : Nat) : Tbl.at? (s.setWord ns u w).seam.map k =
    if mapKey ns u = k then (if w = ⟨unmapped, 0⟩ then none else some w) else Tbl.at? s.seam.map k := by
  unfold State.setWord
  by_cases hw : w = ⟨unmapped, 0⟩
  · simp [hw, Tbl.at?_del]
  · simp [hw, Tbl.at?_put]

theorem State.mapWord_setWord_same (s : State) (ns u : Nat) (w : MapWord) : (s.setWord ns u w).mapWord ns u = w := by
  rw [State.mapWord, State.at?_setWord, if_pos rfl]
  by_cases hw : w = ⟨unmapped, 0⟩ <;> simp [hw]

@[simp] theorem State.entry_setEntry_same (s : State) (ns u e : Nat) : (s.setEntry ns u e).entry ns u = e := by
  rw [State.entry, State.setEntry, State.mapWord_setWord_same]

theorem State.at?_setEntry_ne (s : State) (ns u e : Nat) {k : Nat} (h : k ≠ mapKey ns u) :
    Tbl.at? (s.setEntry ns u e).seam.map k = Tbl.at? s.seam.map k := by
  rw [State.setEntry, State.at?_setWord, if_neg (Ne.symm h)]

theorem State.entry_congr {s t : State} (h : t.seam.map = s.seam.map) (ns u : Nat) : t.entry ns u = s.entry ns u := by
  simp only [State.entry, State.mapWord, h]

/-! ### Replies and ends of commands leave Seam alone -/

@[simp] theorem State.postCqe_seam (s : State) (q : Nat) (o : Output) : (s.postCqe q o).seam = s.seam := by
  unfold State.postCqe
  split
  · rfl
  · split <;> rfl

@[simp] theorem State.reply_seam (s : State) (h : Hdr) (st a b : Nat) : (s.reply h st a b).seam = s.seam := by
  unfold State.reply State.whenB
  simp only
  split
  · simp
  · split <;> simp

theorem State.ended_seam (s : State) (key : Nat) : (s.ended key).seam = s.seam := by rw [State.ended_frame]

@[simp] theorem State.finish_seam (s : State) (key st a b : Nat) : (s.finish key st a b).seam = s.seam := by
  unfold State.finish
  split
  · rfl
  · split
    · exact s.ended_seam key
    · exact (State.reply_seam _ _ _ _ _).trans (s.ended_seam key)

theorem State.dropTok_last {s : State} {key : Nat} {c : Cmd} (hc : Tbl.at? s.nvme.cmds key = some c) (hl : c.left = 1) :
    s.dropTok key = s.finish key c.status 0 0 := by
  simp [State.dropTok, hc, hl]

/-! ### A map update applied (R38) -/

/-- The entry that a unit written to its place gets. -/
def UnitWrite.newEntry (u : UnitWrite) : Nat := mkEntry (u.locs.getD 0 0) u.cmp (u.kind == 3)

/-- The state as the update of a coarse unit applies: the unit no longer under way, its entry replaced. -/
def State.coarseSet (s : State) (u : UnitWrite) : State :=
  { s with seam := { s.seam with flight := s.seam.flight.filter fun x => x.seq ≠ u.seq } }.setEntry u.ns u.unit u.newEntry

/-- Then the archive index forgets the unit, and the time of the write is noted. -/
def State.coarseApplied (s : State) (u : UnitWrite) : State :=
  let t := (s.coarseSet u).forgetDisk u.ns u.unit
  { t with seam := { t.seam with wroteAt := Tbl.put t.seam.wroteAt (mapKey u.ns u.unit) t.rtcUs } }

theorem State.applyOne_coarse {s : State} {u : UnitWrite} (hf : u.fine = none)
    (hs : (eFine (s.entry u.ns u.unit) && !eUnmapped (s.entry u.ns u.unit)) = false) : s.applyOne u = s.coarseApplied u := by
  simp only [State.applyOne, hf, hs, Bool.false_and, State.whenB, Bool.false_eq_true, if_false]
  rfl

/-- The archive index loses a unit: of Seam's state only the index changes. -/
theorem State.forgetDisk_frame (s : State) (ns u : Nat) :
    s.forgetDisk ns u = { s with seam := { s.seam with archive := (s.forgetDisk ns u).seam.archive } } := by
  unfold State.forgetDisk
  split <;> rfl

@[simp] theorem State.forgetDisk_map (s : State) (ns u : Nat) : (s.forgetDisk ns u).seam.map = s.seam.map := by
  rw [State.forgetDisk_frame]

theorem State.coarseApplied_map (s : State) (u : UnitWrite) : (s.coarseApplied u).seam.map = (s.coarseSet u).seam.map :=
  State.forgetDisk_map _ _ _

theorem State.coarseApplied_entry (s : State) (u : UnitWrite) : (s.coarseApplied u).entry u.ns u.unit = u.newEntry :=
  (State.entry_congr (s.coarseApplied_map u) _ _).trans (State.entry_setEntry_same _ _ _ _)

theorem State.coarseApplied_map_ne (s : State) (u : UnitWrite) {k : Nat} (h : k ≠ mapKey u.ns u.unit) :
    Tbl.at? (s.coarseApplied u).seam.map k = Tbl.at? s.seam.map k :=
  (congrArg (Tbl.at? · k) (s.coarseApplied_map u)).trans (State.at?_setEntry_ne _ _ _ _ h)

theorem State.coarseApplied_frame (s : State) (u : UnitWrite) :
    s.coarseApplied u = { s with seam := (s.coarseApplied u).seam } ∧
      (s.coarseApplied u).seam.flight = (s.seam.flight.filter fun x => x.seq ≠ u.seq) ∧
      (s.coarseApplied u).seam.held = s.seam.held := by
  unfold State.coarseApplied
  rw [State.forgetDisk_frame]
  exact ⟨rfl, rfl, rfl⟩

/-! ### MAP_UPDATE_APPLY (R38) -/

theorem State.wakeHeld_none {s : State} (h : s.seam.held = []) (ns u : Nat) : s.wakeHeld ns u = s := by
  simp [State.wakeHeld, h]

/-- The state with the one unit under way due. -/
def State.unitDue (s : State) (u : UnitWrite) : State := { s with seam := { s.seam with flight := [{ u with applied := true }] } }

theorem exec_mapUpdateApply_single {s : State} {u : UnitWrite} (hf : s.seam.flight = [u]) (hp : u.passed = true)
    (hu : ∀ g, u.use ≠ .demote g) : exec (.mapUpdateApply u.seq) s =
      .next ((((s.unitDue u).applyOne { u with applied := true }).dropUse u.use).wakeHeld u.ns u.unit) := by
  have hfind : ([u].find? fun x => x.seq = u.seq ∧ x.passed) = some u := by simp [hp]
  have hmapped : UnitWrite.mapped { u with applied := true } = true := by
    unfold UnitWrite.mapped
    split
    · rename_i g hg; exact absurd hg (hu g)
    · rfl
  have hnext : (s.unitDue u).nextApply u.ns u.unit = some { u with applied := true } := by
    have hmine : ((s.unitDue u).seam.flight.filter fun x => decide (x.ns = u.ns ∧ x.unit = u.unit) && x.mapped) =
        [{ u with applied := true }] := by
      simp only [State.unitDue, List.filter_cons, hmapped, and_self, decide_true, Bool.and_self, if_true, List.filter_nil]
    simp only [State.nextApply, hmine, leastBy, Option.filter_some, hp, and_self, decide_true, if_true]
  have hall : State.applyAll 1 (s.unitDue u) u.ns u.unit = ((s.unitDue u).applyOne { u with applied := true }).dropUse u.use := by
    simp only [State.applyAll, hnext]
  show execMapUpdateApply u.seq s = _
  rw [← hall]
  simp only [execMapUpdateApply, hf, hfind]
  cases hc : u.use with
  | demote g => exact absurd hc (hu g)
  | host k => simp only [List.map_cons, List.map_nil, if_true, List.length_singleton, State.unitDue]
  | hem r k => simp only [List.map_cons, List.map_nil, if_true, List.length_singleton, State.unitDue]
  | system => simp only [List.map_cons, List.map_nil, if_true, List.length_singleton, State.unitDue]

/-- The state in which the one unit under way has its coarse entry. -/
def State.mapUpdated (s : State) (u : UnitWrite) : State := (s.unitDue u).coarseApplied { u with applied := true }

section
variable {s : State} {u : UnitWrite} (hf : s.seam.flight = [u]) (hp : u.passed = true) (hn : u.fine = none) (hh : s.seam.held = [])
  (he : eFine (s.entry u.ns u.unit) = false ∨ eUnmapped (s.entry u.ns u.unit) = true)

theorem State.mapUpdated_frame (s : State) (u : UnitWrite) : s.mapUpdated u = { s with seam := (s.mapUpdated u).seam } :=
  (State.coarseApplied_frame (s.unitDue u) { u with applied := true }).1

theorem State.mapUpdated_held (s : State) (u : UnitWrite) : (s.mapUpdated u).seam.held = s.seam.held :=
  (State.coarseApplied_frame (s.unitDue u) { u with applied := true }).2.2

theorem State.mapUpdated_flight (s : State) (u : UnitWrite) : (s.mapUpdated u).seam.flight = [] := by
  rw [State.mapUpdated, (State.coarseApplied_frame (s.unitDue u) { u with applied := true }).2.1]
  simp [State.unitDue]

include hf hp hn he in
/-- A coarse unit's update that applies at once, with the end of its part of its command. -/
theorem exec_mapUpdateApply_coarse (hu : ∀ g, u.use ≠ .demote g) : exec (.mapUpdateApply u.seq) s =
    .next (((s.mapUpdated u).dropUse u.use).wakeHeld u.ns u.unit) := by
  have hsplit : (eFine ((s.unitDue u).entry u.ns u.unit) && !eUnmapped ((s.unitDue u).entry u.ns u.unit)) = false := by
    rw [State.entry_congr (s := s) (t := s.unitDue u) rfl]
    rcases he with he | he <;> simp [he]
  rw [exec_mapUpdateApply_single hf hp hu, State.applyOne_coarse (u := { u with applied := true }) hn hsplit]
  rfl

include hf hp hn hh he

theorem mapUpdateApply_system_does (hu : u.use = .system) : Does (.mapUpdateApply u.seq) s fun t =>
    t.entry u.ns u.unit = mkEntry (u.locs.getD 0 0) u.cmp (u.kind == 3) ∧ t.seam.flight = [] ∧
      (∀ k, k ≠ mapKey u.ns u.unit → Tbl.at? t.seam.map k = Tbl.at? s.seam.map k) ∧ t = { s with seam := t.seam } ∧
      t.nand = s.nand := by
  have hexec : exec (.mapUpdateApply u.seq) s = .next (s.mapUpdated u) := by
    rw [exec_mapUpdateApply_coarse hf hp hn he (by simp [hu]), hu]
    exact congrArg Host.Outcome.next (State.wakeHeld_none ((s.mapUpdated_held u).trans hh) _ _)
  exact ⟨_, hexec, State.coarseApplied_entry _ _, s.mapUpdated_flight u, fun k hk => State.coarseApplied_map_ne _ _ hk,
    s.mapUpdated_frame u, by rw [State.mapUpdated_frame]⟩

theorem mapUpdateApply_host_does {key : Nat} {c : Cmd} (hu : u.use = .host key) (hc : Tbl.at? s.nvme.cmds key = some c)
    (hl : c.left = 1) : ∃ v : State, exec (.mapUpdateApply u.seq) s = .next (v.finish key c.status 0 0) ∧
      v.entry u.ns u.unit = mkEntry (u.locs.getD 0 0) u.cmp (u.kind == 3) ∧ v = { s with seam := v.seam } := by
  have hcmd : Tbl.at? (s.mapUpdated u).nvme.cmds key = some c := by rw [State.mapUpdated_frame]; exact hc
  refine ⟨s.mapUpdated u, ?_, State.coarseApplied_entry _ _, s.mapUpdated_frame u⟩
  rw [exec_mapUpdateApply_coarse hf hp hn he (by simp [hu]), hu]
  simp only [State.dropUse, State.dropTok_last hcmd hl]
  exact congrArg Host.Outcome.next (State.wakeHeld_none (by rw [State.finish_seam, State.mapUpdated_held, hh]) _ _)

end

theorem exec_mapUpdateApply_none {s : State} {q : Nat} (h : ∀ u ∈ s.seam.flight, u.seq = q → u.passed = false) :
    exec (.mapUpdateApply q) s = .next s := by
  have hfind : (s.seam.flight.find? fun u => u.seq = q ∧ u.passed) = none := by
    rw [List.find?_eq_none]
    exact fun u hu => by simpa using h u hu
  show execMapUpdateApply q s = _
  simp only [execMapUpdateApply, hfind]

/-! ### Heat (R42) -/

theorem State.seamRuns_of_up {s : State} (h : s.upState = true) : s.seamRuns = true := by simp [State.seamRuns, h]

/-- A map word with its heat halved. -/
def MapWord.halved (w : MapWord) : MapWord := { w with heat := w.heat / 2 }

theorem heatHalveTick_does {s : State} (hu : s.upState = true) (hn : (s.seam.map.map (·.1)).Nodup) :
    Does .heatHalveTick s fun t => (∀ n k, t.mapWord n k = ⟨s.entry n k, (s.mapWord n k).heat / 2⟩) ∧
      t = { s with seam := { s.seam with map := t.seam.map } } := by
  refine ⟨_, congrArg Host.Outcome.next (State.whenB_true (State.seamRuns_of_up hu) _), fun n k => ?_, rfl⟩
  have hkeys : (List.map Prod.fst (List.map (fun e : Nat × MapWord => (e.1, e.2.halved)) s.seam.map)).Nodup := by
    simpa [List.map_map, Function.comp_def] using hn
  have hat := Tbl.at?_filter_nodup (fun e : Nat × MapWord => decide (e.2 ≠ ⟨unmapped, 0⟩)) (mapKey n k) hkeys
  rw [Tbl.at?_mapValue] at hat
  refine (congrArg (·.getD ⟨unmapped, 0⟩) hat).trans ((getD_filter_ne_default _ _).trans ?_)
  simp only [State.entry, State.mapWord]
  cases Tbl.at? s.seam.map (mapKey n k) <;> rfl

/-! ### Demotion (R44, R45) -/

theorem exec_demoteAgeExpiry_cold {s : State} {g : Nat} {x : FineGroup} (hu : s.upState = true) (hg : s.group? g = some x)
    (hh : (s.mapWord x.ns x.unit).heat = 0) : exec (.demoteAgeExpiry g) s = .next (s.startDemote g) := by
  refine congrArg Host.Outcome.next ((State.whenB_true (State.seamRuns_of_up hu) _).trans ?_)
  simp only [hg, hh]
  exact State.whenB_true rfl _

theorem exec_demoteAgeExpiry_warm {s : State} {g : Nat} {x : FineGroup} (hg : s.group? g = some x)
    (hh : 0 < (s.mapWord x.ns x.unit).heat) : exec (.demoteAgeExpiry g) s = .next s := by
  have hcold : ((s.mapWord x.ns x.unit).heat == 0) = false := by simp; omega
  show execDemoteAgeExpiry g s = _
  simp only [execDemoteAgeExpiry, hg, hcold, State.whenB, Bool.false_eq_true, if_false, ite_self]

theorem State.stgRequest_frame (s : State) (r : StgReq) : s.stgRequest r = { s with stg := (s.stgRequest r).stg } := by
  unfold State.stgRequest
  split
  · exact s.stgGive_frame r
  · rfl

theorem State.foldl_stgDrop_seam (f : Nat → StgTag) (l : List Nat) : ∀ s : State,
    (l.foldl (fun s i => s.stgDrop (f i)) s).seam = s.seam := by
  induction l with
  | nil => intro s; rfl
  | cons i l ih => intro s; rw [List.foldl_cons, ih, State.stgDrop_frame]

/-- A demotion copy dropped leaves the map and the groups. -/
theorem State.dropCopy_keeps (s : State) (g : Nat) : (s.dropCopy g).seam.map = s.seam.map ∧ (s.dropCopy g).seam.fine = s.seam.fine ∧
    (s.dropCopy g).seam.held = s.seam.held.filter fun h => h.use ≠ .demote g := by
  unfold State.dropCopy
  rw [State.foldl_stgDrop_seam StgTag.job]
  exact ⟨rfl, rfl, rfl⟩

/-- `t` has the map and the held units of `s`, and no fine group that `s` has not. -/
def KeepsMap (s t : State) : Prop :=
  t.seam.map = s.seam.map ∧ t.seam.held = s.seam.held ∧ ∀ g, s.group? g = none → t.group? g = none

theorem KeepsMap.refl (s : State) : KeepsMap s s := ⟨rfl, rfl, fun _ h => h⟩

theorem KeepsMap.trans {s t u : State} (h : KeepsMap s t) (g : KeepsMap t u) : KeepsMap s u := by
  obtain ⟨hmap, hheld, hgroup⟩ := h
  obtain ⟨gmap, gheld, ggroup⟩ := g
  exact ⟨gmap.trans hmap, gheld.trans hheld, fun k hk => ggroup k (hgroup k hk)⟩

theorem KeepsMap.newJob (s : State) (use : ReadFor) (ns u p cls : Nat) : KeepsMap s (s.newJob use ns u p cls) := by
  unfold State.newJob
  simp only
  rw [State.stgRequest_frame]
  exact KeepsMap.refl s

theorem KeepsMap.updGroup (s : State) (g : Nat) (f : FineGroup → FineGroup) : KeepsMap s (s.updGroup g f) := by
  refine ⟨rfl, rfl, fun k hk => ?_⟩
  have hk' : Tbl.at? s.seam.fine k = none := hk
  simp [State.group?, State.updGroup, Tbl.at?_upd, hk']

theorem KeepsMap.startDemote (s : State) (g : Nat) : KeepsMap s (s.startDemote g) := by
  unfold State.startDemote
  split
  · exact KeepsMap.refl s
  · split
    · exact KeepsMap.refl s
    · exact (KeepsMap.updGroup s g _).trans (KeepsMap.newJob _ _ _ _ _ _)

theorem KeepsMap.foldl_startDemote (l : List Nat) : ∀ s : State, KeepsMap s (l.foldl State.startDemote s) := by
  induction l with
  | nil => exact KeepsMap.refl
  | cons g l ih => exact fun s => (KeepsMap.startDemote s g).trans (ih _)

theorem KeepsMap.poolChanged (s : State) : KeepsMap s s.poolChanged := by
  unfold State.poolChanged
  split
  · exact KeepsMap.foldl_startDemote _ s
  · exact KeepsMap.refl s

theorem KeepsMap.count (s : State) (p o : Nat) : KeepsMap s (s.count p o) := by
  rw [State.count_frame]
  exact KeepsMap.refl s

section
variable {s : State} {g : Nat} {x : FineGroup} {u : UnitWrite} (hg : s.group? g = some x)
  (hu : (s.seam.flight.find? fun u => u.use = .demote g ∧ u.passed) = some u)
include hg hu

theorem demotionCopyDone_dropped (hw : x.written = true) : Does (.demotionCopyDone g) s fun t => t.seam.map = s.seam.map ∧
    (t.group? g).map (fun y => (y.entries, y.copying)) = some (x.entries, false) := by
  have hexec : exec (.demotionCopyDone g) s =
      .next (((s.dropCopy g).updGroup g fun x => { x with copying := false, written := false }).count P.seam 0x060) := by
    show execDemotionCopyDone g s = _
    simp only [execDemotionCopyDone, hg, hu, hw, if_true]
  obtain ⟨hmap, hfine, -⟩ := s.dropCopy_keeps g
  have hx : Tbl.at? (s.dropCopy g).seam.fine g = some x := by rw [hfine]; exact hg
  refine ⟨_, hexec, ?_, ?_⟩
  · rw [State.count_seam]; exact hmap
  · rw [State.group?, State.count_seam]
    simp [State.updGroup, Tbl.at?_upd, hx]

/-- The state as a demotion copy commits: the group freed, the unit's entry its one place. -/
def State.demoted (s : State) (g : Nat) (u : UnitWrite) : State :=
  (({ s with seam := { s.seam with flight := s.seam.flight.filter fun x => x.seq ≠ u.seq } } : State).freeGroup g).setEntry u.ns
    u.unit (mkEntry (u.locs.getD 0 0) u.cmp false)

omit hg hu in
theorem State.demoted_does (s : State) (g : Nat) (u : UnitWrite) :
    (s.demoted g u).entry u.ns u.unit = mkEntry (u.locs.getD 0 0) u.cmp false ∧ (s.demoted g u).group? g = none ∧
      (∀ k, k ≠ mapKey u.ns u.unit → Tbl.at? (s.demoted g u).seam.map k = Tbl.at? s.seam.map k) ∧
      (s.demoted g u).seam.held = s.seam.held.filter fun h => h.use ≠ .demote g := by
  obtain ⟨hmap, -, hheld⟩ :=
    ({ s with seam := { s.seam with flight := s.seam.flight.filter fun x => x.seq ≠ u.seq } } : State).dropCopy_keeps g
  refine ⟨State.entry_setEntry_same _ _ _ _, ?_, fun k hk => (State.at?_setEntry_ne _ _ _ _ hk).trans ?_, hheld⟩
  · exact (Tbl.at?_del _ _ _).trans (if_pos rfl)
  · exact congrArg (Tbl.at? · k) hmap

theorem demotionCopyDone_commits (hw : x.written = false) (hh : s.seam.held = []) : Does (.demotionCopyDone g) s fun t =>
    t.entry u.ns u.unit = mkEntry (u.locs.getD 0 0) u.cmp false ∧ t.group? g = none ∧
      ∀ k, k ≠ mapKey u.ns u.unit → Tbl.at? t.seam.map k = Tbl.at? s.seam.map k := by
  obtain ⟨hentry, hgone, hrest, hheld⟩ := s.demoted_does g u
  obtain ⟨kmap, kheld, kgroup⟩ := (KeepsMap.count (s.demoted g u) P.seam 0x058).trans (KeepsMap.poolChanged _)
  have hnone : ((s.demoted g u).count P.seam 0x058).poolChanged.seam.held = [] := by rw [kheld, hheld, hh]; rfl
  have hexec : exec (.demotionCopyDone g) s = .next ((s.demoted g u).count P.seam 0x058).poolChanged := by
    show execDemotionCopyDone g s = _
    simp only [execDemotionCopyDone, hg, hu, hw, Bool.false_eq_true, if_false]
    exact congrArg Host.Outcome.next (State.wakeHeld_none hnone _ _)
  refine ⟨_, hexec, (State.entry_congr kmap _ _).trans hentry, kgroup g hgone, fun k hk => ?_⟩
  rw [kmap]
  exact hrest k hk

end

/-! ### Relocation (R76, R80) -/

/-- The state after the commit of a relocation copy of a coarse unit: the entry moved where it still names the source. -/
def State.relocated (s : State) (c : Copy) : State :=
  if s.entry c.ns c.unit = c.src && !eUnmapped (s.entry c.ns c.unit) then
    ((s.dropCopyOf c.id).setEntry c.ns c.unit (mkEntry (c.locs.getD 0 0) (eCmp c.src) (eHem c.src))).count P.recl 0x048
  else (s.dropCopyOf c.id).count P.recl 0x050

theorem exec_relocationCommit {s : State} {c : Copy} (hc : (s.seam.copies.find? fun y => y.id = c.id ∧ y.passed) = some c)
    (hf : c.fine = none) : exec (.relocationCommit c.id) s = .next (s.relocated c).reclaimCheck := by
  show execRelocationCommit c.id s = _
  simp only [execRelocationCommit, hc, hf, State.relocated]

theorem State.relocated_moved {s : State} {c : Copy} (h : s.entry c.ns c.unit = c.src) (hu : eUnmapped c.src = false) :
    (s.relocated c).entry c.ns c.unit = mkEntry (c.locs.getD 0 0) (eCmp c.src) (eHem c.src) := by
  rw [State.relocated, if_pos (by simp [h, hu]), State.entry_congr (congrArg Seam.map (State.count_seam _ _ _)), State.entry_setEntry_same]

theorem State.relocated_kept {s : State} {c : Copy} (h : s.entry c.ns c.unit ≠ c.src) : (s.relocated c).seam.map = s.seam.map := by
  rw [State.relocated, if_neg (by simp [h]), State.count_seam]
  rfl

theorem State.relocated_frame (s : State) (c : Copy) :
    s.relocated c = { s with seam := (s.relocated c).seam, ctrs := (s.relocated c).ctrs } := by
  unfold State.relocated
  split <;> rw [State.count_frame] <;> rfl

theorem State.relocated_copies (s : State) (c : Copy) : ∀ y ∈ (s.relocated c).seam.copies, y.id ≠ c.id := by
  have hcopies : (s.relocated c).seam.copies = s.seam.copies.filter fun y => y.id ≠ c.id := by
    unfold State.relocated
    split <;> rw [State.count_seam] <;> rfl
  rw [hcopies]
  exact fun y hy => by simpa using (List.mem_filter.1 hy).2

/-! ### The obligation -/

/-- Settles O44: each clause is the lemma above about its command. -/
theorem seamMap : Obligations.SeamMap := by
  unfold Obligations.SeamMap
  intro s
  exact ⟨fun u hf hp hn hh he => ⟨mapUpdateApply_system_does hf hp hn hh he,
      fun key c hu hc hl => mapUpdateApply_host_does hf hp hn hh he hu hc hl⟩,
    fun q h => exec_mapUpdateApply_none h, heatHalveTick_does, fun g x hu hg hh => exec_demoteAgeExpiry_cold hu hg hh,
    fun g x hg hh => exec_demoteAgeExpiry_warm hg hh,
    fun g x u hg hu => ⟨demotionCopyDone_dropped hg hu, demotionCopyDone_commits hg hu⟩,
    fun c hc hf => ⟨s.relocated c, exec_relocationCommit hc hf, s.relocated_copies c, State.relocated_moved, State.relocated_kept,
      s.relocated_frame c⟩⟩

end Sys2Proof.Machine
end

section
/-!
PROOFS. Checkpoints made durable keep the power state: Seam's operations, one lemma for each (R53, R54).
-/

namespace Sys2Proof.Machine

/-! ### Folds and conditions -/

/-- What every step of a fold keeps, the fold keeps. -/
theorem State.foldl_keeps {α β : Type} (g : State → β) {f : State → α → State} (h : ∀ s a, g (f s a) = g s) (l : List α) : ∀ s : State,
    g (l.foldl f s) = g s := by
  induction l with
  | nil => exact fun _ => rfl
  | cons a l ih => exact fun s => (ih (f s a)).trans (h s a)

theorem State.foldl_power {α : Type} {f : State → α → State} (h : ∀ s a, (f s a).power = s.power) (l : List α) (s : State) :
    (l.foldl f s).power = s.power := State.foldl_keeps State.power h l s

theorem State.whenB_power {f : State → State} (h : ∀ s, (f s).power = s.power) (s : State) (c : Bool) :
    (s.whenB c f).power = s.power := by
  cases c
  · rfl
  · exact h s

/-! ### Tables of Seam: no operation on them touches the power state -/

@[simp] theorem State.setWord_power (s : State) (ns u : Nat) (w : MapWord) : (s.setWord ns u w).power = s.power := rfl
@[simp] theorem State.setEntry_power (s : State) (ns u e : Nat) : (s.setEntry ns u e).power = s.power := rfl
@[simp] theorem State.updRow_power (s : State) (r : Nat) (f : Row → Row) : (s.updRow r f).power = s.power := rfl
@[simp] theorem State.addOp_power (s : State) (r : Nat) (k : NandOpKind) (l : List Nat) (c : Nat) : (s.addOp r k l c).power = s.power := rfl
@[simp] theorem State.updUnpick_power (s : State) (u : Unpick) (f : Unpick → Unpick) : (s.updUnpick u f).power = s.power := rfl
@[simp] theorem State.updHem_power (s : State) (r : Nat) (f : HemRegion → HemRegion) : (s.updHem r f).power = s.power := rfl

@[simp] theorem State.forgetDisk_power (s : State) (ns u : Nat) : (s.forgetDisk ns u).power = s.power := by rw [State.forgetDisk_frame]
@[simp] theorem State.stgRequest_power (s : State) (r : StgReq) : (s.stgRequest r).power = s.power := by rw [State.stgRequest_frame]
@[simp] theorem State.stgDrop_power (s : State) (t : StgTag) : (s.stgDrop t).power = s.power := by rw [State.stgDrop_frame]

@[simp] theorem State.newJob_power (s : State) (use : ReadFor) (ns u p cls : Nat) : (s.newJob use ns u p cls).power = s.power :=
  State.stgRequest_power _ _

@[simp] theorem State.freeChanged_power (s : State) : s.freeChanged.power = s.power := by
  have h := s.freeChanged_frame
  unfold RegFrame at h
  rw [h]

@[simp] theorem State.checkSpace_power (s : State) : s.checkSpace.power = s.power := by
  unfold State.checkSpace
  simp only [apply_ite State.power]
  simp

@[simp] theorem State.retire_power (s : State) (r : Nat) : (s.retire r).power = s.power := by simp [State.retire]

/-! ### Checkpoints, places, groups -/

theorem State.programRoot_frame (s : State) (n : Nat) : s.programRoot n =
    { s with seam := { s.seam with nextId := (s.programRoot n).seam.nextId }, nand := (s.programRoot n).nand } := by
  unfold State.programRoot
  split <;> rfl

@[simp] theorem State.checkpointDue_power (s : State) : s.checkpointDue.power = s.power := by
  unfold State.checkpointDue
  split
  · exact (State.raise_power _ _ _).trans rfl
  · rw [State.programRoot_frame]
    rfl

@[simp] theorem State.openRow_power (s : State) (r : Nat) : (s.openRow r).power = s.power := by simp [State.openRow]

theorem State.takePage_power {s t : State} {recl : Bool} {r page : Nat} (h : s.takePage recl = some (r, page, t)) : t.power = s.power := by
  have hpick : ∀ (u v : State) (ch : Nat) (q : Nat), (match u.openRows ch with
      | r :: _ => some (r, u)
      | [] => (u.openable ch).map fun r => (r, u.openRow r)) = some (q, v) → v.power = u.power := by
    intro u v ch q hq
    split at hq
    · cases hq; rfl
    · obtain ⟨a, -, ha⟩ := Option.map_eq_some_iff.1 hq
      cases ha
      simp
  unfold State.takePage at h
  split at h
  · cases h
  · obtain ⟨⟨q, v⟩, hq, hv⟩ := Option.map_eq_some_iff.1 h
    cases hv
    refine (State.whenB_power State.checkpointDue_power _ _).trans ((State.updRow_power _ _ _).trans ((hpick _ _ _ _ hq).trans ?_))
    split <;> rfl

@[simp] theorem State.place_power (s : State) (us : List UnitWrite) (recl : Bool) (cls : Nat) : (s.place us recl cls).power = s.power := by
  unfold State.place
  split
  · rfl
  · rename_i r page t h
    have ht := State.takePage_power h
    exact (State.addOp_power _ _ _ _ _).trans ((State.foldl_power (fun _ _ => State.updRow_power _ _ _) _ _).trans ht)

@[simp] theorem State.placeCopy_power (s : State) (id : Nat) : (s.placeCopy id).power = s.power := by
  unfold State.placeCopy
  split
  · rfl
  · split
    · rfl
    · rename_i h
      have ht := State.takePage_power h
      exact (State.addOp_power _ _ _ _ _).trans ht

@[simp] theorem State.retryPlaces_power (s : State) : s.retryPlaces.power = s.power :=
  State.foldl_power (fun _ _ => State.place_power _ _ _ _) _ _

@[simp] theorem State.putUnits_power (s : State) (us : List UnitWrite) (cls : Nat) : (s.putUnits us cls).power = s.power := by
  unfold State.putUnits
  split <;> simp

@[simp] theorem State.freeGroup_power (s : State) (g : Nat) : (s.freeGroup g).power = s.power :=
  State.foldl_power (fun _ _ => State.stgDrop_power _ _) _ _

@[simp] theorem State.unmap_power (s : State) (ns u : Nat) : (s.unmap ns u).power = s.power := by
  unfold State.unmap
  simp only [State.forgetDisk_power, State.setEntry_power]
  split <;> simp

/-! ### Victims (R74 to R76) -/

@[simp] theorem State.startVictim_power (s : State) (r : Nat) (b : Bool) : (s.startVictim r b).power = s.power :=
  State.foldl_power (fun _ _ => State.newJob_power _ _ _ _ _ _) _ _

@[simp] theorem State.finishVictim_power (s : State) (v : Victim) : (s.finishVictim v).power = s.power := by
  unfold State.finishVictim
  simp only
  repeat' split
  all_goals simp

@[simp] theorem State.advanceVictims_power (s : State) : s.advanceVictims.power = s.power :=
  State.foldl_power State.finishVictim_power _ _

@[simp] theorem State.reclaimChan_power (s : State) (ch : Nat) : (s.reclaimChan ch).power = s.power := by
  unfold State.reclaimChan
  simp only
  repeat' split
  all_goals simp

@[simp] theorem State.reclaimCheck_power (s : State) : s.reclaimCheck.power = s.power := by
  unfold State.reclaimCheck
  simp only [State.retryPlaces_power]
  rw [State.foldl_power State.placeCopy_power, State.foldl_power State.reclaimChan_power, State.advanceVictims_power]

/-! ### Ends of SEAM items -/

theorem State.busWrite_power (s : State) (p a : Nat) (l : List Byte) : (s.busWrite p a l).power = s.power := by
  unfold State.busWrite State.hostWrite
  split
  · split <;> simp
  · rfl

theorem State.cplUnit_power (s : State) (src n code extra : Nat) : (s.cplUnit src n code extra).power = s.power := by
  unfold State.cplUnit
  split <;> rfl

@[simp] theorem State.endSeam_power (s : State) (n code extra word : Nat) : (s.endSeam n code extra word).power = s.power := by
  unfold State.endSeam
  split
  · rfl
  · exact (State.cplUnit_power _ _ _ _ _).trans (State.whenB_power (fun _ => State.busWrite_power _ _ _ _) _ _)

/-! ### Unpicks (R89) -/

@[simp] theorem State.unpickStep2_power (s : State) (u : Unpick) : (s.unpickStep2 u).power = s.power :=
  (State.checkpointDue_power _).trans (State.foldl_power (fun _ _ => State.unmap_power _ _ _) _ _)

@[simp] theorem State.nextUnpicks_power (s : State) : s.nextUnpicks.power = s.power :=
  State.foldl_power State.unpickStep2_power _ _

@[simp] theorem State.endUnpick_power (s : State) (u : Unpick) : (s.endUnpick u).power = s.power := by
  unfold State.endUnpick
  simp only [State.nextUnpicks_power]
  split <;> simp [State.whenB_power]

@[simp] theorem State.startScramble_power (s : State) (u : Unpick) (p : Nat) : (s.startScramble u p).power = s.power :=
  State.stgRequest_power _ _

@[simp] theorem State.commitUnpick_power (s : State) (u : Unpick) : (s.commitUnpick u).power = s.power := by
  have hscr (v : Unpick) (l : List Nat) (t : State) : (l.foldl (fun (s : State) p => s.startScramble v p) t).power = t.power :=
    State.foldl_power (fun _ _ => State.startScramble_power _ _ _) l t
  unfold State.commitUnpick
  simp only
  split
  · rw [State.endUnpick_power, hscr, State.updUnpick_power]
  · rw [State.advanceVictims_power, State.foldl_power fun _ _ => State.startVictim_power _ _ _]
    exact (State.foldl_power (fun _ _ => State.updRow_power _ _ _) _ _).trans (hscr _ _ _)

/-! ### Hem appends (R95, R97, R102) -/

@[simp] theorem State.hemSeal_power (s : State) (r : Nat) : (s.hemSeal r).power = s.power := by
  unfold State.hemSeal
  split
  · rfl
  · split
    · rfl
    · exact (State.whenB_power (fun _ => State.raise_power _ _ _) _ _).trans (by simp)

@[simp] theorem State.hemTake_power (s : State) (n r : Nat) (d : List Byte) : (s.hemTake n r d).power = s.power := by
  unfold State.hemTake
  simp only
  repeat' split
  all_goals simp

@[simp] theorem State.hemRetry_power (s : State) : s.hemRetry.power = s.power := by
  unfold State.hemRetry
  split
  · exact State.foldl_power (fun _ _ => State.hemTake_power _ _ _ _) _ _
  · rfl

@[simp] theorem State.ckptDurable_power (s : State) : s.ckptDurable.power = s.power := by
  unfold State.ckptDurable
  split
  · rfl
  · simp only [State.reclaimCheck_power, State.hemRetry_power]
    rw [State.whenB_power State.checkpointDue_power, State.foldl_power State.commitUnpick_power]
    simp

end Sys2Proof.Machine
end

section
/-!
PROOFS. Checkpoints from their begin to the durable root, and PFAIL_N from the pin to the flush record (R52 to R54, R61 to R66).
-/

namespace Sys2Proof.Machine

/-! ### A checkpoint falls due (R52, R54) -/

theorem exec_checkpointDue {s : State} (hu : s.upState = true) (hh : s.seam.pfailHold = false) :
    exec .checkpointDue s = .next s.checkpointDue :=
  congrArg Host.Outcome.next (State.whenB_true (by simp [State.seamRuns_of_up hu, hh]) _)

/-- The checkpoint that begins now: the root of the state under the next number, and the Unpicks that it commits. -/
def State.newCkpt (s : State) : CkptRun :=
  ⟨s.rootNow s.seqCut (s.rootNumber + 1), false, (s.seam.unpicks.filter fun u => u.step = 2).map fun u => (u.ns, u.first)⟩

/-- The state with that checkpoint in progress, its root not yet queued. -/
def State.ckptBegun (s : State) : State :=
  ({ s with seam := { s.seam with ckpt := some s.newCkpt } } : State).wr P.seam R.seam_CKPT_BUSY 1

theorem State.checkpointDue_begins {s : State} (h : s.seam.ckpt = none) :
    s.checkpointDue = s.ckptBegun.programRoot (s.rootNumber + 1) := by
  simp only [State.checkpointDue, h]
  rfl

theorem checkpointDue_starts {s : State} (hu : s.upState = true) (hh : s.seam.pfailHold = false) (hc : s.seam.ckpt = none) :
    Does .checkpointDue s fun t =>
      (∃ c, t.seam.ckpt = some c ∧ c.root = s.rootNow s.seqCut (s.rootNumber + 1) ∧ c.due = false) ∧ t.rd P.seam R.seam_CKPT_BUSY = 1 ∧
        t = { s with seam := t.seam, nand := t.nand, regs := t.regs } ∧ SameRegs s t [fkey P.seam R.seam_CKPT_BUSY 0] := by
  refine ⟨_, (exec_checkpointDue hu hh).trans (congrArg _ (State.checkpointDue_begins hc)), ?_⟩
  rw [State.programRoot_frame]
  exact ⟨⟨s.newCkpt, rfl, rfl, rfl⟩, State.rd_wr_same .., rfl, (SameRegs.refl s _).wr (by simp) 1⟩

theorem checkpointDue_late {s : State} {c : CkptRun} (hu : s.upState = true) (hh : s.seam.pfailHold = false)
    (hc : s.seam.ckpt = some c) : Does .checkpointDue s fun t =>
      t.seam.ckpt = some { c with due := true } ∧ t.rd P.seam R.seam_CKPT_LATE = 1 ∧ (t.rd P.seam R.common_INT_RAW).testBit 0 = true ∧
        t = { s with seam := { s.seam with ckpt := t.seam.ckpt }, regs := t.regs, outbox := t.outbox } := by
  have hdue : s.checkpointDue = (({ s with seam := { s.seam with ckpt := some { c with due := true } } } : State).flag P.seam
      R.seam_CKPT_LATE).raise P.seam 0 := by
    simp only [State.checkpointDue, hc]
  refine ⟨_, (exec_checkpointDue hu hh).trans (congrArg _ hdue), ?_, ?_, State.testBit_raise _ _ (by decide), ?_⟩
  · rw [State.raise_seam]; rfl
  · rw [State.rd_raise_ne _ _ (by decide)]; exact State.rd_wr_same ..
  · rw [State.raise_seam]; exact State.raise_frame _ _ _

/-! ### A checkpoint durable (R53, R63) -/

theorem exec_checkpointDurable_run {s : State} {c : CkptRun} (hc : s.seam.ckpt = some c) (hr : s.power.seq = .run) :
    exec .checkpointDurable s = .next s.ckptDurable := by
  have hrun : s.ckptDurable.power.seq = .run := by rw [State.ckptDurable_power, hr]
  refine congrArg Host.Outcome.next ((State.whenB_true (by simp [hc]) _).trans ?_)
  simp only [hrun]

/-- The durable root in force: its place, its lists, and the releases that it makes. -/
def State.rootKept (s : State) (r : Root) : State :=
  { s with
    nand := { s.nand with ops := s.nand.ops.filter fun o => match o.kind with | .programRoot _ => false | _ => true }
    seam := { s.seam with
      ckpt := none
      ckptAt := s.rtcUs
      lists := r.lists
      rootA := if r.number % 2 = 0 then some r else s.seam.rootA
      rootB := if r.number % 2 = 0 then s.seam.rootB else some r
      hem := s.seam.hem.map r.release } }

/-- Then the SEAM page shows it. -/
def State.rootShown (s : State) (r : Root) : State :=
  ((((s.rootKept r).wr P.seam R.seam_CKPT_SEQ_LO (r.seqCut % 2 ^ 32)).wr P.seam R.seam_CKPT_SEQ_HI (r.seqCut / 2 ^ 32)).wr P.seam
    R.seam_CKPT_BUSY 0).count P.seam 0x070

theorem State.rootShown_seam (s : State) (r : Root) : (s.rootShown r).seam = (s.rootKept r).seam := State.count_seam _ _ _

theorem State.ckptDurable_alone {s : State} {c : CkptRun} (hc : s.seam.ckpt = some c) (hd : c.due = false) (hu : s.seam.unpicks = []) :
    s.ckptDurable = (s.rootShown c.root).hemRetry.reclaimCheck := by
  have hdurable : s.ckptDurable =
      (((((s.rootShown c.root).seam.unpicks.filter fun u => u.step = 2 && c.unpicks.contains (u.ns, u.first)).foldl State.commitUnpick
        (s.rootShown c.root)).whenB c.due State.checkpointDue).hemRetry).reclaimCheck := by
    simp only [State.ckptDurable, hc]
    rfl
  have hnone : (s.rootShown c.root).seam.unpicks = [] := by rw [State.rootShown_seam]; exact hu
  rw [hdurable, hnone, hd]
  rfl

theorem State.rootShown_roots (s : State) (r : Root) :
    if r.number % 2 = 0 then (s.rootShown r).seam.rootA = some r ∧ (s.rootShown r).seam.rootB = s.seam.rootB
    else (s.rootShown r).seam.rootB = some r ∧ (s.rootShown r).seam.rootA = s.seam.rootA := by
  rw [State.rootShown_seam]
  by_cases h : r.number % 2 = 0 <;> simp [h, State.rootKept]

theorem State.rootShown_busy (s : State) (r : Root) : (s.rootShown r).rd P.seam R.seam_CKPT_BUSY = 0 := by
  rw [State.rootShown, State.rd_count]
  exact State.rd_wr_same ..

theorem State.rootShown_cut (s : State) (r : Root) : (s.rootShown r).rd P.seam R.seam_CKPT_SEQ_LO = r.seqCut % 2 ^ 32 := by
  rw [State.rootShown, State.rd_count, State.rd_wr_off _ _ (by decide), State.rd_wr_off _ _ (by decide), State.rd_wr_same]
  exact Nat.mod_mod _ _

theorem ckptDurable_does {s : State} {c : CkptRun} (hc : s.seam.ckpt = some c) (hd : c.due = false) (hu : s.seam.unpicks = []) :
    ∃ v : State, s.ckptDurable = v.hemRetry.reclaimCheck ∧ v.seam.ckpt = none ∧ v.seam.ckptAt = s.rtcUs ∧
      v.rd P.seam R.seam_CKPT_BUSY = 0 ∧ v.rd P.seam R.seam_CKPT_SEQ_LO = c.root.seqCut % 2 ^ 32 ∧
      (if c.root.number % 2 = 0 then v.seam.rootA = some c.root ∧ v.seam.rootB = s.seam.rootB
       else v.seam.rootB = some c.root ∧ v.seam.rootA = s.seam.rootA) ∧
      v.seam.map = s.seam.map ∧ v.nand.slots = s.nand.slots ∧ v.mem = s.mem := by
  have hseam := s.rootShown_seam c.root
  have hnand : (s.rootShown c.root).nand = (s.rootKept c.root).nand := State.count_nand _ _ _
  exact ⟨s.rootShown c.root, State.ckptDurable_alone hc hd hu, by rw [hseam]; rfl, by rw [hseam]; rfl, s.rootShown_busy c.root,
    s.rootShown_cut c.root, s.rootShown_roots c.root, by rw [hseam]; rfl, by rw [hnand]; rfl, State.count_mem _ _ _⟩

/-! ### PFAIL_N latched (R61, R65, R66) -/

theorem State.dev_of_up {s : State} (h : s.upState = true) : s.dev = Dev.ready ∨ s.dev = Dev.readOnly := by
  simpa [State.upState] using h

/-- In Ready and Read-only none of the states with a rule of their own stands. -/
theorem State.dev_ne_of_up {s : State} (h : s.upState = true) :
    s.dev ≠ Dev.slumber ∧ s.dev ≠ Dev.vault ∧ s.dev ≠ Dev.rebuild ∧ s.dev ≠ Dev.doze := by
  rcases State.dev_of_up h with h | h <;> rw [h] <;> decide

@[simp] theorem State.dev_pfailSeen (s : State) : s.pfailSeen.dev = s.dev :=
  (State.dev_count _ _ _).trans (State.dev_wr _ _ _ (by decide))

@[simp] theorem State.mode_pfailSeen (s : State) (b : Nat) : s.pfailSeen.mode b = s.mode b := by
  rw [State.mode, State.pfailSeen, State.rd_count, State.flag, State.rd_wr_ne _ _ (by decide), State.mode]

/-- PFAIL_N latched in Ready or Read-only, by the mode. -/
theorem exec_pfailLatch_up {s : State} (hl : s.seam.pfailLow = true) (hu : s.upState = true) : exec .pfailLatch s =
    .next (if s.mode M.compat = true then
      (({ s.pfailSeen.pfailStop with seam := { s.pfailSeen.pfailStop.seam with flushing := true } } : State).haltShuttle).stopDisk
      else s.pfailSeen.pfailStop.fault' 0x0C P.seam 0 0) := by
  obtain ⟨hslumber, hvault, hrebuild, hdoze⟩ := State.dev_ne_of_up hu
  have hruns : s.pfailSeen.seamRuns = true := State.seamRuns_of_up (by rw [State.upState, State.dev_pfailSeen]; exact hu)
  refine congrArg Host.Outcome.next ((State.whenB_true hl _).trans ?_)
  simp only [State.dev_pfailSeen, hslumber, hvault, hrebuild, hdoze, hruns, or_self, if_false, if_true, State.mode_pfailSeen]

theorem exec_pfailLatch_asleep {s : State} (hl : s.seam.pfailLow = true) (hd : s.dev = Dev.slumber ∨ s.dev = Dev.vault) :
    exec .pfailLatch s = .next { s with seam := { s.seam with pfailAon := true } } :=
  congrArg Host.Outcome.next ((State.whenB_true hl _).trans (if_pos hd))

/-! ### The disk stopped -/

/-- What a stop of the disk leaves alone, of what a latched PFAIL_N is to show. -/
structure SparesFlush (s t : State) : Prop where
  seam  : t.seam = s.seam
  nand  : t.nand = s.nand
  mem   : t.mem = s.mem
  cores : t.cores = s.cores
  seen  : t.rd P.seam R.seam_PFAIL_SEEN = s.rd P.seam R.seam_PFAIL_SEEN
  dev   : t.dev = s.dev

theorem SparesFlush.refl (s : State) : SparesFlush s s := ⟨rfl, rfl, rfl, rfl, rfl, rfl⟩

theorem SparesFlush.trans {s t u : State} (h : SparesFlush s t) (g : SparesFlush t u) : SparesFlush s u :=
  ⟨g.seam.trans h.seam, g.nand.trans h.nand, g.mem.trans h.mem, g.cores.trans h.cores, g.seen.trans h.seen, g.dev.trans h.dev⟩

/-- A field of a page other than SEAM's PFAIL_SEEN and DEVSTATE. -/
theorem SparesFlush.wr {s t : State} (h : SparesFlush s t) {p : Nat} {f : Fld} (v : Nat)
    (hs : fkey p f 0 ≠ fkey P.seam R.seam_PFAIL_SEEN 0) (hd : fkey p f 0 ≠ fkey P.glb R.glb_DEVSTATE 0) : SparesFlush s (t.wr p f v) :=
  h.trans ⟨rfl, rfl, rfl, rfl, State.rd_wr_ne t v hs, State.rd_wr_ne t v hd⟩

theorem SparesFlush.count {s t : State} (h : SparesFlush s t) (p o : Nat) : SparesFlush s (t.count p o) :=
  h.trans ⟨State.count_seam .., State.count_nand .., State.count_mem .., State.count_cores .., State.rd_count .., State.dev_count ..⟩

theorem SparesFlush.ofTrd (s : State) (x : Treadle) : SparesFlush s { s with trd := x } := ⟨rfl, rfl, rfl, rfl, rfl, rfl⟩

theorem SparesFlush.ofSelv (s : State) (x : Selv) : SparesFlush s { s with selv := x } := ⟨rfl, rfl, rfl, rfl, rfl, rfl⟩

theorem SparesFlush.send (s : State) (e : Output) : SparesFlush s (s.send e) := ⟨rfl, rfl, rfl, rfl, rfl, rfl⟩

theorem SparesFlush.trlSend1 {s t : State} (h : SparesFlush s t) (cmd arg : Nat) : SparesFlush s (t.trlSend1 cmd arg) := by
  unfold State.trlSend1 State.whenB
  simp only
  split
  · have hsent (x : Treadle) :=
      ((h.trans (SparesFlush.ofTrd t x)).trans (SparesFlush.send _ (.treadle (trlFrame cmd t.trd.seq arg)))).count P.trl 0x040
    split
    · exact (hsent _).count _ _
    · exact hsent _
  · exact h

theorem SparesFlush.trlSend {s t : State} (h : SparesFlush s t) (cmd arg : Nat) : SparesFlush s (t.trlSend cmd arg) := by
  have hfirst := h.trlSend1 cmd arg
  unfold State.trlSend
  simp only
  split
  · split
    · exact hfirst
    · exact (hfirst.trans (SparesFlush.ofTrd _ _)).trlSend1 _ _
  · exact hfirst

theorem SparesFlush.svoEmergency {s t : State} (h : SparesFlush s t) : SparesFlush s t.svoEmergency := by
  have hidle : SparesFlush s { t with servo := { t.servo with seekDone := false, good := 0 } } := h.trans ⟨rfl, rfl, rfl, rfl, rfl, rfl⟩
  have hpark : SparesFlush s t.svoPark :=
    (((hidle.wr _ (by decide) (by decide)).wr _ (by decide) (by decide)).wr _ (by decide) (by decide)).trlSend _ _
  have hspin : SparesFlush (t.svoPark.wr P.svo R.svo_SPN_AT_SPEED 0)
      { t.svoPark.wr P.svo R.svo_SPN_AT_SPEED 0 with servo := { t.svoPark.servo with spinMode := 0 } } := ⟨rfl, rfl, rfl, rfl, rfl, rfl⟩
  exact ((hpark.wr _ (by decide) (by decide)).trans hspin).trlSend _ _

theorem SparesFlush.stopDisk (s : State) : SparesFlush s s.stopDisk := by
  have hidle : SparesFlush s { s with selv := { s.selv with hemQ := [], aborts := [], draining := false },
                                      servo := { s.servo with seek := none } } := ⟨rfl, rfl, rfl, rfl, rfl, rfl⟩
  have hstop (v : Nat) := (hidle.wr (p := P.svo) (f := R.svo_SEEK_BUSY) 0 (by decide) (by decide)).wr (p := P.slv) (f := R.slv_RING_HEAD) v
    (by decide) (by decide)
  unfold State.stopDisk
  simp only
  split
  · split
    · exact (hstop _).trans (SparesFlush.ofSelv _ _)
    · exact (((hstop _).trans (SparesFlush.ofSelv _ _)).wr _ (by decide) (by decide)).svoEmergency
  · split
    · exact (hstop _).svoEmergency
    · exact hstop _

/-! ### The flush of COMPAT begins (R61) -/

/-- The state in which the flush has begun and the Shuttle cores stand, the disk not yet stopped. -/
def State.flushBegun (s : State) : State :=
  ({ s.pfailSeen.pfailStop with seam := { s.pfailSeen.pfailStop.seam with flushing := true } } : State).haltShuttle

theorem State.flushBegun_seam (s : State) : s.flushBegun.seam = { s.seam with pfailHold := true, ckpt := none, flushing := true } := by
  have hseen : s.pfailSeen.seam = s.seam := State.count_seam _ _ _
  rw [← hseen]
  rfl

theorem State.haltShuttle_stopped (s : State) : ∀ e ∈ s.haltShuttle.cores, e.1 < 32 → e.2.st = .stopped := by
  intro e he hlt
  obtain ⟨x, -, rfl⟩ := List.mem_map.1 he
  simp only at hlt ⊢
  rw [if_pos hlt]

theorem State.flushBegun_seen (s : State) : s.flushBegun.rd P.seam R.seam_PFAIL_SEEN = 1 := by
  have hstop : s.flushBegun.rd P.seam R.seam_PFAIL_SEEN = s.pfailSeen.rd P.seam R.seam_PFAIL_SEEN := State.rd_wr_off _ _ (by decide)
  rw [hstop, State.pfailSeen, State.rd_count]
  exact State.rd_wr_same ..

theorem State.flushBegun_dev (s : State) : s.flushBegun.dev = s.dev := by
  have hstop : s.flushBegun.dev = s.pfailSeen.dev := State.dev_wr _ _ _ (by decide)
  rw [hstop, State.dev_pfailSeen]

theorem pfailLatch_compat_does {s : State} (hl : s.seam.pfailLow = true) (hu : s.upState = true) (hm : s.mode M.compat = true) :
    Does .pfailLatch s fun t =>
      t.seam.flushing = true ∧ t.seam.pfailHold = true ∧ t.seam.ckpt = none ∧ t.rd P.seam R.seam_PFAIL_SEEN = 1 ∧ t.dev = s.dev ∧
        (∀ e ∈ t.cores, e.1 < 32 → e.2.st = .stopped) ∧ t.seam.map = s.seam.map ∧ t.nand = s.nand ∧ t.mem = s.mem := by
  obtain ⟨hseam, hnand, hmem, hcores, hseen, hdev⟩ := SparesFlush.stopDisk s.flushBegun
  have hbegun := hseam.trans s.flushBegun_seam
  refine ⟨s.flushBegun.stopDisk, (exec_pfailLatch_up hl hu).trans (congrArg Host.Outcome.next (if_pos hm)), by rw [hbegun], by rw [hbegun],
    by rw [hbegun], hseen.trans s.flushBegun_seen, hdev.trans s.flushBegun_dev, ?_, by rw [hbegun], hnand.trans ?_, hmem.trans ?_⟩
  · rw [hcores]
    exact State.haltShuttle_stopped _
  · exact State.count_nand _ _ _
  · exact State.count_mem _ _ _

/-! ### The flush done (R61, R64) -/

/-- The flush record of a state with no Unpick before its commit point. -/
def State.flushRec (s : State) (ms : Nat) (a b : Bool) : FlushRec :=
  ⟨s.seqCut, s.seam.map, s.seam.fine, min ms 255, a, b,
    (s.seam.unpicks.filter fun u => 4 ≤ u.step).map fun u => (u.ns, u.first, u.count, u.rows, u.cold)⟩

/-- The state with the flush record programmed. -/
def State.flushed (s : State) (ms : Nat) (a b : Bool) : State :=
  (({ s with seam := { s.seam with flush := some (s.flushRec ms a b), flushing := false } } : State).flag P.seam R.seam_FLUSH_DONE).wr P.seam
    R.seam_FLUSH_MS (min ms 255)

theorem exec_flushDone {s : State} (hf : s.seam.flushing = true) (hu : ∀ u ∈ s.seam.unpicks, u.step ≠ 2) (ms : Nat) (a b : Bool) :
    exec (.flushDone ms a b) s = .next ((s.flushed ms a b).fault' 0x0C P.seam 0 0) := by
  have hnone : (s.seam.unpicks.filter fun u => u.step = 2) = [] := by simpa using hu
  refine congrArg Host.Outcome.next ((State.whenB_true hf _).trans ?_)
  simp only [hnone, List.foldl_nil]
  rfl

theorem flushDone_does {s : State} (hf : s.seam.flushing = true) (hu : ∀ u ∈ s.seam.unpicks, u.step ≠ 2) (ms : Nat) (a b : Bool) :
    ∃ v : State, exec (.flushDone ms a b) s = .next (v.fault' 0x0C P.seam 0 0) ∧ v.rd P.seam R.seam_FLUSH_DONE = 1 ∧
      v.rd P.seam R.seam_FLUSH_MS = min ms 255 % 256 ∧ v.seam.flushing = false ∧
      (∃ f, v.seam.flush = some f ∧ f.map = s.seam.map ∧ f.fine = s.seam.fine ∧ f.seqCut = s.seqCut ∧ f.okA = a ∧ f.okB = b) ∧
      v = { s with seam := v.seam, regs := v.regs } := by
  refine ⟨s.flushed ms a b, exec_flushDone hf hu ms a b, ?_, State.rd_wr_same .., rfl,
    ⟨s.flushRec ms a b, rfl, rfl, rfl, rfl, rfl, rfl⟩, rfl⟩
  rw [State.flushed, State.rd_wr_ne _ _ (by decide)]
  exact State.rd_wr_same ..

/-! ### The obligation -/

/-- Settles O45: each clause is the lemma above about its command. -/
theorem checkpointAndPfail : Obligations.CheckpointAndPfail := by
  unfold Obligations.CheckpointAndPfail
  intro s
  exact ⟨checkpointDue_starts, fun c => checkpointDue_late, fun c => exec_checkpointDurable_run, fun c => ckptDurable_does,
    fun hp => congrArg Host.Outcome.next (State.whenB_true hp _), rfl, fun hl => congrArg Host.Outcome.next (State.whenB_false hl _),
    exec_pfailLatch_asleep, fun hl hu hm => (exec_pfailLatch_up hl hu).trans (congrArg Host.Outcome.next (if_neg (by simp [hm]))),
    pfailLatch_compat_does, fun ms a b hf hu => flushDone_does hf hu ms a b,
    fun ms a b hf => congrArg Host.Outcome.next (State.whenB_false hf _)⟩

end Sys2Proof.Machine
end

section
/-!
PROOFS. NVMe vendor commands, computational programs and local memory (R50, R89, R94, R97, R216, R350, R358 to R362).
-/

namespace Sys2Proof.Machine

/-! ### A vendor command fetched -/

/-- The state once vendor command `h` has been fetched and counted. -/
def State.vendored (s : State) (h : Hdr) : State := (s.fetched h).count P.nvm 0x048

theorem State.vendored_mode (s : State) (h : Hdr) (b : Nat) : (s.vendored h).mode b = s.mode b := by
  rw [State.vendored, State.mode, State.rd_count, ← State.mode, State.fetched_mode]

theorem State.onNs_ok {s w : State} {h : Hdr} {p : Nat} {n : Ns} (hn : OnNs s h p n) (hns : w.nvme.ns = s.nvme.ns)
    (hp : w.panelOf n.panel = s.panelOf n.panel) (f : Ns → State → State) : w.onNs h p f = f n w := by
  obtain ⟨hat, hid, hpan⟩ := hn
  simp [State.onNs, hns, hat, hid, hp, hpan]

theorem State.vendored_panelOf (s : State) (h : Hdr) (p : Nat) : (s.vendored h).panelOf p = s.panelOf p := by
  rw [State.panelOf, State.vendored_mode, State.panelOf]

theorem State.vendored_onNs {s : State} {h : Hdr} {p : Nat} {n : Ns} (hn : OnNs s h p n) (f : Ns → State → State) :
    (s.vendored h).onNs h p f = f n (s.vendored h) :=
  State.onNs_ok hn (by simp [State.vendored]) (s.vendored_panelOf h _) f

section
variable {s : State} {h : Hdr} {p : Nat} (hf : Fetches s h p) (ha : s.onAdmin h = false)
include hf ha

theorem State.ioCmd_fetched (f : Nat → State → State) : s.ioCmd h f = f p (s.fetched h) := by
  rw [State.ioCmd, State.fetch_ready hf, State.fetched_onAdmin, ha]
  rfl

theorem State.vendorCmd_reserved (hr : h.rsvd ≠ 0) (f : Nat → State → State) :
    s.vendorCmd h f = (s.vendored h).reply h St.badField 0 0 :=
  (State.ioCmd_fetched hf ha _).trans (if_pos hr)

theorem State.vendorCmd_fetched (hr : h.rsvd = 0) (f : Nat → State → State) : s.vendorCmd h f = f p (s.vendored h) :=
  (State.ioCmd_fetched hf ha _).trans (if_neg (by simp [hr]))

/-! ### Reserved dwords, modes that are clear (R350, R390) -/

theorem exec_vendor_reserved (hr : h.rsvd ≠ 0) :
    ∀ ins ∈ [Instr.hemCreate h 0 1, .unpick h 0 1, .registerRecordRange h 0 1 80 false, .hemAppend h 0 1 (.inline [])],
      exec ins s = .next ((s.vendored h).reply h St.badField 0 0) := by
  simp only [List.forall_mem_cons, List.not_mem_nil, false_imp_iff, implies_true, and_true]
  have hout (f : Nat → State → State) := congrArg (Host.Outcome.next (φ := Fault) (ρ := Refusal)) (State.vendorCmd_reserved hf ha hr f)
  exact ⟨hout _, hout _, hout _, hout _⟩

/-- A vendor command of a mode: with the mode clear, an invalid opcode. -/
theorem State.vendorCmd_modeClear {b : Nat} (hr : h.rsvd = 0) (hm : s.mode b = false) (f : Nat → State → State) :
    (s.vendorCmd h fun p s => if !s.mode b then s.reply h St.badOpcode 0 0 else f p s) =
      (s.vendored h).reply h St.badOpcode 0 0 :=
  (State.vendorCmd_fetched hf ha hr _).trans (if_pos (by simp [State.vendored_mode, hm]))

theorem State.vendorCmd_modeSet {b : Nat} (hr : h.rsvd = 0) (hm : s.mode b = true) (f : Nat → State → State) :
    (s.vendorCmd h fun p s => if !s.mode b then s.reply h St.badOpcode 0 0 else f p s) = f p (s.vendored h) :=
  (State.vendorCmd_fetched hf ha hr _).trans (if_neg (by simp [State.vendored_mode, hm]))

theorem exec_hem_modeClear (hr : h.rsvd = 0) (hm : s.mode M.hem = false) (a k : Nat) (dp : DataPtr) :
    exec (.hemCreate h a k) s = .next ((s.vendored h).reply h St.badOpcode 0 0) ∧
      exec (.hemAppend h a k dp) s = .next ((s.vendored h).reply h St.badOpcode 0 0) :=
  ⟨congrArg Host.Outcome.next (State.vendorCmd_modeClear hf ha hr hm _),
    congrArg Host.Outcome.next (State.vendorCmd_modeClear hf ha hr hm _)⟩

theorem exec_unpick_modeClear (hr : h.rsvd = 0) (hm : s.mode M.unpick = false) (a k : Nat) :
    exec (.unpick h a k) s = .next ((s.vendored h).reply h St.badOpcode 0 0) :=
  congrArg Host.Outcome.next (State.vendorCmd_modeClear hf ha hr hm _)

/-! ### Commands on a namespace that post a SEAM item (R50, R89, R94, R97, R362) -/

section
variable {n : Ns} (hr : h.rsvd = 0) (hn : OnNs s h p n)
include hr hn

theorem exec_registerRecordRange_posts {a k len : Nat} (z : Bool) (hk : 0 < k) (hlo : 16 ≤ len) (hhi : len ≤ 4096)
    (hu : n.hasUnits a k = true) : exec (.registerRecordRange h a k len z) s =
      .next ((s.vendored h).postItem h p (itemDesc 2 0 0 0 0 0 (seamArg0 2 (hdrNs h) a)
        (k + (len - 1) * 2 ^ 32 + (if z = true then 2 ^ 46 else 0)) 0) (.segs []) 0 0) := by
  refine congrArg Host.Outcome.next ((State.vendorCmd_fetched hf ha hr _).trans ((State.vendored_onNs hn _).trans ?_))
  rw [if_neg (by omega), if_neg (by simp [hu])]

theorem exec_hemCreate_posts {a k : Nat} (hm : s.mode M.hem = true) (hu : n.hasUnits a k = true) : exec (.hemCreate h a k) s =
    .next ((s.vendored h).postItem h p (itemDesc 2 0 0 0 0 0 (seamArg0 4 (hdrNs h) a) (k % 2 ^ 32) 0) (.segs []) 0 0) :=
  congrArg Host.Outcome.next ((State.vendorCmd_modeSet hf ha hr hm _).trans ((State.vendored_onNs hn _).trans (if_neg (by simp [hu]))))

theorem exec_unpick_posts {a k : Nat} (hm : s.mode M.unpick = true) (hu : n.hasUnits a k = true) : exec (.unpick h a k) s =
    .next ((s.vendored h).postItem h p (itemDesc 2 0 0 0 0 0 (seamArg0 3 (hdrNs h) a) (k % 2 ^ 32) 0) (.segs []) 0 0) :=
  congrArg Host.Outcome.next ((State.vendorCmd_modeSet hf ha hr hm _).trans ((State.vendored_onNs hn _).trans (if_neg (by simp [hu]))))

theorem exec_unpick_beyond {a k : Nat} (hm : s.mode M.unpick = true) (hu : n.hasUnits a k = false) :
    exec (.unpick h a k) s = .next ((s.vendored h).reply h St.lbaRange 0 0) :=
  congrArg Host.Outcome.next ((State.vendorCmd_modeSet hf ha hr hm _).trans ((State.vendored_onNs hn _).trans (if_pos (by simp [hu]))))

theorem exec_hemAppend_posts {r k : Nat} {dp : DataPtr} (hm : s.mode M.hem = true) (hk : 0 < k) (hlim : k ≤ 65472)
    (hd : dpFar dp = false) : exec (.hemAppend h r k dp) s =
      .next ((s.vendored h).postItem h p (itemDesc 2 0 0 0 0 0 (seamArg0 5 (hdrNs h) (r % 4096)) k 0) dp 0 k) :=
  congrArg Host.Outcome.next ((State.vendorCmd_modeSet hf ha hr hm _).trans
    ((if_neg (by simp [hd]; omega)).trans (State.vendored_onNs hn _)))

theorem exec_filterStream_posts {rep out a k slot off len : Nat} (st : Bool) (hs : h.src = .pcie) (ho : out % 4096 = 0)
    (hrep : rep + 128 * k ≤ 2 ^ 47) (hout : out + 4096 * len ≤ 2 ^ 47) (hu : n.hasUnits a k = true) :
    exec (.filterStream h rep out a k slot st off len) s =
      .next ((s.vendored h).postItem h p (itemDesc 2 0 0 0 0 0 (seamArg0 1 (hdrNs h) a)
        (k % 2 ^ 32 + slot % 4 * 2 ^ 44 + (if st = true then 2 ^ 46 else 0) + off % 65536 * 2 ^ 48) (hostBase + rep)) (.segs []) out
        (4096 * len)) := by
  refine congrArg Host.Outcome.next ((if_pos hs).trans
    ((State.vendorCmd_fetched hf ha hr _).trans ((State.vendored_onNs hn _).trans ?_)))
  rw [if_neg (by omega), if_neg (by simp [hu])]

end

/-! ### Pleat jobs (R216, R350) -/

theorem exec_pleatJob_far (hr : h.rsvd = 0) {j : Nat} (hs : h.src = .pcie) (hj : 2 ^ 47 < j + 64) :
    exec (.pleatJob h j) s = .next ((s.vendored h).reply h St.badField 0 0) :=
  congrArg Host.Outcome.next ((if_pos hs).trans ((State.vendorCmd_fetched hf ha hr _).trans (if_pos hj)))

theorem exec_pleatJob_posts (hr : h.rsvd = 0) {j : Nat} (hs : h.src = .pcie) (hj : j + 64 ≤ 2 ^ 47) {b : List Byte} {v : State}
    (hread : (s.vendored h).hostRead p j 64 = (b, v)) (hsrc : leAt b 4 6 + leAt b 16 4 ≤ 2 ^ 47)
    (hdst : leAt b 10 6 + leAt b 20 4 ≤ 2 ^ 47)
    (hpat : leAt b 24 6 + 1 ≤ 2 ^ 47) : exec (.pleatJob h j) s =
      .next (v.postItem h p (itemDesc 4 0 0 0 0 (hostBase + j) 0xF 0 0) (.segs []) 0 0) := by
  refine congrArg Host.Outcome.next ((if_pos hs).trans ((State.vendorCmd_fetched hf ha hr _).trans ((if_neg (by omega)).trans ?_)))
  simp only [hread]
  exact if_neg (by simp only [Bool.or_eq_true, decide_eq_true_eq]; omega)

/-! ### Programs (R359) -/

theorem exec_executeProgram_posts {pid : Nat} {b : List Byte} {g : Prog} (hg : Tbl.at? s.nvme.progs pid = some g) (hp : g.panel = p)
    (hb : b.length = 32) (hcls : leAt b 28 1 < 16) (hgrp : leAt b 30 2 < 4096) : exec (.executeProgram h pid (.inline b)) s =
      .next ((s.fetched h).postItem h p (itemDesc 1 (leAt b 28 1) (leAt b 30 2) (leAt b 24 4) (leAt b 29 1) (g.addr + 16 + g.entry)
        (leAt b 0 8) (leAt b 8 8) (leAt b 16 8)) (.segs []) 0 0) := by
  refine congrArg Host.Outcome.next ((State.ioCmd_fetched hf ha _).trans ?_)
  simp only [State.fetched_progs, hg]
  rw [if_neg (by simp [hp, dpSize, hb, dpFar])]
  exact if_neg (by simp only [State.fetchPtr]; omega)

theorem exec_executeProgram_badSize (pid : Nat) {b : List Byte} (hb : b.length ≠ 32) :
    exec (.executeProgram h pid (.inline b)) s = .next ((s.fetched h).reply h St.badField 0 0) := by
  refine congrArg Host.Outcome.next ((State.ioCmd_fetched hf ha _).trans ?_)
  split
  · rfl
  · exact if_pos (.inr (.inl hb))

/-! ### Local memory (R360) -/

/-- The share of the panel is that of the state before the fetch. -/
theorem State.memReadCmd_fetched {off k : Nat} {dp : DataPtr} (hd : dpFar dp = false) : s.memReadCmd h off k dp =
    if (s.slmOf p).2 < off + k then (s.fetched h).reply h St.lbaRange 0 0
    else (s.fetched h).blockRead ((s.slmOf p).1 + off) k fun d u => u.answer h p dp d := by
  refine (State.ioCmd_fetched hf ha _).trans ?_
  simp only [hd, State.fetched_slmOf, Bool.false_eq_true, if_false]

theorem State.memWriteCmd_fetched {off k : Nat} {dp : DataPtr} (hd : dpFar dp = false) : s.memWriteCmd h off k dp =
    if (s.slmOf p).2 < off + k then (s.fetched h).reply h St.lbaRange 0 0
    else if s.touchesImage p off k then (s.fetched h).reply h St.accessDenied 0 0
    else let r := (s.fetched h).fetchPtr p dp
      (r.2.fabWrite ((s.slmOf p).1 + off) (fitTo k r.1)).reply h St.ok 0 0 := by
  refine (State.ioCmd_fetched hf ha _).trans ?_
  simp only [hd, State.fetched_slmOf, State.fetched_touchesImage, Bool.false_eq_true, if_false]

theorem exec_memory_beyond {off k : Nat} {dp : DataPtr} (hd : dpFar dp = false) (hk : (s.slmOf p).2 < off + k) :
    exec (.memoryRead h off k dp) s = .next ((s.fetched h).reply h St.lbaRange 0 0) ∧
      exec (.memoryWrite h off k dp) s = .next ((s.fetched h).reply h St.lbaRange 0 0) :=
  ⟨congrArg Host.Outcome.next ((State.memReadCmd_fetched hf ha hd).trans (if_pos hk)),
    congrArg Host.Outcome.next ((State.memWriteCmd_fetched hf ha hd).trans (if_pos hk))⟩

theorem exec_memoryWrite_image {off k : Nat} {dp : DataPtr} (hd : dpFar dp = false) (hk : off + k ≤ (s.slmOf p).2)
    (hi : s.touchesImage p off k = true) : exec (.memoryWrite h off k dp) s = .next ((s.fetched h).reply h St.accessDenied 0 0) :=
  congrArg Host.Outcome.next ((State.memWriteCmd_fetched hf ha hd).trans ((if_neg (by omega)).trans (if_pos hi)))

omit hf ha in
theorem fitTo_length (b : List Byte) : fitTo b.length b = b := by simp [fitTo]

theorem exec_memoryWrite_inline {off : Nat} {b : List Byte} (hk : off + b.length ≤ (s.slmOf p).2)
    (hi : s.touchesImage p off b.length = false) : exec (.memoryWrite h off b.length (.inline b)) s =
      .next (((s.fetched h).fabWrite ((s.slmOf p).1 + off) b).reply h St.ok 0 0) := by
  refine congrArg Host.Outcome.next
    ((State.memWriteCmd_fetched hf ha rfl).trans ((if_neg (by omega)).trans ((if_neg (by simp [hi])).trans ?_)))
  simp only [State.fetchPtr, fitTo_length]

omit hf ha in
/-- Over NVMe/TCP no queue moves as a command is fetched. -/
theorem State.fetched_tcp {c : Nat} (hs : h.src = .tcp c) : s.fetched h = s.wr P.nvm R.nvm_FETCH_PAUSED 0 := by
  simp [State.fetched, State.sqAdvance, hs]

omit hf ha in
theorem State.answer_tcp {u : State} {c : Nat} (hs : h.src = .tcp c) (hc : Tbl.has u.net.conns c = true) (dp : DataPtr) (d : List Byte) :
    u.answer h p dp d = ((u.send (.tcpData c h.cid d)).count P.nvm 0x040).send (.tcpResp c h.cid St.ok 0 0) := by
  simp only [State.answer, hs]
  exact State.reply_tcp (s := u.send (.tcpData c h.cid d)) hs hc _ _ _

theorem memoryRead_tcp_does {c off k : Nat} {dp : DataPtr} (hs : h.src = .tcp c) (hc : Tbl.has s.net.conns c = true)
    (hd : dpFar dp = false) (hk : off + k ≤ (s.slmOf p).2) (hp : s.poison ((s.slmOf p).1 + off) k = none) :
    Does (.memoryRead h off k dp) s fun t =>
      t.outbox = s.outbox ++ [.tcpData c h.cid (memRead s.mem ((s.slmOf p).1 + off) k), .tcpResp c h.cid St.ok 0 0] ∧
        t = { s with regs := t.regs, ctrs := t.ctrs, outbox := t.outbox } := by
  have hread : s.memReadCmd h off k dp = ((((s.fetched h).send (.tcpData c h.cid (memRead s.mem ((s.slmOf p).1 + off) k))).count P.nvm
      0x040).send (.tcpResp c h.cid St.ok 0 0)) := by
    rw [State.memReadCmd_fetched hf ha hd, if_neg (by omega), State.blockRead, State.fetched_poison, hp, State.fetched_mem]
    exact State.answer_tcp hs (by rw [State.fetched_net]; exact hc) _ _
  refine ⟨_, congrArg Host.Outcome.next hread, ?_⟩
  rw [State.fetched_tcp hs, State.count_frame]
  exact ⟨List.append_assoc _ _ _, rfl⟩

end

/-! ### The obligation -/

/-- Settles O42: each clause is the lemma above about its command. -/
theorem nvmeVendor : Obligations.NvmeVendor := by
  unfold Obligations.NvmeVendor
  intro s h p hf ha
  exact ⟨exec_vendor_reserved hf ha, fun hr =>
    ⟨exec_hem_modeClear hf ha hr, exec_unpick_modeClear hf ha hr, fun n hn =>
      ⟨fun a k len z hk hlo hhi hu => exec_registerRecordRange_posts hf ha hr hn z hk hlo hhi hu,
        fun a k => exec_hemCreate_posts hf ha hr hn, fun a k => exec_unpick_posts hf ha hr hn, fun a k => exec_unpick_beyond hf ha hr hn,
        fun r k dp => exec_hemAppend_posts hf ha hr hn,
        fun rep out a k slot st off len => exec_filterStream_posts hf ha hr hn st⟩,
      fun j => exec_pleatJob_far hf ha hr, fun j hs hj => exec_pleatJob_posts hf ha hr hs hj rfl⟩,
    fun pid b g => exec_executeProgram_posts hf ha, fun pid b => exec_executeProgram_badSize hf ha pid,
    fun c off k dp => memoryRead_tcp_does hf ha, fun off b _ => exec_memoryWrite_inline hf ha,
    fun off k dp => exec_memory_beyond hf ha, fun off k dp => exec_memoryWrite_image hf ha⟩

end Sys2Proof.Machine
end

section
/-!
PROOFS. The items of the units: SEAM items, loads, Pleat jobs, Gauge batches, DMA, buffer releases (R50, R89, R94, R97, R102, R115, R189, R200,
R231, R244, R339, R351, R393).
-/

namespace Sys2Proof.Machine

/-! ### An item taken up by its unit -/

theorem State.on_iff (s : State) (p : Nat) (f : Fld) : s.on p f = true ↔ s.rd p f ≠ 0 := by simp [State.on]

section
variable {s : State} {n : Nat} {i : Item}

theorem State.begin_queued {k : Nat} (hq : Queued s n k i) (f : Item → State → State) : s.begin n k f = f i (s.begun n) := by
  obtain ⟨hi, hst, hk⟩ := hq
  simp only [State.begin, hi]
  exact if_pos ⟨hst, hk⟩

theorem State.seamItem_begun {op : Nat} (hq : Queued s n 2 i) (ho : i.op = op) (on : State → Bool) (f : Item → State → State) :
    s.seamItem n op on f = if !on (s.begun n) || s.nsPanel (s.itemNs i) != i.panel then (s.begun n).cplItem 70 n Cs.disabled 0
      else if !s.keyOpen (s.itemNs i) then ((s.begun n).keyRefused (s.itemNs i)).endSeam n 0x0A 0 0 else f i (s.begun n) := by
  have hi : s.item? n = some i := hq.1
  simp only [State.seamItem, hi, ho, ne_eq, not_true_eq_false, if_false]
  exact State.begin_queued hq _

theorem State.seamItem_disabled {op : Nat} (hq : Queued s n 2 i) (ho : i.op = op) {on : State → Bool} (hon : on (s.begun n) = false)
    (f : Item → State → State) : s.seamItem n op on f = (s.begun n).cplItem 70 n Cs.disabled 0 :=
  (State.seamItem_begun hq ho on f).trans (if_pos (by simp [hon]))

theorem State.seamItem_locked {op : Nat} (hq : Queued s n 2 i) (ho : i.op = op) {on : State → Bool} (hon : on (s.begun n) = true)
    (hp : s.nsPanel (s.itemNs i) = i.panel) (hk : s.keyOpen (s.itemNs i) = false) (f : Item → State → State) :
    s.seamItem n op on f = ((s.begun n).keyRefused (s.itemNs i)).endSeam n 0x0A 0 0 :=
  (State.seamItem_begun hq ho on f).trans ((if_neg (by simp [hon, hp])).trans (if_pos (by simp [hk])))

theorem State.seamItem_runs {op : Nat} (hq : SeamQueued s n op i) {on : State → Bool} (hon : on (s.begun n) = true)
    (f : Item → State → State) : s.seamItem n op on f = f i (s.begun n) := by
  obtain ⟨hqueued, ho, hp, hk⟩ := hq
  exact (State.seamItem_begun hqueued ho on f).trans ((if_neg (by simp [hon, hp])).trans (if_neg (by simp [hk])))

/-! ### SEAM items disabled or refused (R115, R393) -/

theorem exec_seamItem_disabled : ∀ x ∈ [(Instr.seamStream n, 1, M.pink), (.seamUnpick n, 3, M.unpick), (.seamHemCreate n, 4, M.hem),
    (.seamHemAppend n, 5, M.hem)],
    Queued s n 2 i → i.op = x.2.1 → s.mode x.2.2 = false → exec x.1 s = .next ((s.begun n).cplItem 70 n Cs.disabled 0) := by
  simp only [List.forall_mem_cons, List.not_mem_nil, false_imp_iff, implies_true, and_true]
  refine ⟨?_, ?_, ?_, ?_⟩ <;> exact fun hq ho hm => congrArg Host.Outcome.next (State.seamItem_disabled hq ho hm _)

theorem exec_seamItem_locked : ∀ x ∈ [(Instr.seamStream n, 1), (.seamRegister n, 2), (.seamUnpick n, 3), (.seamHemCreate n, 4),
    (.seamHemAppend n, 5)],
    Queued s n 2 i → i.op = x.2 → s.mode M.pink = true → s.mode M.unpick = true → s.mode M.hem = true →
      s.nsPanel (s.itemNs i) = i.panel → s.keyOpen (s.itemNs i) = false →
      exec x.1 s = .next (((s.begun n).keyRefused (s.itemNs i)).endSeam n 0x0A 0 0) := by
  simp only [List.forall_mem_cons, List.not_mem_nil, false_imp_iff, implies_true, and_true]
  exact ⟨fun hq ho hpink _ _ hp hk => congrArg Host.Outcome.next (State.seamItem_locked hq ho hpink hp hk _),
    fun hq ho _ _ _ hp hk => congrArg Host.Outcome.next (State.seamItem_locked hq ho rfl hp hk _),
    fun hq ho _ hunpick _ hp hk => congrArg Host.Outcome.next (State.seamItem_locked hq ho hunpick hp hk _),
    fun hq ho _ _ hhem hp hk => congrArg Host.Outcome.next (State.seamItem_locked hq ho hhem hp hk _),
    fun hq ho _ _ hhem hp hk => congrArg Host.Outcome.next (State.seamItem_locked hq ho hhem hp hk _)⟩

/-! ### Streams (R189) -/

/-- The stream that a SEAM_STREAM item starts. -/
def State.streamOf (s : State) (n : Nat) (i : Item) : Stream :=
  { id := s.seam.nextId, item := n, panel := i.panel, ns := i.ns, first := i.first, count := i.units, slot := bitsAt i.arg1 44 2,
    strm := i.arg1.testBit 46, firstOff := bitsAt i.arg1 48 16, report := i.addr2, unit := s.newId.2.pnkDram.getD 24, done := [],
    failed := 0, aborted := false,
    out := match i.poster with
      | .nvme key => (Tbl.at? s.nvme.cmds key).map fun c => (c.start, c.len, 0)
      | _ => none
    full := false, carry := none, nextOff := 0, pendRep := none }

/-- The SEAM code with which a SEAM_STREAM item is refused, 0 for one that starts. -/
def State.streamCode (s : State) (i : Item) : Nat :=
  s.streamRefusal i.ns i.first i.units (bitsAt i.arg1 44 2) (i.arg1.testBit 46)

theorem exec_seamStream_refused (hq : SeamQueued s n 1 i) (hm : s.mode M.pink = true) (hc : (s.begun n).streamCode i ≠ 0) :
    exec (.seamStream n) s = .next ((s.begun n).endSeam n ((s.begun n).streamCode i) 0 0) :=
  congrArg Host.Outcome.next ((State.seamItem_runs hq hm _).trans (if_pos hc))

theorem exec_seamStream_starts (hq : SeamQueued s n 1 i) (hm : s.mode M.pink = true) (hc : (s.begun n).streamCode i = 0) :
    exec (.seamStream n) s =
      .next (((s.begun n).newId.2.startStream ((s.begun n).streamOf n i)).checkStream ((s.begun n).streamOf n i).id) :=
  congrArg Host.Outcome.next ((State.seamItem_runs hq hm _).trans (if_neg (not_not.2 hc)))

/-! ### Record ranges (R50) -/

section
variable (hq : SeamQueued s n 2 i)
include hq

theorem exec_seamRegister_conflict (hh : (s.seam.ranges.any fun r => decide (r.ns = i.ns) && meets i.first i.units r.first r.count) = true) :
    exec (.seamRegister n) s = .next ((s.begun n).endSeam n 0x01 0 0) :=
  congrArg Host.Outcome.next ((State.seamItem_runs hq rfl _).trans (if_pos hh))

variable (hh : (s.seam.ranges.any fun r => decide (r.ns = i.ns) && meets i.first i.units r.first r.count) = false)
include hh

theorem exec_seamRegister_full (hl : 4096 ≤ s.seam.ranges.length) :
    exec (.seamRegister n) s = .next ((s.begun n).endSeam n 0x02 0 0) :=
  congrArg Host.Outcome.next ((State.seamItem_runs hq rfl _).trans ((if_neg (Bool.not_eq_true _ ▸ hh)).trans (if_pos hl)))

theorem exec_seamRegister_adds (hl : s.seam.ranges.length < 4096) :
    let r : RecRange := ⟨i.ns, i.first, i.units, bitsAt i.arg1 32 12 + 1, i.arg1.testBit 46, i.panel⟩
    exec (.seamRegister n) s =
      .next (({ s.begun n with seam := { (s.begun n).seam with ranges := s.seam.ranges ++ [r] } } : State).endSeam n 0 0 0) :=
  congrArg Host.Outcome.next
    ((State.seamItem_runs hq rfl _).trans ((if_neg (Bool.not_eq_true _ ▸ hh)).trans (if_neg (Nat.not_le.2 hl))))

end

/-! ### Unpicks (R89) -/

theorem exec_seamUnpick_hem (hq : SeamQueued s n 3 i) (hm : s.mode M.unpick = true) (hh : s.touchesHem i.ns i.first i.units = true) :
    exec (.seamUnpick n) s = .next (((s.begun n).count P.unpk 0x050).endSeam n 0x05 0 0) :=
  congrArg Host.Outcome.next ((State.seamItem_runs hq hm _).trans (if_pos hh))

/-- The Unpick that a SEAM_UNPICK item begins. -/
def newUnpick (n : Nat) (i : Item) : Unpick := ⟨some n, i.ns, i.first, i.units, 0, [], [], false, false, []⟩

theorem exec_seamUnpick_begins (hq : SeamQueued s n 3 i) (hm : s.mode M.unpick = true) (hh : s.touchesHem i.ns i.first i.units = false) :
    exec (.seamUnpick n) s = .next
      ({ s.begun n with seam := { (s.begun n).seam with unpicks := s.seam.unpicks ++ [newUnpick n i] } } : State).nextUnpicks :=
  congrArg Host.Outcome.next ((State.seamItem_runs hq hm _).trans (if_neg (Bool.not_eq_true _ ▸ hh)))

/-! ### Hem appends (R97, R102) -/

theorem exec_seamHemAppend_readOnly (hq : SeamQueued s n 5 i) (hm : s.mode M.hem = true) (hr : s.rd P.recl R.recl_READONLY ≠ 0) :
    exec (.seamHemAppend n) s = .next ((s.begun n).endSeam n 0x0B 0 0) :=
  congrArg Host.Outcome.next ((State.seamItem_runs hq hm _).trans (if_pos ((s.on_iff _ _).2 hr)))

theorem exec_seamHemAppend_data (hq : SeamQueued s n 5 i) (hm : s.mode M.hem = true) {d : List Byte}
    (hr : s.rd P.recl R.recl_READONLY = 0) (hd : ∀ f, (s.begun n).appendData i f = f d (s.begun n)) :
    exec (.seamHemAppend n) s =
      .next (if s.seam.hemWait = [] ∧ s.hemUse < s.hemBudget then (s.begun n).hemTake n i.region d
        else { s.begun n with seam := { (s.begun n).seam with hemWait := s.seam.hemWait ++ [(n, i.region, d)] } }) := by
  have hrun : ¬ s.on P.recl R.recl_READONLY = true := fun h => (s.on_iff _ _).1 h hr
  exact congrArg Host.Outcome.next ((State.seamItem_runs hq hm _).trans ((if_neg hrun).trans (hd _)))

/-! ### DMA items (R351) -/

theorem exec_dma_noLink (hq : Queued s n 6 i)
    (h : (s.mode M.host = false ∧ s.mode M.net = false) ∨ (i.toHost = true ∧ s.nvme.linkUp = false)) :
    exec (.dma n) s = .next ((s.begun n).dmaEnd n 4 i.hostAt) :=
  congrArg Host.Outcome.next ((State.begin_queued hq _).trans (if_pos (by
    simp only [Bool.or_eq_true, Bool.and_eq_true, Bool.not_eq_true']
    exact h)))

theorem exec_dma_linked (hq : Queued s n 6 i) (hm : s.mode M.host = true ∨ s.mode M.net = true)
    (hl : i.toHost = false ∨ s.nvme.linkUp = true) : exec (.dma n) s =
      .next (if i.toHost = true ∧ s.mode M.panel = true ∧ s.panelActive i.panel = false then (s.begun n).dmaEnd n 5 i.hostAt
        else s.begun n) := by
  have hlink : ((!s.mode M.host && !s.mode M.net) || (i.toHost && !s.nvme.linkUp)) = false := by
    rcases hm with hm | hm <;> rcases hl with hl | hl <;> simp [hm, hl]
  refine congrArg Host.Outcome.next ((State.begin_queued hq _).trans ((if_neg (Bool.not_eq_true _ ▸ hlink)).trans ?_))
  refine if_congr ?_ rfl rfl
  simp only [Bool.and_eq_true, Bool.not_eq_true', and_assoc]
  exact Iff.rfl

/-- The size of a DMA request (log entry 32). -/
theorem Item.chunk_bounds (h : i.dmaDone < i.arg2) :
    0 < i.chunk ∧ i.chunk ≤ 4096 ∧ i.dmaDone + i.chunk ≤ i.arg2 ∧ (hostBase ≤ i.arg1 → i.chunk ≤ 512) := by
  unfold Item.chunk
  simp only
  split <;> split <;> omega

section
variable (hi : s.item? n = some i) (hk : i.kind = 6) (hst : i.st = .running)
include hi hk hst

theorem exec_dmaRequestComplete_fails {c : Nat} (hc : c = 1 ∨ c = 3 ∨ c = 4) :
    exec (.dmaRequestComplete n c) s = .next (s.dmaEnd n c i.hostAt) := by
  refine congrArg Host.Outcome.next ?_
  simp only [hi]
  rw [if_neg (by simp [hk, hst]; omega), if_pos (by omega)]

theorem exec_dmaTimeout_running : exec (.dmaTimeout n) s = .next (s.dmaEnd n 2 i.hostAt) := by
  refine congrArg Host.Outcome.next ?_
  simp only [hi]
  exact State.whenB_true (by simp [hk, hst]) _

/-- The state as the outstanding request of a DMA item delivers its bytes. -/
def State.dmaMoved (s : State) (n : Nat) (i : Item) (b : List Byte) : State :=
  ((s.busWrite i.panel (i.arg1 + i.dmaDone) b).countN P.pci 0x048 i.chunk).updItem n fun j => { j with dmaDone := j.dmaDone + i.chunk }

theorem exec_dmaRequestComplete_moves {b : List Byte} (hb : ∀ f, s.busRead i.panel (i.arg0 + i.dmaDone) i.chunk f = f b s) :
    exec (.dmaRequestComplete n 0) s = .next
      (if i.cancel = true then ((s.dmaMoved n i b).count P.pci 0x040).cplItem 71 n Cs.cancelled 0
        else if i.dmaDone + i.chunk = i.arg2 then (s.dmaMoved n i b).dmaEnd n 0 0 else s.dmaMoved n i b) := by
  refine congrArg Host.Outcome.next ?_
  simp only [hi]
  rw [if_neg (by simp [hk, hst]), if_neg (by simp), hb]
  refine if_congr Iff.rfl rfl ?_
  simp only [State.whenB, beq_iff_eq]
  rfl

end

/-! ### Buffers released (R339) -/

theorem exec_bufRelease_held (hq : Queued s n 7 i) {b : Nat} {x : StgReq} (ha : stgOfAddr i.arg0 = some b)
    (hx : Tbl.at? s.stg.bufs b = some x) (hp : x.panel = i.panel) :
    exec (.bufRelease n) s = .next (((s.begun n).stgRelease b).completeItem n Cs.ok 0) := by
  have hmine : ((stgOfAddr i.arg0).filter fun b => ((Tbl.at? (s.begun n).stg.bufs b).map (·.panel)) == some i.panel) = some b := by
    have hat : Tbl.at? (s.begun n).stg.bufs b = some x := hx
    simp [ha, hat, hp, Option.filter_some]
  refine congrArg Host.Outcome.next ((State.begin_queued hq _).trans ?_)
  simp only [hmine]

theorem exec_bufRelease_noBuffer (hq : Queued s n 7 i) (ha : stgOfAddr i.arg0 = none) :
    exec (.bufRelease n) s = .next ((s.begun n).completeItem n Cs.badBuffer 0) := by
  refine congrArg Host.Outcome.next ((State.begin_queued hq _).trans ?_)
  simp only [ha, Option.filter_none]

end

/-! ### The end of a DMA item (R351) -/

/-- A recorded error leaves a field of its page that is not of the error registers. -/
theorem State.rd_err_ne (s : State) {p : Nat} {f : Fld} (code info addr : Nat) (hc : fkey p R.common_ERR_CODE 0 ≠ fkey p f 0)
    (hi : fkey p R.common_ERR_INFO 0 ≠ fkey p f 0) (hlo : fkey p R.common_ERR_ADDR_LO 0 ≠ fkey p f 0)
    (hhi : fkey p R.common_ERR_ADDR_HI 0 ≠ fkey p f 0) (hmore : fkey p R.common_ERR_MORE 0 ≠ fkey p f 0) :
    (s.err p code info addr).rd p f = s.rd p f := by
  unfold State.err
  split
  · rw [State.rd_wr_ne _ _ hhi, State.rd_wr_ne _ _ hlo, State.rd_wr_ne _ _ hi, State.rd_wr_ne _ _ hc]
  · exact State.rd_wr_ne _ _ hmore

/-- The state with a DMA code shown, its count and its error, the item's completion not yet presented. -/
def State.dmaShown (s : State) (code addr : Nat) : State :=
  ((((s.count P.pci 0x040).wr P.pci R.pci_LAST_DMA_CODE code).whenB (code == 2) fun s => s.count P.pci 0x050).whenB (code != 0)
    fun s => (s.err P.pci 0x01 code addr).raise P.pci 2)

theorem State.dmaShown_code (s : State) (code addr : Nat) :
    (s.dmaShown code addr).rd P.pci R.pci_LAST_DMA_CODE = code % 2 ^ R.pci_LAST_DMA_CODE.w := by
  have hcount : (((s.count P.pci 0x040).wr P.pci R.pci_LAST_DMA_CODE code).whenB (code == 2) fun s => s.count P.pci 0x050).rd P.pci
      R.pci_LAST_DMA_CODE = code % 2 ^ R.pci_LAST_DMA_CODE.w := by
    unfold State.whenB
    split
    · rw [State.rd_count, State.rd_wr_same]
    · exact State.rd_wr_same ..
  rw [State.dmaShown, State.whenB]
  split
  · rw [State.rd_raise_ne _ _ (by decide), State.rd_err_ne _ _ _ _ (by decide) (by decide) (by decide) (by decide) (by decide), hcount]
  · exact hcount

theorem State.dmaShown_spool (s : State) (code addr : Nat) : (s.dmaShown code addr).spool = s.spool := by
  unfold State.dmaShown State.whenB
  split <;> split <;> simp

theorem State.dmaEnd_code (s : State) (n code addr : Nat) :
    (s.dmaEnd n code addr).rd P.pci R.pci_LAST_DMA_CODE = code % 2 ^ R.pci_LAST_DMA_CODE.w := by
  have hcpl : (s.dmaEnd n code addr).rd P.pci R.pci_LAST_DMA_CODE = (s.dmaShown code addr).rd P.pci R.pci_LAST_DMA_CODE := by
    show ((s.dmaShown code addr).cplUnit 71 n code 0).rd _ _ = _
    unfold State.cplUnit
    split <;> rfl
  rw [hcpl, State.dmaShown_code]

theorem State.dmaEnd_cpls (s : State) (n code addr : Nat) : (s.dmaEnd n code addr).spool.cpls =
    s.spool.cpls ++ [if code = 0 then ⟨71, some n, Cs.ok, 0, 0⟩ else ⟨71, some n, Cs.unit, code, 0⟩] := by
  show ((s.dmaShown code addr).cplUnit 71 n code 0).spool.cpls = _
  rw [← s.dmaShown_spool code addr]
  unfold State.cplUnit
  split <;> rfl

/-! ### Hem regions created (R94) -/

theorem State.freeGroup_hem (s : State) (g : Nat) : (s.freeGroup g).seam.hem = s.seam.hem :=
  (State.foldl_keeps (fun s => s.seam.hem) (fun s i => by rw [State.stgDrop_frame]) _ _).trans rfl

theorem State.unmap_hem (s : State) (ns u : Nat) : (s.unmap ns u).seam.hem = s.seam.hem := by
  unfold State.unmap
  simp only
  rw [State.forgetDisk_frame]
  split
  · exact State.freeGroup_hem _ _
  · rfl

/-- A search for a free key finds one, or every key that it passes is held. -/
theorem Tbl.freeKey_free_or {β : Type} (t : Tbl β) (fuel : Nat) : ∀ n,
    Tbl.has t (Tbl.freeKey t fuel n) = false ∨ ∀ k, n ≤ k → k < n + fuel → Tbl.has t k = true := by
  induction fuel with
  | zero => exact fun n => .inr fun k hlo hhi => by omega
  | succ fuel ih =>
    intro n
    cases hn : Tbl.has t n with
    | false => exact .inl (by simp [Tbl.freeKey, hn])
    | true =>
      rw [Tbl.freeKey, if_pos hn]
      refine (ih (n + 1)).imp_right fun hall k hlo hhi => ?_
      rcases Nat.eq_or_lt_of_le hlo with rfl | hlt
      · exact hn
      · exact hall k hlt (by omega)

/-- A table of fewer than `fuel` entries has a free key below `fuel`. -/
theorem Tbl.freeKey_free {β : Type} {t : Tbl β} {fuel : Nat} (h : List.length t < fuel) : Tbl.has t (Tbl.freeKey t fuel 0) = false := by
  refine (Tbl.freeKey_free_or t fuel 0).resolve_right fun hall => ?_
  have hsub : List.range fuel ⊆ List.map Prod.fst t := fun k hk =>
    Tbl.mem_keys_of_has (hall k (Nat.zero_le k) (by simpa using List.mem_range.1 hk))
  have hle := (List.nodup_range.subperm hsub).length_le
  simp only [List.length_map, List.length_range] at hle
  omega

/-- The number of the next region. -/
def State.hemNew (s : State) : Nat := Tbl.freeKey s.seam.hem 4096 0

/-- A region as it is created: empty, its chain at the seed of its descriptor. -/
def State.hemRegion (s : State) (ns first count : Nat) : HemRegion :=
  { ns := ns, first := first, count := count, seq := s.seam.seq, nextIdx := 0, tail := hemSeed s.hemNew ns first s.seam.seq,
    openData := [], openIdx := none, appends := [], passedTo := 0, passed := [], migWm := 0, sealedAt := [],
    migrating := false, migStop := false, freedTo := 0 }

theorem State.hemMake_conflict {s : State} {ns a k : Nat} (h : s.touchesHem ns a k = true) : s.hemMake ns a k = (1, 0, s) := if_pos h

theorem State.hemMake_full {s : State} {ns a k : Nat} (h : s.touchesHem ns a k = false) (hl : 4096 ≤ s.seam.hem.length) :
    s.hemMake ns a k = (2, 0, s) := (if_neg (Bool.not_eq_true _ ▸ h)).trans (if_pos hl)

theorem State.hemMake_new {s : State} {ns a k : Nat} (h : s.touchesHem ns a k = false) (hl : s.seam.hem.length < 4096) :
    (s.hemMake ns a k).1 = 0 ∧ (s.hemMake ns a k).2.1 = s.hemNew ∧
      (s.hemMake ns a k).2.2.seam.hem = Tbl.put s.seam.hem s.hemNew (s.hemRegion ns a k) := by
  have hkeep (l : List Nat) := State.foldl_keeps (fun s => s.seam.hem)
    (f := fun s k => s.unmap ns (k - mapKey ns 0)) (fun s k => s.unmap_hem ns _) l s
  rw [State.hemMake, if_neg (Bool.not_eq_true _ ▸ h), if_neg (Nat.not_le.2 hl)]
  exact ⟨rfl, rfl, congrArg (Tbl.put · s.hemNew (s.hemRegion ns a k)) (hkeep _)⟩

theorem State.hemMake_does {s : State} {ns a k : Nat} (h : s.touchesHem ns a k = false) (hl : s.seam.hem.length < 4096) :
    let r := s.hemMake ns a k
    r.1 = 0 ∧ Tbl.has s.seam.hem r.2.1 = false ∧ ∃ h, Tbl.at? r.2.2.seam.hem r.2.1 = some h ∧ h.ns = ns ∧ h.first = a ∧ h.count = k ∧
      h.nextIdx = 0 ∧ h.seq = s.seam.seq ∧ h.tail = hemSeed r.2.1 ns a s.seam.seq ∧ h.openData = [] ∧ h.migWm = 0 ∧
      ∀ j, j ≠ r.2.1 → Tbl.at? r.2.2.seam.hem j = Tbl.at? s.seam.hem j := by
  obtain ⟨hcode, hnum, hhem⟩ := State.hemMake_new h hl
  simp only [hcode, hnum, hhem]
  exact ⟨trivial, Tbl.freeKey_free hl, s.hemRegion ns a k, Tbl.at?_put_same _ _ _, rfl, rfl, rfl, rfl, rfl, rfl, rfl, rfl,
    fun j hj => Tbl.at?_put_ne _ _ (Ne.symm hj)⟩

/-! ### The obligation -/

/-- Settles O55: each clause is the lemma above about its item. -/
theorem spoolUnits : Obligations.SpoolUnits := by
  unfold Obligations.SpoolUnits
  intro s n i
  exact ⟨exec_seamItem_disabled, exec_seamItem_locked,
    fun hq hm => ⟨exec_seamStream_refused hq hm, fun hc => ⟨(s.begun n).newId.2, (s.begun n).streamOf n i, exec_seamStream_starts hq hm hc,
      rfl, rfl, rfl, rfl, rfl, rfl, rfl, rfl, rfl, rfl, rfl, rfl, rfl⟩⟩,
    fun hq => ⟨exec_seamRegister_conflict hq, exec_seamRegister_full hq, exec_seamRegister_adds hq⟩,
    fun hq hm => ⟨exec_seamUnpick_hem hq hm, fun hh => ⟨_, exec_seamUnpick_begins hq hm hh, newUnpick n i, rfl, rfl, rfl, rfl, rfl, rfl⟩⟩,
    fun hq hm => congrArg Host.Outcome.next (State.seamItem_runs hq hm _),
    fun ns a k => ⟨State.hemMake_conflict, State.hemMake_full, State.hemMake_does⟩,
    fun hq hm => ⟨exec_seamHemAppend_readOnly hq hm, fun d => exec_seamHemAppend_data hq hm⟩,
    fun hq => congrArg Host.Outcome.next (State.begin_queued hq _), fun hq => congrArg Host.Outcome.next (State.begin_queued hq _),
    fun hq => congrArg Host.Outcome.next (State.begin_queued hq _), fun hq => ⟨exec_dma_noLink hq, exec_dma_linked hq⟩, Item.chunk_bounds,
    fun hi hk hst => ⟨fun c => exec_dmaRequestComplete_fails hi hk hst, exec_dmaTimeout_running hi hk hst,
      fun b hb v hv => hv ▸ exec_dmaRequestComplete_moves hi hk hst hb⟩,
    fun c a => ⟨s.dmaEnd_code n c a, s.dmaEnd_cpls n c a⟩,
    fun hq => ⟨fun b x => exec_bufRelease_held hq, exec_bufRelease_noBuffer hq⟩⟩

end Sys2Proof.Machine
end

section
/-!
PROOFS. Hem regions: the chain check, seals, migration to the disk, and the release by the host (03_seam_reclaim.md R94 to R97, R100 to R102;
19_trust_pattern.md R483).
-/

namespace Sys2Proof.Machine

/-! ### The chain check asked for (R100) -/

theorem vfyGo_does {s : State} {ag : Agent} {r : Nat} (ha : Reaches s ag P.hem) (hreg : r = s.rd P.hem R.hem_VFY_REGION % 4096)
    (hv : s.seam.vfy = none) (he : s.en P.hem = true) (hr : Tbl.has s.seam.hem r = true) :
    Does (.vfyGo ag) s fun t => t.seam = { s.seam with vfy := some r } ∧ t.rd P.hem R.hem_VFY_BUSY = 1 ∧
      t = { s with seam := t.seam, regs := t.regs } ∧ SameRegs s t [fkey P.hem R.hem_VFY_BUSY 0, fkey P.hem R.hem_VFY_REGION 0] := by
  subst hreg
  have he' : (s.wr P.hem R.hem_VFY_REGION (s.rd P.hem R.hem_VFY_REGION)).en P.hem = true := by
    rwa [State.en, State.on, State.rd_wr_ne _ _ (by decide)]
  refine ⟨_, congrArg Host.Outcome.next ((State.gated_reaches ha _ _ _).trans (if_neg ?_)), rfl, State.rd_wr_same .., rfl, ?_⟩
  · simp [he', hv, hr]
  · exact SameRegs.wr (t := { s.wr P.hem R.hem_VFY_REGION (s.rd P.hem R.hem_VFY_REGION) with seam := _ })
      ((SameRegs.refl s _).wr (by simp) _) (by simp) 1

/-! ### The walk along a chain (R96, R100) -/

/-- The units of a region from index `k` on, `n` of them, have the bytes `f 0`, `f 1` and so on, each holding the hash of the one before, the first
one `hash`; the hash of the last one is the stored tail. -/
def State.Chained (s : State) (r : Nat) (h : HemRegion) (n k : Nat) (hash : List Byte) (f : Nat → List Byte) : Prop :=
  (∀ j, j < n → s.hemBytes r h (k + j) = some (f j) ∧ hemPrev (f j) = if j = 0 then hash else sha256 (f (j - 1))) ∧
    h.tail = if n = 0 then hash else sha256 (f (n - 1))

theorem State.chained_succ (s : State) (r : Nat) (h : HemRegion) (n k : Nat) (hash : List Byte) (f : Nat → List Byte) :
    s.Chained r h (n + 1) k hash f ↔
      (s.hemBytes r h k = some (f 0) ∧ hemPrev (f 0) = hash) ∧ s.Chained r h n (k + 1) (sha256 (f 0)) fun j => f (j + 1) := by
  have hprev (j : Nat) : (if j = 0 then sha256 (f 0) else sha256 (f (j - 1 + 1))) = sha256 (f j) := by cases j <;> rfl
  have hnext (j : Nat) : k + 1 + j = k + (j + 1) := by omega
  simp only [State.Chained, Nat.forall_lt_succ_left]
  simp [and_assoc, hprev, hnext]

theorem State.hemWalk_none_iff (s : State) (r : Nat) (h : HemRegion) (n : Nat) : ∀ k hash,
    s.hemWalk r h n k hash = none ↔ ∃ f, s.Chained r h n k hash f := by
  induction n with
  | zero => exact fun k hash => by simp [State.hemWalk, State.Chained, eq_comm]
  | succ n ih =>
    intro k hash
    simp only [State.chained_succ]
    constructor
    · intro hw
      rw [State.hemWalk] at hw
      split at hw
      · cases hw
      · rename_i b hb
        split at hw
        · rename_i hp
          obtain ⟨f, hf⟩ := (ih _ _).1 hw
          exact ⟨fun j => j.casesOn b f, ⟨hb, hp⟩, hf⟩
        · cases hw
    · rintro ⟨f, ⟨hb, hp⟩, hf⟩
      rw [State.hemWalk, hb]
      exact (if_pos hp).trans ((ih _ _).2 ⟨_, hf⟩)

/-! ### The end of the check (R100) -/

/-- An error captured leaves the page's own fields alone. -/
theorem State.rd_err_off (s : State) {p : Nat} {f : Fld} (code info addr : Nat) (h : 0x100 ≤ f.off ∧ f.off < 4096 ∧ f.lo < 32) :
    (s.err p code info addr).rd p f = s.rd p f := by
  have hne {g : Fld} (hg : g.off < 0x100 ∧ g.lo < 32) : fkey p g 0 ≠ fkey p f 0 := fkey_ne_of_off (by omega)
  exact State.rd_err_ne s code info addr (hne (by decide)) (hne (by decide)) (hne (by decide)) (hne (by decide)) (hne (by decide))

/-- The check in progress taken off. -/
def State.checkOver (s : State) : State := ({ s with seam := { s.seam with vfy := none } } : State).wr P.hem R.hem_VFY_BUSY 0

/-- The result of a check shown: the first unit that fails, where one does. -/
def State.checkResult (s : State) : Option Nat → State
  | some k => ((s.wr P.hem R.hem_VFY_BREAK 1).wr P.hem R.hem_VFY_INDEX k).err P.hem 0x01 0 0
  | none => (s.wr P.hem R.hem_VFY_BREAK 0).wr P.hem R.hem_VFY_INDEX 0xFFFFFFFF

theorem State.checkResult_frame (s : State) (bad : Option Nat) : RegFrame s (s.checkResult bad) := by
  cases bad with
  | some k => exact (((RegFrame.refl s).wr _ _ _).wr _ _ _).err _ _ _ _
  | none => exact ((RegFrame.refl s).wr _ _ _).wr _ _ _

theorem State.checkResult_ctrs (s : State) (bad : Option Nat) : (s.checkResult bad).ctrs = s.ctrs := by
  cases bad <;> simp [State.checkResult]

theorem State.checkResult_busy (s : State) (bad : Option Nat) :
    (s.checkResult bad).rd P.hem R.hem_VFY_BUSY = s.rd P.hem R.hem_VFY_BUSY := by
  cases bad with
  | some k =>
    rw [State.checkResult, State.rd_err_off _ _ _ _ (by decide),
      State.rd_wr_ne _ _ (by decide), State.rd_wr_ne _ _ (by decide)]
  | none => rw [State.checkResult, State.rd_wr_ne _ _ (by decide), State.rd_wr_ne _ _ (by decide)]

theorem State.checkResult_break (s : State) (bad : Option Nat) :
    (s.checkResult bad).rd P.hem R.hem_VFY_BREAK = if bad.isSome then 1 else 0 := by
  cases bad with
  | some k =>
    rw [State.checkResult, State.rd_err_off _ _ _ _ (by decide),
      State.rd_wr_ne _ _ (by decide), State.rd_wr_same]
    rfl
  | none =>
    rw [State.checkResult, State.rd_wr_ne _ _ (by decide), State.rd_wr_same]
    rfl

theorem State.checkResult_index (s : State) (bad : Option Nat) :
    (s.checkResult bad).rd P.hem R.hem_VFY_INDEX = bad.getD 0xFFFFFFFF % 2 ^ 32 := by
  cases bad with
  | some k =>
    rw [State.checkResult, State.rd_err_off _ _ _ _ (by decide), State.rd_wr_same]
    rfl
  | none =>
    rw [State.checkResult, State.rd_wr_same]
    rfl

theorem State.checkResult_error (s : State) {bad : Option Nat} (hb : bad.isSome = true) (he : s.rd P.hem R.common_ERR_CODE = 0) :
    (s.checkResult bad).rd P.hem R.common_ERR_CODE = 1 := by
  obtain ⟨k, rfl⟩ := Option.isSome_iff_exists.1 hb
  exact State.rd_err_code _ _ _ _ _ (by rw [State.rd_wr_ne _ _ (by decide), State.rd_wr_ne _ _ (by decide), he])

/-- What the check of a region finds. -/
def State.checkFinds (s : State) (r : Nat) : Option Nat :=
  (Tbl.at? s.seam.hem r).bind fun h => s.hemWalk r h h.nextIdx 0 (hemSeed r h.ns h.first h.seq)

theorem State.checkFinds_region {s : State} {r : Nat} {h : HemRegion} (hr : Tbl.at? s.seam.hem r = some h) :
    s.checkFinds r = s.hemWalk r h h.nextIdx 0 (hemSeed r h.ns h.first h.seq) := by
  rw [State.checkFinds, hr, Option.bind_some]

theorem exec_hemChainCheckDone {s : State} {r : Nat} (hv : s.seam.vfy = some r) :
    exec .hemChainCheckDone s = .next ((s.checkOver.checkResult (s.checkOver.checkFinds r)).raise P.hem 0) := by
  refine (show exec .hemChainCheckDone s = execHemChainCheckDone s from rfl).trans ?_
  rw [execHemChainCheckDone, hv]
  rfl

theorem hemChainCheckDone_does {s : State} {r : Nat} {h : HemRegion} (hv : s.seam.vfy = some r) (hr : Tbl.at? s.seam.hem r = some h) :
    Does .hemChainCheckDone s fun t =>
      let bad := s.checkOver.hemWalk r h h.nextIdx 0 (hemSeed r h.ns h.first h.seq)
      t.seam = { s.seam with vfy := none } ∧ t.rd P.hem R.hem_VFY_BUSY = 0 ∧ t.rd P.hem R.hem_VFY_BREAK = (if bad.isSome then 1 else 0) ∧
        t.rd P.hem R.hem_VFY_INDEX = bad.getD 0xFFFFFFFF % 2 ^ 32 ∧ (t.rd P.hem R.common_INT_RAW).testBit 0 = true ∧
        (bad.isSome = true → s.rd P.hem R.common_ERR_CODE = 0 → t.rd P.hem R.common_ERR_CODE = 1) ∧
        t = { s with seam := t.seam, regs := t.regs, outbox := t.outbox } := by
  refine ⟨_, exec_hemChainCheckDone hv, ?_⟩
  rw [State.checkFinds_region (s := s.checkOver) hr]
  generalize s.checkOver.hemWalk r h h.nextIdx 0 (hemSeed r h.ns h.first h.seq) = bad
  have hframe := (s.checkOver.checkResult_frame bad).raise P.hem 0
  have hseam : ((s.checkOver.checkResult bad).raise P.hem 0).seam = s.checkOver.seam := hframe.seam_eq
  refine ⟨hseam, ?_, ?_, ?_, State.testBit_raise _ _ (by decide), fun hb he => ?_, ?_⟩
  · rw [State.rd_raise_ne _ _ (by decide), State.checkResult_busy]
    exact State.rd_wr_same ..
  · rw [State.rd_raise_ne _ _ (by decide), State.checkResult_break]
  · rw [State.rd_raise_ne _ _ (by decide), State.checkResult_index]
  · rw [State.rd_raise_ne _ _ (by decide)]
    exact State.checkResult_error _ hb ((State.rd_wr_ne _ _ (by decide)).trans he)
  · have hsent := hframe.uncounted (by rw [State.raise_ctrs, State.checkResult_ctrs])
    rw [hseam]
    exact hsent

/-! ### The bytes of a sealed unit (R95) -/

@[simp] theorem length_natLE (n : Nat) : ∀ v, (natLE n v).length = n := by
  induction n with
  | zero => exact fun _ => rfl
  | succ n ih => exact fun v => congrArg (· + 1) (ih _)

/-- The trailer's 24 bytes before PREV_HASH. -/
def hemTrailerHead (r i t : Nat) (d : List Byte) : List Byte :=
  natLE 2 r ++ natLE 2 0 ++ natLE 4 i ++ natLE 4 d.length ++ natLE 4 0 ++ natLE 8 t

theorem length_hemTrailerHead (r i t : Nat) (d : List Byte) : (hemTrailerHead r i t d).length = 24 := by simp [hemTrailerHead]

/-- A sealed unit: its data, zeros, the head of the trailer, PREV_HASH, and eight bytes more. -/
theorem hemUnitBytes_eq (r i t : Nat) (d p : List Byte) : ∃ e : List Byte, e.length = 8 ∧
    hemUnitBytes r i t d p = (d ++ zeros (65472 - d.length)) ++ (hemTrailerHead r i t d ++ (p ++ e)) := by
  refine ⟨natLE 4 0 ++ natLE 4 (crc32c (hemTrailerHead r i t d ++ p ++ natLE 4 0)), by simp, ?_⟩
  simp [hemUnitBytes, hemTrailerHead, List.append_assoc]

theorem hemUnitBytes_fields (r i t : Nat) {d p : List Byte} (hd : List.length d ≤ 65472) (hp : List.length p = 32) :
    (hemUnitBytes r i t d p).length = 65536 ∧ (hemUnitBytes r i t d p).take d.length = d ∧ hemPrev (hemUnitBytes r i t d p) = p := by
  obtain ⟨e, he, heq⟩ := hemUnitBytes_eq r i t d p
  have hpad : (d ++ zeros (65472 - d.length)).length = 65472 := by rw [List.length_append, zeros, List.length_replicate]; omega
  have hhead := length_hemTrailerHead r i t d
  rw [heq]
  refine ⟨?_, ?_, ?_⟩
  · rw [List.length_append, hpad, List.length_append, hhead, List.length_append, hp, he]
  · rw [List.append_assoc, List.take_left']
    rfl
  · rw [hemPrev, ← List.append_assoc, List.drop_left' (by rw [List.length_append, hpad, hhead]), List.take_left' hp]

/-! ### Seals (R95 to R97) -/

/-- The bytes that the open unit of a region is sealed to. -/
def State.sealBytes (s : State) (r : Nat) (h : HemRegion) : List Byte := hemUnitBytes r h.nextIdx s.rtcUs h.openData h.tail

/-- A region whose open unit has been sealed to the bytes `b`. -/
def State.sealedRegion (s : State) (b : List Byte) (h : HemRegion) : HemRegion :=
  { h with nextIdx := h.nextIdx + 1, tail := sha256 b, openData := [], sealedAt := Tbl.put h.sealedAt h.nextIdx s.rtcUs }

/-- The state with the open unit of a region sealed and counted, not yet placed. -/
def State.sealed (s : State) (r : Nat) (h : HemRegion) : State := (s.updHem r (s.sealedRegion (s.sealBytes r h))).count P.hem 0x048

/-- The write of a sealed unit. -/
def State.sealUnit (s : State) (r : Nat) (h : HemRegion) : UnitWrite :=
  { mkUnit (.hem r h.nextIdx) h.ns (h.first + h.nextIdx) (((Tbl.at? s.nvme.ns h.ns).map (·.panel)).getD 0) none 3 false (s.sealBytes r h)
    with hemReg := r, hemIdx := h.nextIdx }

section
variable {s : State} {r : Nat} {h : HemRegion}

theorem State.hemSeal_empty (hr : Tbl.at? s.seam.hem r = some h) (ho : h.openData = []) : s.hemSeal r = s := by
  rw [State.hemSeal, hr]
  exact if_pos ho

theorem State.hemSeal_open (hr : Tbl.at? s.seam.hem r = some h) (ho : h.openData ≠ []) : s.hemSeal r =
    (((s.sealed r h).putUnits [s.sealUnit r h] 2).whenB (decide (((s.sealed r h).putUnits [s.sealUnit r h] 2).hemBudget ≤
      ((s.sealed r h).putUnits [s.sealUnit r h] 2).hemUse)) fun v => v.raise P.hem 2) := by
  rw [State.hemSeal, hr]
  exact if_neg ho

theorem State.sealed_region (hr : Tbl.at? s.seam.hem r = some h) :
    Tbl.at? (s.sealed r h).seam.hem r = some (s.sealedRegion (s.sealBytes r h) h) := by
  rw [State.sealed, State.count_seam, State.updHem, Tbl.at?_upd, if_pos rfl, hr]
  rfl

theorem State.sealed_frame (s : State) (r : Nat) (h : HemRegion) :
    s.sealed r h = { s with seam := (s.sealed r h).seam, ctrs := (s.sealed r h).ctrs } := by
  rw [State.sealed, State.count_seam]
  exact State.count_frame _ _ _

theorem exec_hemSealTimer_runs (hs : s.seamRuns = true) (hh : s.seam.pfailHold = false) :
    exec (.hemSealTimer r) s = .next (s.hemSeal r) :=
  congrArg Host.Outcome.next (State.whenB_true (by rw [hs, hh]; rfl) _)

/-! ### Migration begins (R101 step 1, R102) -/

/-- The next unit of a region on its way to the disk, nothing of it read yet. -/
def State.hemMig (s : State) (r : Nat) (h : HemRegion) : Mig := ⟨s.seam.nextId, h.ns, h.first + h.migWm, .hem r h.migWm, [], 0, 0, 0, 0⟩

theorem State.hemMigRead_seam (s : State) (r : Nat) (h : HemRegion) : (s.hemMigRead r h).seam =
    { s.seam with nextId := s.seam.nextId + 1, hem := Tbl.upd s.seam.hem r fun h => { h with migrating := true },
                  migs := s.seam.migs ++ [s.hemMig r h] } := by
  unfold State.hemMigRead
  simp only
  rw [State.stgRequest_frame]
  rfl

theorem exec_hemMigrationTrigger_starts (hr : Tbl.at? s.seam.hem r = some h) (hs : s.seamRuns = true)
    (ha : s.mode M.arch = true) (he : s.en P.hem = true) (hm : h.migrating = false) (hc : h.canMigrate = true)
    (hd : s.hemAged h = true ∨ s.rd P.hem R.hem_MIG_HI * s.hemBudget < 100 * s.hemUse) :
    exec (.hemMigrationTrigger r) s = .next (s.hemMigRead r h) ∧ ∃ m : Mig, (s.hemMigRead r h).seam.migs = s.seam.migs ++ [m] ∧
      m.use = .hem r h.migWm ∧ m.ns = h.ns ∧ m.unit = h.first + h.migWm ∧
      Tbl.at? (s.hemMigRead r h).seam.hem r = some { h with migrating := true } := by
  refine ⟨congrArg Host.Outcome.next ?_, s.hemMig r h, by rw [State.hemMigRead_seam], rfl, rfl, rfl, ?_⟩
  · simp [hr, hs, ha, he, hm, hc, hd]
  · rw [State.hemMigRead_seam, Tbl.at?_upd, if_pos rfl, hr]
    rfl

theorem exec_hemMigrationTrigger_waits (hr : Tbl.at? s.seam.hem r = some h) (hm : h.migrating = true ∨ h.canMigrate = false) :
    exec (.hemMigrationTrigger r) s = .next s := by
  refine congrArg Host.Outcome.next ?_
  rcases hm with hm | hm <;> simp [hr, hm]

/-! ### The unit read back (R101 step 1, R102) -/

theorem exec_hemMigrationReadDone (hr : Tbl.at? s.seam.hem r = some h) {m : Mig} {n k : Nat} {d : List Byte}
    (hm : s.seam.migs = [m]) (hp : m.phase = 0) (hb : m.bytes = []) (hk : k = m.unit - h.first) (hu : m.use = .hem r k)
    (hn : s.stgFor (.job m.id) = some n) (hd : s.hemBytes r h k = some d) :
    let want := if k + 1 = h.nextIdx then some h.tail else (s.hemBytes r h (k + 1)).map hemPrev
    exec (.hemMigrationReadDone r) s = .next (if want = some (sha256 d) then
      (s.updMig m.id fun m => { m with bytes := d }).migGo { m with bytes := d }
    else ((s.dropMig m.id).updHem r fun h => { h with migrating := false, migStop := true }).err P.hem 0x02 0 0) := by
  subst hk
  have hfind : (s.seam.migs.find? fun m => m.phase = 0 ∧ m.bytes = [] ∧
      m.use = .hem r (m.unit - ((Tbl.at? s.seam.hem r).map (·.first)).getD 0)) = some m := by
    simp [hm, hr, hp, hb, hu]
  refine (show exec (.hemMigrationReadDone r) s = execHemMigrationReadDone r s from rfl).trans (congrArg Host.Outcome.next ?_)
  simp only [hfind]
  simp [hr, hn, hd]

/-! ### The unit on disk (R101 step 4) -/

theorem State.whenB_cases (s : State) (c : Bool) (f : State → State) : s.whenB c f = s ∨ s.whenB c f = f s := by
  cases c
  · exact .inl rfl
  · exact .inr rfl

/-- A unit of a region read back from the disk: listed in the archive, off the map, MIG_WM past it. -/
def State.hemListed (s : State) (m : Mig) (r k : Nat) : State :=
  (({ s.dropMig m.id with seam := { (s.dropMig m.id).seam with
        archive := Tbl.put (s.dropMig m.id).seam.archive (mapKey m.ns m.unit) m.place } } : State).updHem r
      fun h => { h with migWm := k + 1, migrating := false }).setEntry m.ns m.unit unmapped

/-- A unit of a region listed and counted. -/
def State.hemLanded (s : State) (m : Mig) (r k : Nat) : State := (s.hemListed m r k).count P.hem 0x050

theorem State.hemLanded_seam (s : State) (m : Mig) (r k : Nat) : (s.hemLanded m r k).seam = (s.hemListed m r k).seam :=
  State.count_seam _ _ _

theorem State.hemListed_hem (s : State) (m : Mig) (r k : Nat) :
    (s.hemListed m r k).seam.hem = Tbl.upd s.seam.hem r fun h => { h with migWm := k + 1, migrating := false } := by
  have hdrop : (s.dropMig m.id).seam.hem = s.seam.hem := by rw [State.dropMig, State.stgDrop_frame]
  rw [← hdrop]
  rfl

/-- After a unit the region goes on with its next one, or pauses. -/
theorem State.migDone_hem {m : Mig} {k : Nat} (hu : m.use = .hem r k) :
    s.migDone m = s.hemLanded m r k ∨ ∃ h, s.migDone m = (s.hemLanded m r k).hemMigRead r h := by
  unfold State.migDone
  simp only [hu]
  split
  · rename_i h _
    exact (State.whenB_cases (s.hemLanded m r k) _ _).imp_right fun hgo => ⟨h, hgo⟩
  · exact .inl rfl

theorem State.hemLanded_does (hr : Tbl.at? s.seam.hem r = some h) (m : Mig) (k : Nat) :
    (Tbl.at? (s.hemLanded m r k).seam.hem r).map (·.migWm) = some (k + 1) ∧ (s.hemLanded m r k).onDisk m.ns m.unit = some m.place ∧
      eUnmapped ((s.hemLanded m r k).entry m.ns m.unit) = true := by
  refine ⟨?_, ?_, ?_⟩
  · rw [State.hemLanded_seam, State.hemListed_hem, Tbl.at?_upd, if_pos rfl, hr]
    rfl
  · rw [State.onDisk, State.hemLanded_seam]
    exact Tbl.at?_put_same _ _ _
  · rw [State.entry_congr (congrArg Seam.map (s.hemLanded_seam m r k)), State.hemListed, State.entry_setEntry_same]
    decide

theorem migDone_hem_does (hr : Tbl.at? s.seam.hem r = some h) {m : Mig} {k : Nat} (hu : m.use = .hem r k) : let t := s.migDone m
    (Tbl.at? t.seam.hem r).map (·.migWm) = some (k + 1) ∧ t.onDisk m.ns m.unit = some m.place ∧
      eUnmapped (t.entry m.ns m.unit) = true := by
  obtain ⟨hwm, hdisk, hmap⟩ := State.hemLanded_does hr m k
  rcases State.migDone_hem (s := s) hu with hdone | ⟨g, hdone⟩
  · rw [hdone]
    exact ⟨hwm, hdisk, hmap⟩
  · have hseam := (s.hemLanded m r k).hemMigRead_seam r g
    have hentry := State.entry_congr (s := s.hemLanded m r k) (t := (s.hemLanded m r k).hemMigRead r g) (by rw [hseam]) m.ns m.unit
    rw [hdone]
    refine ⟨?_, ?_, (congrArg eUnmapped hentry).trans hmap⟩
    · rw [hseam, Tbl.at?_upd, if_pos rfl, Option.map_map]
      exact hwm
    · rw [State.onDisk, hseam]
      exact hdisk

end

theorem State.migGo_stalls {s : State} {m : Mig} {n : Nat} (hn : s.stgFor (.job m.id) = some n) (hs : s.slvReady = false) :
    s.migGo m = s.migStall m := by
  rw [State.migGo, hn]
  exact if_pos (by rw [hs]; rfl)

/-! ### Mailbox commands that begin at once (R482, R483) -/

theorem State.mbCmd_ready {s : State} {ag : Agent} (hm : MbReady s ag) (n : Nat) :
    s.mbCmd ag n = State.serialNext 2 ((s.mbFrom n).startMailbox ag) := by
  obtain ⟨hreach, hbusy, hqueue, hidle⟩ := hm
  have hfree : (s.wr P.thm R.thm_MB_CMD n).on P.thm R.thm_MB_BUSY = false := by
    rw [State.on, State.rd_wr_ne _ _ (by decide), hbusy]
    rfl
  have hq : (s.mbFrom n).serial.queue = [] := hqueue
  rw [State.mbCmd, State.gated_reaches hreach, State.mbGo, if_neg (by simp [hfree])]
  change State.serialNext 3 { s.mbFrom n with serial := { (s.mbFrom n).serial with queue := (s.mbFrom n).serial.queue ++ [.mailbox ag] } } = _
  rw [hq]
  refine (if_neg (Bool.not_eq_true _ ▸ hidle)).trans (congrArg (fun u : State => State.serialNext 2 (u.startMailbox ag)) ?_)
  change { s.mbFrom n with serial := { (s.mbFrom n).serial with queue := [] } } = s.mbFrom n
  rw [← hq]

theorem State.rd_mbFrom_cmd (s : State) (n : Nat) : (s.mbFrom n).rd P.thm R.thm_MB_CMD = n % 2 ^ 8 := by
  rw [State.mbFrom, State.rd_wr_ne _ _ (by decide)]
  exact State.rd_wr_same ..

theorem State.rd_mbFrom_ne (s : State) (n : Nat) {p : Nat} {f : Fld} (hc : fkey P.thm R.thm_MB_CMD 0 ≠ fkey p f 0)
    (hb : fkey P.thm R.thm_MB_BUSY 0 ≠ fkey p f 0) : (s.mbFrom n).rd p f = s.rd p f := by
  rw [State.mbFrom, State.rd_wr_ne _ _ hb, State.rd_wr_ne _ _ hc]

/-! ### A region released by the host (R483) -/

theorem exec_hemRelease_host {s : State} (hm : MbReady s .host) : let u := s.mbFrom 6
    let r := s.rd P.thm R.thm_MB_ARG0
    exec (.hemRelease .host) s = .next (State.serialNext 2
      (if patFlag s.trust.pattern 0 = false then u.mbEnd 6 else if Tbl.has s.seam.hem r = true then (u.hemDelete r).mbEnd 0 else u.mbEnd 9)) := by
  have hstart : (s.mbFrom 6).startMailbox .host = (s.mbFrom 6).mbHem := by
    unfold State.startMailbox
    rw [State.rd_mbFrom_cmd]
    rfl
  refine congrArg Host.Outcome.next ((State.mbCmd_ready hm 6).trans ?_)
  rw [hstart, State.mbHem, State.rd_mbFrom_ne _ _ (by decide) (by decide)]
  rfl

/-! ### The obligation -/

/-- Settles O47: each clause is the lemma above about its command. -/
theorem hemChain : Obligations.HemChain := by
  unfold Obligations.HemChain
  intro s
  exact ⟨fun ag r => vfyGo_does, fun r h => hemChainCheckDone_does,
    fun r h n seed => by simpa [State.Chained] using s.hemWalk_none_iff r h n 0 seed, fun r i t d p => hemUnitBytes_fields r i t,
    fun r h hr hs hh => ⟨exec_hemSealTimer_runs hs hh, State.hemSeal_empty hr, fun ho => ⟨s.sealed r h, s.sealUnit r h,
      State.hemSeal_open hr ho, rfl, rfl, rfl, rfl, rfl, rfl, rfl, s.sealed_frame r h, State.sealed_region hr⟩⟩,
    fun r h => exec_hemMigrationTrigger_starts, fun r h => exec_hemMigrationTrigger_waits,
    fun r h m n d k hr hm hp hb hk hu hn hd => exec_hemMigrationReadDone hr hm hp hb hk hu hn hd,
    fun m n => State.migGo_stalls, fun m r k h hu hr => migDone_hem_does hr hu,
    exec_hemRelease_host⟩

end Sys2Proof.Machine
end

section
/-!
PROOFS. Training of a NAND channel (04_nand_channels.md R110, R111).
-/

namespace Sys2Proof.Machine

/-- A running device outside Ward and any power transition, with channel `ch` present and powered. -/
structure State.Trains (s : State) (ch : Nat) : Prop where
  running : s.trust.fwRunning = true
  channel : ch < nChannels s.part
  up : s.pageUp (P.nfc ch) = true
  notWard : s.dev ≠ Dev.ward
  seq : s.power.seq = .run

/-- The rate that a training of channel `ch` reaches: 0x00A stands for SDR timing mode 0. -/
def State.rateReached (s : State) (ch : Nat) (i : NandInfo) : TrainResult → Nat
  | .full => min (s.rd (P.nfc ch) R.nfc_RATE_MTS) i.fastest
  | .half => min (s.rd (P.nfc ch) R.nfc_RATE_MTS) i.fastest / 2
  | .failed => 0x00A

/-- The registers of channel `ch` after its training, before any error is recorded. -/
def State.showTraining (s : State) (ch : Nat) (i : NandInfo) (r : TrainResult) : State :=
  ((((s.wr (P.nfc ch) R.nfc_CE_PRESENT i.cePresent).wr (P.nfc ch) R.nfc_LUNS_M1 i.lunsM1).wr (P.nfc ch) R.nfc_IFACE i.iface).wr
    (P.nfc ch) R.nfc_TRAINED_MTS (s.rateReached ch i r)).wr (P.nfc ch) R.nfc_TRAIN_FAIL (if r = .failed then 1 else 0)

theorem State.showTraining_frame (s : State) (ch : Nat) (i : NandInfo) (r : TrainResult) :
    s.showTraining ch i r = { s with regs := (s.showTraining ch i r).regs } := rfl

/-- TRAIN_FAIL lies beside TRAINED_MTS in its word and is written after it, without touching it. -/
theorem State.showTraining_mts (s : State) (ch : Nat) (i : NandInfo) (r : TrainResult) :
    (s.showTraining ch i r).rd (P.nfc ch) R.nfc_TRAINED_MTS = s.rateReached ch i r % 2 ^ 12 := by
  have hne : fkey (P.nfc ch) R.nfc_TRAIN_FAIL 0 ≠ fkey (P.nfc ch) R.nfc_TRAINED_MTS 0 := by
    simp only [fkey, R.nfc_TRAIN_FAIL, R.nfc_TRAINED_MTS]
    omega
  exact (State.rd_wr_ne _ _ hne).trans (State.rd_wr_same ..)

theorem State.showTraining_fail (s : State) (ch : Nat) (i : NandInfo) (r : TrainResult) :
    (s.showTraining ch i r).rd (P.nfc ch) R.nfc_TRAIN_FAIL = if r = .failed then 1 else 0 := by
  refine (State.rd_wr_same ..).trans ?_
  split <;> rfl

/-! ### The command -/

/-- Outside a wake the command shows the result and, where both tries failed, records the error. -/
theorem exec_nandTrainingDone {s : State} {ch : Nat} (h : s.Trains ch) (i : NandInfo) (r : TrainResult) :
    exec (.nandTrainingDone ch i r) s =
      .next ((s.showTraining ch i r).whenB (r == .failed) fun s => (s.err (P.nfc ch) 0x04 0 0).raise (P.nfc ch) 3) := by
  have hguard : (s.trust.fwRunning && decide (ch < nChannels s.part) && s.pageUp (P.nfc ch) && s.dev != Dev.ward) = true := by
    simp [h.running, h.channel, h.up, h.notWard]
  have hseq : ((s.showTraining ch i r).whenB (r == .failed) fun s => (s.err (P.nfc ch) 0x04 0 0).raise (P.nfc ch) 3).power.seq =
      .run := by
    rw [State.whenB_power fun t => by simp]
    exact h.seq
  refine congrArg Host.Outcome.next ((State.whenB_true hguard _).trans ?_)
  cases r <;> simp only [State.showTraining, State.rateReached] at hseq ⊢ <;> rw [hseq]

/-- Trained at the first rate tried or at half of it, the channel has no error. -/
theorem nandTrainingDone_trained {s : State} {ch : Nat} (h : s.Trains ch) (i : NandInfo) {r : TrainResult} (hr : r ≠ .failed) :
    Does (.nandTrainingDone ch i r) s fun t => t.rd (P.nfc ch) R.nfc_TRAINED_MTS = s.rateReached ch i r % 2 ^ 12 ∧
      t.rd (P.nfc ch) R.nfc_TRAIN_FAIL = 0 ∧ t = { s with regs := t.regs } :=
  ⟨s.showTraining ch i r, (exec_nandTrainingDone h i r).trans (congrArg Host.Outcome.next (State.whenB_false (by simpa using hr) _)),
    s.showTraining_mts ch i r, (s.showTraining_fail ch i r).trans (if_neg hr), s.showTraining_frame ch i r⟩

/-- After the second failure the error and its interrupt leave the two training fields as shown. -/
theorem nandTrainingDone_failed {s : State} {ch : Nat} (h : s.Trains ch) (i : NandInfo) :
    Does (.nandTrainingDone ch i .failed) s fun t => t.rd (P.nfc ch) R.nfc_TRAINED_MTS = 0x00A ∧ t.rd (P.nfc ch) R.nfc_TRAIN_FAIL = 1 ∧
      (t.rd (P.nfc ch) R.common_INT_RAW).testBit 3 = true ∧ t = { s with regs := t.regs, outbox := t.outbox } := by
  have hkept {f : Fld} (hf : 0x100 ≤ f.off ∧ f.off < 4096 ∧ f.lo < 32) :
      (((s.showTraining ch i .failed).err (P.nfc ch) 0x04 0 0).raise (P.nfc ch) 3).rd (P.nfc ch) f =
        (s.showTraining ch i .failed).rd (P.nfc ch) f :=
    (State.rd_raise_ne _ _ (fkey_ne_of_off ⟨by decide, hf.2.1, by decide, hf.2.2, fun e => absurd (e ▸ hf.1) (by decide)⟩)).trans
      (State.rd_err_off _ _ _ _ hf)
  have hframe : RegFrame s (s.showTraining ch i .failed) := s.showTraining_frame ch i .failed
  exact ⟨_, (exec_nandTrainingDone h i .failed).trans (congrArg Host.Outcome.next (State.whenB_true rfl _)),
    (hkept (by decide)).trans (s.showTraining_mts ch i .failed), (hkept (by decide)).trans (s.showTraining_fail ch i .failed),
    State.testBit_raise _ _ (by decide), ((hframe.err _ _ _ _).raise _ _).uncounted (by simp [State.showTraining])⟩

/-! ### The obligation -/

/-- Settles O29: the two rates that a channel can be trained to, and the second failure. -/
theorem nandTraining : Obligations.NandTraining := by
  unfold Obligations.NandTraining
  intro s ch i hrun hch hup hward hseq
  have h : s.Trains ch := ⟨hrun, hch, hup, hward, hseq⟩
  exact ⟨nandTrainingDone_trained h i (r := .full) (by decide), nandTrainingDone_trained h i (r := .half) (by decide),
    nandTrainingDone_failed h i⟩

end Sys2Proof.Machine
end

section
/-!
PROOFS. The Selvedge channel: the preamplifier port, requests from the two queues, sectors read and written, aborts, disabling and the zone
table (05_selvedge_channel.md R130 to R136, R142 to R144, R150, R154, R156, R159 to R161).
-/

namespace Sys2Proof.Machine

/-! ### Reads of fields after the shared operations -/

theorem State.on_eq_false {s : State} {p : Nat} {f : Fld} (h : s.rd p f = 0) : s.on p f = false := by simp [State.on, h]

theorem State.on_eq_true {s : State} {p : Nat} {f : Fld} (h : s.rd p f ≠ 0) : s.on p f = true := (State.on_iff s p f).2 h

theorem State.on_wr_ne (s : State) {p q : Nat} {f g : Fld} (v : Nat) (h : fkey p f 0 ≠ fkey q g 0) : (s.wr p f v).on q g = s.on q g := by
  rw [State.on, State.rd_wr_ne s v h, State.on]

/-- A recorded error leaves the own fields of every page alone. -/
theorem State.rd_err_own (s : State) (p code info addr : Nat) {q : Nat} {f : Fld} (h : 0x100 ≤ f.off ∧ f.off < 4096 ∧ f.lo < 32) :
    (s.err p code info addr).rd q f = s.rd q f := by
  have hne {g : Fld} (hg : g.off < 0x100 ∧ g.lo < 32) : fkey p g 0 ≠ fkey q f 0 := fkey_ne_of_off (by omega)
  unfold State.err
  split
  · rw [State.rd_wr_ne _ _ (hne (by decide)), State.rd_wr_ne _ _ (hne (by decide)), State.rd_wr_ne _ _ (hne (by decide)),
      State.rd_wr_ne _ _ (hne (by decide))]
  · exact State.rd_wr_ne _ _ (hne (by decide))

/-- An interrupt raised leaves the own fields of every page alone. -/
theorem State.rd_raise_own (s : State) (p b : Nat) {q : Nat} {f : Fld} (h : 0x100 ≤ f.off ∧ f.off < 4096 ∧ f.lo < 32) :
    (s.raise p b).rd q f = s.rd q f :=
  State.rd_raise_ne s b (fkey_ne_of_off ⟨by decide, h.2.1, by decide, h.2.2, by have := h.1; simp only [R.common_INT_RAW]; omega⟩)

/-- A field that is not listed reads as before. -/
theorem SameRegs.rdI_eq {s t : State} {l : List Nat} (h : SameRegs s t l) (hp : t.part = s.part) {p : Nat} {f : Fld} {i : Nat}
    (hk : fkey p f i ∉ l) : t.rdI p f i = s.rdI p f i := by
  rw [State.rdI, State.rdI, h _ hk, hp]

theorem SameRegs.rd_eq {s t : State} {l : List Nat} (h : SameRegs s t l) (hp : t.part = s.part) {p : Nat} {f : Fld}
    (hk : fkey p f 0 ∉ l) : t.rd p f = s.rd p f := h.rdI_eq hp hk

theorem SameRegs.wrI {s t : State} {l : List Nat} (h : SameRegs s t l) {p : Nat} {f : Fld} {i : Nat} (hk : fkey p f i ∈ l) (v : Nat) :
    SameRegs s (t.wrI p f i v) l := fun k hkl => by
  rw [State.wrI_regs, Tbl.at?_put_of_notMem _ _ hk hkl, h k hkl]

/-- The fields in which a page records its errors. -/
def errKeys (p : Nat) : List Nat :=
  [R.common_ERR_CODE, R.common_ERR_INFO, R.common_ERR_ADDR_LO, R.common_ERR_ADDR_HI, R.common_ERR_MORE].map fun f => fkey p f 0

theorem SameRegs.err {s t : State} {l : List Nat} (h : SameRegs s t l) {p : Nat} (hk : errKeys p ⊆ l) (code info addr : Nat) :
    SameRegs s (t.err p code info addr) l := by
  unfold State.err
  split
  · exact (((h.wr (hk (by simp [errKeys])) _).wr (hk (by simp [errKeys])) _).wr (hk (by simp [errKeys])) _).wr (hk (by simp [errKeys])) _
  · exact h.wr (hk (by simp [errKeys])) _

/-! ### The preamplifier port (R130, R131) -/

section
variable {s : State} {f d : Nat}

theorem State.paStart_does (h : s.selv.paFrame = none) (f : Nat) : let t := s.paStart f
    let wg := s.on P.slv R.slv_WG_STATE
    t.selv = { s.selv with paFrame := some f, paSent := !wg } ∧ t.rd P.slv R.slv_PA_BUSY = 1 ∧
      t.outbox = (if wg = true then s.outbox else s.outbox ++ [.preamp f]) ∧ t = { s with selv := t.selv, regs := t.regs, outbox := t.outbox } ∧
      SameRegs s t [fkey P.slv R.slv_PA_BUSY 0] := by
  have hwg : (s.wr P.slv R.slv_PA_BUSY 1).on P.slv R.slv_WG_STATE = s.on P.slv R.slv_WG_STATE := State.on_wr_ne s 1 (by decide)
  have hregs : SameRegs s (s.wr P.slv R.slv_PA_BUSY 1) [fkey P.slv R.slv_PA_BUSY 0] := (SameRegs.refl s _).wr (by simp) 1
  unfold State.paStart
  simp only [h, hwg]
  cases s.on P.slv R.slv_WG_STATE <;> exact ⟨rfl, State.rd_wr_same .., rfl, rfl, hregs⟩

theorem exec_paGo {ag : Agent} (hr : Reaches s ag P.slv) (hb : s.rd P.slv R.slv_PA_BUSY = 0) : exec (.paGo ag) s =
    .next (s.paStart (s.rd P.slv R.slv_PA_RD * 2 ^ 15 + s.rd P.slv R.slv_PA_ADDR * 2 ^ 8 + s.rd P.slv R.slv_PA_DATA)) :=
  congrArg Host.Outcome.next ((State.gated_reaches hr _ _ _).trans (State.whenB_true (by rw [State.on_eq_false hb]; rfl) _))

theorem exec_paGo_busy {ag : Agent} (hr : Reaches s ag P.slv) (hb : s.rd P.slv R.slv_PA_BUSY ≠ 0) : exec (.paGo ag) s = .next s :=
  congrArg Host.Outcome.next ((State.gated_reaches hr _ _ _).trans (State.whenB_false (by rw [State.on_eq_true hb]; rfl) _))

/-- The port once frame `f` has ended with data `d`: idle, the first frame that waited taken from its queue. -/
def State.paIdle (s : State) (f d : Nat) : State :=
  let u := s.whenB (f.testBit 15) fun s => s.wr P.slv R.slv_PA_RDATA (d % 256)
  ({ u with selv := { u.selv with paFrame := none, paSent := false, paQ := u.selv.paQ.drop 1 } } : State).wr P.slv R.slv_PA_BUSY 0

theorem State.paIdle_frame (s : State) (f d : Nat) : s.paIdle f d =
    { s with selv := { s.selv with paFrame := none, paSent := false, paQ := s.selv.paQ.drop 1 }, regs := (s.paIdle f d).regs } := by
  unfold State.paIdle
  cases f.testBit 15 <;> rfl

theorem State.paIdle_selv (s : State) (f d : Nat) :
    (s.paIdle f d).selv = { s.selv with paFrame := none, paSent := false, paQ := s.selv.paQ.drop 1 } := by rw [State.paIdle_frame]

theorem State.paIdle_sameRegs (s : State) (f d : Nat) :
    SameRegs s (s.paIdle f d) [fkey P.slv R.slv_PA_RDATA 0, fkey P.slv R.slv_PA_BUSY 0] := by
  have hread : SameRegs s (s.whenB (f.testBit 15) fun s => s.wr P.slv R.slv_PA_RDATA (d % 256))
      [fkey P.slv R.slv_PA_RDATA 0, fkey P.slv R.slv_PA_BUSY 0] := by
    cases f.testBit 15
    · exact SameRegs.refl s _
    · exact (SameRegs.refl s _).wr (by simp) _
  exact hread.wr (by simp) 0

theorem State.rd_paIdle (s : State) (f d : Nat) {p : Nat} {g : Fld}
    (h : fkey p g 0 ∉ [fkey P.slv R.slv_PA_RDATA 0, fkey P.slv R.slv_PA_BUSY 0]) : (s.paIdle f d).rd p g = s.rd p g :=
  (s.paIdle_sameRegs f d).rd_eq (by rw [State.paIdle_frame]) h

/-- Only a read frame brings data. -/
theorem State.paIdle_rdata (s : State) (f d : Nat) :
    (s.paIdle f d).rd P.slv R.slv_PA_RDATA = if f.testBit 15 = true then d % 256 else s.rd P.slv R.slv_PA_RDATA := by
  refine (State.rd_wr_ne _ _ (by decide)).trans ?_
  cases f.testBit 15
  · rfl
  · exact (State.rd_wr_same s P.slv R.slv_PA_RDATA (d % 256)).trans (Nat.mod_mod d 256)

theorem exec_paFrameDone_last (hf : s.selv.paFrame = some f) (hs : s.selv.paSent = true) (hq : s.selv.paQ = []) (d : Nat) :
    exec (.paFrameDone d) s = .next (s.paIdle f d).slvOpen := by
  refine congrArg Host.Outcome.next ?_
  simp only [hf, hs, State.paIdle]
  cases f.testBit 15 <;> simp [State.whenB, hq]

theorem exec_paFrameDone_next (hf : s.selv.paFrame = some f) (hs : s.selv.paSent = true) {g : Nat} {q : List Nat} (hq : s.selv.paQ = g :: q)
    (d : Nat) : exec (.paFrameDone d) s = .next ((s.paIdle f d).paStart g) := by
  refine congrArg Host.Outcome.next ?_
  simp only [hf, hs, State.paIdle]
  cases f.testBit 15 <;> simp [State.whenB, hq]

theorem State.slvOpen_none (h : s.selv.run = none) : s.slvOpen = s := by
  rw [State.slvOpen, h]

/-- The write gate opens for a write on its track, once the port is idle and no write inhibit holds. -/
theorem State.slvOpen_write {r : SlvRun} (hr : s.selv.run = some r) (hk : r.seeking = false) (ho : r.req.op = 2) (hp : s.selv.paFrame = none)
    (hi : s.rd P.svo R.svo_WR_INHIBIT = 0) : s.slvOpen = s.wr P.slv R.slv_WG_STATE 1 := by
  simp [State.slvOpen, hr, hk, ho, hp, State.on_eq_false hi]

theorem paFrameDone_idle (hf : s.selv.paFrame = some f) (hs : s.selv.paSent = true) (hq : s.selv.paQ = []) (hr : s.selv.run = none) :
    Does (.paFrameDone d) s fun t => t.selv = { s.selv with paFrame := none, paSent := false } ∧ t.rd P.slv R.slv_PA_BUSY = 0 ∧
      t.rd P.slv R.slv_PA_RDATA = (if f.testBit 15 = true then d % 256 else s.rd P.slv R.slv_PA_RDATA) ∧
      t = { s with selv := t.selv, regs := t.regs } := by
  have hopen : (s.paIdle f d).slvOpen = s.paIdle f d := State.slvOpen_none (by rw [State.paIdle_selv]; exact hr)
  refine ⟨s.paIdle f d, (exec_paFrameDone_last hf hs hq d).trans (congrArg Host.Outcome.next hopen), ?_, State.rd_wr_same ..,
    s.paIdle_rdata f d, ?_⟩
  · rw [State.paIdle_selv, hq, List.drop_nil, ← hq]
  · rw [State.paIdle_selv]
    exact s.paIdle_frame f d

theorem paFrameDone_write (hf : s.selv.paFrame = some f) (hs : s.selv.paSent = true) {r : SlvRun} (hq : s.selv.paQ = [])
    (hr : s.selv.run = some r) (hk : r.seeking = false) (ho : r.req.op = 2) (hi : s.rd P.svo R.svo_WR_INHIBIT = 0) :
    Does (.paFrameDone d) s fun t => t.rd P.slv R.slv_WG_STATE = 1 ∧ t.selv.paFrame = none ∧ t.selv.run = s.selv.run := by
  have hopen : (s.paIdle f d).slvOpen = (s.paIdle f d).wr P.slv R.slv_WG_STATE 1 :=
    State.slvOpen_write (by rw [State.paIdle_selv]; exact hr) hk ho (by rw [State.paIdle_selv]) ((s.rd_paIdle f d (by decide)).trans hi)
  refine ⟨_, (exec_paFrameDone_last hf hs hq d).trans (congrArg Host.Outcome.next hopen), State.rd_wr_same .., ?_, ?_⟩ <;>
    rw [State.wr_selv, State.paIdle_selv]

theorem paFrameDone_next (hf : s.selv.paFrame = some f) (hs : s.selv.paSent = true) {g : Nat} {q : List Nat} (hq : s.selv.paQ = g :: q)
    (hw : s.rd P.slv R.slv_WG_STATE = 0) : Does (.paFrameDone d) s fun t =>
      t.outbox = s.outbox ++ [.preamp g] ∧ t.selv = { s.selv with paFrame := some g, paSent := true, paQ := q } := by
  have hwg : (s.paIdle f d).on P.slv R.slv_WG_STATE = false := State.on_eq_false ((s.rd_paIdle f d (by decide)).trans hw)
  obtain ⟨hselv, -, hout, -, -⟩ := State.paStart_does (s := s.paIdle f d) (by rw [State.paIdle_selv]) g
  refine ⟨_, exec_paFrameDone_next hf hs hq d, hout.trans ?_, hselv.trans ?_⟩
  · rw [hwg, State.paIdle_frame]
    rfl
  · rw [hwg, State.paIdle_selv, hq]
    rfl

end

/-! ### ARC_FLT_N (R132) -/

/-- The state with ARC_FLT_N low and PA_FAULT set. -/
def State.arcFault (s : State) : State := ({ s with selv := { s.selv with fltLow := true } } : State).flag P.slv R.slv_PA_FAULT

section
variable {s : State} (ha : s.pagesAwake = true) (hu : s.pageUp P.slv = true)
include ha hu

theorem exec_arcFltNAssert_idle (hr : s.selv.run = none) : exec .arcFltNAssert s = .next ((s.arcFault.err P.slv 0x03 0 0).raise P.slv 2) := by
  refine congrArg Host.Outcome.next ((State.whenB_true (by rw [ha, hu]; rfl) _).trans ?_)
  have hrun : s.arcFault.selv.run = none := hr
  rw [State.arcFault] at hrun
  simp only [hrun]
  rfl

theorem exec_arcFltNAssert_write {r : SlvRun} (hr : s.selv.run = some r) (ho : r.req.op = 2) : let v := s.arcFault.slvErr r.req r.at_ 0x03 2
    exec .arcFltNAssert s = .next (if s.on P.slv R.slv_WG_STATE = true then v.slvBreak 0x0C else v.slvEnd 0x0C 0x3FF) := by
  have hwg : (s.arcFault.slvErr r.req r.at_ 0x03 2).on P.slv R.slv_WG_STATE = s.on P.slv R.slv_WG_STATE := by
    have hrd : (s.arcFault.slvErr r.req r.at_ 0x03 2).rd P.slv R.slv_WG_STATE = s.rd P.slv R.slv_WG_STATE :=
      (State.rd_raise_own _ _ _ (by decide)).trans ((State.rd_err_own _ _ _ _ _ (by decide)).trans (State.rd_wr_ne _ _ (by decide)))
    rw [State.on, hrd, State.on]
  refine congrArg Host.Outcome.next ((State.whenB_true (by rw [ha, hu]; rfl) _).trans ?_)
  rw [← hwg]
  have hrun : s.arcFault.selv.run = some r := hr
  rw [State.arcFault] at hrun
  simp only [hrun, ho, if_true]
  rfl

theorem exec_arcFltNAssert_read {r : SlvRun} (hr : s.selv.run = some r) (ho : r.req.op ≠ 2) : let v := s.arcFault.slvErr r.req r.at_ 0x03 2
    exec .arcFltNAssert s = .next { v with selv := { v.selv with run := some { r with paFault := true } } } := by
  refine congrArg Host.Outcome.next ((State.whenB_true (by rw [ha, hu]; rfl) _).trans ?_)
  have hrun : s.arcFault.selv.run = some r := hr
  rw [State.arcFault] at hrun
  simp only [hrun, ho, if_false]
  rfl

end

/-! ### Requests taken (R132, R133, R135, R143) -/

theorem exec_ringTailWrite_bobbin {s : State} {k : Nat} (n : Nat) (h : Reaches s (.bobbin k) P.slv) :
    exec (.ringTailWrite (.bobbin k) n) s = .next (s.wr P.slv R.slv_RING_TAIL n) :=
  congrArg Host.Outcome.next ((State.gated_reaches h _ _ _).trans (State.whenB_true rfl _))

theorem exec_ringTailWrite_other {s : State} {ag : Agent} (n : Nat) (h : Reaches s ag P.slv) (hag : ag = .host ∨ ag = .thimble) :
    exec (.ringTailWrite ag n) s = .next s := by
  refine congrArg Host.Outcome.next ((State.gated_reaches h _ _ _).trans (State.whenB_false ?_ _))
  rcases hag with rfl | rfl <;> rfl

/-- Selvedge can take a request: its pages answer, the device is neither in Fill nor in Ward, and no request is in progress. -/
structure State.SlvFree (s : State) : Prop where
  awake : s.pagesAwake = true
  up : s.pageUp P.slv = true
  notWard : s.dev ≠ Dev.ward
  notFill : s.dev ≠ Dev.fill
  idle : s.selv.run = none

section
variable {s : State} (h : s.SlvFree)
include h

theorem State.SlvFree.guard : (s.pagesAwake && s.pageUp P.slv && s.dev != Dev.ward && s.dev != Dev.fill && s.selv.run.isNone) = true := by
  simp [h.awake, h.up, h.notWard, h.notFill, h.idle]

theorem exec_slvRequestStart_hem {q : SlvReq} {r : List SlvReq} (hq : s.migKick.selv.hemQ = q :: r)
    (hl : (s.migKick.ringHas && s.migKick.selv.lastHem) = false) : exec .slvRequestStart s =
      .next (({ s.migKick with selv := { s.migKick.selv with hemQ := r, lastHem := true } } : State).slvTake q) := by
  refine congrArg Host.Outcome.next ((State.whenB_true h.guard _).trans ?_)
  simp only [hq, hl]
  rfl

theorem exec_slvRequestStart_ring (hr : s.migKick.ringHas = true) (hl : s.migKick.selv.hemQ = [] ∨ s.migKick.selv.lastHem = true) :
    exec .slvRequestStart s = .next s.migKick.ringTake := by
  refine congrArg Host.Outcome.next ((State.whenB_true h.guard _).trans ?_)
  cases hq : s.migKick.selv.hemQ with
  | nil => simp only [hq, hr, if_true]
  | cons q r =>
    have hlast : s.migKick.selv.lastHem = true := hl.resolve_left (by simp [hq])
    simp only [hq, hr, hlast, Bool.and_self, if_true]

theorem exec_slvRequestStart_none (hr : s.migKick.ringHas = false) (hq : s.migKick.selv.hemQ = []) :
    exec .slvRequestStart s = .next s.migKick := by
  refine congrArg Host.Outcome.next ((State.whenB_true h.guard _).trans ?_)
  simp only [hq, hr, Bool.false_eq_true, if_false]

end

theorem exec_slvRequestStart_busy {s : State} {r : SlvRun} (h : s.selv.run = some r) : exec .slvRequestStart s = .next s :=
  congrArg Host.Outcome.next (State.whenB_false (by simp [h]) _)

theorem State.slvTake_eq (s : State) (q : SlvReq) : let v := s.wr P.slv R.slv_CUR_ZONE ((s.zoneOf q.track).getD 0)
    s.slvTake q =
      if (v.en P.slv = false ∧ s.selv.draining = false) ∨ v.mode M.arch = false then v.slvRefuse q 0x08
      else if s.selv.fltLow = true then v.slvRefuse q 0x0C
      else if v.keyOpen q.ns = false then v.slvRefuse q 0x06
      else if v.slvBad q = true then v.slvRefuse q 0x07
      else if v.rd P.svo R.svo_SPN_AT_SPEED = 0 then v.slvRefuse q 0x0B
      else ({ v with selv := { v.selv with run := some ⟨q, 0, false, false, true, [], 0⟩ } } : State).seekStart q.track q.head false := by
  intro v
  have hspeed : (!v.on P.svo R.svo_SPN_AT_SPEED) = true ↔ v.rd P.svo R.svo_SPN_AT_SPEED = 0 := by simp [State.on]
  unfold State.slvTake
  refine if_congr (by simp [v]) rfl (if_congr Iff.rfl rfl (if_congr (by simp [v]) rfl (if_congr Iff.rfl rfl (if_congr hspeed rfl rfl))))

theorem State.slvRefuse_ring (s : State) {q : SlvReq} (hq : q.fromHem = false) (st : Nat) :
    s.slvRefuse q st = s.postCpl ⟨61, none, st, 0x3FF, q.idx⟩ := by
  simp [State.slvRefuse, State.slvPost, hq]

/-! ### A decode attempt (R142, R150, R151, R154) -/

/-- The candidates of the sector in progress: those found at its first attempt. -/
def State.slvTries (v : State) (r : SlvRun) (sc : List (Int × Nat)) : List (Int × Nat) :=
  if r.tried = 0 then v.slvCands r.req.retry sc else r.cands

/-- The status of a request whose sector no candidate decodes. -/
def SlvRun.lost (r : SlvRun) : Nat := if r.req.retry = 3 then 2 else 1

/-- The state with candidate `c` shown as the attempt number `n`. -/
def State.slvShown (v : State) (c : Int × Nat) (n : Nat) : State :=
  ((v.wr P.slv R.slv_LAST_SCORE c.2).wr P.slv R.slv_LAST_OFFSET (ofSigned 6 c.1)).wr P.slv R.slv_LAST_CAND n

/-- A sector of a read is being decoded; `v` is the state with its timing lock shown. -/
structure State.Decodes (s : State) (r : SlvRun) (v : State) : Prop where
  run : s.selv.run = some r
  onTrack : r.seeking = false
  read : r.req.op = 1
  locked : v = (s.drawFree 1).2.wr P.slv R.slv_TL_LOCK (s.drawFree 1).1

section
variable {s v : State} {r : SlvRun} (h : s.Decodes r v) {sc : List (Int × Nat)}
include h

theorem exec_slvDecodeAttemptDone_noCandidate (ok : Bool) (hl : (v.slvTries r sc)[r.tried]? = none) :
    exec (.slvDecodeAttemptDone sc ok) s = .next (v.slvEnd r.lost r.at_) := by
  obtain ⟨hr, hk, ho, rfl⟩ := h
  refine congrArg Host.Outcome.next ?_
  unfold State.slvTries at hl
  simp only [hr, hk, ho, hl]
  rfl

variable {c : Int × Nat} (hc : (v.slvTries r sc)[r.tried]? = some c)
include hc

theorem exec_slvDecodeAttemptDone_fetched {st : Nat} (hf : (v.slvShown c (r.tried + 1)).slvFetch r.req r.at_ = some (.inr st)) :
    exec (.slvDecodeAttemptDone sc true) s = .next ((v.slvShown c (r.tried + 1)).slvEnd st r.at_) := by
  obtain ⟨hr, hk, ho, rfl⟩ := h
  refine congrArg Host.Outcome.next ?_
  unfold State.slvTries at hc
  unfold State.slvShown at hf
  simp only [hr, hk, ho, hc, hf]
  rfl

theorem exec_slvDecodeAttemptDone_delivered {d : List Byte} (hf : (v.slvShown c (r.tried + 1)).slvFetch r.req r.at_ = some (.inl d))
    (ht : r.tried = 0) : exec (.slvDecodeAttemptDone sc true) s =
      .next ((((v.slvShown c (r.tried + 1)).count P.slv 0x040).busWrite 0 (r.req.buf + 4096 * r.at_) d).slvNext r) := by
  obtain ⟨hr, hk, ho, rfl⟩ := h
  refine congrArg Host.Outcome.next ?_
  unfold State.slvTries at hc
  unfold State.slvShown at hf
  simp only [ht] at hc hf
  simp only [hr, hk, ho, ht, hc, hf]
  rfl

theorem exec_slvDecodeAttemptDone_lost (hl : (v.slvTries r sc).length ≤ r.tried + 1) :
    exec (.slvDecodeAttemptDone sc false) s = .next ((v.slvShown c (r.tried + 1)).slvEnd r.lost r.at_) := by
  obtain ⟨hr, hk, ho, rfl⟩ := h
  refine congrArg Host.Outcome.next ?_
  unfold State.slvTries at hc hl
  simp only [hr, hk, ho, hc]
  exact if_neg (Nat.not_lt.2 hl)

theorem exec_slvDecodeAttemptDone_next (hl : r.tried + 1 < (v.slvTries r sc).length) :
    exec (.slvDecodeAttemptDone sc false) s = .next { v.slvShown c (r.tried + 1) with
      selv := { (v.slvShown c (r.tried + 1)).selv with run := some { r with cands := v.slvTries r sc, tried := r.tried + 1 } } } := by
  obtain ⟨hr, hk, ho, rfl⟩ := h
  refine congrArg Host.Outcome.next ?_
  unfold State.slvTries at hc hl ⊢
  simp only [hr, hk, ho, hc]
  exact if_pos hl

end

theorem mem_insertBy {β : Type} {le : β → β → Bool} {a c : β} {l : List β} : c ∈ insertBy le a l ↔ c = a ∨ c ∈ l := by
  induction l with
  | nil => simp [insertBy]
  | cons b r ih =>
    rw [insertBy]
    split
    · exact List.mem_cons
    · rw [List.mem_cons, ih, List.mem_cons, or_left_comm]

theorem mem_sortBy {β : Type} {le : β → β → Bool} {c : β} {l : List β} : c ∈ sortBy le l ↔ c ∈ l := by
  induction l with
  | nil => rfl
  | cons b r ih => rw [List.mem_cons, ← ih]; exact mem_insertBy

/-- At most three candidates, each a position in the window whose score meets the threshold of the revolution. -/
theorem State.slvCands_bounds (s : State) (n : Nat) (sc : List (Int × Nat)) : (s.slvCands n sc).length ≤ 3 ∧
    ∀ c ∈ s.slvCands n sc, c ∈ sc ∧ c.1.natAbs ≤ 16 ∧ c.2 ≤ 48 ∧ 24 ≤ c.2 ∧
      s.rd P.slv R.slv_SYNC_THR ≤ c.2 + n * s.rd P.slv R.slv_SYNC_STEP := by
  refine ⟨List.length_take_le _ _, fun c hc => ?_⟩
  obtain ⟨hmem, hwin⟩ := List.mem_filter.1 (mem_sortBy.1 (List.mem_of_mem_take hc))
  have hwin := of_decide_eq_true hwin
  rw [State.syncThr] at hwin
  exact ⟨hmem, by omega⟩

/-! ### Sectors written, requests that go on and end (R132, R156, R160, R161) -/

/-- The state with sector `r.at_` of the request on the disk as its channel bits, and counted. -/
def State.slvWrote (s : State) (r : SlvRun) (plain : List Byte) : State :=
  let place := diskPlace r.req.head r.req.track (r.req.sector + r.at_)
  let x : Sector := ⟨slvChannel r.req.track (r.req.sector + r.at_) (s.slvForm r.req r.at_ plain), true⟩
  ({ s with selv := { s.selv with disk := Tbl.put s.selv.disk place x } } : State).count P.slv 0x048

section
variable {s : State} {r : SlvRun}

theorem exec_slvSectorWritten (hr : s.selv.run = some r) (ho : r.req.op = 2) (hw : s.on P.slv R.slv_WG_STATE = true) {plain : List Byte}
    (hb : ∀ f, s.busRead 0 (r.req.buf + 4096 * r.at_) 4096 f = f plain s) : exec .slvSectorWritten s =
      .next (if s.dev = Dev.ward ∨ s.seam.flushing = true then (s.slvWrote r plain).slvDiscard else (s.slvWrote r plain).slvNext r) := by
  have hdev : (s.slvWrote r plain).dev = s.dev := State.dev_count ..
  have hseam : (s.slvWrote r plain).seam = s.seam := State.count_seam ..
  refine congrArg Host.Outcome.next ?_
  rw [← hdev, ← hseam]
  simp only [hr, ho, hw]
  exact hb _

theorem State.slvNext_last (s : State) (h : r.at_ + 1 = r.req.count) : s.slvNext r =
    ({ s with selv := { s.selv with run := some { r with at_ := r.at_ + 1, cands := [], tried := 0 } } } : State).slvEnd
      (if r.paFault = true then 0x0C else 0) 0x3FF := if_pos h

theorem State.slvNext_more (s : State) (h : r.at_ + 1 ≠ r.req.count) :
    let v := ({ s with selv := { s.selv with run := some { r with at_ := r.at_ + 1, cands := [], tried := 0 } } } : State)
    s.slvNext r = if r.aborted = true then v.slvEnd 0x09 (r.at_ + 1) else v := if_neg h

/-! ### Aborts (R160) -/

variable {b : Bool} {i : Nat} (ha : s.pagesAwake = true) (hu : s.pageUp P.slv = true)
include ha hu

section
variable (hr : s.selv.run = some r) (hb : r.req.fromHem = b) (hi : r.req.idx = i)
include hr hb hi

omit ha hu in
theorem filter_run_eq_some : (s.selv.run.filter fun r => r.req.fromHem = b ∧ r.req.idx = i) = some r := by
  rw [hr]
  exact if_pos (decide_eq_true ⟨hb, hi⟩)

theorem exec_slvAbort_seeking (hk : r.seeking = true) : exec (.slvAbort b i) s = .next (s.slvEnd 0x09 r.at_) := by
  refine congrArg Host.Outcome.next ((State.whenB_true (by rw [ha, hu]; rfl) _).trans ?_)
  simp only [filter_run_eq_some hr hb hi, hk, Bool.true_or, if_true]

theorem exec_slvAbort_gateOpen (hk : r.seeking = false) (hg : s.on P.slv R.slv_WG_STATE = true ∨ s.on P.slv R.slv_RG_STATE = true) :
    exec (.slvAbort b i) s = .next { s with selv := { s.selv with run := some { r with aborted := true } } } := by
  have hopen : (s.on P.slv R.slv_WG_STATE || s.on P.slv R.slv_RG_STATE) = true := by simpa using hg
  refine congrArg Host.Outcome.next ((State.whenB_true (by rw [ha, hu]; rfl) _).trans ?_)
  simp only [filter_run_eq_some hr hb hi, hk, hopen]
  rfl

end

section
variable (hr : ∀ r, s.selv.run = some r → r.req.fromHem = b → r.req.idx ≠ i)
include hr

omit ha hu in
theorem filter_run_eq_none : (s.selv.run.filter fun r => r.req.fromHem = b ∧ r.req.idx = i) = none := by
  simpa [Option.filter_eq_none_iff] using hr

theorem exec_slvAbort_ring (hb : b = false) (hi : s.inRing i = true) : exec (.slvAbort b i) s =
    .next (({ s with selv := { s.selv with aborts := s.selv.aborts ++ [(false, i)] } } : State).postCpl ⟨61, none, 0x09, 0x3FF, i⟩) := by
  subst hb
  refine congrArg Host.Outcome.next ((State.whenB_true (by rw [ha, hu]; rfl) _).trans ?_)
  simp only [filter_run_eq_none hr, hi, State.slvPost, Bool.false_eq_true, if_false, if_true, Nat.zero_add]

theorem exec_slvAbort_unknown (hb : b = false) (hi : s.inRing i = false) :
    exec (.slvAbort b i) s = .next (s.postCpl ⟨61, none, 0x0A, 0x3FF, i⟩) := by
  subst hb
  refine congrArg Host.Outcome.next ((State.whenB_true (by rw [ha, hu]; rfl) _).trans ?_)
  simp only [filter_run_eq_none hr, hi, State.slvPost, Bool.false_eq_true, if_false, if_true, Nat.zero_add]

theorem exec_slvAbort_unknownHem (hb : b = true) (hq : ∀ q ∈ s.selv.hemQ, q.idx ≠ i) :
    exec (.slvAbort b i) s = .next (s.postCpl ⟨61, none, 0x0A, 0x3FF, 2 ^ 16 + i⟩) := by
  subst hb
  have hfind : (s.selv.hemQ.find? fun q => q.idx = i) = none := by simpa [List.find?_eq_none] using hq
  refine congrArg Host.Outcome.next ((State.whenB_true (by rw [ha, hu]; rfl) _).trans ?_)
  simp only [filter_run_eq_none hr, hfind]
  rfl

end
end

/-! ### Selvedge disabled (R159) -/

section
variable {s : State} {ag : Agent} (hr : Reaches s ag P.slv) (he : s.en P.slv = true)
include hr he

theorem exec_slvCtrlEnClear : exec (.slvCtrlEnClear ag) s = .next s.slvDisable :=
  congrArg Host.Outcome.next ((State.gated_reaches hr _ _ _).trans (State.whenB_true he _))

theorem slvCtrlEnClear_drains (hd : s.rd P.slv R.common_DRAIN ≠ 0) : Does (.slvCtrlEnClear ag) s fun t =>
    t.selv = { s.selv with draining := true } ∧ t.en P.slv = false ∧ t = { s with selv := t.selv, regs := t.regs } ∧
      SameRegs s t [fkey P.slv R.common_EN 0] := by
  have hdrain : (s.wr P.slv R.common_EN 0).on P.slv R.common_DRAIN = true :=
    State.on_eq_true (by rwa [State.rd_drain_disabled])
  exact ⟨_, (exec_slvCtrlEnClear hr he).trans (congrArg Host.Outcome.next (if_pos hdrain)), rfl,
    State.on_eq_false (State.rd_wr_same s P.slv R.common_EN 0), rfl, (SameRegs.refl s _).wr (by simp) 0⟩

end

/-- The completion of a ring entry that has not run. -/
def ringCpl (st i : Nat) : Cpl := ⟨61, none, st, 0x3FF, i⟩

/-- Ring entries completed with one status, in their order. -/
theorem State.foldl_slvPost (st : Nat) (l : List Nat) (s : State) : l.foldl (fun (s : State) i => s.slvPost false i st 0x3FF) s =
    { s with spool := { s.spool with cpls := s.spool.cpls ++ l.map (ringCpl st) } } := by
  induction l generalizing s with
  | nil => simp
  | cons i r ih =>
    have hpost : s.slvPost false i st 0x3FF = s.postCpl (ringCpl st i) := by simp [State.slvPost, ringCpl]
    rw [List.foldl_cons, hpost, ih, List.map_cons, List.append_cons]
    rfl

/-- The ring entries that are queued, from RING_HEAD on. -/
def State.ringQueued (s : State) : List Nat :=
  let n := s.rd P.slv R.slv_RING_LEN
  ((List.range n).map fun k => (s.rd P.slv R.slv_RING_HEAD + k) % n).filter s.inRing

/-- CTRL.EN leaves the ring alone. -/
theorem State.ringQueued_disabled (s : State) : (s.wr P.slv R.common_EN 0).ringQueued = s.ringQueued := by
  have hrd {f : Fld} (hf : 0x100 ≤ f.off ∧ f.off < 4096 ∧ f.lo < 32) : (s.wr P.slv R.common_EN 0).rd P.slv f = s.rd P.slv f :=
    State.rd_wr_ne s 0 (fkey_ne_of_off ⟨by decide, hf.2.1, by decide, hf.2.2, by have := hf.1; simp only [R.common_EN]; omega⟩)
  have hring : (s.wr P.slv R.common_EN 0).inRing = s.inRing := by
    funext i
    simp only [State.inRing, hrd (show 0x100 ≤ R.slv_RING_LEN.off ∧ _ by decide), hrd (show 0x100 ≤ R.slv_RING_HEAD.off ∧ _ by decide),
      hrd (show 0x100 ≤ R.slv_RING_TAIL.off ∧ _ by decide)]
    rfl
  simp only [State.ringQueued, hring, hrd (show 0x100 ≤ R.slv_RING_LEN.off ∧ _ by decide),
    hrd (show 0x100 ≤ R.slv_RING_HEAD.off ∧ _ by decide)]

/-- With nothing in the HEM block's queue and no abort recorded, every queued ring entry is returned and the ring is empty. -/
theorem State.slvReturn_ring {s : State} (hq : s.selv.hemQ = []) (ha : s.selv.aborts = []) : s.slvReturn =
    { s.wr P.slv R.slv_RING_HEAD (s.rd P.slv R.slv_RING_TAIL) with
      spool := { s.spool with cpls := s.spool.cpls ++ s.ringQueued.map (ringCpl 0x08) } } := by
  have hselv : ({ s with selv := { s.selv with hemQ := [], aborts := [] } } : State) = s := by rw [← hq, ← ha]
  unfold State.slvReturn
  simp only [hq, hselv, List.foldl_nil]
  exact State.foldl_slvPost _ _ _

theorem slvCtrlEnClear_returns {s : State} {ag : Agent} (hr : Reaches s ag P.slv) (he : s.en P.slv = true)
    (hd : s.rd P.slv R.common_DRAIN = 0) (hq : s.selv.hemQ = []) (ha : s.selv.aborts = []) (ht : s.rd P.slv R.slv_RING_TAIL < 1024) :
    Does (.slvCtrlEnClear ag) s fun t => t.en P.slv = false ∧ t.ringHas = false ∧ t.selv = s.selv ∧
      t.spool.cpls = s.spool.cpls ++ s.ringQueued.map (ringCpl 0x08) ∧
      t = { s with spool := { s.spool with cpls := t.spool.cpls }, regs := t.regs } := by
  let u := s.wr P.slv R.common_EN 0
  have hdrain : u.on P.slv R.common_DRAIN = false := State.on_eq_false ((State.rd_drain_disabled s P.slv).trans hd)
  have htail : u.rd P.slv R.slv_RING_TAIL = s.rd P.slv R.slv_RING_TAIL := State.rd_wr_ne s 0 (by decide)
  have hexec := (exec_slvCtrlEnClear hr he).trans (congrArg Host.Outcome.next
    ((if_neg (by rw [hdrain]; exact Bool.false_ne_true)).trans (State.slvReturn_ring (s := u) hq ha)))
  rw [State.ringQueued_disabled] at hexec
  refine ⟨_, hexec, State.on_eq_false ((State.rd_wr_ne u _ (by decide)).trans (State.rd_wr_same s P.slv R.common_EN 0)), ?_, rfl, rfl, rfl⟩
  have hhead : (u.wr P.slv R.slv_RING_HEAD (u.rd P.slv R.slv_RING_TAIL)).rd P.slv R.slv_RING_HEAD = u.rd P.slv R.slv_RING_TAIL :=
    (State.rd_wr_same ..).trans (Nat.mod_eq_of_lt (by rw [htail]; exact ht))
  have htail' : (u.wr P.slv R.slv_RING_HEAD (u.rd P.slv R.slv_RING_TAIL)).rd P.slv R.slv_RING_TAIL = u.rd P.slv R.slv_RING_TAIL :=
    State.rd_wr_ne u _ (by decide)
  show ((u.wr P.slv R.slv_RING_HEAD (u.rd P.slv R.slv_RING_TAIL)).rd P.slv R.slv_RING_HEAD !=
    (u.wr P.slv R.slv_RING_HEAD (u.rd P.slv R.slv_RING_TAIL)).rd P.slv R.slv_RING_TAIL) = false
  rw [hhead, htail']
  exact bne_self_eq_false _

/-! ### The zone table (R144) -/

section
variable {s : State} {ag : Agent} {z rate spt : Nat} (hz : z < 32) (hr : Reaches s ag P.slv)
include hz hr

theorem exec_zoneCfgWrite : exec (.zoneCfgWrite ag z rate spt) s = .next (s.whenB (ag != .host) fun s => s.setZone z rate spt) :=
  congrArg Host.Outcome.next ((State.whenB_true (decide_eq_true hz) _).trans (State.gated_reaches hr _ _ _))

theorem exec_zoneCfgWrite_host (hag : ag = .host) : exec (.zoneCfgWrite ag z rate spt) s = .next s :=
  (exec_zoneCfgWrite hz hr).trans (congrArg Host.Outcome.next (State.whenB_false (by simp [hag]) _))

variable (hrate : rate < 4096) (hspt : spt < 1024) (hag : ag ≠ .host)
include hrate hspt hag

theorem exec_zoneCfgWrite_firmware : exec (.zoneCfgWrite ag z rate spt) s =
    .next (if rate < 2000 ∨ 4000 < rate ∨ s.sptMax rate < spt then s.zoneRej
      else (s.wrI P.slv R.slv_RATE z rate).wrI P.slv R.slv_SPT z spt) := by
  refine (exec_zoneCfgWrite hz hr).trans (congrArg Host.Outcome.next ((State.whenB_true (by simpa using hag) _).trans ?_))
  rw [State.setZone, Nat.mod_eq_of_lt hrate, Nat.mod_eq_of_lt hspt]

theorem zoneCfgWrite_sets (h2 : 2000 ≤ rate) (h4 : rate ≤ 4000) (hmax : spt ≤ s.sptMax rate) :
    Does (.zoneCfgWrite ag z rate spt) s fun t => t.rdI P.slv R.slv_RATE z = rate ∧ t.rdI P.slv R.slv_SPT z = spt ∧
      t = { s with regs := t.regs } ∧ SameRegs s t [fkey P.slv R.slv_RATE z, fkey P.slv R.slv_SPT z] := by
  have hne : fkey P.slv R.slv_SPT z ≠ fkey P.slv R.slv_RATE z := by simp only [fkey, R.slv_SPT, R.slv_RATE]; omega
  refine ⟨_, (exec_zoneCfgWrite_firmware hz hr hrate hspt hag).trans (congrArg Host.Outcome.next (if_neg (by omega))), ?_, ?_, rfl,
    ((SameRegs.refl s _).wrI (by simp) rate).wrI (by simp) spt⟩
  · rw [State.rdI_wrI_ne _ _ hne, State.rdI_wrI_same]
    exact Nat.mod_eq_of_lt hrate
  · rw [State.rdI_wrI_same]
    exact Nat.mod_eq_of_lt hspt

omit hz hr hrate hspt hag in
theorem State.zoneRej_sameRegs (s : State) :
    SameRegs s s.zoneRej ([fkey P.slv R.slv_ZONE_CFG_REJ 0, fkey P.slv R.common_INT_RAW 0] ++ errKeys P.slv) :=
  (((SameRegs.refl s _).flag (by simp)).err (List.subset_append_right _ _) 0x05 0 0).raise (by simp) 4

theorem zoneCfgWrite_refused (hbad : rate < 2000 ∨ 4000 < rate ∨ s.sptMax rate < spt) :
    Does (.zoneCfgWrite ag z rate spt) s fun t => t.rd P.slv R.slv_ZONE_CFG_REJ = 1 ∧
      (∀ k, k < 32 → t.rdI P.slv R.slv_RATE k = s.rdI P.slv R.slv_RATE k ∧ t.rdI P.slv R.slv_SPT k = s.rdI P.slv R.slv_SPT k) ∧
      (t.rd P.slv R.common_INT_RAW).testBit 4 = true ∧ t = { s with regs := t.regs, outbox := t.outbox } := by
  have hframe : RegFrame s s.zoneRej := (((RegFrame.refl s).wr _ _ _).err _ _ _ _).raise _ _
  have hpart : s.zoneRej.part = s.part := by rw [hframe]
  refine ⟨s.zoneRej, (exec_zoneCfgWrite_firmware hz hr hrate hspt hag).trans (congrArg Host.Outcome.next (if_pos hbad)), ?_, fun k hk => ?_,
    State.testBit_raise _ _ (by decide), hframe.uncounted (by simp [State.zoneRej])⟩
  · exact (State.rd_raise_own _ _ _ (by decide)).trans ((State.rd_err_own _ _ _ _ _ (by decide)).trans (State.rd_wr_same ..))
  · refine ⟨s.zoneRej_sameRegs.rdI_eq hpart ?_, s.zoneRej_sameRegs.rdI_eq hpart ?_⟩ <;>
      simp [errKeys, fkey, R.slv_RATE, R.slv_SPT, R.slv_ZONE_CFG_REJ, R.common_INT_RAW, R.common_ERR_CODE, R.common_ERR_INFO,
        R.common_ERR_ADDR_LO, R.common_ERR_ADDR_HI, R.common_ERR_MORE, P.slv] <;> omega

end

/-! ### The obligation -/

/-- Settles O48: each clause is the lemma above about its command. -/
theorem selvedge : Obligations.Selvedge := by
  unfold Obligations.Selvedge
  intro s
  refine ⟨fun ag hr hb hf => ⟨_, exec_paGo hr hb, State.paStart_does hf _⟩, fun ag hr hb => exec_paGo_busy hr hb,
    fun d f hf hs => ⟨paFrameDone_idle hf hs, fun r => paFrameDone_write hf hs, fun g q => paFrameDone_next hf hs⟩,
    fun ha hu => ⟨exec_arcFltNAssert_idle ha hu, fun r hr => ⟨exec_arcFltNAssert_write ha hu hr, exec_arcFltNAssert_read ha hu hr⟩⟩,
    fun ag n hr => ?_, fun ha hu hw hf hi => ?_, fun r hr => exec_slvRequestStart_busy hr, s.slvTake_eq,
    fun q st hq => s.slvRefuse_ring hq st, fun r sc ok hr hk ho v hv => ?_, s.slvCands_bounds,
    fun r plain hr ho hw hb => exec_slvSectorWritten hr ho hw hb, fun r hr => ⟨s.slvNext_last, s.slvNext_more⟩,
    fun b i ha hu => ⟨fun r hr hb hi => ⟨exec_slvAbort_seeking ha hu hr hb hi, exec_slvAbort_gateOpen ha hu hr hb hi⟩,
      fun hr => ⟨exec_slvAbort_ring ha hu hr, exec_slvAbort_unknown ha hu hr, exec_slvAbort_unknownHem ha hu hr⟩⟩,
    fun ag hr he => ⟨slvCtrlEnClear_drains hr he, slvCtrlEnClear_returns hr he⟩,
    fun ag z rate spt hz hr hrate hspt => ⟨exec_zoneCfgWrite_host hz hr, zoneCfgWrite_sets hz hr hrate hspt,
      zoneCfgWrite_refused hz hr hrate hspt⟩⟩
  · cases ag with
    | bobbin k => exact exec_ringTailWrite_bobbin n hr
    | host => exact exec_ringTailWrite_other n hr (.inl rfl)
    | thimble => exact exec_ringTailWrite_other n hr (.inr rfl)
  · have hfree : s.SlvFree := ⟨ha, hu, hw, hf, hi⟩
    exact ⟨fun q r => exec_slvRequestStart_hem hfree, exec_slvRequestStart_ring hfree, exec_slvRequestStart_none hfree⟩
  · have h : s.Decodes r v := ⟨hr, hk, ho, hv⟩
    refine ⟨exec_slvDecodeAttemptDone_noCandidate h ok, fun c hc => ⟨fun y hok hy ht => ?_, fun st hok hst => ?_, fun hok hl => ?_,
      fun hok hl => ?_⟩⟩ <;> subst hok
    · cases y with
      | inl d => exact exec_slvDecodeAttemptDone_delivered h hc hy ht
      | inr st => exact exec_slvDecodeAttemptDone_fetched h hc hy
    · exact exec_slvDecodeAttemptDone_fetched h hc hst
    · exact exec_slvDecodeAttemptDone_lost h hc hl
    · exact exec_slvDecodeAttemptDone_next h hc hl

end Sys2Proof.Machine
end

section
/-!
PROOFS. The servo block, the spindle and the Treadle link (05_selvedge_channel.md R158; 06_selvedge_servo.md R168 to R176, R178 to R185).
-/

namespace Sys2Proof.Machine

/-! ### What a step on other registers leaves -/

theorem fkey_ne_of_page {p q : Nat} {f g : Fld} (hp : p ≠ q) (h : f.off < 4096 ∧ g.off < 4096 ∧ f.lo < 32 ∧ g.lo < 32) :
    fkey p f 0 ≠ fkey q g 0 := by
  simp only [fkey, Nat.mul_zero, Nat.add_zero]
  omega

/-- A field set outside the PWR page leaves every page's power alone. -/
theorem State.pageUp_wr (s : State) {p : Nat} {f : Fld} (v q : Nat) (hp : p ≠ P.pwr) (hf : f.off < 4096 ∧ f.lo < 32) :
    (s.wr p f v).pageUp q = s.pageUp q := by
  have hrd {g : Fld} (hg : g.off < 4096 ∧ g.lo < 32) : (s.wr p f v).rd P.pwr g = s.rd P.pwr g :=
    State.rd_wr_ne s v (fkey_ne_of_page hp ⟨hf.1, hg.1, hf.2, hg.2⟩)
  simp only [State.pageUp, State.domOn, State.wr_part, hrd (show R.pwr_DOM_ON_LO.off < 4096 ∧ _ by decide),
    hrd (show R.pwr_DOM_ON_HI.off < 4096 ∧ _ by decide)]

/-- A field set on the SVO page leaves the link as it is. -/
theorem State.trlUp_wr (s : State) {f : Fld} (v : Nat) (hf : f.off < 4096 ∧ f.lo < 32) : (s.wr P.svo f v).trlUp = s.trlUp := by
  have hen : (s.wr P.svo f v).en P.trl = s.en P.trl :=
    State.on_wr_ne s v (fkey_ne_of_page (by decide) ⟨hf.1, by decide, hf.2, by decide⟩)
  rw [State.trlUp, State.pageUp_wr s v P.trl (by decide) hf, hen, State.trlUp]

theorem State.trlUp_congr {s t : State} (hr : t.regs = s.regs) (hp : t.part = s.part) : t.trlUp = s.trlUp := by
  simp only [State.trlUp, State.pageUp, State.domOn, State.en, State.on, State.rd, State.rdI_congr hr hp, hp]

theorem RegFrame.whenB {s t : State} (h : RegFrame s t) (c : Bool) {f : State → State} (hf : RegFrame s (f t)) :
    RegFrame s (t.whenB c f) := by
  cases c
  · exact h
  · exact hf

/-- One servo state put in place on both sides. -/
theorem RegFrame.withServo {s t : State} (h : RegFrame s t) (x : Servo) : RegFrame { s with servo := x } { t with servo := x } := by
  unfold RegFrame at h ⊢
  rw [h]

/-! ### Frames of the Treadle link (R178, R186) -/

/-- `t` is `s` but for the link, the counters and what has been sent. -/
def TrlFrame (s t : State) : Prop := t = { s with trd := t.trd, ctrs := t.ctrs, outbox := t.outbox }

theorem TrlFrame.refl (s : State) : TrlFrame s s := rfl

theorem TrlFrame.trans {s t u : State} (h : TrlFrame s t) (g : TrlFrame t u) : TrlFrame s u :=
  Eq.trans g (congrArg (fun v : State => { v with trd := u.trd, ctrs := u.ctrs, outbox := u.outbox }) h)

theorem TrlFrame.ofTrd (s : State) (x : Treadle) : TrlFrame s { s with trd := x } := rfl

theorem TrlFrame.count {s t : State} (h : TrlFrame s t) (p o : Nat) : TrlFrame s (t.count p o) :=
  h.trans ((State.count_frame t p o).trans (by rw [State.count_trd, State.count_outbox]))

section
variable {s t : State} (h : TrlFrame s t)
include h

theorem TrlFrame.regs_eq : t.regs = s.regs := by unfold TrlFrame at h; rw [h]
theorem TrlFrame.servo_eq : t.servo = s.servo := by unfold TrlFrame at h; rw [h]
theorem TrlFrame.part_eq : t.part = s.part := by unfold TrlFrame at h; rw [h]
theorem TrlFrame.rd_eq (p : Nat) (f : Fld) : t.rd p f = s.rd p f := State.rdI_congr h.regs_eq h.part_eq p f 0

end

/-- The state with a frame on its way: the next SEQ, and the frame kept until its response is checked. -/
def State.trlOut (s : State) (cmd arg : Nat) : State :=
  let f := trlFrame cmd s.trd.seq arg
  ({ s with trd := { s.trd with seq := (s.trd.seq + 1) % 16, last := s.trd.last ++ [f] } } : State).send (.treadle f)

section
variable (s : State) (cmd arg : Nat)

theorem State.trlSend1_up {s : State} (h : s.trlUp = true) :
    s.trlSend1 cmd arg = ((s.trlOut cmd arg).count P.trl 0x040).whenB (cmd == 4) fun u => u.count P.trl 0x058 := if_pos h

theorem State.trlSend1_down {s : State} (h : s.trlUp = false) : s.trlSend1 cmd arg = s := if_neg (by simp [h])

theorem State.trlSend1_frame : TrlFrame s (s.trlSend1 cmd arg) := by
  have hout : TrlFrame s ((s.trlOut cmd arg).count P.trl 0x040) := TrlFrame.count (t := s.trlOut cmd arg) rfl _ _
  cases h : s.trlUp
  · rw [State.trlSend1_down cmd arg h]
    exact .refl s
  · rw [State.trlSend1_up cmd arg h]
    cases cmd == 4
    · exact hout
    · exact hout.count _ _

theorem State.trlSend1_trd {s : State} (h : s.trlUp = true) : (s.trlSend1 cmd arg).trd = (s.trlOut cmd arg).trd := by
  rw [State.trlSend1_up cmd arg h]
  cases cmd == 4 <;> simp [State.whenB]

theorem State.trlSend1_outbox {s : State} (h : s.trlUp = true) :
    (s.trlSend1 cmd arg).outbox = s.outbox ++ [.treadle (trlFrame cmd s.trd.seq arg)] := by
  rw [State.trlSend1_up cmd arg h]
  cases cmd == 4 <;> simp [State.whenB, State.trlOut, State.send]

theorem State.trlSend_frame : TrlFrame s (s.trlSend cmd arg) := by
  have hfirst := s.trlSend1_frame cmd arg
  unfold State.trlSend
  simp only
  split
  · split
    · exact hfirst
    · exact (hfirst.trans (.ofTrd _ _)).trans (State.trlSend1_frame _ _ _)
  · exact hfirst

theorem State.trlSend1_sw : (s.trlSend1 cmd arg).trd.sw = s.trd.sw := by
  cases h : s.trlUp
  · rw [State.trlSend1_down cmd arg h]
  · rw [State.trlSend1_trd cmd arg h]
    rfl

theorem State.trlSend1_fails : (s.trlSend1 cmd arg).trd.fails = s.trd.fails := by
  cases h : s.trlUp
  · rw [State.trlSend1_down cmd arg h]
  · rw [State.trlSend1_trd cmd arg h]
    rfl

/-- With no software frame that waits, a hardware frame goes alone. -/
theorem State.trlSend_alone {s : State} (h : s.trd.sw = none) : s.trlSend cmd arg = s.trlSend1 cmd arg := by
  unfold State.trlSend
  simp only [State.trlSend1_sw, h]

end

/-! ### Write inhibit (R158, R176) -/

theorem State.inhibit_idle {s : State} (h : s.rd P.slv R.slv_WG_STATE = 0) (b : Bool) : s.inhibit b = s.wr P.svo R.svo_WR_INHIBIT 1 :=
  if_neg (by rw [State.on_wr_ne s 1 (by decide), State.on_eq_false h]; exact Bool.false_ne_true)

/-- The state with write inhibit signalled, a shock recorded, the write in progress not yet ended. -/
def State.inhibited (s : State) (b : Bool) : State :=
  ((s.wr P.svo R.svo_WR_INHIBIT 1).count P.svo 0x048).whenB b fun u => u.err P.svo 0x04 0 0

theorem State.inhibited_frame (s : State) (b : Bool) : RegFrame s (s.inhibited b) :=
  RegFrame.whenB (((RegFrame.refl s).wr _ _ _).count _ _) b ((((RegFrame.refl s).wr _ _ _).count _ _).err _ _ _ _)

theorem State.rd_inhibited (s : State) (b : Bool) {p : Nat} {f : Fld} (h : 0x100 ≤ f.off ∧ f.off < 4096 ∧ f.lo < 32) :
    (s.inhibited b).rd p f = (s.wr P.svo R.svo_WR_INHIBIT 1).rd p f := by
  cases b
  · exact State.rd_count ..
  · exact (State.rd_err_own _ _ _ _ _ h).trans (State.rd_count ..)

/-- The state with the sector in progress of request `r` incomplete on the disk. -/
def State.slvTorn (s : State) (r : SlvRun) : State :=
  let place := diskPlace r.req.head r.req.track (r.req.sector + r.at_)
  { s with selv := { s.selv with disk := Tbl.put s.selv.disk place ⟨0, false⟩ } }

theorem State.slvBreak_write {s : State} {r : SlvRun} (hr : s.selv.run = some r) (hw : s.on P.slv R.slv_WG_STATE = true) (st : Nat) :
    s.slvBreak st = (s.slvTorn r).slvEnd st r.at_ := by
  simp only [State.slvBreak, State.slvTorn, hr, hw, if_true]

/-- A write in progress ends with WRITE_ABORT, its sector incomplete on the disk. -/
theorem State.inhibit_write {s : State} {r : SlvRun} (b : Bool) (hw : s.rd P.slv R.slv_WG_STATE ≠ 0) (hr : s.selv.run = some r) :
    ∃ v : State, s.inhibit b = v.slvEnd 0x03 r.at_ ∧
      Tbl.at? v.selv.disk (diskPlace r.req.head r.req.track (r.req.sector + r.at_)) = some ⟨0, false⟩ ∧ v.rd P.svo R.svo_WR_INHIBIT = 1 := by
  have hwg : (s.wr P.svo R.svo_WR_INHIBIT 1).on P.slv R.slv_WG_STATE = true :=
    (State.on_wr_ne s 1 (by decide)).trans (State.on_eq_true hw)
  have hgate : (s.inhibited b).on P.slv R.slv_WG_STATE = true := by rw [State.on, State.rd_inhibited s b (by decide)]; exact hwg
  have hrun : (s.inhibited b).selv.run = some r := by rw [State.inhibited_frame s b]; exact hr
  refine ⟨(s.inhibited b).slvTorn r, (if_pos hwg).trans (State.slvBreak_write (s := s.inhibited b) hrun hgate 0x03), Tbl.at?_put_same _ _ _,
    (State.rd_inhibited s b (by decide)).trans (State.rd_wr_same ..)⟩

/-! ### Wedges (R168 to R172) -/

theorem exec_servoWedge_off {s : State} {w : WedgeSample} (h : s.svoUp = false) : exec (.servoWedge w) s = .next s :=
  congrArg Host.Outcome.next (State.whenB_false h _)

theorem exec_servoWedge {s u v : State} {w : WedgeSample} (hup : s.svoUp = true) (hs : s.servo.synced = true)
    (hu : u = (if w.found = true ∧ w.offset.natAbs ≤ s.rd P.svo R.svo_SAM_WIN then s.wedgeFound w else s.wedgeMissed w).vcmFrame)
    (hv : v = (if u.on P.slv R.slv_RG_STATE = true ∧ w.resync = false then u.count P.slv 0x078 else u)) :
    exec (.servoWedge w) s = .next (if v.inhibitNow = true then v.inhibit false else (v.wr P.svo R.svo_WR_INHIBIT 0).slvOpen) := by
  have hstep : (if (!s.servo.synced) = true then s.wedgeSearch w (decide (w.offset.natAbs ≤ s.rd P.svo R.svo_SAM_WIN))
      else if (w.found && decide (w.offset.natAbs ≤ s.rd P.svo R.svo_SAM_WIN)) = true then s.wedgeFound w else s.wedgeMissed w).vcmFrame = u := by
    rw [hu, if_neg (by simp [hs])]
    exact congrArg State.vcmFrame (if_congr (by simp) rfl rfl)
  have hresync : u.whenB (u.on P.slv R.slv_RG_STATE && !w.resync) (fun s => s.count P.slv 0x078) = v := by
    rw [hv]
    exact if_congr (by simp) rfl rfl
  refine congrArg Host.Outcome.next ((State.whenB_true hup _).trans ?_)
  simp only [hstep, hresync]

/-- A missed wedge counted. -/
def State.wedgeCounted (s : State) (w : WedgeSample) : State :=
  ({ s with servo := { s.servo with missed := s.servo.missed + 1, sinceIdx := s.servo.sinceIdx.map (· + w.cycles) } } : State).count
    P.svo 0x050

/-- The wedge search begun again. -/
def State.searching (s : State) : State := { s with servo := { s.servo with synced := false, found := 0, sinceIdx := none } }

/-- The state that the eighth wedge missed in a row leaves. -/
def State.servoLost (s : State) (w : WedgeSample) : State :=
  (((s.wedgeCounted w).searching.flag P.svo R.svo_SERVO_LOST).err P.svo 0x01 0 0).raise P.svo 1

section
variable {s : State} {w : WedgeSample}

theorem State.wedgeCounted_servo (s : State) (w : WedgeSample) : (s.wedgeCounted w).servo =
    { s.servo with missed := s.servo.missed + 1, sinceIdx := s.servo.sinceIdx.map (· + w.cycles) } := State.count_servo _ _ _

theorem State.wedgeMissed_eighth (h : s.servo.missed = 7) : s.wedgeMissed w = s.servoLost w := if_neg (by rw [h]; decide)

theorem State.wedgeMissed_few (h : s.servo.missed < 7) : s.wedgeMissed w = (s.wedgeCounted w).position s.servo.pesLast := by
  have hpes : (s.wedgeCounted w).servo.pesLast = s.servo.pesLast := by rw [State.wedgeCounted_servo]
  rw [← hpes]
  exact if_pos (Nat.succ_lt_succ h)

theorem State.servoLost_frame (s : State) (w : WedgeSample) : RegFrame { s with servo := (s.wedgeCounted w).searching.servo } (s.servoLost w) := by
  have hsearch : RegFrame { s with servo := (s.wedgeCounted w).searching.servo } (s.wedgeCounted w).searching :=
    (RegFrame.count (.refl _) P.svo 0x050).withServo (s.wedgeCounted w).searching.servo
  exact ((hsearch.wr _ _ _).err _ _ _ _).raise _ _

theorem servoLost_does (h : s.servo.missed = 7) : let t := s.wedgeMissed w
    t.servo.synced = false ∧ t.servo.missed = 8 ∧ t.rd P.svo R.svo_SERVO_LOST = 1 ∧ (t.rd P.svo R.common_INT_RAW).testBit 1 = true ∧
      t = { s with servo := t.servo, regs := t.regs, ctrs := t.ctrs, outbox := t.outbox } := by
  have hservo : (s.servoLost w).servo = (s.wedgeCounted w).searching.servo := by rw [State.servoLost_frame s w]
  rw [State.wedgeMissed_eighth h]
  refine ⟨by rw [hservo]; rfl, ?_, (State.rd_raise_own _ _ _ (by decide)).trans ((State.rd_err_own _ _ _ _ _ (by decide)).trans
    (State.rd_wr_same ..)), State.testBit_raise _ _ (by decide), ?_⟩
  · rw [hservo, State.searching, State.wedgeCounted_servo, h]
  · rw [hservo]
    exact State.servoLost_frame s w

theorem wedgeMissed_few_does (h : s.servo.missed < 7) : ∃ v : State, s.wedgeMissed w = v.position s.servo.pesLast ∧
    v.servo.missed = s.servo.missed + 1 ∧ v = { s with servo := v.servo, ctrs := v.ctrs } := by
  refine ⟨s.wedgeCounted w, State.wedgeMissed_few h, by rw [State.wedgeCounted_servo], ?_⟩
  rw [State.wedgeCounted_servo]
  exact State.count_frame _ _ _

end

/-! ### The position error and ON_TRACK (R170, R172) -/

/-- A rounded quotient is within half a unit of the fraction. -/
theorem State.roundDiv_near (s : State) (n : Int) {d : Nat} (hd : 0 < d) : 2 * ((d : Int) * (s.roundDiv n d).1 - n).natAbs ≤ d := by
  have hlow : 0 ≤ n % (d : Int) := Int.emod_nonneg n (by omega)
  have hhigh : n % (d : Int) < d := Int.emod_lt_of_pos n (by omega)
  have hdiv : (d : Int) * (n / d) = n - n % d := by have := Int.mul_ediv_add_emod n d; omega
  have hrest : n - n / (d : Int) * d = n % d := by rw [mul_comm]; omega
  unfold State.roundDiv
  simp only [hrest]
  split
  · simp only [hdiv]
    omega
  · split
    · have hbit : (s.drawFree 1).1 < 2 := (Config.freeValue 1 s.free).isLt
      simp only [mul_add, hdiv]
      rcases Nat.lt_succ_iff_lt_or_eq.1 hbit with h | h
      · rw [Nat.lt_one_iff.1 h]
        omega
      · rw [h]
        omega
    · simp only [mul_add, hdiv]
      omega

theorem State.pes_near (s : State) {a b : Nat} (h : 0 < a + b) : ∃ x : Int, (s.pes a b).1 = max (-128) (min 127 x) ∧
    2 * (((a + b : Nat) : Int) * x - 128 * ((a : Int) - b)).natAbs ≤ a + b := by
  refine ⟨(s.roundDiv (128 * ((a : Int) - b)) (a + b)).1, ?_, s.roundDiv_near _ h⟩
  rw [State.pes, if_neg (by omega)]

theorem State.onTrack_does (s : State) (p : Int) : let good := if p.natAbs ≤ s.rd P.svo R.svo_ON_TRK_PES then s.servo.good + 1 else 0
    (s.onTrack p).servo.good = good ∧ (s.onTrack p).rd P.svo R.svo_ON_TRACK = if s.rd P.svo R.svo_ON_TRK_CNT ≤ good then 1 else 0 := by
  intro good
  have hgood : (s.onTrack p).servo.good = good := if_congr decide_eq_true_iff rfl rfl
  refine ⟨hgood, (State.rd_wr_same ..).trans ?_⟩
  rw [← hgood]
  show (if s.rd P.svo R.svo_ON_TRK_CNT ≤ (s.onTrack p).servo.good then 1 else 0) % 2 = _
  split <;> rfl

/-! ### Revolutions (R175) -/

/-- The state with the length of a revolution shown and the current demand sent. -/
def State.revShown (s : State) (c : Nat) : State :=
  let u := s.wr P.svo R.svo_REV_CYCLES c
  (u.drawFree 16).2.trlSend 2 (u.drawFree 16).1

/-- The revolutions in range once one of `c` cycles has ended. -/
def State.revInRange (s : State) (c : Nat) : Nat :=
  if ((c * s.rd P.svo R.svo_RPM : Int) - 12000000000).natAbs * 1000 ≤ 12000000000 then s.servo.inRange + 1 else 0

/-- The state with the revolutions in range counted. -/
def State.revCounted (s : State) (c : Nat) : State :=
  { s.revShown c with servo := { (s.revShown c).servo with inRange := s.revInRange c } }

theorem State.revolution_eq (s : State) (c : Nat) : s.revolution c =
    if 16 ≤ s.revInRange c then
      if (s.revCounted c).on P.svo R.svo_SPN_AT_SPEED = true then s.revCounted c
      else ((s.revCounted c).flag P.svo R.svo_SPN_AT_SPEED).raise P.svo 3
    else (s.revCounted c).wr P.svo R.svo_SPN_AT_SPEED 0 := by
  have hsent := ((s.wr P.svo R.svo_REV_CYCLES c).drawFree 16).2.trlSend_frame 2 ((s.wr P.svo R.svo_REV_CYCLES c).drawFree 16).1
  have hrpm : (s.revShown c).rd P.svo R.svo_RPM = s.rd P.svo R.svo_RPM := (hsent.rd_eq _ _).trans (State.rd_wr_ne s c (by decide))
  have hrange : (s.revShown c).servo.inRange = s.servo.inRange := congrArg Servo.inRange hsent.servo_eq
  unfold State.revCounted State.revInRange
  rw [← hrpm, ← hrange]
  rfl

/-- The sixteenth revolution in range puts the spindle at speed. -/
theorem revolution_atSpeed {s : State} {c : Nat} (hc : ((c * s.rd P.svo R.svo_RPM : Int) - 12000000000).natAbs * 1000 ≤ 12000000000)
    (hn : s.servo.inRange = 15) : (s.revolution c).rd P.svo R.svo_SPN_AT_SPEED ≠ 0 := by
  have hrange : s.revInRange c = 16 := by rw [State.revInRange, if_pos hc, hn]
  rw [State.revolution_eq, if_pos (by rw [hrange])]
  split
  · rename_i hon
    exact (State.on_iff _ _ _).1 hon
  · rw [State.rd_raise_own _ _ _ (by decide), State.flag, State.rd_wr_same]
    decide

theorem revolution_outOfRange {s : State} {c : Nat} (hc : 12000000000 < ((c * s.rd P.svo R.svo_RPM : Int) - 12000000000).natAbs * 1000) :
    (s.revolution c).rd P.svo R.svo_SPN_AT_SPEED = 0 ∧ (s.revolution c).servo.inRange = 0 := by
  have hrange : s.revInRange c = 0 := if_neg (Nat.not_le.2 hc)
  rw [State.revolution_eq, if_neg (by rw [hrange]; decide)]
  exact ⟨State.rd_wr_same .., hrange⟩

/-! ### Seeks (R173, R174) -/

/-- A preamplifier frame started or queued changes the port, PA_BUSY and what is sent. -/
theorem State.paStart_frame (s : State) (f : Nat) :
    s.paStart f = { s with selv := (s.paStart f).selv, regs := (s.paStart f).regs, outbox := (s.paStart f).outbox } := by
  unfold State.paStart
  simp only
  split
  · rfl
  · split <;> rfl

theorem State.paStart_sameRegs (s : State) (f : Nat) : SameRegs s (s.paStart f) [fkey P.slv R.slv_PA_BUSY 0] := by
  have hbusy : SameRegs s (s.wr P.slv R.slv_PA_BUSY 1) [fkey P.slv R.slv_PA_BUSY 0] := (SameRegs.refl s _).wr (by simp) 1
  unfold State.paStart
  simp only
  split
  · exact SameRegs.refl s _
  · split <;> exact hbusy

theorem State.rd_paStart (s : State) (f : Nat) {p : Nat} {g : Fld} (h : fkey p g 0 ∉ [fkey P.slv R.slv_PA_BUSY 0]) :
    (s.paStart f).rd p g = s.rd p g := (s.paStart_sameRegs f).rd_eq (by rw [State.paStart_frame]) h

/-- The state with a seek begun, its head frame not yet started. -/
def State.seekSet (s : State) (k h : Nat) (b : Bool) : State :=
  let u : State := { s with servo := { s.servo with seek := some ⟨k, h, b, false⟩, seekDone := false, good := 0 } }
  (((((u.wr P.svo R.svo_SEEK_BUSY 1).wr P.svo R.svo_ON_TRACK 0).wr P.svo R.svo_WR_INHIBIT 1).wr P.svo R.svo_CUR_HEAD h).svoState 1).count
    P.svo 0x040

section
variable (s : State) (k h : Nat) (b : Bool)

theorem State.seekSet_frame : s.seekSet k h b =
    { s with servo := { s.servo with seek := some ⟨k, h, b, false⟩, seekDone := false, good := 0 }
             regs := (s.seekSet k h b).regs, ctrs := (s.seekSet k h b).ctrs } := by
  have hframe : RegFrame { s with servo := { s.servo with seek := some ⟨k, h, b, false⟩, seekDone := false, good := 0 } } (s.seekSet k h b) :=
    ((((((RegFrame.refl _).wr P.svo R.svo_SEEK_BUSY 1).wr P.svo R.svo_ON_TRACK 0).wr P.svo R.svo_WR_INHIBIT 1).wr P.svo R.svo_CUR_HEAD h).wr
      P.svo R.svo_STATE 1).count P.svo 0x040
  exact hframe.silent (State.count_outbox _ _ _)

theorem State.seekSet_fields : (s.seekSet k h b).rd P.svo R.svo_SEEK_BUSY = 1 ∧ (s.seekSet k h b).rd P.svo R.svo_ON_TRACK = 0 ∧
    (s.seekSet k h b).rd P.svo R.svo_WR_INHIBIT = 1 ∧ (s.seekSet k h b).rd P.svo R.svo_CUR_HEAD = h % 16 ∧
    (s.seekSet k h b).rd P.svo R.svo_STATE = 1 := by
  simp only [State.seekSet, State.svoState, State.rd_count]
  refine ⟨?_, ?_, ?_, (State.rd_wr_ne _ _ (by decide)).trans (State.rd_wr_same ..), State.rd_wr_same ..⟩
  · exact (State.rd_wr_ne _ _ (by decide)).trans ((State.rd_wr_ne _ _ (by decide)).trans ((State.rd_wr_ne _ _ (by decide)).trans
      ((State.rd_wr_ne _ _ (by decide)).trans (State.rd_wr_same ..))))
  · exact (State.rd_wr_ne _ _ (by decide)).trans ((State.rd_wr_ne _ _ (by decide)).trans ((State.rd_wr_ne _ _ (by decide)).trans
      (State.rd_wr_same ..)))
  · exact (State.rd_wr_ne _ _ (by decide)).trans ((State.rd_wr_ne _ _ (by decide)).trans (State.rd_wr_same ..))

theorem seekStart_does : let t := s.seekStart k h b
    t.servo = { s.servo with seek := some ⟨k, h, b, false⟩, seekDone := false, good := 0 } ∧ t.rd P.svo R.svo_SEEK_BUSY = 1 ∧
      t.rd P.svo R.svo_ON_TRACK = 0 ∧ t.rd P.svo R.svo_WR_INHIBIT = 1 ∧ t.rd P.svo R.svo_CUR_HEAD = h % 16 ∧ t.rd P.svo R.svo_STATE = 1 ∧
      t = { s with servo := t.servo, selv := t.selv, regs := t.regs, ctrs := t.ctrs, outbox := t.outbox } := by
  have hseek : s.seekStart k h b = (s.seekSet k h b).paStart (Config.headRegister.toNat * 256 + h) := rfl
  obtain ⟨hbusy, htrack, hinhibit, hhead, hstate⟩ := s.seekSet_fields k h b
  have hframe := State.paStart_frame (s.seekSet k h b) (Config.headRegister.toNat * 256 + h)
  have hservo : ((s.seekSet k h b).paStart (Config.headRegister.toNat * 256 + h)).servo = (s.seekSet k h b).servo := by rw [hframe]
  have hset : (s.seekSet k h b).servo = { s.servo with seek := some ⟨k, h, b, false⟩, seekDone := false, good := 0 } := by
    rw [State.seekSet_frame]
  rw [hseek]
  refine ⟨hservo.trans hset, (State.rd_paStart _ _ (by decide)).trans hbusy, (State.rd_paStart _ _ (by decide)).trans htrack,
    (State.rd_paStart _ _ (by decide)).trans hinhibit, (State.rd_paStart _ _ (by decide)).trans hhead,
    (State.rd_paStart _ _ (by decide)).trans hstate, ?_⟩
  have hctrs : ((s.seekSet k h b).paStart (Config.headRegister.toNat * 256 + h)).ctrs = (s.seekSet k h b).ctrs := by rw [hframe]
  rw [hservo, hset, hctrs]
  exact hframe.trans (by rw [State.seekSet_frame])

end

section
variable {s : State} {ag : Agent}

theorem exec_seekGo_refused (hr : Reaches s ag P.svo) (h : s.selv.run.isSome = true ∨ s.ringHas = true ∨ s.selv.hemQ ≠ []) :
    exec (.seekGo ag) s = .next (s.count P.svo 0x058) :=
  congrArg Host.Outcome.next ((State.gated_reaches hr _ _ _).trans (if_pos (by simpa [or_assoc] using h)))

theorem exec_seekGo (hr : Reaches s ag P.svo) (hrun : s.selv.run = none) (hring : s.ringHas = false) (hq : s.selv.hemQ = [])
    (he : s.en P.svo = true) : exec (.seekGo ag) s =
      .next ((if s.servo.seek = none then s.seekStart (s.rd P.svo R.svo_SEEK_TRACK) (s.rd P.svo R.svo_SEEK_HEAD) true
        else s.seekAim (s.rd P.svo R.svo_SEEK_TRACK) (s.rd P.svo R.svo_SEEK_HEAD)).inhibit false) := by
  refine congrArg Host.Outcome.next ((State.gated_reaches hr _ _ _).trans ((if_neg (by simp [hrun, hring, hq])).trans
    ((State.whenB_true he _).trans ?_)))
  cases s.servo.seek <;> rfl

theorem exec_seekTimeout_none (h : s.servo.seek = none) : exec .seekTimeout s = .next s := by
  refine congrArg Host.Outcome.next ?_
  rw [h]

/-- The state with the seek in progress given up, off track. -/
def State.seekLost (s : State) : State :=
  (((({ s with servo := { s.servo with seek := none } } : State).wr P.svo R.svo_SEEK_BUSY 0).svoState 0).err P.svo 0x02 0 0).raise P.svo 4

theorem seekTimeout_does {k : Seek} (h : s.servo.seek = some k) : ∃ v : State, v.servo.seek = none ∧ v.rd P.svo R.svo_SEEK_BUSY = 0 ∧
    v.rd P.svo R.svo_STATE = 0 ∧ (v.rd P.svo R.common_INT_RAW).testBit 4 = true ∧
    v = { s with servo := { s.servo with seek := none }, regs := v.regs, outbox := v.outbox } ∧
    exec .seekTimeout s = .next (if k.fw = true then v.svoSettle else (v.slvEnd 0x0B 0x3FF).svoSettle) := by
  have hframe : RegFrame { s with servo := { s.servo with seek := none } } s.seekLost :=
    ((((RegFrame.refl _).wr P.svo R.svo_SEEK_BUSY 0).wr P.svo R.svo_STATE 0).err P.svo 0x02 0 0).raise P.svo 4
  have hrd {f : Fld} (hf : 0x100 ≤ f.off ∧ f.off < 4096 ∧ f.lo < 32) : s.seekLost.rd P.svo f =
      (((({ s with servo := { s.servo with seek := none } } : State).wr P.svo R.svo_SEEK_BUSY 0).svoState 0)).rd P.svo f :=
    (State.rd_raise_own _ _ _ hf).trans (State.rd_err_own _ _ _ _ _ hf)
  refine ⟨s.seekLost, by rw [hframe], (hrd (by decide)).trans ((State.rd_wr_ne _ _ (by decide)).trans (State.rd_wr_same ..)),
    (hrd (by decide)).trans (State.rd_wr_same ..), State.testBit_raise _ _ (by decide),
    hframe.uncounted (by simp [State.seekLost, State.svoState]), congrArg Host.Outcome.next ?_⟩
  simp only [h]
  exact apply_ite State.svoSettle _ _ _

/-! ### The spindle and the heads (R175, R179, R185) -/

/-- The servo as a spin-up begins: the wedge search starts anew. -/
def Servo.started (v : Servo) : Servo :=
  { v with synced := false, found := 0, missed := 0, inRange := 0, sinceIdx := none, vcmOff := false, spinMode := 1 }

/-- The state as SPN_MODE start is about to be sent. -/
def State.spinReady (s : State) : State := { s.wr P.svo R.svo_SPN_AT_SPEED 0 with servo := s.servo.started }

theorem State.spinReady_up (s : State) : s.spinReady.trlUp = s.trlUp := State.trlUp_wr s 0 (by decide)

theorem spnGo_does (hr : Reaches s ag P.svo) (he : s.en P.svo = true) (hu : s.trlUp = true) (hsw : s.trd.sw = none) :
    Does (.spnGo ag) s fun t => t.servo.spinMode = 1 ∧ t.servo.synced = false ∧ t.rd P.svo R.svo_SPN_AT_SPEED = 0 ∧
      t.outbox = s.outbox ++ [.treadle (trlFrame 3 s.trd.seq 1)] ∧
      t = { s with servo := t.servo, trd := t.trd, regs := t.regs, ctrs := t.ctrs, outbox := t.outbox } ∧
      SameRegs s t [fkey P.svo R.svo_SPN_AT_SPEED 0] := by
  have hexec : exec (.spnGo ag) s = .next (s.spinReady.trlSend 3 1) :=
    congrArg Host.Outcome.next ((State.gated_reaches hr _ _ _).trans (State.whenB_true he _))
  have hsent := s.spinReady.trlSend_frame 3 1
  have hservo : (s.spinReady.trlSend 3 1).servo = s.servo.started := hsent.servo_eq
  have hregs : (s.spinReady.trlSend 3 1).regs = (s.wr P.svo R.svo_SPN_AT_SPEED 0).regs := hsent.regs_eq
  refine ⟨_, hexec, by rw [hservo]; rfl, by rw [hservo]; rfl, (hsent.rd_eq _ _).trans (State.rd_wr_same s P.svo R.svo_SPN_AT_SPEED 0), ?_, ?_, ?_⟩
  · rw [State.trlSend_alone 3 1 (s := s.spinReady) hsw]
    exact State.trlSend1_outbox 3 1 (s.spinReady_up.trans hu)
  · rw [hservo, hregs]
    exact hsent
  · intro k hk
    rw [hregs]
    exact (SameRegs.refl s _).wr (by simp) 0 k hk

theorem exec_spnStop (hr : Reaches s ag P.svo) : exec (.spnStop ag) s = .next (s.svoStop.inhibit false) :=
  congrArg Host.Outcome.next (State.gated_reaches hr _ _ _)

theorem exec_park (hr : Reaches s ag P.svo) : exec (.park ag) s = .next (s.svoPark.inhibit false) :=
  congrArg Host.Outcome.next (State.gated_reaches hr _ _ _)

/-- The state with the heads off the track, RETRACT about to be sent. -/
def State.offTrack (s : State) : State :=
  (((({ s with servo := { s.servo with seekDone := false, good := 0 } } : State).svoState 0).wr P.svo R.svo_ON_TRACK 0).wr P.svo
    R.svo_WR_INHIBIT 1)

theorem State.offTrack_up (s : State) : s.offTrack.trlUp = s.trlUp :=
  (State.trlUp_wr _ _ (by decide)).trans ((State.trlUp_wr _ _ (by decide)).trans (State.trlUp_wr _ _ (by decide)))

/-- The state with the heads parked, SPN_MODE brake about to be sent. -/
def State.brakeReady (s : State) : State :=
  { s.svoPark.wr P.svo R.svo_SPN_AT_SPEED 0 with servo := { s.svoPark.servo with spinMode := 3 } }

theorem park_does (hu : s.trlUp = true) (hsw : s.trd.sw = none) :
    s.svoPark.outbox = s.outbox ++ [.treadle (trlFrame 4 s.trd.seq 0x5A5A)] ∧ s.svoPark.rd P.svo R.svo_ON_TRACK = 0 ∧
      s.svoStop.outbox = s.outbox ++ [.treadle (trlFrame 4 s.trd.seq 0x5A5A), .treadle (trlFrame 3 ((s.trd.seq + 1) % 16) 3)] ∧
      s.svoStop.rd P.svo R.svo_SPN_AT_SPEED = 0 ∧ s.svoStop.servo.spinMode = 3 := by
  have hup : s.offTrack.trlUp = true := s.offTrack_up.trans hu
  have hpark : s.svoPark = s.offTrack.trlSend1 4 0x5A5A := State.trlSend_alone 4 0x5A5A (s := s.offTrack) hsw
  have hout : s.svoPark.outbox = s.outbox ++ [.treadle (trlFrame 4 s.trd.seq 0x5A5A)] := by
    rw [hpark]
    exact State.trlSend1_outbox 4 0x5A5A hup
  have htrd : s.svoPark.trd = (s.offTrack.trlOut 4 0x5A5A).trd := by rw [hpark, State.trlSend1_trd 4 0x5A5A hup]
  have hsent := s.offTrack.trlSend1_frame 4 0x5A5A
  have hupPark : s.brakeReady.trlUp = true := by
    have hcongr : s.svoPark.trlUp = s.offTrack.trlUp := by rw [hpark]; exact State.trlUp_congr hsent.regs_eq hsent.part_eq
    exact (State.trlUp_wr s.svoPark 0 (by decide)).trans (hcongr.trans hup)
  have hstop : s.svoStop = s.brakeReady.trlSend1 3 3 :=
    State.trlSend_alone 3 3 (s := s.brakeReady) ((congrArg Treadle.sw htrd).trans hsw)
  have hbrake := s.brakeReady.trlSend1_frame 3 3
  refine ⟨hout, ?_, ?_, ?_, ?_⟩
  · rw [hpark, hsent.rd_eq]
    exact (State.rd_wr_ne _ _ (by decide)).trans (State.rd_wr_same ..)
  · rw [hstop, State.trlSend1_outbox 3 3 hupPark]
    show s.svoPark.outbox ++ [.treadle (trlFrame 3 s.svoPark.trd.seq 3)] = _
    rw [hout, htrd, List.append_assoc]
    rfl
  · rw [hstop, hbrake.rd_eq]
    exact State.rd_wr_same ..
  · rw [hstop, hbrake.servo_eq]
    rfl

theorem exec_spinupTimeout (hu : s.svoUp = true) (hs : s.rd P.svo R.svo_SPN_AT_SPEED = 0) (hm : s.servo.spinMode = 1 ∨ s.servo.spinMode = 2) :
    exec .spinupTimeout s = .next ((s.err P.svo 0x03 0 0).raise P.svo 4) :=
  congrArg Host.Outcome.next (State.whenB_true (by simp [hu, State.on_eq_false hs, hm]) _)

theorem exec_spinupTimeout_atSpeed (hs : s.rd P.svo R.svo_SPN_AT_SPEED ≠ 0) : exec .spinupTimeout s = .next s :=
  congrArg Host.Outcome.next (State.whenB_false (by simp [State.on_eq_true hs]) _)

end

/-! ### TRD_ATTN_N (R176, R184) -/

/-- The state with TRD_ATTN_N low, a shock taken note of, write inhibit not yet signalled. -/
def State.attnLow (s : State) (sh : Bool) : State :=
  (({ s with servo := { s.servo with attn := true } } : State).flag P.trl R.trl_ATTN).whenB sh State.shockSeen

/-- The servo with TRD_ATTN_N low; a shock starts settling anew. -/
def Servo.alarmed (v : Servo) (sh : Bool) : Servo := if sh then { v with attn := true, good := 0 } else { v with attn := true }

section
variable {s : State}

theorem State.attnLow_frame (s : State) (sh : Bool) : RegFrame { s with servo := s.servo.alarmed sh } (s.attnLow sh) := by
  cases sh
  · exact (RegFrame.refl _).wr P.trl R.trl_ATTN 1
  · exact ((((RegFrame.refl _).wr P.trl R.trl_ATTN 1).wr P.svo R.svo_ON_TRACK 0).wr P.svo R.svo_SHOCK_SEEN 1).raise P.svo 2

theorem State.attnLow_outside (s : State) (sh : Bool) : s.attnLow sh = { s with
    servo := (s.attnLow sh).servo, regs := (s.attnLow sh).regs, outbox := (s.attnLow sh).outbox } := by
  have hframe := s.attnLow_frame sh
  have hservo : (s.attnLow sh).servo = s.servo.alarmed sh := by rw [hframe]
  rw [hservo]
  exact hframe.uncounted (by cases sh <;> simp [State.attnLow, State.whenB, State.shockSeen])

theorem State.attnLow_attn (s : State) (sh : Bool) : (s.attnLow sh).servo.attn = true := by
  rw [State.attnLow_frame]
  cases sh <;> rfl

/-- The fields that stay in the note of a shock. -/
theorem State.rd_attnLow (s : State) (sh : Bool) {p : Nat} {f : Fld} (h : 0x100 ≤ f.off ∧ f.off < 4096 ∧ f.lo < 32)
    (ht : fkey P.svo R.svo_ON_TRACK 0 ≠ fkey p f 0) (hs : fkey P.svo R.svo_SHOCK_SEEN 0 ≠ fkey p f 0) :
    (s.attnLow sh).rd p f = (s.flag P.trl R.trl_ATTN).rd p f := by
  cases sh
  · rfl
  · exact (State.rd_raise_own _ _ _ h).trans ((State.rd_wr_ne _ _ hs).trans (State.rd_wr_ne _ _ ht))

theorem trdAttnNAssert_does {sh : Bool} (ha : s.pagesAwake = true) (hu : s.pageUp P.svo = true) (hw : s.rd P.slv R.slv_WG_STATE = 0) :
    Does (.trdAttnNAssert sh) s fun t => t.servo.attn = true ∧ t.rd P.trl R.trl_ATTN = 1 ∧ t.rd P.svo R.svo_WR_INHIBIT = 1 ∧
      (sh = true → t.rd P.svo R.svo_SHOCK_SEEN = 1 ∧ t.rd P.svo R.svo_ON_TRACK = 0 ∧ t.servo.good = 0) ∧
      t = { s with servo := t.servo, regs := t.regs, outbox := t.outbox } := by
  have hgate : (s.attnLow sh).rd P.slv R.slv_WG_STATE = 0 :=
    (s.rd_attnLow sh (by decide) (by decide) (by decide)).trans ((State.rd_wr_ne _ _ (by decide)).trans hw)
  refine ⟨(s.attnLow sh).wr P.svo R.svo_WR_INHIBIT 1, (congrArg Host.Outcome.next (State.whenB_true (by rw [ha, hu]; rfl) _)).trans
    (congrArg Host.Outcome.next (State.inhibit_idle hgate sh)), s.attnLow_attn sh, ?_, State.rd_wr_same .., ?_, ?_⟩
  · exact (State.rd_wr_ne _ _ (by decide)).trans ((s.rd_attnLow sh (by decide) (by decide) (by decide)).trans (State.rd_wr_same ..))
  · rintro rfl
    refine ⟨(State.rd_wr_ne _ _ (by decide)).trans ((State.rd_raise_own _ _ _ (by decide)).trans (State.rd_wr_same ..)),
      (State.rd_wr_ne _ _ (by decide)).trans ((State.rd_raise_own _ _ _ (by decide)).trans ((State.rd_wr_ne _ _ (by decide)).trans
        (State.rd_wr_same ..))), ?_⟩
    rw [State.wr_servo, State.attnLow_frame]
    rfl
  · exact congrArg (fun v : State => v.wr P.svo R.svo_WR_INHIBIT 1) (s.attnLow_outside sh)

/-! ### Responses (R178, R180, R181) -/

theorem exec_treadleResponse {f : Nat} {r : List Nat} (hu : s.trlUp = true) (hl : s.trd.last = f :: r) (g : Nat) :
    let u := ({ s with trd := { s.trd with last := r } } : State)
    (crc8 (g / 256 % 2 ^ 24) ≠ g % 256 → exec (.treadleResponse g) s = .next (u.trlBad f)) ∧
    (crc8 (g / 256 % 2 ^ 24) = g % 256 → exec (.treadleResponse g) s = .next (u.trlGood f g).parked) := by
  refine ⟨fun hc => congrArg Host.Outcome.next ((State.whenB_true hu _).trans ?_),
    fun hc => congrArg Host.Outcome.next ((State.whenB_true hu _).trans ?_)⟩ <;> simp only [hl]
  · exact if_neg hc
  · exact if_pos hc

/-- A response that failed its CRC counted. -/
def State.trlFailed (s : State) : State := ({ s with trd := { s.trd with fails := s.trd.fails + 1 } } : State).count P.trl 0x048

theorem State.trlFailed_frame (s : State) : s.trlFailed = { s with trd := { s.trd with fails := s.trd.fails + 1 }, ctrs := s.trlFailed.ctrs } :=
  State.count_frame _ _ _

/-- A frame sent again after its response failed, but not a VCM_CUR frame. -/
def State.trlAgain (s : State) (f : Nat) : State :=
  if f / 2 ^ 28 = 1 then s else s.trlSend1 (f / 2 ^ 28) (f / 2 ^ 8 % 2 ^ 16)

theorem State.trlAgain_frame (s : State) (f : Nat) : TrlFrame s (s.trlAgain f) := by
  unfold State.trlAgain
  split
  · exact .refl s
  · exact s.trlSend1_frame _ _

theorem State.trlAgain_fails (s : State) (f : Nat) : (s.trlAgain f).trd.fails = s.trd.fails := by
  unfold State.trlAgain
  split
  · rfl
  · exact s.trlSend1_fails _ _

/-- The link fault recorded. -/
def State.linkFault (s : State) : State := ((s.flag P.trl R.trl_LINK_FAULT).err P.trl 0x01 0 0).raise P.trl 0

/-- A failed response is counted, the third in a row is a link fault, and the frame goes out again. -/
theorem State.trlBad_eq (s : State) (f : Nat) :
    let u := (s.trlFailed.whenB (decide (3 ≤ s.trd.fails + 1) && !s.trlFailed.on P.trl R.trl_LINK_FAULT) State.linkFault).trlAgain f
    s.trlBad f = if 3 ≤ s.trd.fails + 1 then u.inhibit false else u := rfl

theorem State.trlBad_few (h : s.trd.fails < 2) (f : Nat) : s.trlBad f = s.trlFailed.trlAgain f := by
  have hlt : ¬ 3 ≤ s.trd.fails + 1 := by omega
  rw [State.trlBad_eq, if_neg hlt, State.whenB_false (by simp [hlt])]

theorem trlBad_few_does (f : Nat) (hu : s.trlUp = true) (h : s.trd.fails < 2) : let t := s.trlBad f
    t.trd.fails = s.trd.fails + 1 ∧ (f / 2 ^ 28 = 1 → t.outbox = s.outbox) ∧ (f / 2 ^ 28 ≠ 1 →
      t.outbox = s.outbox ++ [.treadle (trlFrame (f / 2 ^ 28) s.trd.seq (f / 2 ^ 8 % 2 ^ 16))]) := by
  have hup : s.trlFailed.trlUp = true := by rw [State.trlFailed_frame]; exact hu
  rw [State.trlBad_few h]
  refine ⟨(State.trlAgain_fails _ f).trans (by rw [State.trlFailed_frame]), fun hf => ?_, fun hf => ?_⟩
  · rw [State.trlAgain, if_pos hf, State.trlFailed_frame]
  · rw [State.trlAgain, if_neg hf, State.trlSend1_outbox _ _ hup, State.trlFailed_frame]

theorem State.trlBad_third (h : s.trd.fails = 2) (hf : s.rd P.trl R.trl_LINK_FAULT = 0) (f : Nat) :
    s.trlBad f = (s.trlFailed.linkFault.trlAgain f).inhibit false := by
  have hoff : s.trlFailed.on P.trl R.trl_LINK_FAULT = false := by rw [State.trlFailed_frame]; exact State.on_eq_false hf
  rw [State.trlBad_eq, if_pos (by rw [h]), State.whenB_true (by rw [h, hoff]; rfl)]

theorem trlBad_third_does (f : Nat) (h : s.trd.fails = 2) (hf : s.rd P.trl R.trl_LINK_FAULT = 0) (hw : s.rd P.slv R.slv_WG_STATE = 0) :
    let t := s.trlBad f
    t.rd P.trl R.trl_LINK_FAULT = 1 ∧ t.rd P.svo R.svo_WR_INHIBIT = 1 ∧ (t.rd P.trl R.common_INT_RAW).testBit 0 = true := by
  have hagain := s.trlFailed.linkFault.trlAgain_frame f
  have hown {p : Nat} {g : Fld} (hg : 0x100 ≤ g.off ∧ g.off < 4096 ∧ g.lo < 32) :
      (s.trlFailed.linkFault.trlAgain f).rd p g = (s.trlFailed.flag P.trl R.trl_LINK_FAULT).rd p g :=
    (hagain.rd_eq p g).trans ((State.rd_raise_own _ _ _ hg).trans (State.rd_err_own _ _ _ _ _ hg))
  have hgate : (s.trlFailed.linkFault.trlAgain f).rd P.slv R.slv_WG_STATE = 0 := by
    rw [hown (by decide), State.flag, State.rd_wr_ne _ _ (by decide), State.trlFailed_frame]
    exact hw
  rw [State.trlBad_third h hf, State.inhibit_idle hgate]
  refine ⟨(State.rd_wr_ne _ _ (by decide)).trans ((hown (by decide)).trans (State.rd_wr_same ..)), State.rd_wr_same .., ?_⟩
  rw [State.rd_wr_ne _ _ (by decide), hagain.rd_eq]
  exact State.testBit_raise _ _ (by decide)

/-- A good response to frame `f` recorded: its status, its SEQ and, of RD_REG, its data. -/
def State.trlNoted (s : State) (f g : Nat) : State :=
  let u := (({ s with trd := { s.trd with fails := 0 } } : State).wr P.trl R.trl_LAST_STATUS (bitsAt g 16 8)).wr P.trl R.trl_LAST_SEQ
    (bitsAt g 24 4)
  (u.whenB ((bitsAt g 16 8).testBit 0) fun s => s.count P.trl 0x050).whenB (f / 2 ^ 28 == 5) fun s => s.wr P.trl R.trl_SW_RDATA (bitsAt g 8 8)

theorem State.trlNoted_frame (s : State) (f g : Nat) : RegFrame { s with trd := { s.trd with fails := 0 } } (s.trlNoted f g) := by
  have hseq := ((RegFrame.refl { s with trd := { s.trd with fails := 0 } }).wr P.trl R.trl_LAST_STATUS (bitsAt g 16 8)).wr P.trl
    R.trl_LAST_SEQ (bitsAt g 24 4)
  have hcount := hseq.whenB ((bitsAt g 16 8).testBit 0) (f := fun s => s.count P.trl 0x050) (hseq.count _ _)
  exact hcount.whenB (f / 2 ^ 28 == 5) (f := fun s => s.wr P.trl R.trl_SW_RDATA (bitsAt g 8 8)) (hcount.wr _ _ _)

theorem State.trlNoted_outbox (s : State) (f g : Nat) : (s.trlNoted f g).outbox = s.outbox := by
  unfold State.trlNoted
  cases (bitsAt g 16 8).testBit 0 <;> cases f / 2 ^ 28 == 5 <;> simp [State.whenB]

/-- The response's data field alone depends on the frame that it answers. -/
theorem State.rd_trlNoted (s : State) (f g : Nat) {p : Nat} {x : Fld} (h : fkey P.trl R.trl_SW_RDATA 0 ≠ fkey p x 0) :
    (s.trlNoted f g).rd p x = ((s.wr P.trl R.trl_LAST_STATUS (bitsAt g 16 8)).wr P.trl R.trl_LAST_SEQ (bitsAt g 24 4)).rd p x := by
  unfold State.trlNoted
  cases (bitsAt g 16 8).testBit 0 <;> cases f / 2 ^ 28 == 5 <;>
    simp only [State.whenB, Bool.false_eq_true, if_false, if_true, State.rd_wr_ne _ _ h, State.rd_count] <;> rfl

theorem State.trlNoted_rdata (s : State) (f g : Nat) :
    (s.trlNoted f g).rd P.trl R.trl_SW_RDATA = if f / 2 ^ 28 = 5 then bitsAt g 8 8 else s.rd P.trl R.trl_SW_RDATA := by
  unfold State.trlNoted
  by_cases h : f / 2 ^ 28 = 5
  · rw [State.whenB_true (by simpa using h), State.rd_wr_same, if_pos h]
    exact Nat.mod_eq_of_lt (Nat.mod_lt _ (by decide))
  · rw [State.whenB_false (by simpa using h), if_neg h]
    cases (bitsAt g 16 8).testBit 0
    · exact (State.rd_wr_ne _ _ (by decide)).trans (State.rd_wr_ne _ _ (by decide))
    · exact (State.rd_count ..).trans ((State.rd_wr_ne _ _ (by decide)).trans (State.rd_wr_ne _ _ (by decide)))

theorem State.whenB_off (s : State) (f : State → State) : s.whenB false f = s := rfl

/-- A good response that shows neither a driver fault nor a shock, with no software frame on its way. -/
theorem State.trlGood_calm {f g : Nat} (hfault : bitsAt g 19 4 = 0) (hshock : g.testBit 23 = false) (ha : s.servo.attn = false)
    (hsw : s.trd.sw = none) : s.trlGood f g =
      ({ s.trlNoted f g with servo := { s.servo with shock := false, attn := false } } : State).wr P.trl R.trl_ATTN 0 := by
  have hf : bitsAt (bitsAt g 16 8) 3 4 = 0 := by unfold bitsAt at hfault ⊢; omega
  have hs : (bitsAt g 16 8).testBit 7 = false := by
    rw [bitsAt, Nat.testBit_mod_two_pow, Nat.testBit_div_two_pow, hshock, Bool.and_false]
  have hservo : (s.trlNoted f g).servo = s.servo := by rw [State.trlNoted_frame]
  have hmine : ((s.trlNoted f g).trd.swSent && (s.trlNoted f g).trd.sw == some (f / 2 ^ 28 * 65536 + bitsAt f 8 16)) = false := by
    rw [State.trlNoted_frame]
    simp [hsw]
  simp only [State.trlNoted] at hservo hmine
  simp only [State.trlGood, State.trlNoted, hf, hs, hmine, hservo, ha, bne_self_eq_false, Bool.false_and, Bool.or_self, State.whenB_off,
    Bool.false_eq_true, if_false]

theorem trlGood_does {f g : Nat} (hfault : bitsAt g 19 4 = 0) (hshock : g.testBit 23 = false) (ha : s.servo.attn = false)
    (hsw : s.trd.sw = none) : let t := s.trlGood f g
    t.trd.fails = 0 ∧ t.rd P.trl R.trl_LAST_STATUS = bitsAt g 16 8 ∧ t.rd P.trl R.trl_LAST_SEQ = bitsAt g 24 4 ∧
      t.rd P.trl R.trl_SW_RDATA = (if f / 2 ^ 28 = 5 then bitsAt g 8 8 else s.rd P.trl R.trl_SW_RDATA) ∧ t.servo.shock = false ∧
      t = { s with trd := t.trd, servo := t.servo, regs := t.regs, ctrs := t.ctrs } := by
  have hframe := (s.trlNoted_frame f g).silent (s.trlNoted_outbox f g)
  have htrd : (s.trlNoted f g).trd = { s.trd with fails := 0 } := by rw [hframe]
  rw [State.trlGood_calm hfault hshock ha hsw]
  refine ⟨congrArg Treadle.fails htrd, ?_, ?_, ?_, rfl, ?_⟩
  · refine (State.rd_wr_ne _ _ (by decide)).trans ((s.rd_trlNoted f g (by decide)).trans ((State.rd_wr_ne _ _ (by decide)).trans
      ((State.rd_wr_same ..).trans ?_)))
    exact Nat.mod_eq_of_lt (Nat.mod_lt _ (by decide))
  · refine (State.rd_wr_ne _ _ (by decide)).trans ((s.rd_trlNoted f g (by decide)).trans ((State.rd_wr_same ..).trans ?_))
    exact Nat.mod_eq_of_lt (Nat.mod_lt _ (by decide))
  · exact (State.rd_wr_ne _ _ (by decide)).trans (s.trlNoted_rdata f g)
  · rw [State.wr_trd, State.wr_servo, State.wr_ctrs, htrd, hframe]
    rfl

/-! ### Software frames (R180, R186) -/

section
variable {ag : Agent}

/-- A command that asks for a software frame of one command code. -/
theorem exec_swGo (hr : Reaches s ag P.trl) : ∀ x ∈ [(Instr.trdNop ag, 0), (.rdReg ag, 5), (.wrReg ag, 6), (.clrFlt ag, 7)],
    exec x.1 s = .next (s.swGo x.2) ∧ x.2 < 16 := by
  simp only [List.forall_mem_cons]
  exact ⟨⟨congrArg Host.Outcome.next (State.gated_reaches hr _ _ _), by decide⟩,
    ⟨congrArg Host.Outcome.next (State.gated_reaches hr _ _ _), by decide⟩,
    ⟨congrArg Host.Outcome.next (State.gated_reaches hr _ _ _), by decide⟩,
    ⟨congrArg Host.Outcome.next (State.gated_reaches hr _ _ _), by decide⟩, by simp⟩

theorem State.swGo_busy (hb : s.rd P.trl R.trl_SW_BUSY ≠ 0) (c : Nat) : s.swGo c = s :=
  State.whenB_false (by rw [State.on_eq_true hb]; rfl) _

theorem swGo_does {c : Nat} (hc : c < 16) (hb : s.rd P.trl R.trl_SW_BUSY = 0) : let t := s.swGo c
    t.trd = { s.trd with sw := some (c * 65536 + s.rd P.trl R.trl_SW_ARG), swSent := false } ∧ t.rd P.trl R.trl_SW_CMD = c ∧
      t.rd P.trl R.trl_SW_BUSY = 1 ∧ t = { s with trd := t.trd, regs := t.regs } ∧
      SameRegs s t [fkey P.trl R.trl_SW_CMD 0, fkey P.trl R.trl_SW_BUSY 0] := by
  have harg : ((s.wr P.trl R.trl_SW_CMD c).wr P.trl R.trl_SW_BUSY 1).rd P.trl R.trl_SW_ARG = s.rd P.trl R.trl_SW_ARG :=
    (State.rd_wr_ne _ _ (by decide)).trans (State.rd_wr_ne _ _ (by decide))
  rw [State.swGo, State.whenB_true (by rw [State.on_eq_false hb]; rfl)]
  refine ⟨by rw [← harg]; rfl, ?_, State.rd_wr_same .., rfl, ((SameRegs.refl s _).wr (by simp) c).wr (by simp) 1⟩
  exact (State.rd_wr_ne _ _ (by decide)).trans ((State.rd_wr_same ..).trans (Nat.mod_eq_of_lt hc))

/-! ### The servo disabled (R182) -/

variable (hr : Reaches s ag P.svo) (he : s.en P.svo = true)
include hr he

theorem exec_svoCtrlEnClear : exec (.svoCtrlEnClear ag) s = .next ((s.wr P.svo R.common_EN 0).svoSettle.inhibit false) :=
  congrArg Host.Outcome.next ((State.gated_reaches hr _ _ _).trans (State.whenB_true he _))

theorem exec_svoCtrlEnClear_seeking (hk : s.servo.seek.isSome = true) :
    exec (.svoCtrlEnClear ag) s = .next ((s.wr P.svo R.common_EN 0).inhibit false) := by
  have hsettle : (s.wr P.svo R.common_EN 0).svoSettle = s.wr P.svo R.common_EN 0 := if_pos (by simp [hk])
  rw [exec_svoCtrlEnClear hr he, hsettle]

theorem exec_svoCtrlEnClear_parks (hk : s.servo.seek = none) (hv : s.servo.vcmOff = false) : let u := s.wr P.svo R.common_EN 0
    exec (.svoCtrlEnClear ag) s = .next (({ u.svoPark with servo := { u.svoPark.servo with vcmOff := true } } : State).inhibit false) := by
  have hoff : (s.wr P.svo R.common_EN 0).en P.svo = false := State.on_eq_false (State.rd_wr_same ..)
  refine (exec_svoCtrlEnClear hr he).trans (congrArg (fun v : State => Host.Outcome.next (v.inhibit false)) (if_neg ?_))
  simp [hoff, hk, hv]

end

end

/-! ### The obligation -/

/-- Settles O49: each clause is the lemma above about its command. -/
theorem servo : Obligations.Servo := by
  unfold Obligations.Servo
  intro s
  refine ⟨fun w hup hs => ⟨fun u v hu hv => exec_servoWedge hup hs hu hv, servoLost_does, wedgeMissed_few_does⟩,
    fun w h => exec_servoWedge_off h, fun a b h => s.pes_near h, s.onTrack_does, fun h b => State.inhibit_idle h b,
    fun r b hw hr => State.inhibit_write b hw hr, fun c hc hn => revolution_atSpeed hc hn, fun c hc => revolution_outOfRange hc,
    fun ag hr => ⟨exec_seekGo_refused hr, exec_seekGo hr⟩, seekStart_does s, exec_seekTimeout_none, fun k hk => seekTimeout_does hk,
    fun ag hr he hu hsw => spnGo_does hr he hu hsw, fun ag hr => ⟨exec_spnStop hr, exec_park hr⟩, park_does, exec_spinupTimeout,
    exec_spinupTimeout_atSpeed, fun sh ha hu hw => trdAttnNAssert_does ha hu hw, fun f r g hu hl => exec_treadleResponse hu hl g,
    fun f hu h => trlBad_few_does f hu h, fun f h hf hw => trlBad_third_does f h hf hw,
    fun f g hfault hshock ha hsw => trlGood_does hfault hshock ha hsw, fun ag hr x hx => ?_,
    fun ag hr he => ⟨exec_svoCtrlEnClear_seeking hr he, exec_svoCtrlEnClear_parks hr he⟩⟩
  obtain ⟨hexec, hc⟩ := exec_swGo hr x hx
  exact ⟨fun hb => ⟨_, hexec, swGo_does hc hb⟩, fun hb => hexec.trans (congrArg Host.Outcome.next (State.swGo_busy hb _))⟩

end Sys2Proof.Machine
end

section
/-!
PROOFS. The Pinking units: program loads and their checks, the records of a unit, its report, and a unit disabled (07_pinking.md R191, R195 to
R202, R205, R207, R211).
-/

namespace Sys2Proof.Machine

/-! ### A load asked for (R200, R211) -/

/-- The load that LOAD_GO asks of a unit. -/
def State.loadAsked (s : State) (u : Nat) : PnkLoad :=
  ⟨s.rd (P.pnk u) R.pnk_LOAD_SLOT, s.rd (P.pnk u) R.pnk_LOAD_LO + s.rd (P.pnk u) R.pnk_LOAD_HI * 2 ^ 32, 0, none⟩

theorem State.loadGo_idle {s : State} {u : Nat} (hb : s.rd (P.pnk u) R.pnk_LOAD_BUSY = 0) (hl : Tbl.has s.pink.load u = false) :
    s.loadGo u = State.wr { s with pink := { s.pink with load := Tbl.put s.pink.load u (s.loadAsked u) } } (P.pnk u) R.pnk_LOAD_BUSY 1 :=
  (if_neg (by simp [State.on_eq_false hb])).trans (if_neg (by simp [hl]))

theorem State.loadGo_busy {s : State} {u : Nat} (hb : s.rd (P.pnk u) R.pnk_LOAD_BUSY ≠ 0) :
    s.loadGo u = s.flag (P.pnk u) R.pnk_LOAD_REJ :=
  if_pos (State.on_eq_true hb)

section
variable {s : State} {ag : Agent} {u : Nat} (hp : s.pnkPresent u = true) (hr : Reaches s ag (P.pnk u))
include hp hr

theorem exec_loadGo : exec (.loadGo ag u) s = .next (s.loadGo u) :=
  congrArg Host.Outcome.next ((State.whenB_true hp _).trans (State.gated_reaches hr _ _ _))

theorem loadGo_starts (hb : s.rd (P.pnk u) R.pnk_LOAD_BUSY = 0) (hl : Tbl.has s.pink.load u = false) : Does (.loadGo ag u) s fun t =>
    t.pink = { s.pink with load := Tbl.put s.pink.load u (s.loadAsked u) } ∧ t.rd (P.pnk u) R.pnk_LOAD_BUSY = 1 ∧
      t = { s with pink := t.pink, regs := t.regs } ∧ SameRegs s t [fkey (P.pnk u) R.pnk_LOAD_BUSY 0] :=
  ⟨_, (exec_loadGo hp hr).trans (congrArg Host.Outcome.next (State.loadGo_idle hb hl)), rfl, State.rd_wr_same .., rfl,
    SameRegs.wr (fun _ _ => rfl) (by simp) _⟩

theorem loadGo_refused (hb : s.rd (P.pnk u) R.pnk_LOAD_BUSY ≠ 0) : Does (.loadGo ag u) s fun t => t.rd (P.pnk u) R.pnk_LOAD_REJ = 1 ∧
    t = { s with regs := t.regs } ∧ SameRegs s t [fkey (P.pnk u) R.pnk_LOAD_REJ 0] :=
  ⟨_, (exec_loadGo hp hr).trans (congrArg Host.Outcome.next (State.loadGo_busy hb)), State.rd_wr_same .., rfl,
    (SameRegs.refl s _).flag (by simp)⟩

end

/-! ### The checks of a program (R195, R196, R200) -/

theorem loadCheck_le (b : List Byte) : loadCheck b ≤ 8 := by
  unfold loadCheck
  simp only
  split_ifs <;> decide

/-- A program with code 0 has passed every check that gives another. -/
theorem loadCheck_passes {b : List Byte} (h : loadCheck b = 0) :
    leAt b 0 1 = 1 ∧ 1 ≤ pgNterms b ∧ pgNterms b ≤ 16 ∧ pgNproj b ≤ 8 ∧ pgNagg b ≤ 4 ∧ 16 ≤ pgRecLen b ∧ pgRecLen b ≤ 4096 ∧
      (((List.range (pgNproj b)).map (pgProj b)).map fLen).sum ≤ pgRecLen b ∧
      ∀ t, t < pgNterms b → fdOk (pgRecLen b) (leAt (pgTerm b t) 0 4) = true ∧
        opOk (leAt (pgTerm b t) 4 1) (fType (leAt (pgTerm b t) 0 4)) = true := by
  unfold loadCheck at h
  simp only at h
  split_ifs at h with hver hlim hfields hops hproj hconst
  simp only [Bool.or_eq_true, decide_eq_true_eq, not_or, not_not] at hver
  simp only [Bool.not_eq_true', decide_eq_false_iff_not, not_not] at hlim
  simp only [Bool.not_eq_true', Bool.not_eq_false, Bool.and_eq_true, List.all_eq_true, List.forall_mem_map, List.mem_range] at hfields hops
  obtain ⟨hversion, -⟩ := hver
  obtain ⟨hterms, hterms16, hproj8, hagg4, hlen16, hlen4096⟩ := hlim
  obtain ⟨⟨hfield, -⟩, -⟩ := hfields
  obtain ⟨hop, -⟩ := hops
  exact ⟨hversion, hterms, hterms16, hproj8, hagg4, hlen16, hlen4096, Nat.le_of_not_lt hproj, fun t ht => ⟨hfield t ht, hop t ht⟩⟩

theorem State.loadResult_eq (s : State) (n : Nat) (b : List Byte) :
    s.loadResult n b = if s.mode M.pink = false then 7 else if s.slotBusy n = true then 6 else loadCheck b := by
  simp [State.loadResult]

theorem State.loadResult_le (s : State) (n : Nat) (b : List Byte) : s.loadResult n b ≤ 8 := by
  rw [State.loadResult_eq]
  split_ifs
  · decide
  · decide
  · exact loadCheck_le b

/-! ### A load done (R200) -/

/-- The state once a load's bytes are checked: the load gone, its program in the slot where the code is 0. -/
def State.loadKept (s : State) (u : Nat) (l : PnkLoad) (b : List Byte) : State :=
  { s with pink := { s.pink with
      load := Tbl.del s.pink.load u
      slots := if s.loadResult l.slot b = 0 then Tbl.put s.pink.slots (u * 4 + l.slot) ⟨b, l.panel⟩ else s.pink.slots } }

/-- A load's code shown, with its interrupts, and its error where it is not 0. -/
def State.loadShown (s : State) (u code : Nat) : State :=
  ((s.wr (P.pnk u) R.pnk_LOAD_RESULT code).raise (P.pnk u) 0).whenB (code != 0) fun s => (s.err (P.pnk u) 0x01 code 0).raise (P.pnk u) 1

theorem State.loadShown_frame (s : State) (u code : Nat) : RegFrame s (s.loadShown u code) :=
  (((RegFrame.refl s).wr _ _ _).raise _ _).whenB _ ((((RegFrame.refl s).wr _ _ _).raise _ _).err _ _ _ _ |>.raise _ _)

@[simp] theorem State.loadShown_pink (s : State) (u code : Nat) : (s.loadShown u code).pink = s.pink := by
  rw [State.loadShown_frame]

@[simp] theorem State.loadShown_ctrs (s : State) (u code : Nat) : (s.loadShown u code).ctrs = s.ctrs := by
  unfold State.loadShown State.whenB
  split <;> simp

theorem State.loadShown_result (s : State) (u : Nat) {code : Nat} (h : code ≤ 8) :
    (s.loadShown u code).rd (P.pnk u) R.pnk_LOAD_RESULT = code := by
  have hown : 0x100 ≤ R.pnk_LOAD_RESULT.off ∧ R.pnk_LOAD_RESULT.off < 4096 ∧ R.pnk_LOAD_RESULT.lo < 32 := by decide
  have hcode : code % 2 ^ R.pnk_LOAD_RESULT.w = code := Nat.mod_eq_of_lt (by simp only [R.pnk_LOAD_RESULT]; omega)
  unfold State.loadShown State.whenB
  split
  · rw [State.rd_raise_own _ _ _ hown, State.rd_err_own _ _ _ _ _ hown, State.rd_raise_own _ _ _ hown, State.rd_wr_same, hcode]
  · rw [State.rd_raise_own _ _ _ hown, State.rd_wr_same, hcode]

/-- A later interrupt of a page leaves an earlier one standing. -/
theorem State.testBit_raise_of (s : State) {p b : Nat} (c : Nat) (hb : b < 32) (h : (s.rd p R.common_INT_RAW).testBit b = true) :
    ((s.raise p c).rd p R.common_INT_RAW).testBit b = true := by
  rw [State.rd_raise, if_pos rfl, Nat.testBit_mod_two_pow, testBit_bitPut]
  simp [hb, h]

theorem State.rd_err_intRaw (s : State) (p code info addr : Nat) :
    (s.err p code info addr).rd p R.common_INT_RAW = s.rd p R.common_INT_RAW :=
  have hne {g : Fld} (h : g.off < 4096 ∧ g.lo < 32 ∧ g.off ≠ R.common_INT_RAW.off) : fkey p g 0 ≠ fkey p R.common_INT_RAW 0 :=
    fkey_ne_of_off ⟨h.1, by decide, h.2.1, by decide, h.2.2⟩
  State.rd_err_ne s code info addr (hne (by decide)) (hne (by decide)) (hne (by decide)) (hne (by decide)) (hne (by decide))

theorem State.loadShown_done (s : State) (u code : Nat) : ((s.loadShown u code).rd (P.pnk u) R.common_INT_RAW).testBit 0 = true := by
  have hdone := State.testBit_raise (s.wr (P.pnk u) R.pnk_LOAD_RESULT code) (P.pnk u) (b := 0) (by decide)
  unfold State.loadShown State.whenB
  split
  · exact State.testBit_raise_of _ 1 (by decide) ((State.rd_err_intRaw ..).symm ▸ hdone)
  · exact hdone

theorem State.loadShown_failed (s : State) (u : Nat) {code : Nat} (h : code ≠ 0) :
    ((s.loadShown u code).rd (P.pnk u) R.common_INT_RAW).testBit 1 = true := by
  rw [State.loadShown, State.whenB_true (by simpa using h)]
  exact State.testBit_raise _ _ (by decide)

theorem State.nextLoad_none {s : State} (u : Nat) (h : s.pink.loadWait = []) : s.nextLoad u = s.wr (P.pnk u) R.pnk_LOAD_BUSY 0 := by
  simp [State.nextLoad, h]

section
variable {s : State} {u : Nat} {l : PnkLoad} {b : List Byte} (hl : Tbl.at? s.pink.load u = some l) (hi : l.item = none)
  (hw : s.pink.loadWait = []) (hb : ∀ f, s.busRead l.panel l.addr 9216 f = f b s)
include hl hi hw hb

theorem exec_pinkLoadDone : exec (.pinkLoadDone u) s =
    .next (((s.loadKept u l b).loadShown u (s.loadResult l.slot b)).wr (P.pnk u) R.pnk_LOAD_BUSY 0) := by
  have hkept : (State.whenB { s with pink := { s.pink with load := Tbl.del s.pink.load u } } (s.loadResult l.slot b == 0) fun s =>
      { s with pink := { s.pink with slots := Tbl.put s.pink.slots (u * 4 + l.slot) ⟨b, l.panel⟩ } }) = s.loadKept u l b := by
    unfold State.whenB State.loadKept
    simp only [beq_iff_eq]
    split <;> rfl
  have hwait : ((s.loadKept u l b).loadShown u (s.loadResult l.slot b)).pink.loadWait = [] := by
    rw [State.loadShown_pink]
    exact hw
  show execPinkLoadDone u s = _
  unfold execPinkLoadDone
  simp only [hl, hb, hi, hkept]
  exact congrArg Host.Outcome.next (State.nextLoad_none u hwait)

theorem pinkLoadDone_does : Does (.pinkLoadDone u) s fun t =>
    t.rd (P.pnk u) R.pnk_LOAD_RESULT = s.loadResult l.slot b ∧ t.rd (P.pnk u) R.pnk_LOAD_BUSY = 0 ∧
      (t.rd (P.pnk u) R.common_INT_RAW).testBit 0 = true ∧
      (s.loadResult l.slot b ≠ 0 → (t.rd (P.pnk u) R.common_INT_RAW).testBit 1 = true) ∧
      t.pink.slots = (if s.loadResult l.slot b = 0 then Tbl.put s.pink.slots (u * 4 + l.slot) ⟨b, l.panel⟩ else s.pink.slots) ∧
      t.pink = { s.pink with load := Tbl.del s.pink.load u, slots := t.pink.slots } ∧
      t = { s with pink := t.pink, regs := t.regs, outbox := t.outbox } := by
  have hint : fkey (P.pnk u) R.pnk_LOAD_BUSY 0 ≠ fkey (P.pnk u) R.common_INT_RAW 0 := fkey_ne_of_off (by decide)
  have hres : fkey (P.pnk u) R.pnk_LOAD_BUSY 0 ≠ fkey (P.pnk u) R.pnk_LOAD_RESULT 0 := by simp [fkey, R.pnk_LOAD_BUSY, R.pnk_LOAD_RESULT]
  have hpink := State.loadShown_pink (s.loadKept u l b) u (s.loadResult l.slot b)
  have hframe := (State.loadShown_frame (s.loadKept u l b) u (s.loadResult l.slot b)).uncounted (State.loadShown_ctrs ..)
  refine ⟨_, exec_pinkLoadDone hl hi hw hb, ?_, State.rd_wr_same .., ?_, fun hc => ?_, congrArg Pink.slots hpink, ?_, ?_⟩
  · exact (State.rd_wr_ne _ _ hres).trans (State.loadShown_result _ u (s.loadResult_le _ _))
  · rw [State.rd_wr_ne _ _ hint]
    exact State.loadShown_done ..
  · rw [State.rd_wr_ne _ _ hint]
    exact State.loadShown_failed _ u hc
  · rw [State.wr_pink, hpink]
    rfl
  · generalize (s.loadKept u l b).loadShown u (s.loadResult l.slot b) = t at hpink hframe ⊢
    rw [State.wr_pink, hpink, hframe]
    rfl

end

/-! ### A unit at its Pinking unit (R191, R205) -/

section
variable {s : State} {u : Nat}

theorem exec_pnkUnitFiltered_none (hq : s.pnkQueue u = []) : exec (.pnkUnitFiltered u) s = .next s := by
  show execPnkUnitFiltered u s = _
  simp [execPnkUnitFiltered, hq]

/-- The state once the first unit of a queue is taken off it. -/
def State.pnkTaken (s : State) (u : Nat) (r : List PnkUnit) : State :=
  { s with pink := { s.pink with queue := Tbl.put s.pink.queue u r } }

/-- A failed unit noted on its page (R205). -/
def State.pnkFailed (s : State) (u lba : Nat) : State :=
  (((s.lastUnit u lba).count (P.pnk u) 0x060).err (P.pnk u) 0x03 0 lba).raise (P.pnk u) 3

theorem State.pnkFailed_frame (s : State) (u lba : Nat) : RegFrame s (s.pnkFailed u lba) :=
  (((((RegFrame.refl s).wr _ _ _).wr _ _ _).count _ _).err _ _ _ _).raise _ _

variable {e : PnkUnit} {r : List PnkUnit} (hq : s.pnkQueue u = e :: r)
include hq

theorem exec_pnkUnitFiltered_noStream (hs : s.stream? e.stream = none) : exec (.pnkUnitFiltered u) s = .next (s.pnkTaken u r) := by
  have hs' : (s.pnkTaken u r).stream? e.stream = none := hs
  unfold State.pnkTaken at hs' ⊢
  show execPnkUnitFiltered u s = _
  simp only [execPnkUnitFiltered, hq, hs']

/-- A unit's end at a DRAM-side unit: by its failure, else by the mode of its stream. -/
theorem exec_pnkUnitFiltered_stream (hu : 24 ≤ u) {x : Stream} (hs : s.stream? e.stream = some x) : exec (.pnkUnitFiltered u) s =
    .next (if e.failed = true then ((s.pnkTaken u r).pnkFailed u (x.first + e.seq)).reportNone x.id e.seq 1 u
          ((if x.strm then 1 else 0) + (if e.fallback then 2 else 0))
      else if x.strm = true then (s.pnkTaken u r).filterStream x u e else (s.pnkTaken u r).filterUnit x u e) := by
  have hs' : (s.pnkTaken u r).stream? e.stream = some x := hs
  unfold State.pnkTaken State.pnkFailed at *
  show execPnkUnitFiltered u s = _
  simp only [execPnkUnitFiltered, hq, hs', if_neg (Nat.not_lt.2 hu)]

theorem exec_pnkUnitFiltered_filters (hu : 24 ≤ u) {x : Stream} (hs : s.stream? e.stream = some x) (hf : e.failed = false) :
    exec (.pnkUnitFiltered u) s =
      .next (if x.strm = true then (s.pnkTaken u r).filterStream x u e else (s.pnkTaken u r).filterUnit x u e) :=
  (exec_pnkUnitFiltered_stream hq hu hs).trans (congrArg Host.Outcome.next (if_neg (by simp [hf])))

theorem exec_pnkUnitFiltered_failed (hu : 24 ≤ u) {x : Stream} (hs : s.stream? e.stream = some x) (hf : e.failed = true) : ∃ w : State,
    exec (.pnkUnitFiltered u) s = .next (w.reportNone x.id e.seq 1 u ((if x.strm then 1 else 0) + (if e.fallback then 2 else 0))) ∧
      (w.rd (P.pnk u) R.common_INT_RAW).testBit 3 = true ∧
      w = { s.pnkTaken u r with regs := w.regs, ctrs := w.ctrs, outbox := w.outbox } :=
  ⟨_, (exec_pnkUnitFiltered_stream hq hu hs).trans (congrArg Host.Outcome.next (if_pos hf)), State.testBit_raise _ _ (by decide),
    State.pnkFailed_frame ..⟩

end

/-! ### The records of a unit (R191, R195 to R199) -/

/-- Whether a record has a bad decimal, in a term or in an accumulator's field (R197). -/
def recBad (p r : List Byte) : Bool :=
  (((List.range (pgNterms p)).map fun t => termVal (pgTerm p t) r).any fun t => t.isNone) ||
    (List.range (pgNagg p)).any fun k => leAt (pgAgg p k) 4 1 != 0 && (fieldVal (leAt (pgAgg p k) 0 4) r).isNone

/-- The terms that hold of a record, as the index of the truth table (R196). -/
def recMask (p r : List Byte) : Nat :=
  maskOf ((List.range 16).filter fun t => (((List.range (pgNterms p)).map fun t => termVal (pgTerm p t) r).getD t none) == some true)

/-- A record's projection (R198). -/
def recOut (p r : List Byte) : List Byte :=
  (List.range (pgNproj p)).flatMap fun i => sliceOf r (fOff (pgProj p i)) (fLen (pgProj p i))

/-- A record is rejected for a bad decimal, survives, or does not. -/
theorem filterRecord_eq (p r : List Byte) (o : FilterOut) : filterRecord p o r =
    if recBad p r = true then
      { o with records := o.records + 1, baddec := o.baddec + 1, badFirst := if o.badFirst = 0xFFFF then o.records else o.badFirst }
    else if pgTruth p (recMask p r) = true then
      { o with records := o.records + 1, survivors := o.survivors + 1, out := o.out ++ recOut p r
               aggs := o.aggs.mapIdx fun k a => aggStep p r k a }
    else { o with records := o.records + 1 } := rfl

@[simp] theorem filterRecord_records (p r : List Byte) (o : FilterOut) : (filterRecord p o r).records = o.records + 1 := by
  rw [filterRecord_eq]
  split_ifs <;> rfl

/-- A record counts once at most, as a survivor or as a bad decimal. -/
theorem filterRecord_counts (p r : List Byte) (o : FilterOut) :
    (filterRecord p o r).survivors + (filterRecord p o r).baddec ≤ o.survivors + o.baddec + 1 := by
  rw [filterRecord_eq]
  split_ifs <;> simp only <;> omega

theorem foldl_filterRecord_records (p : List Byte) (rs : List (List Byte)) :
    ∀ o : FilterOut, (rs.foldl (filterRecord p) o).records = o.records + rs.length := by
  induction rs with
  | nil => exact fun _ => rfl
  | cons r rs ih =>
    intro o
    rw [List.foldl_cons, ih, filterRecord_records, List.length_cons]
    omega

theorem foldl_filterRecord_counts (p : List Byte) (rs : List (List Byte)) : ∀ o : FilterOut, o.survivors + o.baddec ≤ o.records →
    (rs.foldl (filterRecord p) o).survivors + (rs.foldl (filterRecord p) o).baddec ≤ (rs.foldl (filterRecord p) o).records := by
  induction rs with
  | nil => exact fun _ h => h
  | cons r rs ih =>
    refine fun o h => ih _ ?_
    rw [filterRecord_records]
    exact (filterRecord_counts p r o).trans (Nat.succ_le_succ h)

theorem length_recordsOf (l : Nat) (d : List Byte) : (recordsOf l 0 d).length = d.length / l := by simp [recordsOf]

theorem recordsOf_filtered (p d : List Byte) (n : Nat) : let o := (recordsOf (pgRecLen p) 0 d).foldl (filterRecord p) (FilterOut.start n)
    o.records = d.length / pgRecLen p ∧ o.survivors + o.baddec ≤ o.records := by
  refine ⟨?_, foldl_filterRecord_counts p _ _ (Nat.le_refl 0)⟩
  rw [foldl_filterRecord_records, length_recordsOf]
  exact Nat.zero_add _

theorem recBad_eq_false {p r : List Byte} (ht : ∀ t, t < pgNterms p → (termVal (pgTerm p t) r).isSome = true) (ha : pgNagg p = 0) :
    recBad p r = false := by
  simpa [recBad, ha] using fun t h => Option.isSome_iff_ne_none.1 (ht t h)

/-- A record with no bad decimal survives where the truth table says so, and its projection is then put out. -/
theorem filterRecord_good {p r : List Byte} (o : FilterOut) (h : recBad p r = false) :
    (filterRecord p o r).records = o.records + 1 ∧ (filterRecord p o r).baddec = o.baddec ∧
      (filterRecord p o r).survivors = o.survivors + (if pgTruth p (recMask p r) = true then 1 else 0) ∧
      (filterRecord p o r).out = if pgTruth p (recMask p r) = true then o.out ++ recOut p r else o.out := by
  rw [filterRecord_eq, if_neg (by simp [h])]
  split_ifs <;> exact ⟨rfl, rfl, rfl, rfl⟩

/-! ### The report (R202) -/

theorem length_ofNibbles : ∀ l : List Nat, (ofNibbles l).length = l.length / 2
  | [] => rfl
  | [_] => by simp [ofNibbles]
  | a :: b :: r => by
    rw [ofNibbles, List.length_cons, length_ofNibbles r, List.length_cons, List.length_cons]
    omega

@[simp] theorem length_packedOf (n m sign : Nat) : (packedOf n m sign).length = n := by
  simp only [packedOf, length_ofNibbles, lowDigits, List.length_append, List.length_reverse, List.length_map, List.length_range,
    List.length_singleton]
  omega

@[simp] theorem length_aggBytes (v : Int) : (aggBytes v).length = 20 := by simp [aggBytes]

theorem length_flatMap_range {f : Nat → List Byte} {n : Nat} (h : ∀ k, (f k).length = n) (m : Nat) :
    ((List.range m).flatMap f).length = m * n := by
  simp [List.length_flatMap, h]

theorem length_reportBytes (p : List Byte) (a b c d e f : Nat) (o : FilterOut) : (reportBytes p a b c d e f o).length = 128 := by
  simp only [reportBytes, List.length_append, length_natLE]
  rw [length_flatMap_range (n := 20)]
  intro k
  split
  · exact length_aggBytes _
  · exact length_aggBytes 0

/-! ### CTRL.EN cleared (R207) -/

theorem State.pnkDisable_eq (s : State) (u : Nat) : s.pnkDisable u =
    if s.rd (P.pnk u) R.common_DRAIN ≠ 0 then s.wr (P.pnk u) R.common_EN 0
    else ((s.wr (P.pnk u) R.common_EN 0).pnkReturn u).pnkUnread u := by
  simp only [State.pnkDisable, State.on_iff, State.rd_drain_disabled]

theorem exec_pnkCtrlEnClear {s : State} {ag : Agent} {u : Nat} (hp : s.pnkPresent u = true) (hr : Reaches s ag (P.pnk u))
    (he : s.en (P.pnk u) = true) : exec (.pnkCtrlEnClear ag u) s = .next (s.pnkDisable u) :=
  congrArg Host.Outcome.next ((State.whenB_true hp _).trans ((State.gated_reaches hr _ _ _).trans (State.whenB_true he _)))

/-! ### The obligation -/

/-- Settles O50: each clause is the lemma above about its command or its check. -/
theorem pinking : Obligations.Pinking := by
  unfold Obligations.Pinking
  intro s
  exact ⟨fun ag u hp hr => ⟨loadGo_starts hp hr, loadGo_refused hp hr⟩, fun u l b hl hi hw hb => pinkLoadDone_does hl hi hw hb,
    s.loadResult_eq, fun b h => loadCheck_passes h,
    fun u e r hq hu => ⟨exec_pnkUnitFiltered_noStream hq, fun x => exec_pnkUnitFiltered_filters hq hu,
      fun x => exec_pnkUnitFiltered_failed hq hu⟩,
    fun u => exec_pnkUnitFiltered_none, fun x u e => rfl, recordsOf_filtered,
    fun p o r ht ha => filterRecord_good o (recBad_eq_false ht ha), length_reportBytes,
    fun ag u hp hr he => (exec_pnkCtrlEnClear hp hr he).trans (congrArg Host.Outcome.next (s.pnkDisable_eq u))⟩

end Sys2Proof.Machine
end

section
/-!
PROOFS. Pleat's stream format: the fields of a header, and a stored block decoded (08_pleat.md R217, R218, R221, R228).
-/

namespace Sys2Proof.Machine

/-! ### Little-endian fields -/

theorem leNat_natLE (n : Nat) : ∀ v, leNat (natLE n v) = v % 256 ^ n := by
  induction n with
  | zero => exact fun v => (Nat.mod_one v).symm
  | succ n ih =>
    intro v
    rw [natLE, leNat, ih, BitVec.toNat_ofNat]
    exact ((congrArg (v % ·) (Nat.pow_succ' (n := n))).trans Nat.mod_mul).symm

theorem leAt_natLE (n v : Nat) (r : List Byte) : leAt (natLE n v ++ r) 0 n = v % 256 ^ n := by
  rw [leAt, List.drop_zero, List.take_left' (length_natLE n v), leNat_natLE]

/-- A field that begins behind a number is a field of what follows the number. -/
theorem leAt_behind (n v : Nat) (r : List Byte) {a : Nat} (m : Nat) (h : n ≤ a) : leAt (natLE n v ++ r) a m = leAt r (a - n) m := by
  rw [leAt, leAt, List.drop_append, List.drop_eq_nil_of_le (by rwa [length_natLE]), List.nil_append, length_natLE]

theorem crc32c_lt (l : List Byte) : crc32c l < 256 ^ 4 := (~~~ crc32cFrom 0xFFFFFFFF#32 l).isLt

/-! ### A block's header (R217, R218) -/

/-- Byte 1 of a header: the version and the type. -/
def pltTypeByte (stored : Bool) : Nat := 1 + (if stored then 2 else 1) * 16
/-- Byte 2 of a header: LAST, RESET and the window. -/
def pltFlagByte (last reset : Bool) (win : Nat) : Nat := (if last then 1 else 0) + (if reset then 2 else 0) + win * 4

/-- The header's bytes 0 to 11, which its own check sum covers. -/
def pltHeaderFields (stored last reset : Bool) (win orig pay crc : Nat) : List Byte :=
  natLE 1 0xB7 ++ (natLE 1 (pltTypeByte stored) ++ (natLE 1 (pltFlagByte last reset win) ++ (natLE 1 0 ++
    (natLE 2 (orig - 1) ++ (natLE 2 (pay - 1) ++ natLE 4 crc)))))

theorem pltFlagByte_fields (last reset : Bool) {win : Nat} (h : win ≤ 4) :
    pltFlagByte last reset win < 32 ∧ bitsAt (pltFlagByte last reset win) 2 3 = win ∧
      (pltFlagByte last reset win).testBit 0 = last ∧ (pltFlagByte last reset win).testBit 1 = reset := by
  have hall : ∀ w, w < 5 → ∀ last reset : Bool, pltFlagByte last reset w < 32 ∧ bitsAt (pltFlagByte last reset w) 2 3 = w ∧
      (pltFlagByte last reset w).testBit 0 = last ∧ (pltFlagByte last reset w).testBit 1 = reset := by decide
  exact hall win (Nat.lt_succ_of_le h) last reset

section
variable {stored last reset : Bool} {win orig pay crc : Nat}

theorem pltHeaderBytes_eq : pltHeaderBytes stored last reset win orig pay crc =
    pltHeaderFields stored last reset win orig pay crc ++ natLE 4 (crc32c (pltHeaderFields stored last reset win orig pay crc)) := by
  simp only [pltHeaderBytes, pltHeaderFields, pltTypeByte, pltFlagByte, List.append_assoc]

theorem length_pltHeaderFields : (pltHeaderFields stored last reset win orig pay crc).length = 12 := by simp [pltHeaderFields]

theorem length_pltHeaderBytes : (pltHeaderBytes stored last reset win orig pay crc).length = 16 := by
  rw [pltHeaderBytes_eq, List.length_append, length_pltHeaderFields, length_natLE]

/-- A header reads back as what it was made of. -/
theorem pltHeader_pltHeaderBytes {prev : Option Nat} (hwin : win ≤ 4) (horig : 1 ≤ orig ∧ orig ≤ 65536) (hpay : 1 ≤ pay ∧ pay ≤ 65536)
    (hcrc : crc < 256 ^ 4) (hprev : reset = true ∨ prev = some win) (hstored : stored = true → pay = orig) :
    pltHeader (pltHeaderBytes stored last reset win orig pay crc) prev =
      some (⟨stored, last, win, orig, crc, pay, [], if stored then orig else 0, 0, 0, 0⟩, reset) := by
  obtain ⟨hflag, hw, hl, hr⟩ := pltFlagByte_fields last reset hwin
  have htake : (pltHeaderBytes stored last reset win orig pay crc).take 12 = pltHeaderFields stored last reset win orig pay crc := by
    rw [pltHeaderBytes_eq, List.take_left' length_pltHeaderFields]
  have hsum : leAt (pltHeaderBytes stored last reset win orig pay crc) 12 4 =
      crc32c (pltHeaderFields stored last reset win orig pay crc) := by
    rw [pltHeaderBytes_eq, leAt, List.drop_left' length_pltHeaderFields, List.take_of_length_le (by simp), leNat_natLE,
      Nat.mod_eq_of_lt (crc32c_lt _)]
  have hbyte : pltFlagByte last reset win % 256 ^ 1 = pltFlagByte last reset win := Nat.mod_eq_of_lt (by omega)
  have hlen {n : Nat} (h : 1 ≤ n ∧ n ≤ 65536) : (n - 1) % 256 ^ 2 + 1 = n := by omega
  unfold pltHeader
  rw [htake, hsum]
  simp only [pltHeaderBytes_eq, pltHeaderFields, List.append_assoc, leAt_natLE, leAt_behind, Nat.reduceLeDiff, Nat.reduceSub, hbyte, hlen horig,
    hlen hpay, Nat.mod_eq_of_lt hcrc, hw, hl, hr]
  cases stored with
  | true => simp [pltTypeByte, hflag, hwin, hprev, hstored rfl]
  | false => simp [pltTypeByte, hflag, hwin, hprev]

end

/-! ### The steps of decoding (R221) -/

/-- A header is read, and its block begun. -/
theorem pltStep_header {d : PltDec} {h r : List Byte} {b : PltBlk} {reset : Bool} (hd : d.blk = none) (hlen : h.length = 16)
    (hh : pltHeader h d.win = some (b, reset)) (room : Nat) :
    pltStep d (h ++ r) room = .go ⟨d.win, if reset then [] else d.dict, some b⟩ 16 [] false false := by
  have hshort : ¬ (h ++ r).length < 16 := by rw [List.length_append]; omega
  simp only [pltStep, hd, if_neg hshort, List.take_left' hlen, hh]

/-- Between two blocks, fewer bytes than a header has are no header. -/
theorem pltStep_dry {d : PltDec} {inp : List Byte} (hd : d.blk = none) (h : inp.length < 16) (room : Nat) :
    pltStep d inp room = .stop Plt.dry := by
  simp only [pltStep, hd, if_pos h]

/-- Literals that are all at hand and fit are put out at once. -/
theorem pltStep_literals {d : PltDec} {b : PltBlk} {inp : List Byte} {room : Nat} (hd : d.blk = some b) (hlit : 0 < b.lit)
    (horig : b.out.length + b.lit ≤ b.orig) (hroom : b.lit ≤ room) (hinp : b.lit ≤ inp.length) :
    pltStep d inp room = .go { d with blk := some { b with lit := 0, pay := b.pay - b.lit, out := b.out ++ inp.take b.lit } } b.lit
      (inp.take b.lit) false false := by
  have hne : inp ≠ [] := List.ne_nil_of_length_pos (by omega)
  have hmin : min (min b.lit room) inp.length = b.lit := by omega
  simp only [pltStep, hd, if_pos hlit, if_neg (Nat.not_lt.2 horig), if_neg (show room ≠ 0 by omega), if_neg hne, hmin, Nat.sub_self]

/-- A block whose payload is used up, and whose output has its length and its check sum, has passed. -/
theorem pltStep_passed {d : PltDec} {b : PltBlk} (hd : d.blk = some b) (hlit : b.lit = 0) (hmcode : b.mcode = 0) (hmlen : b.mlen = 0)
    (hpay : b.pay = 0) (hlen : b.orig ≤ b.out.length) (hcrc : crc32c b.out = b.crc) (inp : List Byte) (room : Nat) :
    pltStep d inp room = .go ⟨some b.win, lastBytes (pltWindow b.win) (d.dict ++ b.out), none⟩ 0 [] true b.last := by
  have hend : pltEnd d b = .go ⟨some b.win, lastBytes (pltWindow b.win) (d.dict ++ b.out), none⟩ 0 [] true b.last :=
    (if_neg (Nat.not_lt.2 hlen)).trans (if_neg (not_not.2 hcrc))
  simp [pltStep, hd, hlit, hmcode, hmlen, hpay, hend]

/-! ### Runs of steps (R221, R223) -/

section
variable {fuel space took : Nat} {final : Bool} {r : PltRun} {inp out : List Byte} {d : PltDec}

theorem pltRun_stop {st : Nat} (h : pltStep r.dec inp (space - r.out.length) = .stop st) : pltRun (fuel + 1) space none final r inp =
    { r with status := if st = Plt.dry then (if final then Plt.truncated else Plt.inEmpty) else st } := by
  simp [pltRun, h]

/-- A step inside a block is taken, and the run goes on. -/
theorem pltRun_inside (h : pltStep r.dec inp (space - r.out.length) = .go d took out false false) :
    pltRun (fuel + 1) space none final r inp =
      pltRun fuel space none final { r with dec := d, took := r.took + took, out := r.out ++ out } (inp.drop took) := by
  simp [pltRun, h]

/-- A block passed ends the run if it is the last one. -/
theorem pltRun_block {last : Bool} (h : pltStep r.dec inp (space - r.out.length) = .go d 0 [] true last) :
    pltRun (fuel + 1) space none final r inp =
      if last then { r with dec := d, blocks := r.blocks + 1, outOk := r.out.length, inOk := r.took, status := Plt.ok }
      else pltRun fuel space none final { r with dec := d, blocks := r.blocks + 1, outOk := r.out.length, inOk := r.took } inp := by
  simp [pltRun, h]

end

/-! ### Stored blocks (R218, R221) -/

/-- The bytes of a stored block (R218). -/
def pltStored (last reset : Bool) (win : Nat) (b : List Byte) : List Byte :=
  pltHeaderBytes true last reset win b.length b.length (crc32c b) ++ b

/-- A stored block whose header is read. -/
def pltStoredBegun (last : Bool) (win : Nat) (b : List Byte) : PltBlk :=
  ⟨true, last, win, b.length, crc32c b, b.length, [], b.length, 0, 0, 0⟩
/-- A stored block whose bytes are all put out. -/
def pltStoredRead (last : Bool) (win : Nat) (b : List Byte) : PltBlk := ⟨true, last, win, b.length, crc32c b, 0, b, 0, 0, 0, 0⟩

/-- The place of a stream behind its first block. -/
def pltBehind (win : Nat) (b : List Byte) : PltDec := ⟨some win, lastBytes (pltWindow win) b, none⟩

section
variable {b : List Byte} {win : Nat} (hb : b ≠ []) (last : Bool)

theorem pltStep_storedRead (room : Nat) :
    pltStep ⟨none, [], some (pltStoredRead last win b)⟩ [] room = .go (pltBehind win b) 0 [] true last := by
  rw [pltStep_passed (b := pltStoredRead last win b) rfl rfl rfl rfl rfl (Nat.le_refl _) rfl]
  rfl

include hb

theorem pltStep_storedBegun {room : Nat} (hroom : b.length ≤ room) :
    pltStep ⟨none, [], some (pltStoredBegun last win b)⟩ b room =
      .go ⟨none, [], some (pltStoredRead last win b)⟩ b.length b false false := by
  rw [pltStep_literals (b := pltStoredBegun last win b) rfl (List.length_pos_of_ne_nil hb) (by simp [pltStoredBegun]) hroom (Nat.le_refl _)]
  simp [pltStoredBegun, pltStoredRead]

variable (hlen : b.length ≤ 65536) (hwin : win ≤ 4)
include hlen hwin

theorem pltStep_stored (room : Nat) : pltStep pltFresh (pltStored last true win b) room =
    .go ⟨none, [], some (pltStoredBegun last win b)⟩ 16 [] false false := by
  have hrange : 1 ≤ b.length ∧ b.length ≤ 65536 := ⟨List.length_pos_of_ne_nil hb, hlen⟩
  exact pltStep_header rfl length_pltHeaderBytes
    (pltHeader_pltHeaderBytes hwin hrange hrange (crc32c_lt b) (.inl rfl) fun _ => rfl) room

/-- A stream of one stored block decodes to the block's bytes; it is cut short unless the block is its last. -/
theorem pltRun_stored {space : Nat} (hspace : b.length ≤ space) (fuel : Nat) :
    pltRun (fuel + 4) space none true ⟨pltFresh, 0, [], 0, 0, 0, 0⟩ (pltStored last true win b) =
      ⟨pltBehind win b, 16 + b.length, b, 1, b.length, 16 + b.length, if last then Plt.ok else Plt.truncated⟩ := by
  have hdry : pltStep (pltBehind win b) [] (space - b.length) = .stop Plt.dry := pltStep_dry rfl (by decide) _
  rw [pltRun_inside (pltStep_stored hb last hlen hwin _), pltStored, List.drop_left' length_pltHeaderBytes,
    pltRun_inside (pltStep_storedBegun hb last hspace), List.drop_length, pltRun_block (pltStep_storedRead last _)]
  cases last with
  | true => rfl
  | false => exact pltRun_stop (fuel := fuel) (r := ⟨pltBehind win b, 16 + b.length, b, 1, b.length, 16 + b.length, 0⟩) hdry

theorem pltDecode_stored : let r := pltDecode pltFresh (pltStored last true win b) (2 ^ 64) true none
    r.out = b ∧ r.blocks = 1 ∧ (last = true → r.status = Plt.ok) ∧ (last = false → r.status = Plt.truncated) := by
  have hrun := pltRun_stored hb last hlen hwin (space := 2 ^ 64) (by omega) (8 * (pltStored last true win b).length + 60)
  simp only [pltDecode]
  rw [hrun]
  exact ⟨rfl, rfl, fun h => if_pos h, fun h => if_neg (by simp [h])⟩

end

/-! ### Blocks with the self-check (R228) -/

/-- The bytes of a compressed block: its header and its tokens, as the encoder gives them. -/
def pltPacked (level win : Nat) (last reset : Bool) (dict b : List Byte) : List Byte :=
  pltHeaderBytes false last reset win b.length (Config.pleatEncode level win dict b).length (crc32c b) ++
    Config.pleatEncode level win dict b

/-- What the shadow decoder makes of a compressed block. -/
def pltShadow (level win : Nat) (last reset : Bool) (dict b : List Byte) : PltRun :=
  pltDecode ⟨if reset then none else some win, dict, none⟩ (pltPacked level win last reset dict b) b.length true none

section
variable (level win : Nat) (last reset : Bool) (dict b : List Byte)

/-- With CVERIFY a block is stored where it did not shrink or fails its self-check, and compressed otherwise. -/
theorem pltBlock_eq : pltBlock level win true last reset dict b =
    if Config.pleatEncode level win dict b = [] ∨ b.length ≤ (Config.pleatEncode level win dict b).length then
      (pltStored last reset win b, true, false)
    else if (pltShadow level win last reset dict b).out = b ∧ (pltShadow level win last reset dict b).blocks = 1 then
      (pltPacked level win last reset dict b, false, false)
    else (pltStored last reset win b, true, true) := by
  simp only [pltBlock, pltShadow, pltPacked, pltStored, Bool.true_and, Bool.not_eq_true', decide_eq_false_iff_not, ite_not]
  rfl

theorem pltBlock_checked : let r := pltBlock level win true last reset dict b
    if r.2.1 = true then r.1 = pltStored last reset win b
    else r.1.length < 16 + b.length ∧ (pltDecode ⟨if reset then none else some win, dict, none⟩ r.1 b.length true none).out = b := by
  rw [pltBlock_eq]
  by_cases hbig : Config.pleatEncode level win dict b = [] ∨ b.length ≤ (Config.pleatEncode level win dict b).length
  · rw [if_pos hbig]
    exact (if_pos rfl).mpr rfl
  · rw [if_neg hbig]
    by_cases hgood : (pltShadow level win last reset dict b).out = b ∧ (pltShadow level win last reset dict b).blocks = 1
    · rw [if_pos hgood]
      obtain ⟨hout, -⟩ := hgood
      have hlen : (pltPacked level win last reset dict b).length < 16 + b.length := by
        rw [pltPacked, List.length_append, length_pltHeaderBytes]
        omega
      exact (if_neg Bool.false_ne_true).mpr ⟨hlen, hout⟩
    · rw [if_neg hgood]
      exact (if_pos rfl).mpr rfl

end

end Sys2Proof.Machine
end

section
/-!
PROOFS. Pleat: queues and lanes, the ends of jobs, inline and decode jobs, and an engine disabled (08_pleat.md R213 to R215, R223, R225, R231,
R235).
-/

namespace Sys2Proof.Machine

/-! ### Queues and lanes (R213, R215, R225) -/

theorem leastBy_none {α : Type} {f : α → Nat} {l : List α} (h : leastBy f l = none) : l = [] := by
  cases l with
  | nil => rfl
  | cons x r =>
    simp only [leastBy] at h
    split at h
    · cases h
    · split_ifs at h

/-- An element picked by a measure is one of the list, and none of the list measures less. -/
theorem leastBy_some {α : Type} {f : α → Nat} {l : List α} {a : α} (h : leastBy f l = some a) : a ∈ l ∧ ∀ b ∈ l, f a ≤ f b := by
  induction l generalizing a with
  | nil => cases h
  | cons x r ih =>
    cases hr : leastBy f r with
    | none =>
      simp only [leastBy, hr, Option.some.injEq] at h
      rw [leastBy_none hr, h]
      simp
    | some y =>
      obtain ⟨hy, hmin⟩ := ih hr
      simp only [leastBy, hr] at h
      split at h <;> obtain rfl := Option.some.inj h
      next hle => exact ⟨List.mem_cons_self, List.forall_mem_cons.2 ⟨Nat.le_refl _, fun b hb => Nat.le_trans hle (hmin b hb)⟩⟩
      next hlt => exact ⟨List.mem_cons_of_mem _ hy, List.forall_mem_cons.2 ⟨Nat.le_of_not_le hlt, hmin⟩⟩

section
variable {s : State} {e : Nat}

theorem State.pltPick_some {which : Nat → Bool} (h : s.pltPick which = some e) : e < 8 ∧ s.pltOn e = true ∧ which e = true ∧
    ∀ k, k < 8 → s.pltOn k = true → which k = true → (s.pltQueue e).length ≤ (s.pltQueue k).length := by
  obtain ⟨he, hmin⟩ := leastBy_some h
  simp only [List.mem_filter, List.mem_range, Bool.and_eq_true] at he hmin
  obtain ⟨hlt, hon, hwhich⟩ := he
  exact ⟨hlt, hon, hwhich, fun k hk hok hwk => hmin k ⟨hk, hok, hwk⟩⟩

theorem State.pltFree_none (h : ∀ l, l < 4 → Tbl.has s.pleat.lanes (e * 4 + l) = true) : s.pltFree e = none :=
  List.find?_eq_none.2 fun l hl => by simp [h l (List.mem_range.1 hl)]

/-- With no lane free, no job is begun. -/
theorem State.pltFill_full (h : s.pltFree e = none) : s.pltFill e = s :=
  List.foldl_fixed' (fun _ => by simp [h]) _

theorem State.pltPush_full (j : PleatJob) (h : ∀ l, l < 4 → Tbl.has s.pleat.lanes (e * 4 + l) = true) :
    s.pltPush e j = { s with pleat := { s.pleat with queue := Tbl.put s.pleat.queue e (s.pltQueue e ++ [j]) } } :=
  State.pltFill_full (State.pltFree_none h)

end

/-! ### JOB_GO (R225, R231, R235) -/

/-- The job that JOB_GO asks of an engine. -/
def State.jobAsked (s : State) (e : Nat) : PleatJob :=
  ⟨.go, s.rd (P.plt e) R.plt_JOB_LO + s.rd (P.plt e) R.plt_JOB_HI * 2 ^ 32, 0, false, [], 0⟩

section
variable {s : State} {ag : Agent} {e : Nat} (hp : s.pltPresent e = true) (hr : Reaches s ag (P.plt e))
include hp hr

theorem exec_jobGo : exec (.jobGo ag e) s = .next (s.pltGo e) :=
  congrArg Host.Outcome.next ((State.whenB_true hp _).trans (State.gated_reaches hr _ _ _))

theorem jobGo_full (hq : 32 ≤ (s.pltQueue e).length) : Does (.jobGo ag e) s fun t => t.rd (P.plt e) R.plt_QUEUE_REJ = 1 ∧
    (t.rd (P.plt e) R.common_INT_RAW).testBit 4 = true ∧ t = { s with regs := t.regs, outbox := t.outbox } ∧
    SameRegs s t [fkey (P.plt e) R.plt_QUEUE_REJ 0, fkey (P.plt e) R.common_INT_RAW 0] := by
  refine ⟨_, (exec_jobGo hp hr).trans (congrArg Host.Outcome.next (if_pos hq)), ?_, State.testBit_raise _ _ (by decide), ?_, ?_⟩
  · rw [State.rd_raise_own _ _ _ (by decide)]
    exact State.rd_wr_same ..
  · exact (((RegFrame.refl s).wr _ _ _).raise _ _).uncounted (State.raise_ctrs ..)
  · exact ((SameRegs.refl s _).flag (by simp)).raise (by simp) 4

theorem exec_jobGo_room (hq : (s.pltQueue e).length < 32) : exec (.jobGo ag e) s =
    .next (if s.pltOn e = true then s.pltPush e (s.jobAsked e) else s.pltEnd e (s.jobAsked e) Plt.unitDisabled 0 0 0) :=
  (exec_jobGo hp hr).trans (congrArg Host.Outcome.next (if_neg (Nat.not_le.2 hq)))

end

/-! ### The end of an explicit job (R222, R223, R236) -/

theorem State.rd_whenB {f : State → State} {p : Nat} {g : Fld} (h : ∀ s, (f s).rd p g = s.rd p g) (s : State) (c : Bool) :
    (s.whenB c f).rd p g = s.rd p g := by
  rcases State.whenB_cases s c f with hf | hf
  · rw [hf]
  · rw [hf, h]

/-- The end of a job queued by JOB_GO: its status shown, then the page's interrupt. -/
theorem State.pltEnd_go {j : PleatJob} (h : j.origin = .go) (s : State) (e status i o n : Nat) : ∃ v : State,
    s.pltEnd e j status i o n = v.raise (P.plt e) 0 ∧ v.rd (P.plt e) R.plt_LAST_STATUS = status % 256 := by
  have hown : 0x100 ≤ R.plt_LAST_STATUS.off ∧ R.plt_LAST_STATUS.off < 4096 ∧ R.plt_LAST_STATUS.lo < 32 := by decide
  refine ⟨_, by simp only [State.pltEnd, h]; rfl, ?_⟩
  rw [State.rd_whenB (fun s => State.rd_count s ..), State.rd_whenB, State.rd_wr_same]
  · rfl
  · intro s
    rw [State.rd_raise_own _ _ _ hown, State.rd_err_own _ _ _ _ _ hown]

theorem State.pltEnd_go_shown (s : State) (e : Nat) (j : PleatJob) (status i o n : Nat) (h : j.origin = .go) :
    (s.pltEnd e j status i o n).rd (P.plt e) R.plt_LAST_STATUS = status % 256 ∧
      ((s.pltEnd e j status i o n).rd (P.plt e) R.common_INT_RAW).testBit 0 = true := by
  obtain ⟨v, hend, hstatus⟩ := State.pltEnd_go h s e status i o n
  rw [hend]
  exact ⟨(State.rd_raise_own _ _ _ (by decide)).trans hstatus, State.testBit_raise _ _ (by decide)⟩

/-! ### Inline jobs (R213) -/

section
variable {s : State} {n : Nat}

theorem exec_inlineJobEnqueue_none (h : s.heldAt n = none) : exec (.inlineJobEnqueue n) s = .next s := by
  show execInlineJobEnqueue n s = _
  simp only [execInlineJobEnqueue, h]

/-- The state once a held unit counts as queued at an engine. -/
def State.heldQueued (s : State) (n : Nat) : State :=
  { s with seam := { s.seam with held := s.seam.held.map fun x => if x.id = n then { x with phase := 2 } else x } }

variable {h : HeldUnit} (hh : s.heldAt n = some h) (hp : h.phase = 1)
include hh hp

/-- A held unit is stored plain, waits, or is queued, by the engine picked and the room there. -/
theorem exec_inlineJobEnqueue : exec (.inlineJobEnqueue n) s =
    .next (match s.pltPick fun e => s.on (P.plt e) R.plt_INLINE_EN with
      | none => (s.dropHeld n).storeCoarse h.use h.ns h.unit h.panel false (h.whole.getD (zeros unitBytes))
      | some e => if 32 ≤ (s.pltQueue e).length then s else (s.heldQueued n).pltPush e ⟨.inline n, 0, h.panel, false, [], 0⟩) := by
  show execInlineJobEnqueue n s = _
  simp only [execInlineJobEnqueue, State.storePlain, hh, hp]
  rfl

theorem exec_inlineJobEnqueue_plain (hpick : (s.pltPick fun e => s.on (P.plt e) R.plt_INLINE_EN) = none) : exec (.inlineJobEnqueue n) s =
    .next ((s.dropHeld n).storeCoarse h.use h.ns h.unit h.panel false (h.whole.getD (zeros unitBytes))) := by
  rw [exec_inlineJobEnqueue hh hp, hpick]

variable {e : Nat} (hpick : (s.pltPick fun e => s.on (P.plt e) R.plt_INLINE_EN) = some e)
include hpick

theorem exec_inlineJobEnqueue_waits (hq : 32 ≤ (s.pltQueue e).length) : exec (.inlineJobEnqueue n) s = .next s := by
  rw [exec_inlineJobEnqueue hh hp, hpick]
  exact congrArg Host.Outcome.next (if_pos hq)

theorem exec_inlineJobEnqueue_queued (hq : (s.pltQueue e).length < 32) : exec (.inlineJobEnqueue n) s =
    .next ((s.heldQueued n).pltPush e ⟨.inline n, 0, h.panel, false, [], 0⟩) := by
  rw [exec_inlineJobEnqueue hh hp, hpick]
  exact congrArg Host.Outcome.next (if_neg (Nat.not_le.2 hq))

end

/-! ### Decode jobs (R215) -/

section
variable {s : State} {n : Nat} {j : ReadJob} (hj : s.job? n = some j)
include hj

theorem exec_decodeJobEnqueue_none (hd : j.decode ≠ 1) : exec (.decodeJobEnqueue n) s = .next s := by
  show execDecodeJobEnqueue n s = _
  simp only [execDecodeJobEnqueue, hj]
  exact congrArg Host.Outcome.next (if_pos hd)

theorem exec_decodeJobEnqueue_fails (hd : j.decode = 1) (hpick : (s.pltPick fun _ => true) = none) :
    exec (.decodeJobEnqueue n) s = .next (s.failJob j) := by
  show execDecodeJobEnqueue n s = _
  simp only [execDecodeJobEnqueue, hj, hpick]
  exact congrArg Host.Outcome.next (if_neg (not_not.2 hd))

theorem exec_decodeJobEnqueue_queued (hd : j.decode = 1) {e : Nat} (hpick : (s.pltPick fun _ => true) = some e)
    (hq : (s.pltQueue e).length < 32) : exec (.decodeJobEnqueue n) s =
      .next ((s.updJob n fun j => { j with decode := 2 }).pltPush e ⟨.decode n, 0, 0, false, [], 0⟩) := by
  show execDecodeJobEnqueue n s = _
  simp only [execDecodeJobEnqueue, hj, hpick]
  exact congrArg Host.Outcome.next ((if_neg (not_not.2 hd)).trans (if_neg (Nat.not_le.2 hq)))

end

/-! ### A job that completes (R225) -/

section
variable {s : State} {e l : Nat}

theorem exec_pleatJobComplete_none (h : Tbl.at? s.pleat.lanes (e * 4 + l) = none) : exec (.pleatJobComplete e l) s = .next s := by
  show execPleatJobComplete e l s = _
  simp only [execPleatJobComplete, h]

/-- What ends a lane's job, by where the job comes from. -/
def State.pltFinish (s : State) (e : Nat) (j : PleatJob) : State :=
  match j.origin with
  | .inline n => s.pltInline e n
  | .decode n => s.pltDecoded e n
  | _ => s.pltExplicit e j

/-- The state once a lane holds no job. -/
def State.laneFreed (s : State) (e l : Nat) : State :=
  { s with pleat := { s.pleat with lanes := Tbl.del s.pleat.lanes (e * 4 + l) } }

/-- A job ends; its lane is then free for the next of the queue. -/
theorem exec_pleatJobComplete {j : PleatJob} (h : Tbl.at? s.pleat.lanes (e * 4 + l) = some j) :
    exec (.pleatJobComplete e l) s = .next (((s.pltFinish e j).laneFreed e l).pltFill e) := by
  show execPleatJobComplete e l s = _
  unfold execPleatJobComplete
  rw [h]
  rfl

end

/-! ### CTRL.EN cleared (R231) -/

theorem State.pltDisable_eq (s : State) (e : Nat) : s.pltDisable e =
    if s.rd (P.plt e) R.common_DRAIN ≠ 0 then s.wr (P.plt e) R.common_EN 0
    else (s.pltQueue e).foldl (fun s j => s.pltReturn e j)
      { s.wr (P.plt e) R.common_EN 0 with pleat := { s.pleat with queue := Tbl.del s.pleat.queue e } } := by
  simp only [State.pltDisable, State.on_iff, State.rd_drain_disabled]
  rfl

theorem exec_pltCtrlEnClear {s : State} {ag : Agent} {e : Nat} (hp : s.pltPresent e = true) (hr : Reaches s ag (P.plt e))
    (he : s.en (P.plt e) = true) : exec (.pltCtrlEnClear ag e) s = .next (s.pltDisable e) :=
  congrArg Host.Outcome.next ((State.whenB_true hp _).trans ((State.gated_reaches hr _ _ _).trans (State.whenB_true he _)))

/-! ### The obligation -/

/-- Settles O51: each clause is the lemma above about its command, its queue or its block. -/
theorem pleat : Obligations.Pleat := by
  unfold Obligations.Pleat
  intro s
  refine ⟨fun ag e hp hr => ⟨jobGo_full hp hr, exec_jobGo_room hp hr⟩, fun e j => State.pltPush_full j, s.pltEnd_go_shown,
    fun n => exec_inlineJobEnqueue_none, fun n h hh hp => ?_, fun which e => State.pltPick_some,
    fun n j hj hd => ⟨exec_decodeJobEnqueue_fails hj hd, fun e => exec_decodeJobEnqueue_queued hj hd⟩,
    fun n j => exec_decodeJobEnqueue_none, fun e l => exec_pleatJobComplete_none, fun e l j hl v hv => ?_,
    fun b last hb hlen w hw => pltDecode_stored hb last hlen hw, pltBlock_checked,
    fun ag e hp hr he => (exec_pltCtrlEnClear hp hr he).trans (congrArg Host.Outcome.next (s.pltDisable_eq e))⟩
  · exact ⟨exec_inlineJobEnqueue_plain hh hp, fun e => exec_inlineJobEnqueue_waits hh hp,
      fun e hpick hq => ⟨s.heldQueued n, exec_inlineJobEnqueue_queued hh hp hpick hq, rfl⟩⟩
  · subst hv
    exact exec_pleatJobComplete hl

end Sys2Proof.Machine
end

section
/-!
PROOFS. The order of Gauge's entries: block moves and spread moves (09_gauge.md R239, R248, R250).
-/

namespace Sys2Proof.Machine

/-! ### Rising tables parted at a key -/

section
variable {β : Type}

/-- A rising table is its entries below a key, then those from the key on. -/
theorem Tbl.below_append_from {t : Tbl β} (h : t.Pairwise fun a b => a.1 < b.1) (k : Nat) :
    (t.filter fun e => e.1 < k) ++ (t.filter fun e => k ≤ e.1) = t := by
  induction t with
  | nil => rfl
  | cons x r ih =>
    obtain ⟨hx, hr⟩ := List.pairwise_cons.1 h
    by_cases hk : x.1 < k
    · simp [hk, ih hr]
    · have hge : ∀ e ∈ r, k ≤ e.1 := fun e he => (Nat.not_lt.1 hk).trans (hx e he).le
      have hnone : (r.filter fun e => e.1 < k) = [] := List.filter_eq_nil_iff.2 fun e he => by simpa using hge e he
      have hall : (r.filter fun e => k ≤ e.1) = r := List.filter_eq_self.2 fun e he => by simpa using hge e he
      simp [hk, Nat.not_lt.1 hk, hnone, hall]

/-- A value put at a key stands behind the lower keys and before the higher ones. -/
theorem Tbl.put_append {l r : Tbl β} {k : Nat} (v : β) (hl : ∀ e ∈ l, e.1 < k) (hr : ∀ e ∈ r, k < e.1) :
    Tbl.put (l ++ r) k v = l ++ (k, v) :: r := by
  induction l with
  | nil =>
    cases r with
    | nil => rfl
    | cons y r => exact if_pos (hr y List.mem_cons_self)
  | cons x l ih =>
    have hx := hl x List.mem_cons_self
    rw [List.cons_append, Tbl.put, if_neg (Nat.not_lt.2 hx.le), if_neg hx.ne', ih fun e he => hl e (List.mem_cons_of_mem _ he)]
    rfl

theorem Tbl.key_ne_of_at?_eq_none {t : Tbl β} {k : Nat} (h : Tbl.at? t k = none) : ∀ e ∈ t, e.1 ≠ k := by
  induction t with
  | nil => simp
  | cons x r ih =>
    rw [Tbl.at?] at h
    split at h
    · cases h
    next hx => exact List.forall_mem_cons.2 ⟨hx, ih h⟩

theorem Tbl.mem_of_at?_eq_some {t : Tbl β} {k : Nat} {v : β} (h : Tbl.at? t k = some v) : (k, v) ∈ t := by
  induction t with
  | nil => cases h
  | cons x r ih =>
    rw [Tbl.at?] at h
    split at h
    next hx => exact hx ▸ Option.some.inj h ▸ List.mem_cons_self
    next => exact List.mem_cons_of_mem _ (ih h)

/-- A rising table at a key it holds: the entries below, the key's own, the entries above. -/
theorem Tbl.exists_eq_append_of_at? {t : Tbl β} (h : t.Pairwise fun a b => a.1 < b.1) {k : Nat} {v : β} (hv : Tbl.at? t k = some v) :
    ∃ l r, t = l ++ (k, v) :: r ∧ (∀ e ∈ l, e.1 < k) ∧ ∀ e ∈ r, k < e.1 := by
  obtain ⟨l, r, rfl⟩ := List.append_of_mem (Tbl.mem_of_at?_eq_some hv)
  obtain ⟨-, hr, hl⟩ := List.pairwise_append.1 h
  exact ⟨l, r, rfl, fun e he => hl e he _ List.mem_cons_self, (List.pairwise_cons.1 hr).1⟩

theorem Tbl.del_append {l r : Tbl β} {k : Nat} (v : β) (hl : ∀ e ∈ l, e.1 < k) (hr : ∀ e ∈ r, k < e.1) :
    Tbl.del (l ++ (k, v) :: r) k = l ++ r := by
  have hkeepl : (l.filter fun e => e.1 ≠ k) = l := List.filter_eq_self.2 fun e he => by simpa using (hl e he).ne
  have hkeepr : (r.filter fun e => e.1 ≠ k) = r := List.filter_eq_self.2 fun e he => by simpa using (hr e he).ne'
  rw [Tbl.del, List.filter_append, List.filter_cons_of_neg (by simp), hkeepl, hkeepr]

end

/-! ### The entries of a panel, in rank order (R239) -/

/-- A panel's entries, lowest rank first. -/
def panelEntries (q : Nat) (t : Tbl GauRow) : List GauRow := (t.filter fun e => e.2.panel = q).map (·.2)

theorem panelEntries_append (q : Nat) (t u : Tbl GauRow) : panelEntries q (t ++ u) = panelEntries q t ++ panelEntries q u := by
  simp [panelEntries]

theorem panelEntries_cons_own (k : Nat) (g : GauRow) (t : Tbl GauRow) :
    panelEntries g.panel ((k, g) :: t) = g :: panelEntries g.panel t := by simp [panelEntries]

theorem panelEntries_cons_other {q : Nat} (k : Nat) {g : GauRow} (h : g.panel ≠ q) (t : Tbl GauRow) :
    panelEntries q ((k, g) :: t) = panelEntries q t := by simp [panelEntries, h]

/-- An entry's place does not matter but for the order. -/
theorem panelEntries_cons_congr (q j k : Nat) (g : GauRow) (t : Tbl GauRow) :
    panelEntries q ((j, g) :: t) = panelEntries q ((k, g) :: t) := by
  by_cases h : g.panel = q <;> simp [panelEntries, h]

theorem panelEntries_map_key (q : Nat) (f : Nat → Nat) (t : Tbl GauRow) :
    panelEntries q (t.map fun e => (f e.1, e.2)) = panelEntries q t := by
  simp [panelEntries, List.filter_map, Function.comp_def]

/-! ### Block moves (R248) -/

/-- Where an entry stands after a move. -/
def GauMove.shift (m : GauMove) (a : Nat) : Nat :=
  if m.place < m.free then if m.place ≤ a ∧ a < m.free then a + 1 else a
  else if m.free < a ∧ a < m.place then a - 1 else a

/-- The place that a move vacates for the new entry. -/
def GauMove.hole (m : GauMove) : Nat := if m.place < m.free then m.place else m.place - 1

theorem GauMove.apply_eq_put (m : GauMove) (rows : Tbl GauRow) :
    m.apply rows = Tbl.put (rows.map fun e => (m.shift e.1, e.2)) m.hole m.entry := by
  unfold GauMove.apply GauMove.shift GauMove.hole
  split
  all_goals
    congr 2
    funext e
    split <;> rfl

section
variable {m : GauMove} (hne : m.free ≠ m.place)
include hne

theorem GauMove.shift_lt_hole {a : Nat} (ha : a ≠ m.free) (h : a < m.place) : m.shift a < m.hole := by
  unfold GauMove.shift GauMove.hole
  split_ifs <;> omega

theorem GauMove.hole_lt_shift {a : Nat} (h : m.place ≤ a) : m.hole < m.shift a := by
  unfold GauMove.shift GauMove.hole
  split_ifs <;> omega

omit hne in
/-- No entry passes another: only the free place is run over. -/
theorem GauMove.shift_lt_shift {a b : Nat} (ha : a ≠ m.free) (hb : b ≠ m.free) (h : a < b) : m.shift a < m.shift b := by
  unfold GauMove.shift
  split_ifs <;> omega

variable {rows : Tbl GauRow} (hrise : rows.Pairwise fun a b => a.1 < b.1) (hfree : Tbl.at? rows m.free = none)
include hrise hfree

omit hne in
theorem GauMove.rising_apply : (m.apply rows).Pairwise fun a b => a.1 < b.1 := by
  have hkey := Tbl.key_ne_of_at?_eq_none hfree
  rw [GauMove.apply_eq_put]
  refine Tbl.pairwise_put _ _ (List.pairwise_map.2 (hrise.imp_of_mem ?_))
  exact fun ha hb hab => GauMove.shift_lt_shift (hkey _ ha) (hkey _ hb) hab

/-- After a move: the shifted entries below the place, the new entry, the shifted entries from the place on. -/
theorem GauMove.apply_eq_append : m.apply rows =
    ((rows.filter fun e => e.1 < m.place).map fun e => (m.shift e.1, e.2)) ++
      (m.hole, m.entry) :: (rows.filter fun e => m.place ≤ e.1).map fun e => (m.shift e.1, e.2) := by
  have hkey := Tbl.key_ne_of_at?_eq_none hfree
  rw [GauMove.apply_eq_put, ← Tbl.put_append, ← List.map_append, Tbl.below_append_from hrise]
  · simp only [List.forall_mem_map, List.mem_filter, decide_eq_true_eq]
    exact fun e he => GauMove.shift_lt_hole hne (hkey e he.1) he.2
  · simp only [List.forall_mem_map, List.mem_filter, decide_eq_true_eq]
    exact fun e he => GauMove.hole_lt_shift hne he.2

theorem GauMove.panelEntries_apply_own :
    let k := ((rows.filter fun e => e.2.panel = m.entry.panel).filter fun e => e.1 < m.place).length
    panelEntries m.entry.panel (m.apply rows) =
      (panelEntries m.entry.panel rows).take k ++ m.entry :: (panelEntries m.entry.panel rows).drop k := by
  intro k
  have hk : k = (panelEntries m.entry.panel (rows.filter fun e => e.1 < m.place)).length := by
    rw [panelEntries, List.length_map, List.filter_comm]
  have hparts := panelEntries_append m.entry.panel (rows.filter fun e => e.1 < m.place) (rows.filter fun e => m.place ≤ e.1)
  rw [Tbl.below_append_from hrise] at hparts
  rw [GauMove.apply_eq_append hne hrise hfree, panelEntries_append, panelEntries_cons_own, panelEntries_map_key, panelEntries_map_key,
    hparts, List.take_left' hk.symm, List.drop_left' hk.symm]

theorem GauMove.panelEntries_apply_other {q : Nat} (hq : q ≠ m.entry.panel) : panelEntries q (m.apply rows) = panelEntries q rows := by
  rw [GauMove.apply_eq_append hne hrise hfree, panelEntries_append, panelEntries_cons_other _ hq.symm, panelEntries_map_key,
    panelEntries_map_key, ← panelEntries_append, Tbl.below_append_from hrise]

end

/-! ### Spread moves (R250) -/

/-- The state once the entry `g` of place `a` stands at the free place `d`. -/
def State.spreadMoved (s : State) (a d : Nat) (g : GauRow) : State :=
  State.countN { s with gauge := { s.gauge with rows := Tbl.put (Tbl.del s.gauge.rows a) d g } } P.gau 0x068 s.gauRows

section
variable {s : State} {a d : Nat}

theorem exec_gaugeSpreadMove_moves {g : GauRow} (hg : Tbl.at? s.gauge.rows a = some g) (hon : s.rd P.gau R.gau_SPREAD_EN ≠ 0)
    (hm : s.gauge.move = none) (hd : d < s.gauCap) (had : a ≠ d)
    (hclear : ∀ e ∈ s.gauge.rows, ¬ (a < e.1 ∧ e.1 ≤ d) ∧ ¬ (d ≤ e.1 ∧ e.1 < a)) :
    exec (.gaugeSpreadMove a d) s = .next (s.spreadMoved a d g) := by
  have hbetween : (s.gauge.rows.any fun e => decide ((a < e.1 ∧ e.1 ≤ d) ∨ (d ≤ e.1 ∧ e.1 < a))) = false :=
    List.any_eq_false.2 fun e he => by simpa only [decide_eq_true_eq, not_or] using hclear e he
  show execGaugeSpreadMove a d s = _
  simp only [execGaugeSpreadMove, hg, hbetween]
  refine congrArg Host.Outcome.next (if_neg ?_)
  simp [State.on_eq_true hon, hm, had, hd]

/-- A spread move leaves the state alone, or takes an entry to a place with no entry between. -/
theorem exec_gaugeSpreadMove_cases (s : State) (a d : Nat) : exec (.gaugeSpreadMove a d) s = .next s ∨
    ∃ g, exec (.gaugeSpreadMove a d) s = .next (s.spreadMoved a d g) ∧ Tbl.at? s.gauge.rows a = some g ∧
      ∀ e ∈ s.gauge.rows, ¬ (a < e.1 ∧ e.1 ≤ d) ∧ ¬ (d ≤ e.1 ∧ e.1 < a) := by
  have hexec : exec (.gaugeSpreadMove a d) s = execGaugeSpreadMove a d s := rfl
  rw [hexec, execGaugeSpreadMove]
  cases hg : Tbl.at? s.gauge.rows a with
  | none => exact .inl rfl
  | some g =>
    dsimp only
    split
    · exact .inl rfl
    next hgo =>
      simp only [not_or, Bool.not_eq_true, List.any_eq_false, decide_eq_true_eq] at hgo
      obtain ⟨-, -, -, hclear, -⟩ := hgo
      exact .inr ⟨g, rfl, rfl, hclear⟩

theorem State.spreadMoved_rows (s : State) (a d : Nat) (g : GauRow) :
    (s.spreadMoved a d g).gauge.rows = Tbl.put (Tbl.del s.gauge.rows a) d g := by simp [State.spreadMoved]

variable {rows : Tbl GauRow} (hrise : rows.Pairwise fun a b => a.1 < b.1)
include hrise

theorem rising_put_del (a d : Nat) (g : GauRow) : (Tbl.put (Tbl.del rows a) d g).Pairwise fun a b => a.1 < b.1 :=
  Tbl.pairwise_put _ _ (hrise.filter _)

/-- An entry taken to a free place with no entry between keeps every panel's order. -/
theorem panelEntries_put_del {g : GauRow} (hg : Tbl.at? rows a = some g)
    (hclear : ∀ e ∈ rows, ¬ (a < e.1 ∧ e.1 ≤ d) ∧ ¬ (d ≤ e.1 ∧ e.1 < a)) (q : Nat) :
    panelEntries q (Tbl.put (Tbl.del rows a) d g) = panelEntries q rows := by
  obtain ⟨l, r, rfl, hl, hr⟩ := Tbl.exists_eq_append_of_at? hrise hg
  have hld : ∀ e ∈ l, e.1 < d := fun e he => by
    have := hl e he
    have := hclear e (List.mem_append_left _ he)
    omega
  have hrd : ∀ e ∈ r, d < e.1 := fun e he => by
    have := hr e he
    have := hclear e (List.mem_append_right _ (List.mem_cons_of_mem _ he))
    omega
  rw [Tbl.del_append g hl hr, Tbl.put_append g hld hrd, panelEntries_append, panelEntries_append, panelEntries_cons_congr]

end

/-! ### The obligation -/

/-- Settles O53: a move's table is the shifted entries around the new one; a spread move carries an entry over no other. -/
theorem gaugeRanks : Obligations.GaugeRanks := by
  unfold Obligations.GaugeRanks
  intro rows hrise of
  refine ⟨fun m hfree hne => ⟨GauMove.rising_apply hrise hfree, GauMove.panelEntries_apply_own hne hrise hfree,
    fun q => GauMove.panelEntries_apply_other hne hrise hfree⟩, fun s t a d hrows ht => ?_⟩
  subst hrows
  rcases exec_gaugeSpreadMove_cases s a d with h | ⟨g, h, hg, hclear⟩
  · obtain rfl := Host.Outcome.next.inj (h.symm.trans ht)
    exact ⟨hrise, fun q => rfl⟩
  · obtain rfl := Host.Outcome.next.inj (h.symm.trans ht)
    rw [State.spreadMoved_rows]
    exact ⟨rising_put_del hrise a d g, panelEntries_put_del hrise hg hclear⟩

end Sys2Proof.Machine
end

section
/-!
PROOFS. Gauge: batches, keys and their results, update records, INSERT, block moves, WIDTH, the cascade bus, and Gauge disabled
(09_gauge.md R237 to R248, R254 to R257, R259).
-/

namespace Sys2Proof.Machine

/-! ### Batches submitted (R244, R247, R257) -/

section
variable {s : State} {ag : Agent} (hr : Reaches s ag P.gau)
include hr

theorem exec_batchGo : exec (.batchGo ag) s = .next s.gauGo := congrArg Host.Outcome.next (State.gated_reaches hr _ _ _)

theorem batchGo_full (hq : 32 ≤ s.gauge.queue.length) : Does (.batchGo ag) s fun t => t.rd P.gau R.gau_QUEUE_REJ = 1 ∧
    (t.rd P.gau R.common_INT_RAW).testBit 2 = true ∧ t = { s with regs := t.regs, outbox := t.outbox } := by
  refine ⟨_, (exec_batchGo hr).trans (congrArg Host.Outcome.next (if_pos hq)), ?_, State.testBit_raise _ _ (by decide), ?_⟩
  · rw [State.rd_raise_own _ _ _ (by decide)]
    exact State.rd_wr_same ..
  · exact (((RegFrame.refl s).wr _ _ _).raise _ _).uncounted (State.raise_ctrs ..)

theorem exec_batchGo_room (hq : s.gauge.queue.length < 32) : exec (.batchGo ag) s =
    .next (s.gauSubmit (s.rd P.gau R.gau_BATCH_LO + s.rd P.gau R.gau_BATCH_HI * 2 ^ 32) 0 none) :=
  (exec_batchGo hr).trans (congrArg Host.Outcome.next (if_neg (Nat.not_le.2 hq)))

end

theorem State.gauSubmit_read {s : State} {a p : Nat} {i : Option Nat} {blk : List Byte} (hread : ∀ f, s.busRead p a 32 f = f blk s) :
    let b : Batch := ⟨a, p, i, blk, 0, 0, false, false, false⟩
    s.gauSubmit a p i = if s.mode M.gauge = false then s.gauEnd b Gs.notEnabled else if s.en P.gau = false then s.gauEnd b Gs.disabled
      else State.gauFill 33 { s with gauge := { s.gauge with queue := s.gauge.queue ++ [b] } } := by
  intro b
  rw [State.gauSubmit, hread]
  simp only [Bool.not_eq_true']
  rfl

/-! ### Keys (R238, R240, R241) -/

section
variable {s : State} {b : Batch} (hb : s.gauge.look = some b)
include hb

/-- A key of the other kind is left for its own command. -/
theorem State.gauLookKey_other {op : Nat} (h : b.op ≠ op) : s.gauLookKey op = s := by
  simp only [State.gauLookKey, hb]
  exact if_pos (.inl h)

/-- A key of a batch that stays on this device is answered from the panel's entries. -/
theorem State.gauLookKey_local {bytes : List Byte} (ha : b.abort = false) (hn : b.next < b.num) (hc : b.casc = false)
    (hread : ∀ f, s.busRead b.panel (s.gauTr b (b.src + b.next * 16 * s.gauRows)) (10 * s.gauRows) f = f bytes s) {op : Nat}
    (hop : b.op = op) :
    let hits := s.gauHits b.panel (leNat bytes)
    let u := (s.updLook fun b => { b with next := b.next + 1 }).count P.gau (if op = 1 then 0x040 else 0x048)
    s.gauLookKey op = u.gauPut b.next (gauResult (op == 2) u.gcbPos hits.head? hits.length) := by
  intro hits u
  have hgo : ¬ (b.op ≠ op ∨ b.abort = true ∨ b.num ≤ b.next ∨ (b.casc = true ∧ 8 ≤ s.gauge.out.length)) := by
    simp [hop, ha, hn, hc]
  have hnext : (s.updLook fun x => { x with next := b.next + 1 }) = s.updLook fun x => { x with next := x.next + 1 } := by
    simp [State.updLook, hb]
  rw [State.gauLookKey, hb]
  dsimp only
  rw [if_neg hgo, hread, hnext, if_neg (by simp [hc])]

end

/-- A panel's matches are the ranks of its entries that match. -/
theorem State.mem_gauHits (s : State) (p k r : Nat) : r ∈ s.gauHits p k ↔ ∃ e, s.gauAt p r = some e ∧ e.2.hits k = true := by
  simp [State.gauHits, State.gauAt, List.mem_zipIdx_iff_getElem?]

/-- Matches come lowest rank first. -/
theorem State.gauHits_rising (s : State) (p k : Nat) : (s.gauHits p k).Pairwise (· < ·) := by
  have hsub : (s.gauHits p k).Sublist ((s.gauOf p).zipIdx.map (·.2)) := List.filter_sublist.map _
  rw [List.zipIdx_map_snd] at hsub
  exact List.Pairwise.sublist hsub List.pairwise_lt_range'

/-! ### Results (R242) -/

theorem gauResult_count {n : Nat} (hn : n < 2 ^ 17) (pos : Nat) (hit : Option Nat) : bitsAt (gauResult true pos hit n) 32 21 = n := by
  simp only [gauResult, bitsAt, if_pos]
  split_ifs <;> omega

theorem gauResult_search {r pos n : Nat} (hr : r < 2 ^ 17) (hpos : pos < 8) (hn : 0 < n) :
    let a := gauResult false pos (some r) n
    a % 2 ^ 20 = r ∧ bitsAt a 20 3 = pos ∧ a.testBit 23 = true ∧ a.testBit 24 = decide (1 < n) := by
  have hres : gauResult false pos (some r) n = (2 ^ 23 + if 1 < n then 2 ^ 24 else 0) + (pos * 2 ^ 20 + r) := by
    simp [gauResult, hn.ne']
  simp only [hres, bitsAt, Nat.testBit_eq_decide_div_mod_eq, decide_eq_true_eq, decide_eq_decide]
  split_ifs <;> omega

/-! ### Update records (R245) -/

theorem take_natLE {n m : Nat} (h : n ≤ m) (v : Nat) : (natLE m v).take n = natLE n v := by
  induction n generalizing m v with
  | zero => rfl
  | succ n ih =>
    cases m with
    | zero => omega
    | succ m => exact congrArg _ (ih (Nat.le_of_succ_le_succ h) _)

theorem drop_natLE (n m v : Nat) : (natLE m v).drop n = natLE (m - n) (v / 256 ^ n) := by
  induction n generalizing m v with
  | zero => simp
  | succ n ih =>
    cases m with
    | zero => simp [natLE]
    | succ m => rw [natLE, List.drop_succ_cons, ih, Nat.div_div_eq_div_mul, Nat.pow_succ', Nat.succ_sub_succ]

theorem allZero_natLE (n : Nat) : allZero (natLE n 0) = true := by
  induction n with
  | zero => rfl
  | succ n ih => simpa [natLE, allZero] using ih

/-- A number in a field wider than it needs: its own bytes, and zeros behind them. -/
theorem leAt_field {p r : List Byte} {a n m v : Nat} (hp : p.length = a) (hn : n ≤ m) (hv : v < 256 ^ n) :
    let l := p ++ natLE m v ++ r
    leAt l a n = v ∧ allZero (sliceOf l (a + n) (m - n)) = true := by
  intro l
  have hdrop : l.drop a = natLE m v ++ r := by simp only [l, List.append_assoc, List.drop_left' hp]
  constructor
  · rw [leAt, hdrop, List.take_append_of_le_length (by rwa [length_natLE]), take_natLE hn, leNat_natLE, Nat.mod_eq_of_lt hv]
  · rw [sliceOf, ← List.drop_drop, hdrop, List.drop_append_of_le_length (by rwa [length_natLE]), drop_natLE, Nat.div_eq_of_lt hv,
      List.take_left' (length_natLE _ _), allZero_natLE]

/-- An update record: its operation, its rank, VALUE and CARE. -/
def gauRec (op rank value care : Nat) : List Byte :=
  natLE 1 op ++ natLE 3 0 ++ natLE 4 rank ++ natLE 8 0 ++ natLE 40 value ++ natLE 40 care

section
variable {op rank value care n : Nat}

theorem gauRec_head (hop : op ≤ 4) (hrank : rank < 2 ^ 17) : let r := gauRec op rank value care
    leAt r 0 1 = op ∧ leAt r 1 3 = 0 ∧ leAt r 4 4 = rank ∧ leAt r 8 8 = 0 := by
  have hop1 : op % 256 ^ 1 = op := Nat.mod_eq_of_lt (by omega)
  have hrank4 : rank % 256 ^ 4 = rank := Nat.mod_eq_of_lt (by omega)
  intro r
  simp only [r, gauRec, List.append_assoc, leAt_natLE, hop1, true_and]
  simp (disch := decide) only [leAt_behind, Nat.reduceSub, leAt_natLE, hrank4, Nat.zero_mod, and_self]

theorem gauRec_value (hn : n ≤ 40) (hv : value < 256 ^ n) : let r := gauRec op rank value care
    leAt r 16 n = value ∧ allZero (sliceOf r (16 + n) (40 - n)) = true :=
  leAt_field (by simp) hn hv

theorem gauRec_care (hn : n ≤ 40) (hc : care < 256 ^ n) : let r := gauRec op rank value care
    leAt r 56 n = care ∧ allZero (sliceOf r (56 + n) (40 - n)) = true :=
  List.append_nil (gauRec op rank value care) ▸ leAt_field (by simp) hn hc

end

/-- What a sound record does, by its operation (R245). -/
def State.gauAct (s : State) (b : Batch) (op rank : Nat) (g : GauRow) : State :=
  if op = 1 then s.gauInsert b rank g
  else
    match s.gauAt b.panel rank with
    | none => s.gauRecBad b Gs.badRank rank
    | some (p, old) =>
      if op = 2 then
        (State.count { s with gauge := { s.gauge with rows := Tbl.del s.gauge.rows p } } P.gau 0x060).gauRecOk b rank
      else if op = 3 then State.gauRecOk { s with gauge := { s.gauge with rows := Tbl.put s.gauge.rows p g } } b rank
      else (s.busWrite b.panel (s.gauTr b (b.src + 96 * b.next) + 16) (natLE 40 old.value ++ natLE 40 old.care)).gauRecOk b rank

section
variable {s : State} {b : Batch} {op rank value care : Nat} (hb : s.gauge.upd = some b) (hm : s.gauge.move = none)
  (hw : s.rd P.gau R.gau_WIDTH ≤ 2) (hop : 1 ≤ op) (hop4 : op ≤ 4) (hrank : rank < 2 ^ 17) (hv : value < 2 ^ (80 * s.gauRows))
  (hc : care < 2 ^ (80 * s.gauRows))
  (hread : ∀ f, s.busRead b.panel (s.gauTr b (b.src + 96 * b.next)) 96 f = f (gauRec op rank value care) s)
  (hview : op = 4 → s.viewOk (s.gauPoster b) b.panel (b.src + 96 * b.next) 96 .wr = true)
include hb hm hw hop hop4 hrank hv hc hread hview

/-- A sound record acts where the command takes its operation, and is left alone otherwise. -/
theorem State.gauRecord_sound (ops : Nat → Bool) :
    s.gauRecord ops = if ops op = true then s.gauAct b op rank ⟨value, care, b.panel⟩ else s := by
  have hrows : s.gauRows ≤ 2 ^ 2 := Nat.pow_le_pow_right (by decide) hw
  have hn : 10 * s.gauRows ≤ 40 := by omega
  have hbits : 2 ^ (80 * s.gauRows) = 256 ^ (10 * s.gauRows) := by
    rw [show 80 * s.gauRows = 8 * (10 * s.gauRows) by omega, Nat.pow_mul]
  obtain ⟨hop0, hzero1, hrank4, hzero8⟩ := gauRec_head (value := value) (care := care) hop4 hrank
  obtain ⟨hvalue, hvzero⟩ := gauRec_value (op := op) (rank := rank) (care := care) hn (hbits ▸ hv)
  obtain ⟨hcare, hczero⟩ := gauRec_care (op := op) (rank := rank) (value := value) hn (hbits ▸ hc)
  have hop16 : op % 16 = op := Nat.mod_eq_of_lt (by omega)
  have hophi : op / 16 = 0 := Nat.div_eq_of_lt (by omega)
  have hrank17 : bitsAt rank 0 17 = rank := by rw [bitsAt, Nat.pow_zero, Nat.div_one, Nat.mod_eq_of_lt hrank]
  have hrankhi : rank / 2 ^ 17 = 0 := Nat.div_eq_of_lt hrank
  have hwr : (op == 4 && !s.viewOk (s.gauPoster b) b.panel (b.src + 96 * b.next) 96 .wr) = false := by
    by_cases h : op = 4 <;> simp [h, hview]
  rw [State.gauRecord, hb, hm]
  dsimp only
  rw [hread]
  simp only [hop0, hzero1, hrank4, hzero8, hvalue, hvzero, hcare, hczero, hop16, hophi, hrank17, hrankhi, hwr]
  cases ops op
  · rfl
  · exact (if_neg Bool.false_ne_true).trans (if_neg (by simp [hop, hop4]))

end


section
variable {s : State} {b : Batch} {op rank : Nat} {g : GauRow}

theorem State.gauAct_noEntry (hop : 2 ≤ op) (h : s.gauAt b.panel rank = none) : s.gauAct b op rank g = s.gauRecBad b Gs.badRank rank := by
  rw [State.gauAct, if_neg (by omega), h]

variable {e : Nat × GauRow} (h : s.gauAt b.panel rank = some e)
include h

theorem State.gauAct_delete : s.gauAct b 2 rank g =
    (State.count { s with gauge := { s.gauge with rows := Tbl.del s.gauge.rows e.1 } } P.gau 0x060).gauRecOk b rank := by
  rw [State.gauAct, if_neg (by decide), h]
  rfl

theorem State.gauAct_write : s.gauAct b 3 rank g =
    State.gauRecOk { s with gauge := { s.gauge with rows := Tbl.put s.gauge.rows e.1 g } } b rank := by
  rw [State.gauAct, if_neg (by decide), h]
  rfl

theorem State.gauAct_read : s.gauAct b 4 rank g =
    (s.busWrite b.panel (s.gauTr b (b.src + 96 * b.next) + 16) (natLE 40 e.2.value ++ natLE 40 e.2.care)).gauRecOk b rank := by
  rw [State.gauAct, if_neg (by decide), h]
  rfl

end

/-- Each record command takes its own operation, GAUGE_UPDATE all (log entry 24). -/
theorem exec_records (s : State) : exec .gaugeUpdate s = .next (s.gauRecord fun _ => true) ∧
    ∀ i ∈ [(Instr.insert, 1), (.delete, 2), (.gaugeWrite, 3), (.gaugeRead, 4)], exec i.1 s = .next (s.gauRecord (· == i.2)) := by
  simp only [List.forall_mem_cons]
  exact ⟨rfl, rfl, rfl, rfl, rfl, List.forall_mem_nil _⟩

section
variable {s : State} {b : Batch} {op rank value care : Nat} (hb : s.gauge.upd = some b) (hm : s.gauge.move = none)
  (hw : s.rd P.gau R.gau_WIDTH ≤ 2) (hop : 1 ≤ op) (hop4 : op ≤ 4) (hrank : rank < 2 ^ 17) (hv : value < 2 ^ (80 * s.gauRows))
  (hc : care < 2 ^ (80 * s.gauRows))
  (hread : ∀ f, s.busRead b.panel (s.gauTr b (b.src + 96 * b.next)) 96 f = f (gauRec op rank value care) s)
  (hview : op = 4 → s.viewOk (s.gauPoster b) b.panel (b.src + 96 * b.next) 96 .wr = true)
include hb hm hw hop hop4 hrank hv hc hread hview

/-- A record's own command and GAUGE_UPDATE carry it out; the commands of other operations leave it. -/
theorem exec_record : let r := s.gauAct b op rank ⟨value, care, b.panel⟩
    exec .gaugeUpdate s = .next r ∧
      ∀ i ∈ [(Instr.insert, 1), (.delete, 2), (.gaugeWrite, 3), (.gaugeRead, 4)], exec i.1 s = .next (if i.2 = op then r else s) := by
  intro r
  have hsound := State.gauRecord_sound hb hm hw hop hop4 hrank hv hc hread hview
  obtain ⟨hupdate, hothers⟩ := exec_records s
  refine ⟨hupdate.trans (congrArg Host.Outcome.next (hsound _)), fun i hi => (hothers i hi).trans (congrArg Host.Outcome.next ?_)⟩
  rw [hsound]
  simp only [beq_iff_eq, eq_comm (a := op)]
  rfl

/-- GAUGE_UPDATE and the command of the record's operation do the same. -/
theorem exec_record_own {i : Instr} (hi : (i, op) ∈ [(Instr.insert, 1), (.delete, 2), (.gaugeWrite, 3), (.gaugeRead, 4)]) :
    ∀ j ∈ [Instr.gaugeUpdate, i], exec j s = .next (s.gauAct b op rank ⟨value, care, b.panel⟩) := by
  obtain ⟨hupdate, hothers⟩ := exec_record hb hm hw hop hop4 hrank hv hc hread hview
  simp only [List.forall_mem_cons]
  exact ⟨hupdate, (hothers _ hi).trans (congrArg Host.Outcome.next (if_pos rfl)), List.forall_mem_nil _⟩

end

/-! ### INSERT refused, block moves committed (R247, R248) -/

section
variable {s : State} {b : Batch}

theorem State.gauInsert_full (rank : Nat) (g : GauRow) (h : s.gauCap ≤ s.gauge.rows.length) :
    s.gauInsert b rank g = s.gauRecBad b Gs.full rank := if_pos h

theorem State.gauInsert_quota (rank : Nat) (g : GauRow) (h : s.gauge.rows.length < s.gauCap) (hq : s.gauQuota ≤ (s.gauOf b.panel).length) :
    s.gauInsert b rank g = s.gauRecBad b Gs.quota rank := (if_neg (Nat.not_le.2 h)).trans (if_pos hq)

theorem State.gauInsert_badRank {rank : Nat} (g : GauRow) (h : s.gauge.rows.length < s.gauCap) (hq : (s.gauOf b.panel).length < s.gauQuota)
    (hr : (s.gauOf b.panel).length < rank) : s.gauInsert b rank g = s.gauRecBad b Gs.badRank rank :=
  (if_neg (Nat.not_le.2 h)).trans ((if_neg (Nat.not_le.2 hq)).trans (if_pos hr))

theorem exec_gaugeMoveCommit {m : GauMove} (hb : s.gauge.upd = some b) (hm : s.gauge.move = some m) : let n := m.length * s.gauRows
    let u := ({ s with gauge := { s.gauge with rows := m.apply s.gauge.rows, move := none } } : State)
    exec .gaugeMoveCommit s = .next ((((u.countN P.gau 0x068 n).countN P.gau 0x078 (2 * n)).count P.gau 0x058).gauRecOk b m.rank) := by
  intro n u
  show execGaugeMoveCommit s = _
  rw [execGaugeMoveCommit, hb, hm]

theorem exec_gaugeMoveCommit_none (hm : s.gauge.move = none) : exec .gaugeMoveCommit s = .next s := by
  show execGaugeMoveCommit s = _
  rw [execGaugeMoveCommit, hm]
  cases s.gauge.upd <;> rfl

end

/-! ### WIDTH (R237) -/

section
variable {s : State} {ag : Agent} {w : Nat} (hr : Reaches s ag P.gau) (hw : w < 3)
include hr

theorem exec_widthWrite : exec (.widthWrite ag w) s = .next (s.setGauWidth w) :=
  congrArg Host.Outcome.next (State.gated_reaches hr _ _ _)

include hw

theorem widthWrite_empty (h : s.gauge.rows = []) : Does (.widthWrite ag w) s fun t => t.rd P.gau R.gau_WIDTH = w ∧
    t = { s with regs := t.regs } ∧ SameRegs s t [fkey P.gau R.gau_WIDTH 0] := by
  have hset : s.setGauWidth w = s.wr P.gau R.gau_WIDTH w := (if_neg (by omega)).trans (if_neg (not_not.2 h))
  refine ⟨_, (exec_widthWrite hr).trans (congrArg Host.Outcome.next hset), ?_, rfl, (SameRegs.refl s _).wr (by simp) w⟩
  rw [State.rd_wr_same]
  exact Nat.mod_eq_of_lt (hw.trans (by decide))

theorem widthWrite_refused (h : s.gauge.rows ≠ []) : Does (.widthWrite ag w) s fun t => t.rd P.gau R.gau_CFG_REJ = 1 ∧
    (t.rd P.gau R.common_INT_RAW).testBit 3 = true ∧ t = { s with regs := t.regs, outbox := t.outbox } ∧
    SameRegs s t [fkey P.gau R.gau_CFG_REJ 0, fkey P.gau R.common_INT_RAW 0] := by
  have hset : s.setGauWidth w = (s.flag P.gau R.gau_CFG_REJ).raise P.gau 3 := (if_neg (by omega)).trans (if_pos h)
  refine ⟨_, (exec_widthWrite hr).trans (congrArg Host.Outcome.next hset), ?_, State.testBit_raise _ _ (by decide), ?_, ?_⟩
  · rw [State.rd_raise_own _ _ _ (by decide)]
    exact State.rd_wr_same ..
  · exact (((RegFrame.refl s).wr _ _ _).raise _ _).uncounted (State.raise_ctrs ..)
  · exact ((SameRegs.refl s _).flag (by simp)).raise (by simp) 3

end

/-! ### Frames of the cascade (R255, R256) -/

section
variable {s : State} {ws : List Nat} {b : Bool} (hport : s.gcbPort = true) (hws : ∀ w ∈ ws, w < 65536)
include hport hws

/-- What a frame of 16-bit words meets at an active port. -/
theorem exec_gcbFrameReceive : let width := bitsAt (ws.getD 0 0) 11 2
    let k := gcbKeyWords width
    let ty := ws.getD 0 0 / 2 ^ 13
    exec (.gcbFrameReceive ws b) s = .next (
      if ws.length ≠ 5 + k ∨ gcbCrc (ws.take (4 + k)) ≠ ws.getD (4 + k) 0 then s.count P.gcb 0x050
      else if ty ≠ 1 ∧ ty ≠ 2 then s
      else if bitsAt (ws.getD 0 0) 8 3 = s.rd P.gcb R.gcb_POS then
        (s.gauge.out.find? fun o => o.tag = ws.getD 1 0).elim s fun o =>
          s.gcbMerge o (ty == 2) (ws.getD (2 + k) 0) (ws.getD (3 + k) 0)
      else s.gcbForward ws width b) := by
  intro width k ty
  have hmod : ws.map (· % 65536) = ws := List.map_congr_left (fun w hw => Nat.mod_eq_of_lt (hws w hw)) |>.trans (List.map_id _)
  show execGcbFrameReceive ws b s = _
  rw [execGcbFrameReceive, State.whenB_true hport, hmod]
  dsimp only
  cases s.gauge.out.find? fun o => o.tag = ws.getD 1 0 <;> rfl

theorem exec_gcbFrameReceive_damaged : let k := gcbKeyWords (bitsAt (ws.getD 0 0) 11 2)
    ws.length ≠ 5 + k ∨ gcbCrc (ws.take (4 + k)) ≠ ws.getD (4 + k) 0 → exec (.gcbFrameReceive ws b) s = .next (s.count P.gcb 0x050) :=
  fun h => (exec_gcbFrameReceive hport hws).trans (congrArg Host.Outcome.next (if_pos h))

variable (hlen : ws.length = 5 + gcbKeyWords (bitsAt (ws.getD 0 0) 11 2))
  (hcrc : gcbCrc (ws.take (4 + gcbKeyWords (bitsAt (ws.getD 0 0) 11 2))) = ws.getD (4 + gcbKeyWords (bitsAt (ws.getD 0 0) 11 2)) 0)
  (hty : ws.getD 0 0 / 2 ^ 13 = 1 ∨ ws.getD 0 0 / 2 ^ 13 = 2)
include hlen hcrc hty

/-- A sound frame: one of this device's position is its own, any other is searched and forwarded. -/
theorem exec_gcbFrameReceive_sound : let width := bitsAt (ws.getD 0 0) 11 2
    let k := gcbKeyWords width
    exec (.gcbFrameReceive ws b) s = .next (if bitsAt (ws.getD 0 0) 8 3 = s.rd P.gcb R.gcb_POS then
        (s.gauge.out.find? fun o => o.tag = ws.getD 1 0).elim s fun o =>
          s.gcbMerge o (ws.getD 0 0 / 2 ^ 13 == 2) (ws.getD (2 + k) 0) (ws.getD (3 + k) 0)
      else s.gcbForward ws width b) := by
  intro width k
  have hwhole : ¬ (ws.length ≠ 5 + k ∨ gcbCrc (ws.take (4 + k)) ≠ ws.getD (4 + k) 0) := by simp only [not_or, not_not]; exact ⟨hlen, hcrc⟩
  have hknown : ¬ (ws.getD 0 0 / 2 ^ 13 ≠ 1 ∧ ws.getD 0 0 / 2 ^ 13 ≠ 2) := by omega
  exact (exec_gcbFrameReceive hport hws).trans (congrArg Host.Outcome.next ((if_neg hwhole).trans (if_neg hknown)))

theorem exec_gcbFrameReceive_forwards (hpos : bitsAt (ws.getD 0 0) 8 3 ≠ s.rd P.gcb R.gcb_POS) :
    exec (.gcbFrameReceive ws b) s = .next (s.gcbForward ws (bitsAt (ws.getD 0 0) 11 2) b) :=
  (exec_gcbFrameReceive_sound hport hws hlen hcrc hty).trans (congrArg Host.Outcome.next (if_neg hpos))

theorem exec_gcbFrameReceive_merges {o : GcbOut} (hpos : bitsAt (ws.getD 0 0) 8 3 = s.rd P.gcb R.gcb_POS) (ho : s.gauge.out = [o])
    (htag : o.tag = ws.getD 1 0) : let k := gcbKeyWords (bitsAt (ws.getD 0 0) 11 2)
    exec (.gcbFrameReceive ws b) s =
      .next (s.gcbMerge o (ws.getD 0 0 / 2 ^ 13 == 2) (ws.getD (2 + k) 0) (ws.getD (3 + k) 0)) := by
  have hfind : (s.gauge.out.find? fun o => o.tag = ws.getD 1 0) = some o := by simp [ho, htag]
  rw [exec_gcbFrameReceive_sound hport hws hlen hcrc hty, if_pos hpos, hfind]
  rfl

end

/-! ### Frames lost, the link, and Gauge disabled (R254, R256, R257) -/

/-- The state once a frame sent twice is given up. -/
def State.gcbLost (s : State) : State :=
  ((State.flag { s with gauge := { s.gauge with out := [] } } P.gcb R.gcb_LINK_ERR).err P.gcb 0x02 0 0).raise P.gcb 2

theorem State.gcbLost_gauge (s : State) : s.gcbLost.gauge = { s.gauge with out := [] } := by simp [State.gcbLost]

theorem State.gcbLost_frame (s : State) :
    s.gcbLost = { s with gauge := { s.gauge with out := [] }, regs := s.gcbLost.regs, outbox := s.gcbLost.outbox } :=
  let u : State := { s with gauge := { s.gauge with out := [] } }
  have hframe : RegFrame u s.gcbLost := (((RegFrame.refl u).wr _ _ _).err _ _ _ _).raise _ _
  hframe.uncounted (by simp [u, State.gcbLost])

section
variable {s : State} {o : GcbOut} (ho : s.gauge.out = [o])
include ho

theorem find_only_frame : (s.gauge.out.find? fun x => x.tag = o.tag) = some o := by simp [ho]

theorem gcbFrameTimeout_again (hr : o.resent = false) : Does (.gcbFrameTimeout o.tag) s fun t =>
    t.gauge = { s.gauge with out := [{ o with resent := true }] } ∧ t.outbox = s.outbox ++ [.gcb o.words false] ∧
      t = { s with gauge := t.gauge, ctrs := t.ctrs, outbox := t.outbox } := by
  let u : State := { s with gauge := { s.gauge with out := [{ o with resent := true }] } }
  refine ⟨(u.count P.gcb 0x058).send (.gcb o.words false), ?_, u.count_gauge .., congrArg (· ++ _) (u.count_outbox ..), ?_⟩
  · show execGcbFrameTimeout o.tag s = _
    rw [execGcbFrameTimeout, find_only_frame ho]
    simp only [hr, ho, List.map_cons, List.map_nil, if_pos]
    rfl
  · rw [u.count_frame]
    rfl

theorem gcbFrameTimeout_lost (hr : o.resent = true) : ∃ v : State, exec (.gcbFrameTimeout o.tag) s = .next (v.gauPut o.key gauErr) ∧
    v.rd P.gcb R.gcb_LINK_ERR = 1 ∧ v.gauge = { s.gauge with out := [] } ∧
      v = { s with gauge := v.gauge, regs := v.regs, outbox := v.outbox } := by
  refine ⟨s.gcbLost, ?_, ?_, s.gcbLost_gauge, ?_⟩
  · have hrest : (s.gauge.out.filter fun x => x.tag ≠ o.tag) = [] := by simp [ho]
    show execGcbFrameTimeout o.tag s = _
    rw [execGcbFrameTimeout, find_only_frame ho]
    simp only [hr, hrest, if_pos]
    rfl
  · rw [State.gcbLost, State.rd_raise_own _ _ _ (by decide), State.rd_err_own _ _ _ _ _ (by decide)]
    exact State.rd_wr_same ..
  · rw [s.gcbLost_gauge]
    exact s.gcbLost_frame

end

section
variable {s : State}

theorem gcbLinkTimer_rises (hp : s.gcbPort = true) (hl : s.rd P.gcb R.gcb_LINK_UP = 0) : Does (.gcbLinkTimer true) s fun t =>
    t.rd P.gcb R.gcb_LINK_UP = 1 ∧ (t.rd P.gcb R.common_INT_RAW).testBit 0 = true ∧ t = { s with regs := t.regs, outbox := t.outbox } := by
  have hgo : (s.gcbPort && !s.on P.gcb R.gcb_LINK_UP) = true := by simp [hp, State.on_eq_false hl]
  refine ⟨_, congrArg Host.Outcome.next ((if_pos rfl).trans (State.whenB_true hgo _)), ?_, State.testBit_raise _ _ (by decide), ?_⟩
  · rw [State.rd_raise_own _ _ _ (by decide)]
    exact State.rd_wr_same ..
  · exact (((RegFrame.refl s).wr _ _ _).raise _ _).uncounted (State.raise_ctrs ..)

theorem gcbLinkTimer_falls (hl : s.rd P.gcb R.gcb_LINK_UP ≠ 0) : Does (.gcbLinkTimer false) s fun t =>
    t.rd P.gcb R.gcb_LINK_UP = 0 ∧ (t.rd P.gcb R.common_INT_RAW).testBit 1 = true ∧
      t = { s with regs := t.regs, ctrs := t.ctrs, outbox := t.outbox } := by
  refine ⟨_, congrArg Host.Outcome.next ((if_neg Bool.false_ne_true).trans (State.whenB_true (State.on_eq_true hl) _)), ?_,
    State.testBit_raise _ _ (by decide), ((((RegFrame.refl s).wr _ _ _).count _ _).err _ _ _ _).raise _ _⟩
  rw [State.rd_raise_own _ _ _ (by decide), State.rd_err_own _ _ _ _ _ (by decide), State.rd_count]
  exact State.rd_wr_same ..

theorem exec_gauCtrlEnClear {ag : Agent} (hr : Reaches s ag P.gau) (he : s.en P.gau = true) : let v := s.wr P.gau R.common_EN 0
    exec (.gauCtrlEnClear ag) s = .next (if s.rd P.gau R.common_DRAIN ≠ 0 then v else
      s.gauge.queue.foldl (fun s b => s.gauEnd b Gs.disabled) { v with gauge := { v.gauge with queue := [] } }) := by
  intro v
  have hdis : s.gauDisable = if s.rd P.gau R.common_DRAIN ≠ 0 then v else v.gauReturn := by
    simp only [State.gauDisable, State.on_iff, State.rd_drain_disabled]
    rfl
  refine congrArg Host.Outcome.next ((State.gated_reaches hr _ _ _).trans ((State.whenB_true he _).trans (hdis.trans ?_)))
  rfl

end

/-! ### The obligation -/

/-- Settles O52: each clause is the lemma above about its command, its record or its frame. -/
theorem gauge : Obligations.Gauge := by
  unfold Obligations.Gauge
  intro s
  refine ⟨fun ag hr => ⟨batchGo_full hr, exec_batchGo_room hr⟩, fun a p i blk => State.gauSubmit_read, fun b bytes hb ha hn hc hread => ?_,
    s.mem_gauHits, s.gauHits_rising, fun r pos n hr hpos hn hn0 => ?_,
    fun b op rank value care rec hb hm hw hop hop4 hrank hv hc hrec hread hview => ?_,
    fun b rank g => ⟨State.gauInsert_full rank g, State.gauInsert_quota rank g, State.gauInsert_badRank g⟩,
    fun b m => exec_gaugeMoveCommit, exec_gaugeMoveCommit_none, fun a d g => exec_gaugeSpreadMove_moves,
    fun ag w hr hw => ⟨widthWrite_empty hr hw, widthWrite_refused hr hw⟩,
    fun ws b hport hws => ⟨exec_gcbFrameReceive_damaged hport hws, fun hlen hcrc hty =>
      ⟨exec_gcbFrameReceive_forwards hport hws hlen hcrc hty, fun o => exec_gcbFrameReceive_merges hport hws hlen hcrc hty⟩⟩,
    fun o ho => ⟨gcbFrameTimeout_again ho, gcbFrameTimeout_lost ho⟩, gcbLinkTimer_rises, gcbLinkTimer_falls,
    fun ag => exec_gauCtrlEnClear⟩
  · exact ⟨fun h => congrArg Host.Outcome.next (State.gauLookKey_local hb ha hn hc hread h),
      fun h => congrArg Host.Outcome.next (State.gauLookKey_local hb ha hn hc hread h),
      fun h => congrArg Host.Outcome.next (State.gauLookKey_other hb h), fun h => congrArg Host.Outcome.next (State.gauLookKey_other hb h)⟩
  · obtain ⟨hrank, hplace, hhit, hmulti⟩ := gauResult_search hr hpos hn0
    exact ⟨hrank, hplace, hhit, hmulti, gauResult_count hn pos (some r)⟩
  · subst hrec
    have hown {i : Instr} := exec_record_own hb hm hw hop hop4 hrank hv hc hread hview (i := i)
    obtain ⟨hupdate, hothers⟩ := exec_record hb hm hw hop hop4 hrank hv hc hread hview
    refine ⟨fun h1 => ?_, fun i hi hne => (hothers i hi).trans (congrArg Host.Outcome.next (if_neg hne)),
      fun h2 hnone => hupdate.trans (congrArg Host.Outcome.next (State.gauAct_noEntry h2 hnone)),
      fun e he => ⟨fun h2 => ?_, fun h3 => ?_, fun h4 => ?_⟩⟩
    · subst h1
      exact hown (by simp)
    · subst h2
      rw [← State.gauAct_delete he]
      exact hown (by simp)
    · subst h3
      rw [← State.gauAct_write he]
      exact hown (by simp)
    · subst h4
      rw [← State.gauAct_read he]
      exact hown (by simp)

end Sys2Proof.Machine
end

section
/-!
PROOFS. The bytes of an Agrek instruction: opcodes, specifiers and repeat bytes written and read back (10_agrek_model.md R281, R287,
R288, R297, R298).
-/

namespace Sys2Proof.Machine

/-! ### Opcodes (R297, R298) -/

theorem toNat_by8 {v : Nat} (h : v < 256) : (by8 v).toNat = v := by rw [by8, BitVec.toNat_ofNat, Nat.mod_eq_of_lt h]

theorem mem_allMn (m : Mn) : m ∈ allMn := by cases m <;> decide

/-- How many opcode numbers a mnemonic has: one for each size. -/
def opSpan (m : Mn) : Nat := if isSized m then 4 else 1

/-- The opcode map lists the mnemonics by rising opcode number, and no two share one. -/
theorem allMn_rising : allMn.Pairwise fun a b => opcodeOf a + opSpan a ≤ opcodeOf b := by decide +kernel

theorem opcodeOf_mod : ∀ m ∈ allMn, isSized m = true → opcodeOf m % 4 = 0 := by decide +kernel

/-- Two-byte opcodes, and the number that one-byte opcodes stay below: 0xE0 is the first repeat byte (R298, R318). -/
theorem opcodeOf_bounds : ∀ m ∈ allMn, if escFE m || escFF m then
    isSized m = false ∧ opcodeOf m / 256 = (if escFF m then 0xFF else 0xFE) else opcodeOf m + opSpan m ≤ 0xE0 := by decide +kernel

theorem szCode_lt (z : Sz) : szCode z < 4 := by cases z <;> decide
theorem szOf_szCode (z : Sz) : szOf (szCode z) = z := by cases z <;> rfl

theorem opNumber_lt (m : Mn) (z : Sz) : opNumber m z < opcodeOf m + opSpan m := by
  have := szCode_lt z
  rw [opNumber, opSpan]
  split <;> omega

/-- Whether a mnemonic has an opcode number, as `opOf` asks. -/
def ownsOp (n : Nat) (m : Mn) : Bool := if isSized m then decide (opcodeOf m ≤ n ∧ n < opcodeOf m + 4) else n == opcodeOf m

theorem ownsOp_iff (n : Nat) (m : Mn) : ownsOp n m = true ↔ opcodeOf m ≤ n ∧ n < opcodeOf m + opSpan m := by
  unfold ownsOp opSpan
  split
  · exact decide_eq_true_iff
  · rw [beq_iff_eq]; omega

/-- The mnemonic of an opcode number is the only one that has it. -/
theorem find?_ownsOp {n : Nat} {m : Mn} (h : ownsOp n m = true) : allMn.find? (ownsOp n) = some m := by
  obtain ⟨before, after, hsplit⟩ := List.append_of_mem (mem_allMn m)
  refine List.find?_eq_some_iff_append.2 ⟨h, before, after, hsplit, fun a ha => ?_⟩
  have hlt := (List.pairwise_append.1 (hsplit ▸ allMn_rising)).2.2 a ha m List.mem_cons_self
  rw [Bool.not_eq_true', Bool.eq_false_iff, ne_eq, ownsOp_iff]
  rw [ownsOp_iff] at h
  omega

theorem opOf_opNumber {m : Mn} {z : Sz} (h : isSized m = true ∨ z = .b) : opOf (opNumber m z) = some (m, z) := by
  have hown : ownsOp (opNumber m z) m = true := (ownsOp_iff ..).2 ⟨Nat.le_add_right .., opNumber_lt m z⟩
  refine (congrArg _ (find?_ownsOp hown)).trans ?_
  cases hs : isSized m with
  | false =>
    obtain rfl : z = .b := h.resolve_left (by simp [hs])
    simp [hs]
  | true =>
    have hmod : opNumber m z % 4 = szCode z := by
      have := opcodeOf_mod m (mem_allMn m) hs
      have := szCode_lt z
      rw [opNumber, if_pos hs]
      omega
    simp [hs, hmod, szOf_szCode]

theorem opNumber_plain {m : Mn} (h : (escFE m || escFF m) = false) (z : Sz) : opNumber m z < 0xE0 := by
  have hb := opcodeOf_bounds m (mem_allMn m)
  rw [if_neg (by simp [h])] at hb
  exact Nat.lt_of_lt_of_le (opNumber_lt m z) hb

theorem opNumber_escape {m : Mn} (h : (escFE m || escFF m) = true) (z : Sz) :
    opNumber m z / 256 = if escFF m then 0xFF else 0xFE := by
  have hb := opcodeOf_bounds m (mem_allMn m)
  rw [if_pos h] at hb
  simp [opNumber, hb]

theorem opBytes_plain {n : Nat} (h : n < 0xE0) : ∃ b, opBytes n = [b] ∧ b.toNat = n :=
  ⟨by8 n, if_pos (by omega), toNat_by8 (by omega)⟩

theorem opBytes_escape {n e : Nat} (hn : n / 256 = e) (he : e = 0xFE ∨ e = 0xFF) :
    ∃ a b, opBytes n = [a, b] ∧ a.toNat = e ∧ e * 256 + b.toNat = n := by
  refine ⟨by8 (n / 256), by8 n, if_neg (by omega), ?_, ?_⟩
  · rw [hn, toNat_by8 (by omega)]
  · rw [by8, BitVec.toNat_ofNat]; omega

/-- The first byte of an opcode is no repeat byte, and 0xFF only where it escapes. -/
theorem opBytes_first (m : Mn) (z : Sz) : ∃ b rest, opBytes (opNumber m z) = b :: rest ∧ rpOf b.toNat = none ∧
    (escFF m = false → b.toNat ≠ 0xFF) := by
  cases hesc : escFE m || escFF m with
  | true =>
    obtain ⟨a, b, hab, ha, -⟩ := opBytes_escape (opNumber_escape hesc z) (by cases escFF m <;> simp)
    exact ⟨a, [b], hab, by rw [ha]; cases escFF m <;> rfl, fun hff => by rw [ha, hff]; decide⟩
  | false =>
    have hn := opNumber_plain hesc z
    obtain ⟨b, hb, hv⟩ := opBytes_plain hn
    refine ⟨b, [], hb, ?_, fun _ => by omega⟩
    rw [hv, rpOf, if_neg (by omega), if_neg (by omega), if_neg (by omega), if_neg (by omega)]

theorem length_opBytes (m : Mn) (z : Sz) : (opBytes (opNumber m z)).length = opcodeLen m := by
  cases hesc : escFE m || escFF m with
  | true =>
    obtain ⟨a, b, hab, -⟩ := opBytes_escape (opNumber_escape hesc z) (by cases escFF m <;> simp)
    rw [hab, opcodeLen, if_pos (by simpa using hesc)]; rfl
  | false =>
    obtain ⟨b, hb, -⟩ := opBytes_plain (opNumber_plain hesc z)
    rw [hb, opcodeLen, if_neg (by simpa using hesc)]; rfl

theorem decInsn_opBytes (m : Mn) (z : Sz) (r : List Byte) : decInsn (opBytes (opNumber m z) ++ r) = decOps (opNumber m z) r := by
  cases hesc : escFE m || escFF m with
  | true =>
    obtain ⟨a, b, hab, ha, hn⟩ := opBytes_escape (opNumber_escape hesc z) (by cases escFF m <;> simp)
    have he : a.toNat = 0xFE ∨ a.toNat = 0xFF := by rw [ha]; cases escFF m <;> simp
    simp only [hab, List.cons_append, List.nil_append, decInsn, if_pos he]
    rw [ha, hn]
  | false =>
    have hn := opNumber_plain hesc z
    obtain ⟨b, hb, hv⟩ := opBytes_plain hn
    simp only [hb, List.cons_append, List.nil_append, decInsn, hv]
    rw [if_neg (by omega)]

/-! ### Specifiers (R281) -/

theorem extNum_natLE {n v : Nat} (h : v < 256 ^ n) (r : List Byte) (f : Nat → Spec) :
    extNum n (natLE n v ++ r) f = some (f v, r) := by
  rw [extNum, if_pos (by simp), List.take_left' (length_natLE n v), List.drop_left' (length_natLE n v), leNat_natLE,
    Nat.mod_eq_of_lt h]

/-- What `decSpec` reads behind a mode byte of MODE `k` and REG `g` that is no reserved combination. -/
def specOfMode (k g : Nat) (r : List Byte) : Option (Spec × List Byte) :=
  match k with
  | 0x0 => some (.imm4 g, r)
  | 0x1 => if g + 1 ≤ r.length then some (.imm (r.take (g + 1)), r.drop (g + 1)) else none
  | 0x2 => extNum 4 r .abs32
  | 0x3 => extNum 6 r .abs48
  | 0x4 => extNum 1 r (.disp8 g)
  | 0x5 => extNum 2 r (.disp16 g)
  | 0x6 => extNum 4 r (.disp32 g)
  | 0x7 => extNum 1 r (.index g)
  | 0x8 => some (.postInc g, r)
  | 0x9 => some (.preDec g, r)
  | 0xA => extNum 2 r (.memInd g)
  | 0xB => extNum 4 r .pcRel
  | 0xC => extNum 2 r .fpRel
  | 0xD => extNum 3 r .bitAbs
  | 0xE => extNum 2 r (.bitBase g)
  | _ => extNum 1 r fun x => .lsShort (g * 256 + x)

theorem decSpec_mode {m : Nat} (k g : Nat) (hm : m = 16 * k + g) (hk : k < 16) (hg : g < 16) (hres : modeReserved m = false)
    (r : List Byte) : decSpec (by8 m :: r) = specOfMode k g r := by
  have hbyte : (by8 m).toNat = m := toNat_by8 (by omega)
  have hmode : m / 16 = k := by omega
  have hreg : m % 16 = g := by omega
  simp only [decSpec, hbyte, hres, hmode, hreg]
  rfl

/-- A mode byte whose MODE takes a base register is reserved for no base register. -/
theorem decSpec_base {m : Nat} (k n : Nat) (hm : m = 16 * k + n) (hk : k ∈ [1, 4, 5, 6, 7, 8, 9, 10, 14]) (hn : n < 8) (r : List Byte) :
    decSpec (by8 m :: r) = specOfMode k n r := by
  have hall : ∀ k ∈ [1, 4, 5, 6, 7, 8, 9, 10, 14], k < 16 ∧ ∀ n < 8, modeReserved (16 * k + n) = false := by decide
  exact decSpec_mode k n hm (hall k hk).1 (by omega) (hm ▸ (hall k hk).2 n hn) r

theorem decSpec_encSpec {p : Spec} (h : p.wf = true) (r : List Byte) : decSpec (encSpec p ++ r) = some (p, r) := by
  cases p <;> simp only [Spec.wf, decide_eq_true_eq, Bool.and_eq_true] at h
  case imm4 v => exact decSpec_mode 0 v (by omega) (by decide) h (by simp [modeReserved]; omega) r
  case imm l =>
    refine (decSpec_base 1 (l.length - 1) rfl (by decide) (by omega) _).trans ?_
    have hlen : l.length - 1 + 1 = l.length := by omega
    simp [specOfMode, hlen]
  case abs32 a => exact (decSpec_mode 2 0 rfl (by decide) (by decide) rfl _).trans (extNum_natLE h r _)
  case abs48 a => exact (decSpec_mode 3 0 rfl (by decide) (by decide) rfl _).trans (extNum_natLE h r _)
  case disp8 n d => exact (decSpec_base 4 n rfl (by decide) h.1 _).trans (extNum_natLE h.2 r _)
  case disp16 n d => exact (decSpec_base 5 n rfl (by decide) h.1 _).trans (extNum_natLE h.2 r _)
  case disp32 n d => exact (decSpec_base 6 n rfl (by decide) h.1 _).trans (extNum_natLE h.2 r _)
  case index n x => exact (decSpec_base 7 n rfl (by decide) h.1 _).trans (extNum_natLE h.2 r _)
  case postInc n => exact decSpec_base 8 n rfl (by decide) h r
  case preDec n => exact decSpec_base 9 n rfl (by decide) h r
  case memInd n d => exact (decSpec_base 10 n rfl (by decide) h.1 _).trans (extNum_natLE h.2 r _)
  case pcRel d => exact (decSpec_mode 11 0 rfl (by decide) (by decide) rfl _).trans (extNum_natLE h r _)
  case fpRel d => exact (decSpec_mode 12 0 rfl (by decide) (by decide) rfl _).trans (extNum_natLE h r _)
  case bitAbs x => exact (decSpec_mode 13 0 rfl (by decide) (by decide) rfl _).trans (extNum_natLE h r _)
  case bitBase n d => exact (decSpec_base 14 n rfl (by decide) h.1 _).trans (extNum_natLE h.2 r _)
  case lsShort o =>
    have hmode : modeReserved (0xF0 + o / 256) = false := by
      have : (0xF0 + o / 256) / 16 = 15 := by omega
      simp [modeReserved, this]
    have hext := extNum_natLE (n := 1) (show o % 256 < 256 ^ 1 by omega) r fun x => .lsShort (o / 256 * 256 + x)
    rw [Nat.div_add_mod'] at hext
    exact (decSpec_mode 15 (o / 256) rfl (by decide) (by omega) hmode _).trans hext
  case reserved m =>
    have hbyte : (by8 m).toNat = m := toNat_by8 h.1
    simp [encSpec, decSpec, hbyte, h.2]

theorem length_encSpec {p : Spec} : (encSpec p).length = specLen p := by
  cases p <;> simp [encSpec, specLen]
  omega

/-! ### The specifiers of an instruction (R287) -/

/-- Whether specifiers are as many as an instruction's `n` operands, or end at the first reserved one. -/
def specsFit (n : Nat) (l : List Spec) : Bool :=
  let k := (l.takeWhile fun p => !specReserved p).length
  (k == l.length && k == n) || (k + 1 == l.length && decide (k < n))

theorem specsFit_nil {n : Nat} : specsFit n [] = true ↔ n = 0 := by
  cases n <;> simp [specsFit]

theorem specsFit_reserved {n : Nat} {p : Spec} {l : List Spec} (hp : specReserved p = true) :
    specsFit n (p :: l) = true ↔ l = [] ∧ 0 < n := by
  simp [specsFit, hp]

theorem specsFit_cons {n : Nat} {p : Spec} {l : List Spec} (hp : specReserved p = false) :
    specsFit n (p :: l) = true ↔ ∃ m, n = m + 1 ∧ specsFit m l = true := by
  cases n <;> simp [specsFit, hp]

theorem decSpecs_encSpecs {l : List Spec} (hwf : ∀ p ∈ l, p.wf = true) (r : List Byte) {n : Nat} (hfit : specsFit n l = true) :
    decSpecs n (encSpecs l ++ r) = some (l, r) := by
  induction l generalizing n with
  | nil => rw [specsFit_nil.1 hfit]; rfl
  | cons p l ih =>
    obtain ⟨hp, hl⟩ := List.forall_mem_cons.1 hwf
    cases hres : specReserved p with
    | true =>
      obtain ⟨rfl, hn⟩ := (specsFit_reserved hres).1 hfit
      obtain ⟨m, rfl⟩ := Nat.exists_eq_add_one_of_ne_zero hn.ne'
      simp [encSpecs, decSpecs, hres, decSpec_encSpec hp]
    | false =>
      obtain ⟨m, rfl, hrest⟩ := (specsFit_cons hres).1 hfit
      simp [encSpecs, decSpecs, hres, decSpec_encSpec hp, ih hl hrest]

theorem specLen_reserved {p : Spec} (h : specReserved p = true) : specLen p = 1 := by
  cases p <;> simp_all [specReserved, specLen]

theorem length_encSpecs (l : List Spec) : (encSpecs l).length = specsLen l := by
  induction l with
  | nil => rfl
  | cons p l ih =>
    cases hres : specReserved p with
    | true =>
      rw [encSpecs, specsLen, if_pos hres, if_pos hres, length_encSpec, specLen_reserved hres]
    | false => simp [encSpecs, specsLen, hres, ih, length_encSpec]

/-! ### Instructions (R287, R288) -/

theorem insnCanon_iff {i : AgInsn} : insnCanon i = true ↔
    (isSized i.mn = true ∨ i.z = .b) ∧ (∀ p ∈ i.ops, p.wf = true) ∧ specsFit (formsOf i.mn i.z).length i.ops = true := by
  simp [insnCanon, specsFit, and_assoc]

theorem decOps_encSpecs {i : AgInsn} (h : insnCanon i = true) (r : List Byte) :
    decOps (opNumber i.mn i.z) (encSpecs i.ops ++ r) = .insn i r := by
  obtain ⟨hz, hwf, hfit⟩ := insnCanon_iff.1 h
  rw [decOps, opOf_opNumber hz]
  simp only
  rw [decSpecs_encSpecs hwf r hfit]

theorem decInsn_encInsn {i : AgInsn} (h : insnCanon i = true) (r : List Byte) : decInsn (encInsn i ++ r) = .insn i r := by
  rw [encInsn, List.append_assoc, decInsn_opBytes, decOps_encSpecs h]

theorem length_encInsn (i : AgInsn) : (encInsn i).length = insnLen i := by
  rw [encInsn, List.length_append, length_opBytes, length_encSpecs, insnLen]

theorem rpOf_rpByte (p : Rp) : rpOf (by8 (rpByte p)).toNat = some p := by cases p <;> rfl

theorem decTop_plain {b : Byte} (h : rpOf b.toNat = none) (r : List Byte) : decTop (b :: r) = (none, decInsn (b :: r)) := by
  rw [decTop, h]

theorem decTop_repeated (p : Rp) {b : Byte} (h : rpOf b.toNat = none) (hff : b.toNat ≠ 0xFF) (r : List Byte) :
    decTop (by8 (rpByte p) :: b :: r) = (some p, decInsn (b :: r)) := by
  rw [decTop, rpOf_rpByte]
  simp [h, hff]

/-- Settles O60: no two mnemonics share an opcode number, each specifier is read back from its bytes, and a list of specifiers is
by induction. -/
theorem agrekEncoding : Obligations.AgrekEncoding := by
  intro i r h
  obtain ⟨b, rest, hb, hrp, hff⟩ := opBytes_first i.mn i.z
  have henc : encInsn i ++ r = b :: (rest ++ encSpecs i.ops ++ r) := by rw [encInsn, hb]; rfl
  have hdec := decInsn_encInsn h r
  refine ⟨hdec, fun p hesc => ?_, ?_, length_encInsn i⟩
  · rw [henc, decTop_repeated p hrp (hff hesc), ← henc, hdec]
  · rw [henc, decTop_plain hrp, ← henc, hdec]

end Sys2Proof.Machine
end

section
/-!
PROOFS. Agrek: the stack instructions, what fetch and decode raise, and the entry to an interrupt (10_agrek_model.md R262, R264, R288, R294;
11_agrek_instructions.md R300, R312, R322, R323; 21_register_pages.md R510).
-/

namespace Sys2Proof.Machine

/-! ### The stack (R264, R300, R312, R323) -/

/-- A command that runs an instruction whose effect completes with `o` does what the instruction says. -/
theorem agDoes_of_sem {ins : Instr} {c : CoreId} {i : AgInsn} {P : AgIn → Prop} {sem : Sem} {o : AgIn → AgOut}
    (hexec : ∀ s, exec ins s = .next (s.agRun c i sem)) (hsem : ∀ x, P x → sem x = .done (o x)) : AgDoes ins c i P o :=
  fun s x hready hP => (hexec s).trans (congrArg Host.Outcome.next (State.agRun_ready hready (hsem x hP)))

/-- Settles O5: each command runs its effect, which says what it pushes or reads at B7. -/
theorem agrekStack : Obligations.AgrekStack := by
  intro c
  refine ⟨fun src => agDoes_of_sem (sem := semPush) (fun _ => rfl) fun _ _ => rfl,
    fun addr => agDoes_of_sem (sem := semPushe) (fun _ => rfl) fun _ _ => rfl,
    fun dst => agDoes_of_sem (sem := semPop) (fun _ => rfl) fun _ _ => rfl,
    fun target => agDoes_of_sem (sem := semCall) (fun _ => rfl) fun _ _ => rfl,
    agDoes_of_sem (sem := semRet) (fun _ => rfl) fun _ _ => rfl, agDoes_of_sem (sem := semRte) (fun _ => rfl) fun _ _ => rfl⟩

/-! ### Fetch and decode (R262, R288, R322) -/

section
variable {s : State} {c : CoreId} {len : Nat} {found : List Exc}

/-- An instruction that does not lie whole in one place raises Access Violation at fetch, whatever else is wrong with it. -/
theorem State.fetchExc_noPlace (h : placeOf c (s.core (keyOf c)) (s.core (keyOf c)).pc len .ex = none) :
    s.fetchExc c len found = some (Exc.fetch (s.core (keyOf c)).pc) := by
  simp only [State.fetchExc, h]

/-- An instruction fetched from good words raises the first of what the decoder finds. -/
theorem State.fetchExc_fetched (h : (placeOf c (s.core (keyOf c)) (s.core (keyOf c)).pc len .ex).isSome = true)
    (hgood : ∀ a n, s.poison a n = none) : s.fetchExc c len found = firstExc found := by
  obtain ⟨p, hp⟩ := Option.isSome_iff_exists.1 h
  cases p <;> simp only [State.fetchExc, hp, hgood]

theorem State.agRun_raises {i : AgInsn} {x : Exc} (hrun : s.coreRuns? c = true)
    (h : s.fetchExc c (insnLen (fullInsn i)) (decodeExc c (fullInsn i)) = some x) (sem : Sem) : s.agRun c i sem = s.raiseExc c x := by
  simp only [State.agRun, hrun, h, Bool.not_true, Bool.false_eq_true, if_false]

theorem State.agIllegal_raises {x : Exc} (hrun : s.coreRuns? c = true) (h : s.fetchExc c len [Exc.opcode] = some x) :
    s.agIllegal c len = s.raiseExc c x := by
  simp only [State.agIllegal, hrun, h, Bool.not_true, Bool.false_eq_true, if_false]

/-- A class above the core's level comes before every operand. -/
theorem firstExc_privileged {i : AgInsn} (h : levelOf c < classOf i.mn) : firstExc (decodeExc c i) = some Exc.privileged := by
  rw [decodeExc, if_pos h]
  split
  · exact if_pos (by simp only [Exc.privileged, Exc.operand]; omega)
  · rfl

theorem State.agRun_privileged {i : AgInsn} (hrun : s.coreRuns? c = true)
    (h : (placeOf c (s.core (keyOf c)) (s.core (keyOf c)).pc (insnLen (fullInsn i)) .ex).isSome = true)
    (hgood : ∀ a n, s.poison a n = none) (hclass : levelOf c < classOf i.mn) (sem : Sem) :
    s.agRun c i sem = s.raiseExc c Exc.privileged :=
  State.agRun_raises hrun ((State.fetchExc_fetched h hgood).trans (firstExc_privileged hclass)) sem

end

/-- Settles O15: fetch comes before decode, and of what decode finds the class before the operands. -/
theorem agrekDecodeExceptions : Obligations.AgrekDecodeExceptions := by
  intro c s hrun
  refine ⟨fun bytes h => ?_, fun bytes h hgood => ?_, fun i h => ?_, fun i h hgood hclass => ?_, fun hsh h hgood => ?_⟩
  · exact congrArg Host.Outcome.next (State.agIllegal_raises hrun (State.fetchExc_noPlace h))
  · exact congrArg Host.Outcome.next (State.agIllegal_raises hrun (State.fetchExc_fetched h hgood))
  · exact State.agRun_raises hrun (State.fetchExc_noPlace h) _
  · exact State.agRun_privileged hrun h hgood hclass _
  · have hlevel : levelOf c = 0 := by cases c <;> simp_all [isShuttle, levelOf]
    exact ⟨congrArg Host.Outcome.next (State.agRun_privileged (i := ⟨.halt, .b, []⟩) hrun h hgood (by rw [hlevel]; decide) _),
      congrArg Host.Outcome.next (State.agRun_privileged (i := ⟨.wfi, .b, []⟩) hrun h hgood (by rw [hlevel]; decide) _)⟩

/-! ### Interrupts (R294, R510) -/

section
variable {s : State} {c : CoreId} {k : Core}

theorem exec_interruptEntry_none (h : s.nextVec c = none) : exec (.interruptEntry c) s = .next s := by
  show execInterruptEntry c s = _
  simp only [execInterruptEntry, h]

/-- A core that may be interrupted takes the vector with IE = 1; with IE = 0 it goes on where it waits for an interrupt. -/
theorem exec_interruptEntry_pending {v p : Nat} (h : s.nextVec c = some (v, p)) (hk : Tbl.at? s.cores (keyOf c) = some k)
    (hst : k.st ≠ .stopped) (hhalt : k.halted = false) (hrun : (s.updCore c fun d => { d with st := .run }).coreRuns? c = true) :
    exec (.interruptEntry c) s = .next (if k.psw.testBit 9 then (s.updCore c fun d => { d with st := .run }).enterExc c v p k.pc
      else if k.st = .waitInt then s.updCore c fun d => { d with st := .run } else s) := by
  show execInterruptEntry c s = _
  simp only [execInterruptEntry, h, hk]
  exact congrArg _ (if_neg (by simp [hst, hhalt, hrun]))

end

/-- Settles O18: a core that runs or waits takes the vector with IE = 1, and goes on from WFI with IE = 0. -/
theorem interruptEntry : Obligations.InterruptEntry := by
  intro s c k hk hhalt
  refine ⟨fun v p hv hst hrun hie => ?_, fun v p hv hst hrun hie => ?_, exec_interruptEntry_none⟩
  · rw [exec_interruptEntry_pending hv hk hst hhalt hrun, if_pos hie]
  · rw [exec_interruptEntry_pending hv hk (by simp [hst]) hhalt hrun, if_neg (by simp [hie]), if_pos hst]

end Sys2Proof.Machine
end

section
/-!
PROOFS. The frame of an Agrek instruction: which operands an effect writes, what the writes of phase 5 do to the core and to the fabric, and
what they leave alone (10_agrek_model.md R290 to R292).
-/

namespace Sys2Proof.Machine

/-! ### The operands that an effect writes (R287) -/

/-- Where an effect completes, it writes operands of the three that an instruction has. -/
def AgRes.WritesOperands : AgRes → Prop
  | .done o => ∀ e ∈ o.outs, e.1 < 3
  | _ => True

/-- The effect writes operands of the three, whatever its operands are. -/
def Sem.WritesOperands (f : Sem) : Prop := ∀ x, (f x).WritesOperands

theorem AgRes.writesOperands_done {o : AgOut} (h : ∀ e ∈ o.outs, e.1 < 3) : (AgRes.done o).WritesOperands := h
theorem AgRes.writesOperands_doneOne {o : AgOut} {i : Nat} {b : List Byte} (ho : o.outs = [(i, b)]) (h : i < 3) :
    (AgRes.done o).WritesOperands := by
  intro e he
  rw [ho, List.mem_singleton] at he
  exact he ▸ h
theorem AgRes.writesOperands_exc (e : Exc) : (AgRes.exc e).WritesOperands := trivial

section
variable (x : AgIn)

theorem AgIn.writesOperands_out {outs : List (Nat × List Byte)} (h : ∀ e ∈ outs, e.1 < 3) (f : FlagW) : (x.out outs f).WritesOperands :=
  h
theorem AgIn.writesOperands_one {i : Nat} (h : i < 3) (b : List Byte) (f : FlagW) : (x.out [(i, b)] f).WritesOperands :=
  x.writesOperands_out (by simpa using h) f
theorem AgIn.writesOperands_none (f : FlagW) : (x.out [] f).WritesOperands := x.writesOperands_out (by simp) f
theorem AgIn.writesOperands_last {i : Nat} (h : i < 3) (r : ResF) : (x.last i r).WritesOperands := x.writesOperands_one h _ _
theorem AgIn.writesOperands_decOut (z : Bool) {i : Nat} (h : i < 3) (v : Int) : (x.decOut z i v).WritesOperands := x.writesOperands_one h _ _

theorem AgIn.writesOperands_take (f : FlagW) {r : AgRes} (hr : r.WritesOperands) : ((x.take f).getD r).WritesOperands := by
  unfold AgIn.take
  split
  · exact hr
  · exact AgRes.writesOperands_done (by simp)

end

theorem semDivide_writesOperands (f : Nat → Nat → Nat → ResF) : Sem.WritesOperands (semDivide f) := by
  intro x
  unfold semDivide
  split
  · exact AgRes.writesOperands_exc _
  · exact x.writesOperands_last (by decide) _

/-- An effect on one decimal operand: Data Check, or what its value gives. -/
theorem AgRes.writesOperands_dec {d : Except Exc Int} {g : Int → AgRes} (h : ∀ v, (g v).WritesOperands) :
    AgRes.WritesOperands (match d with | .error e => .exc e | .ok v => g v) := by
  cases d with
  | error e => exact AgRes.writesOperands_exc e
  | ok v => exact h v

/-- An effect on two decimal operands: the first Data Check, or what their values give. -/
theorem AgRes.writesOperands_dec2 {d d' : Except Exc Int} {g : Int → Int → AgRes} (h : ∀ v w, (g v w).WritesOperands) :
    AgRes.WritesOperands (match d, d' with | .error e, _ => .exc e | _, .error e => .exc e | .ok v, .ok w => g v w) := by
  cases d with
  | error e => exact AgRes.writesOperands_exc e
  | ok v =>
    cases d' with
    | error e => exact AgRes.writesOperands_exc e
    | ok w => exact h v w

theorem semDec2_writesOperands (z : Bool) (f : Int → Int → Int) : Sem.WritesOperands (semDec2 z f) := fun x =>
  AgRes.writesOperands_dec2 (g := fun a b => x.decOut z 2 (f b a)) fun _ _ => x.writesOperands_decOut _ (by decide) _

theorem semDecMove_writesOperands (a b : Bool) : Sem.WritesOperands (semDecMove a b) := fun x =>
  AgRes.writesOperands_dec (g := fun v => x.decOut b 2 v) fun _ => x.writesOperands_decOut _ (by decide) _

theorem semDecCmp_writesOperands (z : Bool) : Sem.WritesOperands (semDecCmp z) := fun x =>
  AgRes.writesOperands_dec2 (g := fun a b => x.out [] (decCompare a b)) fun _ _ => x.writesOperands_none _

theorem semDdiv_writesOperands : Sem.WritesOperands semDdiv := fun x =>
  AgRes.writesOperands_dec2 (g := fun a b => if a = 0 then .exc Exc.divide else x.decOut false 2 (Int.tdiv b a)) fun a _ => by
    split
    · exact AgRes.writesOperands_exc _
    · exact x.writesOperands_decOut _ (by decide) _

theorem semDshf_writesOperands : Sem.WritesOperands semDshf := fun x =>
  let k := toSigned 8 (x.v 1)
  AgRes.writesOperands_dec (g := fun v => x.decOut false 2 (if 0 ≤ k then v * 10 ^ k.toNat else shiftRight10 v k.natAbs)) fun _ =>
    x.writesOperands_decOut _ (by decide) _

theorem semDtst_writesOperands : Sem.WritesOperands semDtst := fun x =>
  AgRes.writesOperands_dec (g := fun v => x.out [] { n := some (decide (v < 0)), z := some (decide (v = 0)) }) fun _ =>
    x.writesOperands_none _

theorem semDtol_writesOperands : Sem.WritesOperands semDtol := fun x =>
  AgRes.writesOperands_dec (g := fun v => x.out [(2, natLE 8 (ofSigned 64 v))]
    (flagsOf 64 (ofSigned 64 v) none (some (outOfSigned 64 v)))) fun _ => x.writesOperands_one (by decide) _ _

theorem semScmp_writesOperands : Sem.WritesOperands semScmp := by
  intro x
  unfold semScmp
  split <;> exact x.writesOperands_none _

theorem semCas_writesOperands : Sem.WritesOperands semCas := by
  intro x
  refine AgRes.writesOperands_done ?_
  dsimp only
  split <;> simp

theorem semHalt_writesOperands : Sem.WritesOperands semHalt := by
  intro x
  unfold semHalt
  split <;> exact AgRes.writesOperands_done (by simp)

theorem semWinset_writesOperands : Sem.WritesOperands semWinset := by
  intro x
  unfold semWinset
  dsimp only
  split <;> exact AgRes.writesOperands_done (by simp)

theorem semOf_writesOperands (m : Mn) : Sem.WritesOperands (semOf m) := by
  cases m with
  | mov | neg | not | add | sub | adc | sbc | mul | and | or | xor | andn | shl | shr | sar | sal | rol | ror | sxtbh | sxtbw | sxtbl
  | sxthw | sxthl | sxtwl | zxtbl | zxthl | zxtwl | nrwlw | nrwlh | nrwlb | clr | inc | dec =>
    exact fun x => x.writesOperands_last (by decide) _
  | div | rem => exact semDivide_writesOperands _
  | divu => exact semDivide_writesOperands fun w d a => aluMov w (d / a)
  | remu => exact semDivide_writesOperands fun w d a => aluMov w (d % a)
  | cmp | tst | btst | chkrd | chkwr => exact fun x => x.writesOperands_none _
  | eal | bset | bclr | bcom | bmov | band | bor | bxor | bscan | bfex | bfin | smov | sfil | sxlt | scrc | winget =>
    exact fun x => x.writesOperands_one (by decide) _ _
  | btas | btac => exact fun x => AgIn.writesOperands_one _ (by decide) _ _
  | ltod => exact fun x => x.writesOperands_decOut _ (by decide) _
  | xchg => exact fun x => x.writesOperands_out (by simp) _
  | pop | dbp | post => exact fun x => AgRes.writesOperands_doneOne rfl (by decide)
  | xadd => exact fun x => AgRes.writesOperands_done (by simp)
  | pushe | push | call | ret | rte | trap | nop | fence | exit | yield | wfi | kload | kzap | sfnd | sskp | sscn | br | beq | bne | blt
  | bge | ble | bgt | bltu | bgeu | bleu | bgtu | bvs | bvc | bds | bbt | bbf => exact fun x => AgRes.writesOperands_done (by simp)
  | dadd | dsub | dmul | zadd | zsub => exact semDec2_writesOperands _ _
  | dmov | ztod | dtoz | zmov => exact semDecMove_writesOperands _ _
  | dcmp | zcmp => exact semDecCmp_writesOperands _
  | ddiv => exact semDdiv_writesOperands
  | dshf => exact semDshf_writesOperands
  | dtst => exact semDtst_writesOperands
  | dtol => exact semDtol_writesOperands
  | scmp => exact semScmp_writesOperands
  | cas => exact semCas_writesOperands
  | halt => exact semHalt_writesOperands
  | winset => exact semWinset_writesOperands
  | wcpl => exact fun x => x.writesOperands_take _ trivial
  | rcpl => exact fun x => x.writesOperands_take _ (x.writesOperands_one (by decide) _ _)
  | bkpt => exact fun x => AgRes.writesOperands_exc _

/-! ### Writes to the core leave its windows alone -/

theorem placeOf_congr (id : CoreId) {c d : Core} (h : c.wins = d.wins) (va n : Nat) (need : Need) :
    placeOf id c va n need = placeOf id d va n need := by
  simp only [placeOf, h]

@[simp] theorem Core.setSlot_wins (c : Core) (j v : Nat) : (c.setSlot j v).wins = c.wins := by
  unfold Core.setSlot
  split_ifs <;> rfl

@[simp] theorem Core.lsPut_wins (c : Core) (o : Nat) (v : Byte) : (c.lsPut o v).wins = c.wins := by
  unfold Core.lsPut
  split
  · exact Core.setSlot_wins ..
  · rfl

@[simp] theorem Core.lsWrite_wins (c : Core) (o : Nat) (l : List Byte) : (c.lsWrite o l).wins = c.wins :=
  List.foldlRecOn (motive := fun d : Core => d.wins = c.wins) l.zipIdx _ rfl fun d hd _ _ => (d.lsPut_wins _ _).trans hd

@[simp] theorem Core.store_wins (c : Core) (id : CoreId) (o : Nat) (l : List Byte) : (c.store id o l).wins = c.wins :=
  c.lsWrite_wins o l

/-! ### The stores of phase 5 (R290, R292) -/

/-- What bytes written to an operand store to the fabric: address, panel and bytes. -/
def fabStore (id : CoreId) (c : Core) (e : Loc × List Byte) : Option (Nat × Nat × List Byte) :=
  match e.1 with
  | .mem a =>
    match (if e.2 = [] then none else placeOf id c a e.2.length .wr) with
    | some (.fab f p _) => some (f, p, e.2)
    | _ => none
  | _ => none

theorem fabStore_congr (id : CoreId) {c d : Core} (h : c.wins = d.wins) : fabStore id c = fabStore id d := by
  funext e
  simp only [fabStore, placeOf_congr id h]

/-- The places that an outcome writes, with their bytes, in order: the operands, then the long pushed. -/
def AgOut.written (o : AgOut) (x : AgIn) : List (Loc × List Byte) :=
  o.outs.map (fun e => (x.locs.getD e.1 .bad, e.2)) ++
    (match o.push with
     | some v => [(.mem (addr48 ((o.c.setB 7 (o.c.breg 7 + 2 ^ 64 - 8)).breg 7)), natLE 8 v)]
     | none => [])

theorem AgOut.stores_eq (o : AgOut) (c : CoreId) (x : AgIn) :
    o.stores c x = ((o.written x).filterMap (fabStore c o.c)).map fun e => (e.1, e.2.2.length) := by
  rw [List.map_filterMap]
  refine congrArg (fun f => List.filterMap f (o.written x)) (funext fun e => ?_)
  obtain ⟨l, b⟩ := e
  cases l with
  | mem a =>
    dsimp only [fabStore]
    generalize (if b = [] then none else placeOf c o.c a b.length .wr) = place
    rcases place with _ | _ | _ | _ <;> rfl
  | _ => rfl

/-- One operand written leaves the core's windows, and adds to the stores what its bytes store to the fabric. -/
theorem Wr.put_fab (w : Wr) (s : State) (id : CoreId) (l : Loc) (b : List Byte) :
    (w.put s id l b).c.wins = w.c.wins ∧ (w.put s id l b).fab = w.fab ++ (fabStore id w.c (l, b)).toList := by
  cases l with
  | mem a =>
    dsimp only [Wr.put, fabStore]
    generalize (if b = [] then none else placeOf id w.c a b.length .wr) = place
    rcases place with _ | off | _ | ⟨f, p, _⟩
    · exact ⟨rfl, (List.append_nil _).symm⟩
    · exact ⟨w.c.store_wins id off b, (List.append_nil _).symm⟩
    · exact ⟨rfl, (List.append_nil _).symm⟩
    · exact ⟨rfl, rfl⟩
  | bit a =>
    simp only [Wr.put, fabStore]
    split <;> simp
  | _ => simp [Wr.put, fabStore]

/-- Places written one after the other. -/
def Wr.putAll (w : Wr) (s : State) (id : CoreId) (l : List (Loc × List Byte)) : Wr := l.foldl (fun w e => w.put s id e.1 e.2) w

theorem Wr.putAll_fab (w : Wr) (s : State) (id : CoreId) (l : List (Loc × List Byte)) :
    (w.putAll s id l).fab = w.fab ++ l.filterMap (fabStore id w.c) := by
  induction l generalizing w with
  | nil => simp [Wr.putAll]
  | cons e r ih =>
    obtain ⟨hwins, hfab⟩ := w.put_fab s id e.1 e.2
    refine (ih (w.put s id e.1 e.2)).trans ?_
    rw [hfab, fabStore_congr id hwins, List.append_assoc, List.filterMap_cons]
    cases fabStore id w.c e <;> simp

/-- Numbered operands written as `finishInsn` does: each where its specifier led, number 9 to the stack at `a`. -/
def Wr.putOperands (w : Wr) (x : AgIn) (s : State) (id : CoreId) (a : Nat) (outs : List (Nat × List Byte)) : Wr :=
  outs.foldl (fun w e => w.put s id (if e.1 = 9 then .mem a else x.locs.getD e.1 .bad) e.2) w

section
variable {outs : List (Nat × List Byte)} (h : ∀ e ∈ outs, e.1 < 3) (w : Wr) (x : AgIn) (s : State) (id : CoreId) (a : Nat)
include h

theorem Wr.putOperands_eq : w.putOperands x s id a outs = w.putAll s id (outs.map fun e => (x.locs.getD e.1 .bad, e.2)) := by
  rw [Wr.putAll, List.foldl_map]
  exact List.foldl_ext _ _ _ fun w e he => by rw [if_neg (by have := h e he; omega)]

theorem Wr.putOperands_pushed (b : List Byte) : w.putOperands x s id a (outs ++ [(9, b)]) =
    w.putAll s id ((outs.map fun e => (x.locs.getD e.1 .bad, e.2)) ++ [(.mem a, b)]) := by
  have hsplit : w.putOperands x s id a (outs ++ [(9, b)]) = (w.putOperands x s id a outs).put s id (.mem a) b := List.foldl_append
  rw [hsplit, Wr.putOperands_eq h, Wr.putAll, Wr.putAll, List.foldl_append]
  rfl

end

/-- Phase 5 changes its own core and the shared bits, then makes the stores in order. -/
theorem finishInsn_fst (c : CoreId) (x : AgIn) {o : AgOut} (h : ∀ e ∈ o.outs, e.1 < 3) : ∃ k g, (finishInsn c x o).1 =
    ((o.written x).filterMap (fabStore c o.c)).foldl (fun s e => s.coreWrite c e.1 e.2.1 e.2.2)
      { o.s with cores := Tbl.upd o.s.cores (keyOf c) fun _ => k, gbit := g } := by
  obtain ⟨os, oc, outs, flags, jump, psw, trap, push, quiet, fin⟩ := o
  cases push with
  | none =>
    refine ⟨_, _, congrArg (fun l => List.foldl _ _ l) ?_⟩
    rw [AgOut.written, List.append_nil]
    exact (congrArg Wr.fab (Wr.putOperands_eq h _ x os c _)).trans (Wr.putAll_fab _ os c _)
  | some v =>
    refine ⟨_, _, congrArg (fun l => List.foldl _ _ l) ?_⟩
    exact (congrArg Wr.fab (Wr.putOperands_pushed h _ x os c _ _)).trans (Wr.putAll_fab _ os c _)

/-! ### Stores to memory -/

section
variable {a : Nat} {l : List Byte} (ha : a < hostBase) (hr : inRegs a l.length = false)
include ha hr

/-- A store to memory changes memory, its check bits and the core's cache. -/
theorem State.coreWrite_frame (s : State) (id : CoreId) (p : Nat) :
    ∃ ig ca, s.coreWrite id a p l = { s with mem := memWrite s.mem a l, integ := ig, caches := ca } := by
  have hw : s.coreWrite id a p l = (s.fabWrite a l).cacheStore id a l := by
    rw [State.coreWrite, if_neg (Nat.not_le.2 ha), hr, if_neg Bool.false_ne_true]
  rw [hw]
  unfold State.cacheStore
  split <;> exact ⟨_, _, rfl⟩

end

/-- Stores to memory change no byte outside their ranges. -/
theorem State.foldl_coreWrite_frame (id : CoreId) {l : List (Nat × Nat × List Byte)}
    (h : ∀ e ∈ l, e.1 < hostBase ∧ inRegs e.1 e.2.2.length = false) (s : State) :
    ∃ m ig ca, l.foldl (fun s e => s.coreWrite id e.1 e.2.1 e.2.2) s = { s with mem := m, integ := ig, caches := ca } ∧
      ∀ a, (∀ e ∈ l, a < e.1 ∨ e.1 + e.2.2.length ≤ a) → memAt m a = memAt s.mem a := by
  induction l generalizing s with
  | nil => exact ⟨_, _, _, rfl, fun _ _ => rfl⟩
  | cons e r ih =>
    obtain ⟨⟨ha, hr⟩, hrest⟩ := List.forall_mem_cons.1 h
    obtain ⟨ig, ca, hfirst⟩ := State.coreWrite_frame ha hr s id e.2.1
    obtain ⟨m, _, _, hlater, hmem⟩ := ih hrest (s.coreWrite id e.1 e.2.1 e.2.2)
    rw [hfirst] at hlater hmem
    refine ⟨m, _, _, by rw [List.foldl_cons, hfirst, hlater], fun a hout => ?_⟩
    obtain ⟨hout, houts⟩ := List.forall_mem_cons.1 hout
    exact (hmem a houts).trans (memAt_memWrite_out _ _ _ _ hout)

/-- With no trap due, an instruction ends with its phase 5. -/
theorem agEnd_noTrap {s : State} {c : CoreId} {x : AgIn} {o : AgOut} (hfin : o.fin = id) (htrap : (finishInsn c x o).2 = [])
    (htr : (s.core (keyOf c)).psw.testBit 10 = false) : agEnd s c x o = (finishInsn c x o).1 := by
  simp [agEnd, hfin, htrap, traceTrap, Psw.tr, htr, State.takeTraps]

/-- Settles O19: the writes of phase 5 reach the core, its bits and, in order, the stored ranges. -/
theorem agrekFrame : Obligations.AgrekFrame := by
  intro s c i x o _ hsem hs hfin htrap htr hstores
  have houts : ∀ e ∈ o.outs, e.1 < 3 := by simpa only [AgRes.WritesOperands, hsem] using semOf_writesOperands i.mn x
  obtain ⟨k, g, hfinish⟩ := finishInsn_fst c x houts
  rw [agEnd_noTrap hfin htrap htr, hfinish]
  rw [AgOut.stores_eq] at hstores ⊢
  generalize (o.written x).filterMap (fabStore c o.c) = stores at *
  obtain ⟨m, ig, ca, hframe, hmem⟩ := State.foldl_coreWrite_frame c (List.forall_mem_map.1 hstores)
    { o.s with cores := Tbl.upd o.s.cores (keyOf c) fun _ => k, gbit := g }
  refine ⟨?_, fun j hj => ?_, fun a ha => ?_, fun hnone => ?_⟩
  · rw [hframe, hs]
  · rw [hframe, hs, Tbl.at?_upd, if_neg (Ne.symm hj)]
  · rw [hframe]
    exact (hmem a (List.forall_mem_map.1 ha)).trans (by rw [hs])
  · obtain rfl := List.map_eq_nil_iff.1 hnone
    rw [List.foldl_nil, hs]
    exact ⟨rfl, rfl, rfl⟩

end Sys2Proof.Machine
end

section
/-!
PROOFS. Agrek instructions between registers: the register block in local store, the five phases of an instruction whose operands are base
registers, and what it leaves (10_agrek_model.md R263, R265, R281, R290; 11_agrek_instructions.md R300).
-/

namespace Sys2Proof.Machine

/-! ### Bits of a number replaced -/

theorem bitsPut_eq (v lo w x : Nat) : bitsPut v lo w x = 2 ^ lo * (2 ^ w * (v / 2 ^ lo / 2 ^ w) + x % 2 ^ w) + v % 2 ^ lo := by
  have hv : 2 ^ lo * (v / 2 ^ lo) + v % 2 ^ lo = v := Nat.div_add_mod ..
  have hq : 2 ^ w * (v / 2 ^ lo / 2 ^ w) + v / 2 ^ lo % 2 ^ w = v / 2 ^ lo := Nat.div_add_mod ..
  have hsplit : 2 ^ lo * (2 ^ w * (v / 2 ^ lo / 2 ^ w)) + v / 2 ^ lo % 2 ^ w * 2 ^ lo + v % 2 ^ lo = v := by
    rw [Nat.mul_comm (v / 2 ^ lo % 2 ^ w), ← Nat.mul_add, hq, hv]
  rw [bitsPut, bitsAt, Nat.mul_add, Nat.mul_comm (x % 2 ^ w)]
  omega

theorem testBit_bitsPut (v lo w x i : Nat) :
    (bitsPut v lo w x).testBit i = if lo ≤ i ∧ i < lo + w then x.testBit (i - lo) else v.testBit i := by
  have hlow : v % 2 ^ lo < 2 ^ lo := Nat.mod_lt _ (Nat.two_pow_pos lo)
  have hx : x % 2 ^ w < 2 ^ w := Nat.mod_lt _ (Nat.two_pow_pos w)
  rw [bitsPut_eq, Nat.testBit_two_pow_mul_add _ hlow, Nat.testBit_two_pow_mul_add _ hx, Nat.testBit_mod_two_pow, Nat.testBit_mod_two_pow,
    Nat.testBit_div_two_pow, Nat.testBit_div_two_pow]
  rcases Nat.lt_or_ge i lo with hbelow | hlo
  · simp [hbelow, Nat.not_le.2 hbelow]
  · rcases Nat.lt_or_ge i (lo + w) with hin | habove
    · have hw : i - lo < w := by omega
      simp [hlo, hin, hw, Nat.not_lt.2 hlo]
    · have hw : ¬ i - lo < w := by omega
      have hi : i - lo - w + w + lo = i := by omega
      simp [Nat.not_lt.2 hlo, Nat.not_lt.2 habove, hw, hi]

theorem bitsPut_self (v lo w : Nat) : bitsPut v lo w (v / 2 ^ lo) = v := by
  refine Nat.eq_of_testBit_eq fun i => ?_
  rw [testBit_bitsPut, Nat.testBit_div_two_pow]
  split_ifs with h
  · congr 1; omega
  · rfl

/-- Bits replaced in two neighbouring parts are replaced as one. -/
theorem bitsPut_bitsPut (v lo a b x : Nat) : bitsPut (bitsPut v lo a x) (lo + a) b (x / 2 ^ a) = bitsPut v lo (a + b) x := by
  refine Nat.eq_of_testBit_eq fun i => ?_
  simp only [testBit_bitsPut, Nat.testBit_div_two_pow]
  rcases Nat.lt_or_ge i (lo + a) with hin | hpast
  · have hleft : i < lo + (a + b) := by omega
    simp [Nat.not_le.2 hin, hin, hleft]
  · have hlo : lo ≤ i := by omega
    have hi : i - (lo + a) + a = i - lo := by omega
    simp [hpast, hlo, hi, Nat.not_lt.2 hpast, Nat.add_assoc]

theorem bitsPut_mod (v lo w x : Nat) : bitsPut v lo w (x % 2 ^ w) = bitsPut v lo w x := by
  rw [bitsPut, bitsPut, Nat.mod_mod]

theorem bitsPut_lt {v lo w x n : Nat} (hv : v < 2 ^ n) (h : lo + w ≤ n) : bitsPut v lo w x < 2 ^ n := by
  refine Nat.lt_pow_two_of_testBit _ fun i hi => ?_
  rw [testBit_bitsPut, if_neg (by omega)]
  exact Nat.testBit_lt_two_pow (Nat.lt_of_lt_of_le hv (Nat.pow_le_pow_right (by decide) hi))

/-! ### The register block (R263, R265) -/

theorem natLE_eq_map (n v : Nat) : natLE n v = (List.range n).map fun i => BitVec.ofNat 8 (v / 256 ^ i) := by
  induction n generalizing v with
  | zero => rfl
  | succ n ih =>
    rw [natLE, ih, List.range_succ_eq_map, List.map_cons, List.map_map, pow_zero, Nat.div_one]
    refine congrArg _ (List.map_congr_left fun i _ => ?_)
    rw [Nat.div_div_eq_div_mul, Function.comp, Nat.succ_eq_add_one, Nat.pow_succ']

/-- Bytes put one after the other into a number, from byte `j` on. -/
def putBytes (w j : Nat) : List Byte → Nat
  | [] => w
  | b :: r => putBytes (bitsPut w (8 * j) 8 b.toNat) (j + 1) r

theorem putBytes_natLE (w j n v : Nat) : putBytes w j (natLE n v) = bitsPut w (8 * j) (8 * n) v := by
  induction n generalizing w j v with
  | zero => simp [natLE, putBytes, bitsPut, bitsAt, Nat.mod_one]
  | succ n ih =>
    rw [natLE, putBytes, ih, BitVec.toNat_ofNat, bitsPut_mod]
    exact (bitsPut_bitsPut w (8 * j) 8 (8 * n) v).trans (by rw [Nat.mul_succ, Nat.add_comm])

section
variable {k : Core} {n : Nat}

theorem Core.breg_lt (k : Core) (n : Nat) : k.breg n < 2 ^ 64 := (k.b.getD n 0).isLt

theorem Core.slot_breg (hn : n < 8) : k.slot n = k.breg n := if_pos hn

theorem Core.breg_setB (hn : n < k.b.length) {v : Nat} (hv : v < 2 ^ 64) : (k.setB n v).breg n = v := by
  simpa [Core.breg, Core.setB, hn] using hv

theorem Core.setB_setB (k : Core) (n v w : Nat) : (k.setB n v).setB n w = k.setB n w := by
  simp [Core.setB]

theorem Core.setB_mod (k : Core) (n v : Nat) : k.setB n (v % 2 ^ 64) = k.setB n v := by
  have hv : BitVec.ofNat 64 (v % 2 ^ 64) = BitVec.ofNat 64 v := BitVec.eq_of_toNat_eq (by simp)
  rw [Core.setB, Core.setB, hv]

theorem Core.setB_breg (hn : n < k.b.length) : k.setB n (k.breg n) = k := by
  simp [Core.setB, Core.breg, hn]

/-- Eight bytes of a base register's slot read as the register. -/
theorem Core.lsRead_breg (k : Core) (hn : n < 8) : k.lsRead (8 * n) 8 = natLE 8 (k.breg n) := by
  rw [natLE_eq_map, Core.lsRead]
  refine List.map_congr_left fun i hi => ?_
  have hi := List.mem_range.1 hi
  have hslot : (8 * n + i) / 8 = n := by omega
  have hbyte : (8 * n + i) % 8 = i := by omega
  rw [Core.lsByte, if_pos (by omega), hslot, hbyte, Core.slot_breg hn]

theorem Core.lsPut_breg (k : Core) (hn : n < 8) {j : Nat} (hj : j < 8) (v : Byte) :
    k.lsPut (8 * n + j) v = k.setB n (bitsPut (k.breg n) (8 * j) 8 v.toNat) := by
  have hslot : (8 * n + j) / 8 = n := by omega
  have hbyte : (8 * n + j) % 8 = j := by omega
  rw [Core.lsPut, if_pos (by omega), hslot, hbyte, Core.slot_breg hn, Core.setSlot, if_pos hn]

theorem Core.foldl_lsPut_breg (hn : n < 8) (l : List Byte) {j : Nat} (hj : j + l.length ≤ 8) (hk : n < k.b.length) :
    (l.zipIdx j).foldl (fun c e => c.lsPut (8 * n + e.2) e.1) k = k.setB n (putBytes (k.breg n) j l) := by
  induction l generalizing j k with
  | nil => exact (Core.setB_breg hk).symm
  | cons v r ih =>
    rw [List.length_cons] at hj
    have hlt : bitsPut (k.breg n) (8 * j) 8 v.toNat < 2 ^ 64 := bitsPut_lt (k.breg_lt n) (by omega)
    rw [List.zipIdx_cons, List.foldl_cons, Core.lsPut_breg k hn (by omega), ih (by omega) (by simpa [Core.setB] using hk),
      Core.breg_setB hk hlt, Core.setB_setB, putBytes]

theorem pswWritten_same (level psw : Nat) : pswWritten level psw psw = psw := by
  have h := bitsPut_self psw 0 (if level = 0 then 9 else 11)
  rwa [pow_zero, Nat.div_one] at h

/-- A long stored to a base register's slot sets the register and nothing else. -/
theorem Core.store_breg (hn : n < 8) (hk : n < k.b.length) (id : CoreId) (v : Nat) :
    k.store id (8 * n) (natLE 8 v) = k.setB n v := by
  have hput : k.lsWrite (8 * n) (natLE 8 v) = k.setB n v := by
    have hlong : bitsPut (k.breg n) 0 64 v = v % 2 ^ 64 := by
      have hhigh : k.breg n / 2 ^ 64 = 0 := Nat.div_eq_of_lt (k.breg_lt n)
      rw [bitsPut_eq, pow_zero, Nat.div_one, hhigh, Nat.mod_one, Nat.mul_zero, Nat.zero_add, Nat.one_mul, Nat.add_zero]
    rw [Core.lsWrite, Core.foldl_lsPut_breg hn _ (by simp) hk, putBytes_natLE, hlong, Core.setB_mod]
  rw [Core.store, hput]
  exact congrArg (fun p => { k.setB n v with psw := p }) (pswWritten_same _ _)

end

/-! ### Phases 1 to 4 between registers (R281, R290) -/

/-- Where a base register stands in local store. -/
def regLoc (n : Nat) : Loc := .mem (lsBase + 8 * n)

theorem placeOf_register (id : CoreId) (k : Core) {n : Nat} (hn : n < 8) {need : Need} (hneed : need ≠ .ex) :
    placeOf id k (lsBase + 8 * n) 8 need = some (.ls (8 * n)) := by
  have hsize : 0x20000 ≤ lsSize id := by cases id <;> simp [lsSize]
  rw [placeOf, if_pos (Nat.le_add_right ..), if_pos (by omega), Nat.add_sub_cancel_left]
  exact if_neg (by simp only [hneed, false_and, or_false]; omega)

/-- An instruction of a long source and a long destination, of the plain integer ones. -/
def plainLong : List Mn := [.mov, .add, .sub, .and, .or, .xor]

/-- Whether an instruction of `plainLong` reads its destination. -/
def readsDst (mn : Mn) : Bool := mn != .mov

section
variable {mn : Mn} (hmn : mn ∈ plainLong)
include hmn

theorem formsOf_plainLong : formsOf mn .l = [.r (.int 8), ⟨readsDst mn, true, false, .int 8⟩] := by
  have hall : ∀ mn ∈ plainLong, formsOf mn .l = [.r (.int 8), ⟨readsDst mn, true, false, .int 8⟩] := by decide
  exact hall mn hmn

/-- They have no length operand, no stack, no fence and one opcode byte, and every core may run them. -/
theorem plainLong_facts : hasLen mn = false ∧ stackSpan mn = (fun _ => none) ∧ mn ≠ .cas ∧ mn ≠ .xadd ∧ opcodeLen mn = 1 ∧
    classOf mn = 0 := by
  simp only [plainLong, List.mem_cons, List.not_mem_nil, or_false] at hmn
  rcases hmn with rfl | rfl | rfl | rfl | rfl | rfl <;> exact ⟨by decide, rfl, by decide, by decide, by decide, rfl⟩

theorem valueIllegal_plainLong (locs : List Loc) (val : Nat → Option Nat) : valueIllegal mn .l locs val = [] := by
  simp only [plainLong, List.mem_cons, List.not_mem_nil, or_false] at hmn
  rcases hmn with rfl | rfl | rfl | rfl | rfl | rfl <;> rfl

end

section
variable (s : State) (c : CoreId) (k : Core) {n : Nat} (hn : n < 8)

/-- Two registers named by local-store specifiers are evaluated with nothing changed. -/
theorem evalSpecs_registers {mn : Mn} (hlen : hasLen mn = false) (pc at_ : Nat) (fs : List Form) (ps : List Spec) (f g : Form) (m n : Nat)
    (e : Ev) : evalSpecs c pc mn fs ps 0 at_ [(f, .lsShort (8 * m)), (g, .lsShort (8 * n))] e =
      { e with locs := e.locs ++ [regLoc m, regLoc n] } := by
  simp [evalSpecs, Ev.spec, Ev.put, hlen, regLoc]

include hn

theorem readLoc_register (j : Nat) : readLoc s c k j (.int 8) (regLoc n) 8 = (.ok (natLE 8 (k.breg n)), s) := by
  simp [readLoc, regLoc, placeOf_register c k hn, State.coreRead, Core.lsRead_breg k hn]

theorem rightsExc_register (j : Nat) (f : Form) : rightsExc s c k j f (regLoc n) 8 = [] := by
  simp [rightsExc, regLoc, placeOf_register c k hn]

theorem partExc_register (j : Nat) (f : Form) : partExc s c k j f (regLoc n) 8 = [] := by
  simp [partExc, regLoc, placeOf_register c k hn, State.writePoison]

end

/-- What a plain long instruction from register `m` to register `n` of core `k` computes with. -/
def regIn (s : State) (c : CoreId) (k : Core) (mn : Mn) (m n next : Nat) : AgIn :=
  { s := s, c := k, id := c, z := .l, n := 0, locs := [regLoc m, regLoc n], lens := [8, 8],
    vals := [natLE 8 (k.breg m), if readsDst mn then natLE 8 (k.breg n) else []], stk := [], pc := k.pc, next := next }

/-- A plain long instruction from register `m` to register `n`. -/
def regInsn (mn : Mn) (m n : Nat) : AgInsn := ⟨mn, .l, [.lsShort (8 * m), .lsShort (8 * n)]⟩

section
variable {s : State} {c : CoreId} {k : Core} {mn : Mn} {m n : Nat} (hk : s.core (keyOf c) = k) (hmn : mn ∈ plainLong)
  (hm : m < 8) (hn : n < 8)
include hk hmn hm hn

theorem State.operandsOf_register (next len0 : Nat) :
    s.operandsOf c (regInsn mn m n) false next len0 = .ok (regIn s c k mn m n next) := by
  obtain ⟨hlen, hstack, hcas, hxadd, -⟩ := plainLong_facts hmn
  have hread : readAll c k 0 [(⟨true, false, false, .int 8⟩, regLoc m, 8), (⟨readsDst mn, true, false, .int 8⟩, regLoc n, 8)] s [] =
      (.ok (regIn s c k mn m n next).vals, s) := by
    cases h : readsDst mn <;> simp [readAll, readLoc_register s c k hm, readLoc_register s c k hn, regIn, h]
  simp only [State.operandsOf, regInsn, formsOf_plainLong hmn, hk, hstack, valueIllegal_plainLong hmn, hcas, hxadd, List.zip_cons_cons,
    List.zip_nil_right, evalSpecs_registers c hlen]
  simp [coverOf, Ty.bytes, Form.r, rightsExc_register s c k hm, rightsExc_register s c k hn, hread, partExc_register s c k hm,
    partExc_register s c k hn, firstExc, leastBy, regIn]

/-- The instruction meets no exception, where it lies whole in local store or ROM. -/
theorem agReady_register {o : Nat} (hrun : s.coreRuns? c = true)
    (hplace : placeOf c k k.pc 5 .ex = some (.ls o) ∨ placeOf c k k.pc 5 .ex = some (.rom o)) :
    AgReady s c (regInsn mn m n) (regIn s c k mn m n (addr48 (k.pc + 5))) := by
  obtain ⟨-, -, -, -, hop, hclass⟩ := plainLong_facts hmn
  have hforms := formsOf_plainLong hmn
  have hfull : fullInsn (regInsn mn m n) = regInsn mn m n := by simp [fullInsn, regInsn, hforms, List.range_succ]
  have hlen : insnLen (regInsn mn m n) = 5 := by simp [insnLen, regInsn, hop, specsLen, specReserved, specLen]
  have hdec : decodeExc c (regInsn mn m n) = [] := by
    simp [decodeExc, regInsn, hclass, hforms, specLegal, Form.r]
  refine ⟨hrun, ?_, ?_⟩
  · rw [hfull, hlen, hdec, State.fetchExc, hk]
    rcases hplace with h | h <;> simp [h, firstExc, leastBy]
  · rw [hfull, hlen, hk]
    exact State.operandsOf_register hk hmn hm hn _ _

end

/-! ### Phase 5 between registers (R265, R290) -/

/-- A long written to a base register sets it, and names neither the PC nor the PSW. -/
theorem Wr.put_register (w : Wr) (s : State) (id : CoreId) {n : Nat} (hn : n < 8) (hb : n < w.c.b.length) (r : Nat) :
    w.put s id (regLoc n) (natLE 8 r) = { w with c := w.c.setB n r } := by
  have hpc : namesSlot (lsBase + 8 * n) 8 8 = false := decide_eq_false (by omega)
  have hpsw : namesSlot (lsBase + 8 * n) 8 9 = false := decide_eq_false (by omega)
  have hne : natLE 8 r ≠ [] := List.ne_nil_of_length_pos (by simp)
  simp only [Wr.put, regLoc, if_neg hne, length_natLE, placeOf_register id w.c hn (need := .wr) nofun, hpc, hpsw, Bool.or_false,
    Core.store_breg hn hb]

section
variable {s : State} {c : CoreId} {k : Core} {mn : Mn} {m n next : Nat} {f : FlagW} (hk : s.core (keyOf c) = k) (hn : n < 8)
  (hb : k.b.length = 8) (hvt : k.psw.testBit 5 = false) (htr : k.psw.testBit 10 = false) (hd : f.d = none)
include hn hb hvt hd

/-- Phase 5 of a plain long instruction between registers: the register, the flags, the PC, and no trap. -/
theorem finishInsn_register (r : Nat) :
    let x := regIn s c k mn m n next
    finishInsn c x (x.ends [(1, natLE 8 r)] f) =
      ({ s with cores := Tbl.upd s.cores (keyOf c) fun _ => { k.setB n r with psw := f.into k.psw, pc := addr48 next } }, []) := by
  intro x
  have hput (w : Wr) (hw : w.c.b = k.b) : w.put s c (regLoc n) (natLE 8 r) = { w with c := w.c.setB n r } :=
    w.put_register s c hn (by rwa [hw, hb]) r
  simp [finishInsn, x, regIn, AgIn.ends, hput, hvt, hd, Psw.vt, Core.setB]

include hk htr

theorem agEnd_register (r : Nat) :
    let x := regIn s c k mn m n next
    agEnd s c x (x.ends [(1, natLE 8 r)] f) =
      { s with cores := Tbl.upd s.cores (keyOf c) fun _ => { k.setB n r with psw := f.into k.psw, pc := addr48 next } } := by
  intro x
  have hfinish := finishInsn_register (s := s) (c := c) (mn := mn) (m := m) (next := next) hn hb hvt hd r
  rw [agEnd_noTrap rfl (congrArg Prod.snd hfinish) (hk ▸ htr)]
  exact congrArg Prod.fst hfinish

end

/-! ### The instructions (R300) -/

section
variable (s : State) (c : CoreId) (k : Core) {mn : Mn} (m n next : Nat)

theorem regIn_src : (regIn s c k mn m n next).v 0 = k.breg m :=
  (leNat_natLE 8 _).trans (Nat.mod_eq_of_lt (k.breg_lt m))

theorem regIn_dst (h : readsDst mn = true) : (regIn s c k mn m n next).v 1 = k.breg n := by
  rw [AgIn.v, regIn, if_pos h]
  exact (leNat_natLE 8 _).trans (Nat.mod_eq_of_lt (k.breg_lt n))

/-- The effect of an instruction on two longs, between registers. -/
theorem sem2_register (f : Nat → Nat → Nat → ResF) (h : readsDst mn = true) :
    sem2 f (regIn s c k mn m n next) = (regIn s c k mn m n next).last 1 (f 64 (k.breg n) (k.breg m)) := by
  rw [sem2, regIn_src, regIn_dst s c k m n next h]
  rfl

end

theorem aluAdd_noCarry (w b a : Nat) : aluAdd w b a 0 = ((b + a) % 2 ^ w, flagsOf w ((b + a) % 2 ^ w) (some (decide (2 ^ w ≤ b + a)))
    (some (outOfSigned w (toSigned w b + toSigned w a)))) := by
  simp [aluAdd]

theorem aluSub_noBorrow {w b a : Nat} (ha : a < 2 ^ w) : aluSub w b a 0 = ((b + 2 ^ w - a) % 2 ^ w,
    flagsOf w ((b + 2 ^ w - a) % 2 ^ w) (some (decide (b < a))) (some (outOfSigned w (toSigned w b - toSigned w a)))) := by
  have hmod : (b + 2 * 2 ^ w - a) % 2 ^ w = (b + 2 ^ w - a) % 2 ^ w := by
    rw [show b + 2 * 2 ^ w - a = b + 2 ^ w - a + 2 ^ w by omega, Nat.add_mod_right]
  simp [aluSub, hmod]

section
variable {s : State} {c : CoreId} {k : Core} {m n o : Nat} (hk : Tbl.at? s.cores (keyOf c) = some k) (hb : k.b.length = 8)
  (hm : m < 8) (hn : n < 8) (hrun : s.coreRuns? c = true)
  (hplace : placeOf c k k.pc 5 .ex = some (.ls o) ∨ placeOf c k k.pc 5 .ex = some (.rom o))
  (hvt : k.psw.testBit 5 = false) (htr : k.psw.testBit 10 = false)
include hk hb hm hn hrun hplace hvt htr

/-- A plain long instruction between registers, from the command to the state it leaves. -/
theorem exec_register {ins : Instr} {mn : Mn} (hmn : mn ∈ plainLong) {sem : Sem} {r : Nat} {f : FlagW} (hd : f.d = none)
    (hexec : exec ins s = .next (s.agRun c (regInsn mn m n) sem))
    (hsem : ∀ next, sem (regIn s c k mn m n next) = (regIn s c k mn m n next).last 1 (r, f)) :
    exec ins s = .next { s with
      cores := Tbl.upd s.cores (keyOf c) fun _ => { k.setB n r with psw := f.into k.psw, pc := addr48 (k.pc + 5) } } := by
  have hcore : s.core (keyOf c) = k := by rw [State.core, hk, Option.getD_some]
  have hpc : addr48 (addr48 (k.pc + 5)) = addr48 (k.pc + 5) := Nat.mod_mod ..
  rw [hexec, State.agRun_ready (agReady_register hcore hmn hm hn hrun hplace) (hsem _)]
  exact congrArg Host.Outcome.next ((agEnd_register hcore hn hb hvt htr hd r).trans (by rw [hpc]))

end

/-- Settles O20: between registers the operands are the registers' slots in local store, so nothing but the core changes. -/
theorem agrekRegisterForm : Obligations.AgrekRegisterForm := by
  intro s c k m n o hk hb hm hn hrun hplace _ hvt htr a b src dst leaves
  have run {ins : Instr} {mn : Mn} (hmn : mn ∈ plainLong) {sem : Sem} {r : Nat} {f : FlagW} :=
    exec_register hk hb hm hn hrun hplace hvt htr (ins := ins) hmn (sem := sem) (r := r) (f := f)
  refine ⟨run (mn := .mov) (by decide) rfl rfl fun next => ?_, run (mn := .add) (by decide) rfl rfl fun next => ?_,
    run (mn := .sub) (by decide) rfl rfl fun next => ?_, run (mn := .and) (by decide) rfl rfl fun next => ?_,
    run (mn := .or) (by decide) rfl rfl fun next => ?_, run (mn := .xor) (by decide) rfl rfl fun next => ?_⟩
  · rw [semMov, sem1, regIn_src]
    rfl
  · rw [← aluAdd_noCarry]
    exact sem2_register s c k m n next (fun w d a => aluAdd w d a 0) rfl
  · rw [← aluSub_noBorrow (k.breg_lt m)]
    exact sem2_register s c k m n next (fun w d a => aluSub w d a 0) rfl
  · exact sem2_register s c k m n next (fun w d a => aluMov w (Nat.land d a)) rfl
  · exact sem2_register s c k m n next (fun w d a => aluMov w (Nat.lor d a)) rfl
  · exact sem2_register s c k m n next (fun w d a => aluMov w (Nat.xor d a)) rfl

end Sys2Proof.Machine
end

section
/-!
PROOFS. The integer instructions of Agrek: moves, sums, products, quotients, logic and shifts, each from its effect and the equation of
the result it computes (11_agrek_instructions.md R299 to R302).
-/

namespace Sys2Proof.Machine

/-! ### What a command does, from its effect -/

/-- A command that runs an instruction whose effect is an exception raises it. -/
theorem agRaises_of_sem {ins : Instr} {c : CoreId} {i : AgInsn} {P : AgIn → Prop} {sem : Sem} {e : AgIn → Exc}
    (hexec : ∀ s, exec ins s = .next (s.agRun c i sem)) (hsem : ∀ x, P x → sem x = .exc (e x)) : AgRaises ins c i P e :=
  fun s x hready hP => (hexec s).trans (congrArg Host.Outcome.next (State.agRun_exc hready (hsem x hP)))

/-! ### Moves, extensions and exchanges (R299 to R301) -/

theorem aluMov_zero (w : Nat) : aluMov w 0 = (0, { v := some false, n := some false, z := some true }) := by
  simp [aluMov, flagsOf]

/-- Settles O1: each command runs its effect; of CLR the result 0 has neither sign nor a 1 bit. -/
theorem agrekMoves : Obligations.AgrekMoves := by
  intro c
  refine ⟨fun z src dst => agDoes_of_sem (sem := semMov) (fun _ => rfl) fun _ _ => rfl,
    fun z dst => agDoes_of_sem (sem := semClr) (fun _ => rfl) fun x _ => congrArg (x.last 0) (aluMov_zero x.w),
    fun z src dst => agDoes_of_sem (sem := semNot) (fun _ => rfl) fun _ _ => rfl,
    fun z a b => agDoes_of_sem (sem := semXchg) (fun _ => rfl) fun _ _ => rfl,
    fun src dst => agDoes_of_sem (sem := semSxt 8 16) (fun _ => rfl) fun _ _ => rfl,
    fun src dst => agDoes_of_sem (sem := semSxt 8 32) (fun _ => rfl) fun _ _ => rfl,
    fun src dst => agDoes_of_sem (sem := semSxt 8 64) (fun _ => rfl) fun _ _ => rfl,
    fun src dst => agDoes_of_sem (sem := semSxt 16 32) (fun _ => rfl) fun _ _ => rfl,
    fun src dst => agDoes_of_sem (sem := semSxt 16 64) (fun _ => rfl) fun _ _ => rfl,
    fun src dst => agDoes_of_sem (sem := semSxt 32 64) (fun _ => rfl) fun _ _ => rfl,
    fun src dst => agDoes_of_sem (sem := semZxt 64) (fun _ => rfl) fun _ _ => rfl,
    fun src dst => agDoes_of_sem (sem := semZxt 64) (fun _ => rfl) fun _ _ => rfl,
    fun src dst => agDoes_of_sem (sem := semZxt 64) (fun _ => rfl) fun _ _ => rfl,
    fun addr dst => agDoes_of_sem (sem := semEal) (fun _ => rfl) fun _ _ => rfl⟩

/-! ### Sums, differences and comparisons (R300, R301) -/

theorem aluSub_noBorrowIn (w b a : Nat) : aluSub w b a 0 = ((b + 2 * 2 ^ w - a) % 2 ^ w,
    flagsOf w ((b + 2 * 2 ^ w - a) % 2 ^ w) (some (decide (b < a))) (some (outOfSigned w (toSigned w b - toSigned w a)))) := by
  simp [aluSub]

theorem toSigned_zero (w : Nat) : toSigned w 0 = 0 := by simp [toSigned]

/-- NEG is the difference from 0. -/
theorem aluSub_fromZero (w a : Nat) : aluSub w 0 a 0 = ((2 * 2 ^ w - a) % 2 ^ w,
    flagsOf w ((2 * 2 ^ w - a) % 2 ^ w) (some (decide (0 < a))) (some (outOfSigned w (-(toSigned w a))))) := by
  rw [aluSub_noBorrowIn, Nat.zero_add, toSigned_zero, Int.zero_sub]

/-- Settles O2: each result is the sum or the difference with its carry or borrow, without one coming in but for ADC and SBC. -/
theorem agrekAddSubtract : Obligations.AgrekAddSubtract := by
  intro c z
  refine ⟨fun src dst => agDoes_of_sem (sem := semAdd) (fun _ => rfl) fun x _ => congrArg (x.last 1) (aluAdd_noCarry ..),
    fun dst => agDoes_of_sem (sem := semInc) (fun _ => rfl) fun x _ => congrArg (x.last 0) (aluAdd_noCarry ..),
    fun src dst => agDoes_of_sem (sem := semSub) (fun _ => rfl) fun x _ => congrArg (x.last 1) (aluSub_noBorrowIn ..),
    fun dst => agDoes_of_sem (sem := semDec) (fun _ => rfl) fun x _ => congrArg (x.last 0) (aluSub_noBorrowIn ..),
    fun src dst => agDoes_of_sem (sem := semAdc) (fun _ => rfl) fun _ _ => rfl,
    fun src dst => agDoes_of_sem (sem := semSbc) (fun _ => rfl) fun _ _ => rfl,
    fun src dst => agDoes_of_sem (sem := semNeg) (fun _ => rfl) fun x _ => congrArg (x.last 1) (aluSub_fromZero ..),
    fun op1 op2 => agDoes_of_sem (sem := semCmp) (fun _ => rfl) fun x _ => congrArg (fun r : ResF => x.out [] r.2) (aluSub_noBorrowIn ..),
    fun src => agDoes_of_sem (sem := semTst) (fun _ => rfl) fun _ _ => rfl⟩

/-! ### Products, quotients, remainders and narrowing (R300, R301) -/

section
variable {ins : Instr} {c : CoreId} {i : AgInsn} {f : Nat → Nat → Nat → ResF} (hexec : ∀ s, exec ins s = .next (s.agRun c i (semDivide f)))
include hexec

/-- A division by other than 0 writes its result. -/
theorem agDoes_divide : AgDoes ins c i (fun x => x.v 0 ≠ 0) fun x => x.writes 1 (f x.w (x.v 1) (x.v 0)).1 (f x.w (x.v 1) (x.v 0)).2 :=
  agDoes_of_sem hexec fun _ h => if_neg h

theorem agRaises_divide : AgRaises ins c i (fun x => x.v 0 = 0) fun _ => Exc.divide :=
  agRaises_of_sem hexec fun _ h => if_pos h

end

/-- Settles O3: each command runs its effect, and the divisor is looked at before the quotient is formed. -/
theorem agrekMultiplyDivide : Obligations.AgrekMultiplyDivide := by
  intro c
  refine ⟨fun z src dst => agDoes_of_sem (sem := semMul) (fun _ => rfl) fun _ _ => rfl,
    fun z src dst => agDoes_divide (f := aluDiv) fun _ => rfl,
    fun z src dst => agDoes_divide (f := fun w d a => aluMov w (d / a)) fun _ => rfl,
    fun z src dst => agDoes_divide (f := aluRem) fun _ => rfl,
    fun z src dst => agDoes_divide (f := fun w d a => aluMov w (d % a)) fun _ => rfl,
    fun z src dst => agRaises_divide (f := aluDiv) fun _ => rfl,
    fun z src dst => agRaises_divide (f := fun w d a => aluMov w (d / a)) fun _ => rfl,
    fun z src dst => agRaises_divide (f := aluRem) fun _ => rfl,
    fun z src dst => agRaises_divide (f := fun w d a => aluMov w (d % a)) fun _ => rfl,
    fun src dst => agDoes_of_sem (sem := semNrw 32) (fun _ => rfl) fun _ _ => rfl,
    fun src dst => agDoes_of_sem (sem := semNrw 16) (fun _ => rfl) fun _ _ => rfl,
    fun src dst => agDoes_of_sem (sem := semNrw 8) (fun _ => rfl) fun _ _ => rfl⟩

/-! ### Logic, shifts and rotates (R300 to R302) -/

/-- Settles O4: logic by its effect, and each shift by whether its count, for a rotate modulo the width, is 0. -/
theorem agrekLogicShift : Obligations.AgrekLogicShift := by
  intro c z
  refine ⟨fun src dst => agDoes_of_sem (sem := semAnd) (fun _ => rfl) fun _ _ => rfl,
    fun src dst => agDoes_of_sem (sem := semOr) (fun _ => rfl) fun _ _ => rfl,
    fun src dst => agDoes_of_sem (sem := semXor) (fun _ => rfl) fun _ _ => rfl,
    fun src dst => agDoes_of_sem (sem := semAndn) (fun _ => rfl) fun _ _ => rfl,
    fun count dst => agDoes_of_sem (sem := semShl) (fun _ => rfl) fun x h => congrArg (x.last 1) (if_neg h),
    fun count dst => agDoes_of_sem (sem := semShr) (fun _ => rfl) fun x h => congrArg (x.last 1) (if_neg h),
    fun count dst => agDoes_of_sem (sem := semSar) (fun _ => rfl) fun x h => congrArg (x.last 1) (if_neg h),
    fun count dst => agDoes_of_sem (sem := semSal) (fun _ => rfl) fun x h => congrArg (x.last 1) (if_neg h),
    fun count dst => agDoes_of_sem (sem := semRol) (fun _ => rfl) fun x h => congrArg (x.last 1) (if_neg h),
    fun count dst => agDoes_of_sem (sem := semRor) (fun _ => rfl) fun x h => congrArg (x.last 1) (if_neg h),
    fun count dst => agDoes_of_sem (sem := semShl) (fun _ => rfl) fun x h => congrArg (x.last 1) (if_pos h),
    fun count dst => agDoes_of_sem (sem := semShr) (fun _ => rfl) fun x h => congrArg (x.last 1) (if_pos h),
    fun count dst => agDoes_of_sem (sem := semSar) (fun _ => rfl) fun x h => congrArg (x.last 1) (if_pos h),
    fun count dst => agDoes_of_sem (sem := semSal) (fun _ => rfl) fun x h => congrArg (x.last 1) (if_pos h),
    fun count dst => agDoes_of_sem (sem := semRol) (fun _ => rfl) fun x h => congrArg (x.last 1) (if_pos h),
    fun count dst => agDoes_of_sem (sem := semRor) (fun _ => rfl) fun x h => congrArg (x.last 1) (if_pos h)⟩

end Sys2Proof.Machine
end

section
/-!
PROOFS. The branches and the bit instructions of Agrek, and a Shuttle core whose data cache BTAS leaves as it was (11_agrek_instructions.md
R303, R310 to R313; 12_shuttle_spool.md R326).
-/

namespace Sys2Proof.Machine

/-! ### Branches (R303, R310 to R312) -/

/-- A command that runs a branch jumps where the branch's condition holds. -/
theorem agDoes_branch {ins : Instr} {c : CoreId} {i : AgInsn} {cond holds : AgIn → Bool}
    (hexec : ∀ s, exec ins s = .next (s.agRun c i (semBranch cond))) (h : ∀ x, cond x = holds x) :
    AgDoes ins c i always fun x => { x.ends [] {} with jump := if holds x then some (x.ea 0) else none } :=
  agDoes_of_sem hexec fun x _ => by rw [semBranch, h]; rfl

/-- R311: less, with the sign and the overflow of a comparison, fails where the two are equal. -/
theorem AgIn.not_lt (x : AgIn) : (!x.lt) = (x.flag Psw.n == x.flag Psw.v) := by
  rw [AgIn.lt, bne, Bool.not_not]

theorem AgIn.bit_eq_true (x : AgIn) (i : Nat) : x.bit i = true ↔ x.v i % 2 = 1 := by rw [AgIn.bit, beq_iff_eq]
theorem AgIn.bit_eq_false (x : AgIn) (i : Nat) : x.bit i = false ↔ x.v i % 2 = 0 := by
  rw [← Bool.not_eq_true, AgIn.bit_eq_true]
  omega

/-- Settles O6: each command runs its branch, whose condition is that of R311. -/
theorem agrekBranches : Obligations.AgrekBranches := by
  intro c br f
  refine ⟨fun t => agDoes_branch (fun _ => rfl) fun _ => rfl, fun t => agDoes_branch (fun _ => rfl) fun _ => rfl,
    fun t => agDoes_branch (fun _ => rfl) fun _ => rfl, fun t => agDoes_branch (fun _ => rfl) fun _ => rfl,
    fun t => agDoes_branch (fun _ => rfl) fun x => x.not_lt, fun t => agDoes_branch (fun _ => rfl) fun _ => rfl,
    fun t => agDoes_branch (fun _ => rfl) fun x => congrArg (!x.flag Psw.z && ·) x.not_lt, fun t => agDoes_branch (fun _ => rfl) fun _ => rfl,
    fun t => agDoes_branch (fun _ => rfl) fun _ => rfl, fun t => agDoes_branch (fun _ => rfl) fun _ => rfl,
    fun t => agDoes_branch (fun _ => rfl) fun _ => rfl, fun t => agDoes_branch (fun _ => rfl) fun _ => rfl,
    fun t => agDoes_branch (fun _ => rfl) fun _ => rfl, fun t => agDoes_branch (fun _ => rfl) fun _ => rfl,
    fun count t => agDoes_of_sem (sem := semDbp) (fun _ => rfl) fun _ _ => rfl,
    fun bit t => agDoes_of_sem (sem := semBitBranch true) (fun _ => rfl) fun x _ => ?_,
    fun bit t => agDoes_of_sem (sem := semBitBranch false) (fun _ => rfl) fun x _ => ?_⟩
  · simp only [semBitBranch, x.bit_eq_true]
    rfl
  · simp only [semBitBranch, x.bit_eq_false]
    rfl

/-! ### BTAS keeps the data cache, where R326 invalidates it -/

/-- A Shuttle core running in its local store. -/
def btasCore : Core := { coreZero with pc := lsBase + 0x2000, st := .run }

/-- The device running, with core 0 at work and the first line of DRAM in its data cache. -/
def btasState : State :=
  { State.reset with
    power := { State.reset.power with seq := .run }
    cores := [(keyOf (.shuttle 0), btasCore)]
    caches := ⟨[(0, [(dramBase / 64, List.replicate 64 7)])]⟩ }

/-- BTAS of the first bit of the core's own bit space. -/
def btasInsn : AgInsn := ⟨.btas, .b, [.bitAbs 0]⟩

/-- What it computes with: the bit is 0. -/
def btasIn : AgIn :=
  { s := btasState, c := btasCore, id := .shuttle 0, z := .b, n := 0, locs := [.bit 0], lens := [1], vals := [[0]], stk := [],
    pc := lsBase + 0x2000, next := lsBase + 0x2005 }

theorem agReady_btas : AgReady btasState (.shuttle 0) btasInsn btasIn := ⟨by decide +kernel, by decide +kernel, rfl⟩

/-- What it writes: the bit, and Z. -/
def btasEnds : AgOut := btasIn.ends [(0, [1])] { z := some true }

/-- The model's BTAS counts the fence and leaves the line in the cache. -/
theorem btas_heldLine : (agEnd btasState (.shuttle 0) btasIn
    { btasEnds with s := btasState.count (P.shc 0) 0x068 }).heldLine 0 (dramBase / 64) = some (List.replicate 64 7) := by
  decide +kernel

/-- After a full fence the cache holds no line. -/
theorem btas_fenced_heldLine :
    (agEnd btasState (.shuttle 0) btasIn { btasEnds with s := btasIn.fenced }).heldLine 0 (dramBase / 64) = none := by decide +kernel

/-- Refutes O7: `semFenced`, under which the model's BTAS and BTAC run, counts an invalidation of the data cache and makes none. With the
first line of DRAM in the cache of Shuttle core 0, BTAS of a bit of its own leaves the line there, where R313 and R326 drop it. -/
theorem not_agrekBits : ¬ Obligations.AgrekBits := by
  intro h
  obtain ⟨-, -, -, hbtas, -⟩ := h (.shuttle 0)
  have hclaim := hbtas (.bitAbs 0) btasState btasIn agReady_btas trivial
  have hmodel : exec (.btas (.shuttle 0) (.bitAbs 0)) btasState = .next (btasState.agRun (.shuttle 0) btasInsn semBtas) := rfl
  rw [State.agRun_ready agReady_btas (o := { btasEnds with s := btasState.count (P.shc 0) 0x068 }) rfl, hclaim] at hmodel
  have hstate := Host.Outcome.next.inj hmodel
  have hline := btas_fenced_heldLine.symm.trans ((congrArg (State.heldLine · 0 (dramBase / 64)) hstate).trans btas_heldLine)
  exact absurd hline (by simp)

end Sys2Proof.Machine
end

section
/-!
PROOFS. The string instructions of Agrek: comparing, translating, searching (11_agrek_instructions.md R308, R309).
-/

namespace Sys2Proof.Machine

/-! ### Comparing (R309) -/

/-- A list differs from itself nowhere. -/
theorem find?_zip_self (l : List Byte) : (l.zip l).find? (fun e => e.1 != e.2) = none := by
  rw [List.find?_eq_none]
  intro e he
  obtain ⟨k, hk, rfl⟩ := List.getElem_of_mem he
  simp

/-- The first difference of two lists. -/
theorem find?_zip_first {l m : List Byte} {i : Nat} (hl : i < l.length) (hm : i < m.length)
    (hsame : ∀ j < i, l.getD j 0 = m.getD j 0) (hdiff : l.getD i 0 ≠ m.getD i 0) :
    (l.zip m).find? (fun e => e.1 != e.2) = some (l.getD i 0, m.getD i 0) := by
  have hlen : i < (l.zip m).length := by simp [hl, hm]
  refine List.find?_eq_some_iff_getElem.2 ⟨by simpa using hdiff, i, hlen, by simp [hl, hm], fun j hj => ?_⟩
  have hj' := hsame j hj
  rw [List.getD_eq_getElem _ _ (by omega), List.getD_eq_getElem _ _ (by omega)] at hj'
  simp [hj']

theorem semScmp_equal {x : AgIn} (h : x.bytes 1 = x.bytes 2) :
    semScmp x = x.out [] { z := some true, c := some false, n := some false, v := some false } := by
  rw [semScmp, h, find?_zip_self]

theorem semScmp_differ {x : AgIn} {i : Nat} (hl : i < (x.bytes 1).length) (hm : i < (x.bytes 2).length)
    (hsame : ∀ j < i, (x.bytes 1).getD j 0 = (x.bytes 2).getD j 0) (hdiff : (x.bytes 1).getD i 0 ≠ (x.bytes 2).getD i 0) :
    let low := decide ((x.bytes 1).getD i 0 < (x.bytes 2).getD i 0)
    semScmp x = x.out [] { z := some false, c := some low, n := some low, v := some false } := by
  intro low
  rw [semScmp, find?_zip_first hl hm hsame hdiff]

/-! ### Translating (R308, R309) -/

/-- With no byte of the table in the part of the buffer that is passed, each byte is translated by the table as it stood. -/
theorem sxltGo_apart (table buf : List Byte) {d : Int} (h : d ≤ -256 ∨ buf.length ≤ d) :
    sxltGo table buf d = buf.map fun b => table.getD b.toNat 0 := by
  have hstep (out : List Byte) (i : Nat) (hi : i ∈ List.range buf.length) :
      (out ++ [if 0 ≤ d + (buf.getD i 0).toNat ∧ d + (buf.getD i 0).toNat < i then out.getD (d + (buf.getD i 0).toNat).toNat 0
        else table.getD (buf.getD i 0).toNat 0]) = out ++ [table.getD (buf.getD i 0).toNat 0] := by
    have hlt := (buf.getD i 0).isLt
    have hlen := List.mem_range.1 hi
    rw [if_neg (by omega)]
  rw [sxltGo, List.foldl_ext _ _ _ hstep, List.foldl_append_eq_append, ← List.flatMap_def, ← List.map_eq_flatMap, List.nil_append]
  refine List.ext_getElem (by simp) fun i hi hi' => ?_
  have hbuf : i < buf.length := by simpa using hi
  simp [hbuf]

/-! ### Searching (R309) -/

/-- The first element that a condition holds of. -/
theorem findIdx?_first {l : List Byte} {p : Byte → Bool} {i : Nat} (hi : i < l.length) (hp : p (l.getD i 0) = true)
    (hbefore : ∀ j < i, p (l.getD j 0) = false) : l.findIdx? p = some i := by
  rw [List.getD_eq_getElem _ _ hi] at hp
  refine List.findIdx?_eq_some_iff_getElem.2 ⟨hi, hp, fun j hj => ?_⟩
  have hj' := hbefore j hj
  rw [List.getD_eq_getElem _ _ (by omega)] at hj'
  simp [hj']

theorem findIdx?_nowhere {l : List Byte} {p : Byte → Bool} (h : ∀ j < l.length, p (l.getD j 0) = false) : l.findIdx? p = none := by
  refine List.findIdx?_eq_none_iff.2 fun b hb => ?_
  obtain ⟨j, hj, rfl⟩ := List.getElem_of_mem hb
  rw [← h j hj, List.getD_eq_getElem _ _ hj]

theorem AgIn.stopped_none (x : AgIn) : x.stopped none 0 =
    .done { x.ends [] { z := some true } with c := (x.c.setB 0 0).setB 1 (addr48 (x.ea 2 + x.n)) } := by
  simp [AgIn.stopped, AgIn.ends]

section
variable {ins : Instr} {c : CoreId} {i : AgInsn} {sem : Sem} {hit : AgIn → Byte → Bool} {t : AgIn → Nat → Nat}
  (hexec : ∀ s, exec ins s = .next (s.agRun c i sem))
include hexec

/-- A search that finds its byte leaves what remains in B0 and the address in B1. -/
theorem agDoes_found (hsem : ∀ x k, (x.bytes 2).findIdx? (hit x) = some k → sem x = x.stopped (some k) (t x k)) (k : Nat) :
    AgDoes ins c i
      (fun x => k < (x.bytes 2).length ∧ hit x ((x.bytes 2).getD k 0) = true ∧ ∀ j < k, hit x ((x.bytes 2).getD j 0) = false)
      fun x => { x.ends [] { z := some false } with c := (x.c.setB 0 (x.n - k)).setB 1 (addr48 (x.ea 2 + k) + t x k * 2 ^ 48) } :=
  agDoes_of_sem hexec fun x ⟨hk, hp, hbefore⟩ => hsem x k (findIdx?_first hk hp hbefore)

/-- A search that finds nothing leaves 0 in B0 and the address behind the string in B1. -/
theorem agDoes_notFound (hsem : ∀ x, (x.bytes 2).findIdx? (hit x) = none → sem x = x.stopped none 0) :
    AgDoes ins c i (fun x => ∀ j < (x.bytes 2).length, hit x ((x.bytes 2).getD j 0) = false)
      fun x => { x.ends [] { z := some true } with c := (x.c.setB 0 0).setB 1 (addr48 (x.ea 2 + x.n)) } :=
  agDoes_of_sem hexec fun x h => (hsem x (findIdx?_nowhere h)).trans x.stopped_none

end

theorem semFind_eq {f : Byte → Byte → Bool} {x : AgIn} {r : Option Nat}
    (h : (x.bytes 2).findIdx? (fun b => f b (BitVec.ofNat 8 (x.v 1))) = r) : semFind f x = x.stopped r 0 := by
  rw [semFind, h]

/-- The value that the table of SSCN gives for a byte. -/
def AgIn.tableAt (x : AgIn) (b : Byte) : Byte := (x.bytes 1).getD b.toNat 0

theorem semSscn_found {x : AgIn} {k : Nat} (h : (x.bytes 2).findIdx? (fun b => x.tableAt b != 0) = some k) :
    semSscn x = x.stopped (some k) (x.tableAt ((x.bytes 2).getD k 0)).toNat := by
  simp only [AgIn.tableAt] at h ⊢
  simp only [semSscn, h]

theorem semSscn_notFound {x : AgIn} (h : (x.bytes 2).findIdx? (fun b => x.tableAt b != 0) = none) : semSscn x = x.stopped none 0 := by
  simp only [AgIn.tableAt] at h
  simp only [semSscn, h]

/-- Settles O10: a comparison turns on the first difference, a translation on whether its table lies apart, a search on the first hit. -/
theorem agrekStrings : Obligations.AgrekStrings := by
  intro c n p q
  refine ⟨agDoes_of_sem (sem := semSmov) (fun _ => rfl) fun _ _ => rfl,
    agDoes_of_sem (sem := semSfil) (fun _ => rfl) fun _ _ => rfl,
    agDoes_of_sem (sem := semScmp) (fun _ => rfl) fun _ h => semScmp_equal h,
    fun i => agDoes_of_sem (sem := semScmp) (fun _ => rfl) fun _ ⟨hl, hm, hsame, hdiff⟩ => semScmp_differ hl hm hsame hdiff,
    agDoes_of_sem (sem := semSxlt) (fun _ => rfl) fun _ _ => rfl,
    agDoes_of_sem (sem := semSxlt) (fun _ => rfl) fun x h => congrArg (fun l => x.out [(2, l)] {}) (sxltGo_apart _ _ h),
    ⟨⟨?_, ?_⟩, ⟨?_, ?_⟩, ⟨?_, ?_⟩⟩,
    agDoes_of_sem (sem := semScrc) (fun _ => rfl) fun _ _ => rfl⟩
  · exact agDoes_found (sem := semSfnd) (fun _ => rfl) fun _ _ h => semFind_eq h
  · exact agDoes_notFound (sem := semSfnd) (fun _ => rfl) fun _ h => semFind_eq h
  · exact agDoes_found (sem := semSskp) (fun _ => rfl) fun _ _ h => semFind_eq h
  · exact agDoes_notFound (sem := semSskp) (fun _ => rfl) fun _ h => semFind_eq h
  · exact agDoes_found (sem := semSscn) (fun _ => rfl) fun _ _ h => semSscn_found h
  · exact agDoes_notFound (sem := semSscn) (fun _ => rfl) fun _ h => semSscn_notFound h

end Sys2Proof.Machine
end

section
/-!
PROOFS. The atomic instructions of Agrek and the data cache: CAS, XADD and FENCE, what a full fence leaves, and a read through a cacheable
window (11_agrek_instructions.md R313, R314; 12_shuttle_spool.md R326).
-/

namespace Sys2Proof.Machine

/-! ### The data cache (R326) -/

theorem State.dropLines_eq (s : State) (id : CoreId) : ∃ l, s.dropLines id = { s with caches := l } := by
  cases id <;> exact ⟨_, rfl⟩

theorem State.count_eq (s : State) (p o : Nat) : s.count p o = { s with ctrs := (s.count p o).ctrs } := by
  unfold State.count State.countN
  split <;> rfl

/-- A full fence changes the data cache and its count. -/
theorem AgIn.fenced_eq (x : AgIn) : x.fenced = { x.s with ctrs := x.fenced.ctrs, caches := x.fenced.caches } := by
  unfold AgIn.fenced
  split
  · obtain ⟨l, hdrop⟩ := x.s.dropLines_eq x.id
    rw [hdrop, State.count_eq]
  · rfl

/-- The data cache of a Shuttle core holds no line after it is invalidated. -/
theorem State.heldLine_dropLines (s : State) (k line : Nat) : (s.dropLines (.shuttle k)).heldLine k line = none := by
  simp [State.heldLine, State.dropLines, cacheOf, Tbl.at?_del]

theorem AgIn.heldLine_fenced {x : AgIn} {k : Nat} (h : x.id = .shuttle k) (line : Nat) : x.fenced.heldLine k line = none := by
  have hfence : x.fenced = (x.s.dropLines (.shuttle k)).count (P.shc (k / 4)) 0x068 := by simp only [AgIn.fenced, h]
  rw [hfence, State.heldLine, State.count_caches]
  exact x.s.heldLine_dropLines k line

/-- A line put into a data cache is held. -/
theorem State.heldLine_cacheLine (s : State) (k line : Nat) (b : List Byte) : (s.cacheLine k line b).heldLine k line = some b := by
  simp [State.heldLine, State.cacheLine]

section
variable {s : State} {c : CoreId} {d : Core} {p a n : Nat} (ha : a + n ≤ hostBase) (hn : 0 < n) (hreg : inRegs a n = false)
include ha hn hreg

/-- Through a cacheable window a Shuttle core reads memory by its data cache. -/
theorem State.coreRead_cached (k : Nat) : s.coreRead (.shuttle k) d (.fab a p true) n = s.cachedRead k a n := by
  simp only [State.coreRead, if_neg (show ¬ hostBase ≤ a by omega), hreg, cacheOf, if_true, Bool.false_eq_true, if_false]

/-- Without a cache, or through another window, a core reads memory itself. -/
theorem State.coreRead_uncached {ca : Bool} (hca : ca = false ∨ isShuttle c = false) (hgood : s.poison a n = none) :
    s.coreRead c d (.fab a p ca) n = (.ok (memRead s.mem a n), s) := by
  have hnone : (if ca then cacheOf c else none) = none := by
    rcases hca with rfl | hother
    · rfl
    · cases c <;> simp_all [isShuttle, cacheOf]
  simp only [State.coreRead, if_neg (show ¬ hostBase ≤ a by omega), hreg, hnone, hgood, Bool.false_eq_true, if_false]

end

/-- A read within one line looks at that line only. -/
theorem State.cachedRead_line (s : State) (k : Nat) {a n : Nat} (hn : 0 < n) (hline : a % 64 + n ≤ 64) :
    s.cachedRead k a n = s.lineRead k a n := by
  have hlines : (a + n - 1) / 64 + 1 - a / 64 = 1 := by omega
  have hlo : max a (64 * (a / 64 + 0)) = a := by omega
  have hhi : min (a + n) (64 * (a / 64 + 0) + 64) - a = n := by omega
  simp only [State.cachedRead, hlines, List.range_one, List.foldl_cons, List.foldl_nil, hlo, hhi, List.nil_append]
  rcases s.lineRead k a n with ⟨_ | _, _⟩ <;> rfl

section
variable {s : State} {k a n : Nat}

theorem State.lineRead_held {b : List Byte} (h : s.heldLine k (a / 64) = some b) :
    s.lineRead k a n = (.ok ((b.drop (a % 64)).take n), s) := by
  simp only [State.lineRead, h]

theorem State.lineRead_miss (h : s.heldLine k (a / 64) = none) (hgood : s.poison (64 * (a / 64)) 64 = none) :
    s.lineRead k a n = (.ok (memRead s.mem a n),
      (s.count (P.shc (k / 4)) 0x060).cacheLine k (a / 64) (memRead s.mem (64 * (a / 64)) 64)) := by
  simp only [State.lineRead, h, hgood]

end

/-! ### CAS and XADD (R314) -/

theorem semCas_equal {x : AgIn} (h : x.bytes 2 = x.bytes 1) :
    semCas x = .done { x.ends [(1, x.bytes 2), (2, x.bytes 0)] { z := some true } with s := x.fenced } := by
  simp [semCas, AgIn.ends, h]

theorem semCas_differ {x : AgIn} (h : x.bytes 2 ≠ x.bytes 1) :
    semCas x = .done { x.ends [(1, x.bytes 2)] { z := some false } with s := x.fenced } := by
  have hsame : (x.bytes 2 == x.bytes 1) = false := beq_false_of_ne h
  simp [semCas, AgIn.ends, hsame]

theorem semXadd_eq (x : AgIn) :
    let r := (x.v 1 + x.v 0) % 2 ^ x.w
    semXadd x = .done { x.ends [(0, x.bytes 1), (1, natLE (szBytes x.z) r)] (flagsOf x.w r (some (decide (2 ^ x.w ≤ x.v 1 + x.v 0)))
        (some (outOfSigned x.w (toSigned x.w (x.v 1) + toSigned x.w (x.v 0))))) with s := x.fenced } := by
  simp only [semXadd, aluAdd_noCarry]
  rfl

/-- Settles O11: each atomic instruction runs its effect after a fence that drops the lines held; a read within a line takes it from the
cache, or from memory into the cache. -/
theorem agrekAtomic : Obligations.AgrekAtomic := by
  intro c z
  refine ⟨fun new e t => agDoes_of_sem (sem := semCas) (fun _ => rfl) fun _ => semCas_equal,
    fun new e t => agDoes_of_sem (sem := semCas) (fun _ => rfl) fun _ => semCas_differ,
    fun a t => agDoes_of_sem (sem := semXadd) (fun _ => rfl) fun x _ => semXadd_eq x,
    agDoes_of_sem (sem := semFence) (fun _ => rfl) fun _ _ => rfl,
    AgIn.fenced_eq, fun x k line h => AgIn.heldLine_fenced h line, fun s d p a n ha hn hreg => ⟨?_, ?_, ?_⟩⟩
  · rintro k b rfl hline hheld
    rw [State.coreRead_cached ha hn hreg, s.cachedRead_line k hn hline, State.lineRead_held hheld]
  · rintro k rfl hline hmiss hgood
    rw [State.coreRead_cached ha hn hreg, s.cachedRead_line k hn hline, State.lineRead_miss hmiss hgood]
    exact ⟨rfl, State.heldLine_cacheLine ..⟩
  · exact fun ca hca hgood => State.coreRead_uncached ha hn hreg hca hgood

end Sys2Proof.Machine
end

section
/-!
PROOFS. The other control instructions of Agrek: the end of a task, waits, range checks, windows, keys and completions
(11_agrek_instructions.md R312, R315 to R317; 12_shuttle_spool.md R337).
-/

namespace Sys2Proof.Machine

/-! ### Effects that depend on the core -/

theorem AgReady.id_eq {s : State} {c : CoreId} {i : AgInsn} {x : AgIn} (h : AgReady s c i x) : x.id = c := by
  obtain ⟨-, -, hops⟩ := h
  exact State.operandsOf_id hops

/-- A command that runs an instruction whose effect, on the command's core, completes with `o`. -/
theorem agDoes_of_semOn {ins : Instr} {c : CoreId} {i : AgInsn} {P : AgIn → Prop} {sem : Sem} {o : AgIn → AgOut}
    (hexec : ∀ s, exec ins s = .next (s.agRun c i sem)) (hsem : ∀ x, x.id = c → P x → sem x = .done (o x)) : AgDoes ins c i P o :=
  fun s x hready hP => (hexec s).trans (congrArg Host.Outcome.next (State.agRun_ready hready (hsem x hready.id_eq hP)))

/-- An instruction that is ready and whose effect is a wait leaves its core waiting for a completion. -/
theorem State.agRun_wait {s : State} {c : CoreId} {i : AgInsn} {x : AgIn} {sem : Sem} (h : AgReady s c i x) (hs : sem x = .wait) :
    s.agRun c i sem = s.updCore c fun k => { k with st := .waitCpl } := by
  obtain ⟨hrun, hfetch, hops⟩ := h
  simp only [State.agRun, hrun, hfetch, State.once, hops, hs, Bool.not_true, Bool.false_eq_true, if_false]

section
variable {x : AgIn}

/-! ### EXIT, YIELD, WFI and HALT (R312, R337) -/

theorem semExit_shuttle {k : Nat} (h : x.id = .shuttle k) :
    semExit x = .done { x.ends [] {} with fin := fun s => s.endTask k Cs.ok (x.c.breg 0 % 65536) } := by
  simp only [semExit, h]
  rfl

theorem semExit_other (h : isShuttle x.id = false) : semExit x = .done (x.ends [] {}) := by
  cases hid : x.id with
  | shuttle k => simp [hid, isShuttle] at h
  | bobbin n => simp only [semExit, hid]; rfl
  | thimble => simp only [semExit, hid]; rfl

theorem semYield_shuttle {k : Nat} (h : x.id = .shuttle k) : semYield x = .done { x.ends [] {} with fin := fun s => s.yieldTask k } := by
  simp only [semYield, h]
  rfl

theorem semYield_other (h : isShuttle x.id = false) : semYield x = .done (x.ends [] {}) := by
  cases hid : x.id with
  | shuttle k => simp [hid, isShuttle] at h
  | bobbin n => simp only [semYield, hid]; rfl
  | thimble => simp only [semYield, hid]; rfl

theorem semWfi_pending (h : (x.s.nextVec x.id).isSome = true) : semWfi x = .done (x.ends [] {}) := by
  simp only [semWfi, h, if_true]
  rfl

theorem semWfi_waits (h : x.s.nextVec x.id = none) : semWfi x = .done { x.ends [] {} with c := { x.c with st := .waitInt } } := by
  simp only [semWfi, h, Option.isSome_none, Bool.false_eq_true, if_false]
  rfl

theorem semHalt_bobbin {n : Nat} (h : x.id = .bobbin n) : semHalt x = .done { x.ends [] {} with fin := fun s => s.haltBobbin n } := by
  simp only [semHalt, h]
  rfl

theorem semHalt_thimble (h : x.id = .thimble) : semHalt x = semWfi x := by simp only [semHalt, h]

/-! ### Range checks and completions (R312, R317) -/

theorem semCheck_eq (need : Need) : semCheck need x =
    .done (x.ends [] { z := some (x.v 1 == 0 || (placeOf x.id x.c (x.ea 0) (x.v 1) need).isSome) }) := rfl

/-- The first completion that waits is taken, under a fence. -/
theorem AgIn.take_some {w : Nat} (h : x.c.cplQ.head? = some w) (f : FlagW) : x.take f =
    some (.done { x.ends [(0, natLE 8 w)] f with s := x.fenced, c := { x.c with cplQ := x.c.cplQ.tail } }) := by
  obtain ⟨r, hq⟩ := List.head?_eq_some_iff.1 h
  simp only [AgIn.take, hq]
  rfl

theorem AgIn.take_none (h : x.c.cplQ = []) (f : FlagW) : x.take f = none := by
  simp only [AgIn.take, h]

end

/-- Settles O12: each command runs its effect, by the kind of core, the interrupts pending, the window refused or the completions waiting. -/
theorem agrekControl : Obligations.AgrekControl := by
  intro c
  refine ⟨agDoes_of_sem (sem := semNop) (fun _ => rfl) fun _ _ => rfl,
    fun p => agDoes_of_sem (sem := semTrap) (fun _ => rfl) fun _ _ => rfl,
    agRaises_of_sem (sem := semBkpt) (fun _ => rfl) fun _ _ => rfl,
    fun k hc => agDoes_of_semOn (sem := semExit) (fun _ => rfl) fun x hid _ => semExit_shuttle (hid.trans hc),
    fun hc => agDoes_of_semOn (sem := semExit) (fun _ => rfl) fun x hid _ => semExit_other (hid ▸ hc),
    fun k hc => agDoes_of_semOn (sem := semYield) (fun _ => rfl) fun x hid _ => semYield_shuttle (hid.trans hc),
    fun hc => agDoes_of_semOn (sem := semYield) (fun _ => rfl) fun x hid _ => semYield_other (hid ▸ hc),
    agDoes_of_semOn (sem := semWfi) (fun _ => rfl) fun x hid h => semWfi_pending (hid ▸ h),
    agDoes_of_semOn (sem := semWfi) (fun _ => rfl) fun x hid h => semWfi_waits (hid ▸ h),
    fun n hc => agDoes_of_semOn (sem := semHalt) (fun _ => rfl) fun x hid _ => semHalt_bobbin (hid.trans hc),
    agDoes_of_semOn (sem := semHalt) (fun _ => rfl) fun x hid ⟨hc, h⟩ => (semHalt_thimble (hid.trans hc)).trans (semWfi_waits (hid ▸ h)),
    fun p n => agDoes_of_semOn (sem := semCheck .rd) (fun _ => rfl) fun x hid _ => by rw [semCheck_eq, hid],
    fun p n => agDoes_of_semOn (sem := semCheck .wr) (fun _ => rfl) fun x hid _ => by rw [semCheck_eq, hid],
    fun w d => agDoes_of_sem (sem := semWinset) (fun _ => rfl) fun x h => if_pos h,
    fun w d => agDoes_of_sem (sem := semWinset) (fun _ => rfl) fun x h => if_neg (Bool.eq_false_iff.1 h),
    fun w d => agDoes_of_sem (sem := semWinget) (fun _ => rfl) fun _ _ => rfl,
    fun k d => agDoes_of_sem (sem := semKload) (fun _ => rfl) fun _ _ => rfl,
    fun k => agDoes_of_sem (sem := semKzap) (fun _ => rfl) fun _ _ => rfl,
    fun d w => agDoes_of_sem (sem := semWcpl) (fun _ => rfl) fun x h => by rw [semWcpl, AgIn.take_some h]; rfl,
    fun d s x hready h => congrArg Host.Outcome.next (State.agRun_wait hready (sem := semWcpl) (by rw [semWcpl, AgIn.take_none h]; rfl)),
    fun d w => agDoes_of_sem (sem := semRcpl) (fun _ => rfl) fun x h => by rw [semRcpl, AgIn.take_some h]; rfl,
    fun d => agDoes_of_sem (sem := semRcpl) (fun _ => rfl) fun x h => by rw [semRcpl, AgIn.take_none h]; rfl⟩

end Sys2Proof.Machine
end

section
/-!
PROOFS. Repeated Agrek instructions: one iteration, what it leaves, and what may not be repeated (11_agrek_instructions.md R318 to R321).
-/

namespace Sys2Proof.Machine

/-! ### What may be repeated (R320) -/

theorem escFF_of_noRepeat {m : Mn} (h : noRepeat m = true) : escFF m = false := by
  have hall : ∀ m ∈ allMn, noRepeat m = true → escFF m = false := by decide +kernel
  exact hall m (mem_allMn m) h

theorem repeatExc_noRepeat (s : State) (c : CoreId) (p : Rp) {i : AgInsn} (h : noRepeat i.mn = true) :
    repeatExc s c p i = [Exc.illegalRepeat] := by
  simp [repeatExc, escFF_of_noRepeat h, h]

section
variable {s : State} {c : CoreId} {p : Rp} {i : AgInsn} {sem : Sem}

/-! ### One iteration (R318, R319) -/

section
variable {x : AgIn} {o : AgOut} {next : Nat} (hops : s.operandsOf c i true next (1 + opcodeLen i.mn) = .ok x) (hsem : sem x = .done o)

/-- Whether another iteration is due after one that leaves the state `t`, by RCNT before it and Z after it. -/
def repMore (p : Rp) (rcnt : Nat) (t : State) (c : CoreId) : Bool :=
  let z := (t.core (keyOf c)).psw.testBit 1
  rcnt != 1 && !(p == .repz && !z) && !(p == .repnz && z)

include hops hsem

/-- One iteration that completes: the state it leaves, and whether the repetition goes on. -/
theorem State.repOnce_done (hrcnt : (s.core (keyOf c)).rcnt ≠ 0) :
    s.repOnce c p i sem next (s.core (keyOf c)).psw =
      let r := finishInsn c x o
      let more := repMore p (s.core (keyOf c)).rcnt r.1 c
      (repEnd s c x o more, more && r.2 ++ (if more then [] else traceTrap (s.core (keyOf c)).psw) == []) := by
  have hleft : ((s.core (keyOf c)).rcnt - 1 != 0) = ((s.core (keyOf c)).rcnt != 1) := by
    rw [Bool.eq_iff_iff, bne_iff_ne, bne_iff_ne]
    omega
  simp only [State.repOnce, State.once, hops, hsem, hleft]
  rfl

end

/-- REPU ends with an iteration after which none is due. -/
theorem State.repAll_last {next tr fuel : Nat} (hrun : s.coreRuns? c = true) (h : (s.repOnce c .repu i sem next tr).2 = false) :
    State.repAll c i sem next tr (fuel + 1) s = (s.repOnce c .repu i sem next tr).1 := by
  simp only [State.repAll, hrun, h, if_true, Bool.false_eq_true, if_false]

/-! ### The repeated instruction (R318 to R320) -/

section
variable (hrun : s.coreRuns? c = true) (hesc : escFF i.mn = false)
include hrun hesc

theorem State.agRep_raises {e : Exc}
    (h : s.fetchExc c (1 + insnLen (fullInsn i)) (decodeExc c (fullInsn i) ++ repeatExc s c p (fullInsn i)) = some e) :
    s.agRep c p i sem = s.raiseExc c e := by
  have hesc' : escFF (fullInsn i).mn = false := hesc
  simp only [State.agRep, hrun, hesc', h, Bool.not_true, Bool.false_eq_true, if_false]

variable (hfetch : s.fetchExc c (1 + insnLen (fullInsn i)) (decodeExc c (fullInsn i) ++ repeatExc s c p (fullInsn i)) = none)
include hfetch

/-- Fetched with nothing wrong, the instruction is passed over with RCNT 0, repeated whole under REPU, and once under the others. -/
theorem State.agRep_fetched : s.agRep c p i sem =
    let k := s.core (keyOf c)
    let next := addr48 (k.pc + (1 + insnLen (fullInsn i)))
    if k.rcnt = 0 then (s.updCore c fun d => { d with pc := next }).takeTraps c (traceTrap k.psw)
    else if p = .repu then State.repAll c (fullInsn i) sem next k.psw 256 s
    else (s.repOnce c p (fullInsn i) sem next k.psw).1 := by
  have hesc' : escFF (fullInsn i).mn = false := hesc
  simp only [State.agRep, hrun, hesc', hfetch, Bool.not_true, Bool.false_eq_true, if_false]

end

/-- One iteration of a repeated instruction: of REPU, whose iterations run without a break, the last. -/
theorem State.agRep_iteration {x : AgIn} {o : AgOut} (hp : p ≠ .repu ∨ (s.core (keyOf c)).rcnt = 1) (h : RepReady s c p i x)
    (hsem : sem x = .done o) :
    s.agRep c p i sem = repEnd s c x o (repMore p (s.core (keyOf c)).rcnt (finishInsn c x o).1 c) := by
  obtain ⟨hesc, hrun, hrcnt, hfetch, hops⟩ := h
  have honce := State.repOnce_done (p := p) hops hsem hrcnt
  rw [State.agRep_fetched (i := i) hrun hesc hfetch]
  simp only [if_neg hrcnt]
  split
  · next hrepu =>
    subst hrepu
    have hlast := hp.resolve_left fun h => h rfl
    rw [State.repAll_last hrun (by rw [honce]; simp [repMore, hlast]), honce]
  · rw [honce]

end

/-- Each of the four commands repeats its instruction's effect. -/
theorem exec_repeated (c : CoreId) (i : AgInsn) (s : State) (p : Rp) :
    exec (match p with | .rep => .rep c i | .repz => .repz c i | .repnz => .repnz c i | .repu => .repu c i) s =
      .next (s.agRep c p i (semOf i.mn)) := by
  cases p <;> rfl

/-- Settles O14: an iteration runs the instruction once and counts; RCNT 0 only moves the PC; what may not be repeated is found at decode. -/
theorem agrekRepeat : Obligations.AgrekRepeat := by
  intro c i s
  refine ⟨fun p x o hp hready hsem => ?_, fun p hrcnt hrun hesc htr hfetch => ?_, fun p hrun hno hdec hgood hplace => ?_⟩
  · exact (exec_repeated c i s p).trans (congrArg Host.Outcome.next (State.agRep_iteration hp hready hsem))
  · refine (exec_repeated c i s p).trans (congrArg Host.Outcome.next ?_)
    rw [State.agRep_fetched hrun hesc hfetch]
    simp only [hrcnt, if_true, traceTrap, Psw.tr, htr, Bool.false_eq_true, if_false]
    rfl
  · refine (exec_repeated c i s p).trans (congrArg Host.Outcome.next (State.agRep_raises hrun (escFF_of_noRepeat hno) ?_))
    rw [State.fetchExc_fetched hplace hgood, hdec, repeatExc_noRepeat s c p (i := fullInsn i) hno]
    rfl

end Sys2Proof.Machine
end

section
/-!
PROOFS. Exceptions of Agrek: the entry to a handler with the stack in local store, and what happens without a handler
(10_agrek_model.md R263 to R266; 11_agrek_instructions.md R323, R324).
-/

namespace Sys2Proof.Machine

/-! ### Bytes of memory read after bytes written -/

theorem memRead_memWrite_same (m : Memory) (a : Nat) (l : List Byte) : memRead (memWrite m a l) a l.length = l := by
  refine List.ext_getElem (by simp [memRead]) fun i hi hi' => ?_
  simpa [memRead] using memAt_memWrite_in l m a i hi'

theorem memRead_memWrite_out (m : Memory) {a b n : Nat} {l : List Byte} (h : b + n ≤ a ∨ a + l.length ≤ b) :
    memRead (memWrite m a l) b n = memRead m b n := by
  refine List.map_congr_left fun i hi => memAt_memWrite_out _ _ _ _ ?_
  have := List.mem_range.1 hi
  omega

/-- A long of memory read after it is written. -/
theorem leNat_memRead_memWrite (m : Memory) (a : Nat) {v : Nat} (hv : v < 2 ^ 64) :
    leNat (memRead (memWrite m a (natLE 8 v)) a 8) = v := by
  have hread := memRead_memWrite_same m a (natLE 8 v)
  rw [length_natLE] at hread
  rw [hread, leNat_natLE, Nat.mod_eq_of_lt (by omega)]

/-! ### Local store above the register block (R262, R265) -/

theorem Core.lsByte_above (k : Core) {o : Nat} (ho : 96 ≤ o) : k.lsByte o = memAt k.ls o := if_neg (by omega)

theorem Core.lsRead_above (k : Core) {o : Nat} (ho : 96 ≤ o) (n : Nat) : k.lsRead o n = memRead k.ls o n :=
  List.map_congr_left fun i _ => k.lsByte_above (by omega)

theorem Core.foldl_lsPut_above (l : List Byte) {o : Nat} (ho : 96 ≤ o) (k : Core) (j : Nat) :
    (l.zipIdx j).foldl (fun c e => c.lsPut (o + e.2) e.1) k = { k with ls := memWrite k.ls (o + j) l } := by
  induction l generalizing k j with
  | nil => rfl
  | cons v r ih =>
    have hput : k.lsPut (o + j) v = { k with ls := memSet k.ls (o + j) v } := if_neg (by omega)
    rw [List.zipIdx_cons, List.foldl_cons, hput, ih]
    rfl

/-- Bytes stored above the register block change nothing else of the core. -/
theorem Core.store_above (k : Core) (id : CoreId) {o : Nat} (ho : 96 ≤ o) (l : List Byte) :
    k.store id o l = { k with ls := memWrite k.ls o l } := by
  have hwrite : k.lsWrite o l = { k with ls := memWrite k.ls o l } := Core.foldl_lsPut_above l ho k 0
  rw [Core.store, hwrite]
  exact congrArg (fun p => { k with ls := memWrite k.ls o l, psw := p }) (pswWritten_same _ _)

theorem lsSize_le (id : CoreId) : lsSize id ≤ 0x80000 := by cases id <;> simp [lsSize]

theorem placeOf_stack (id : CoreId) (k : Core) {o : Nat} (ho : 0x100 ≤ o) (hend : o + 8 ≤ lsSize id) :
    placeOf id k (lsBase + o) 8 .wr = some (.ls o) := by
  rw [placeOf, if_pos (Nat.le_add_right ..), if_pos (by omega), Nat.add_sub_cancel_left]
  exact if_neg (by simp only [reduceCtorEq, false_and, or_false]; omega)

/-! ### A long pushed (R264) -/

/-- A core with its stack pointer led to offset `o` of its local store, and the long `v` stored there. -/
def Core.pushed (k : Core) (o v : Nat) : Core := { k.setB 7 (lsBase + o) with ls := memWrite k.ls o (natLE 8 v) }

section
variable (k : Core) (o v : Nat)

@[simp] theorem Core.pushed_length : (k.pushed o v).b.length = k.b.length := by simp [Core.pushed, Core.setB]

theorem Core.pushed_breg {n : Nat} (hn : n ≠ 7) : (k.pushed o v).breg n = k.breg n := by
  simp [Core.pushed, Core.setB, Core.breg, List.getElem?_set_ne hn.symm]

theorem Core.pushed_sp {o : Nat} (hb : k.b.length = 8) (id : CoreId) (hend : o + 8 ≤ lsSize id) :
    (k.pushed o v).breg 7 = lsBase + o := by
  have hsize := lsSize_le id
  exact Core.breg_setB (by omega) (by rw [lsBase]; omega)

end

theorem State.core_eq {s : State} {c : CoreId} {k : Core} (h : Tbl.at? s.cores (keyOf c) = some k) : s.core (keyOf c) = k := by
  rw [State.core, h, Option.getD_some]

section
variable {s : State} {c : CoreId} {k : Core} (hk : Tbl.at? s.cores (keyOf c) = some k)
include hk

theorem State.at?_updCore (f : Core → Core) : Tbl.at? (s.updCore c f).cores (keyOf c) = some (f k) := by
  rw [State.updCore, Tbl.at?_upd, if_pos rfl, hk, Option.map_some]

/-- A push to local store above the register block. -/
theorem State.pushLong_stack (hb : k.b.length = 8) {o : Nat} (hsp : k.breg 7 = lsBase + (o + 8)) (ho : 0x100 ≤ o)
    (hend : o + 8 ≤ lsSize c) (v : Nat) : s.pushLong c v = .ok (s.updCore c fun _ => k.pushed o v) := by
  have hsize := lsSize_le c
  have hdown : k.setB 7 (k.breg 7 + 2 ^ 64 - 8) = k.setB 7 (lsBase + o) := by
    rw [hsp, show lsBase + (o + 8) + 2 ^ 64 - 8 = lsBase + o + 2 ^ 64 by omega, ← Core.setB_mod, Nat.add_mod_right, Core.setB_mod]
  have hbase : (k.setB 7 (lsBase + o)).breg 7 = lsBase + o := Core.breg_setB (by omega) (by rw [lsBase]; omega)
  have haddr : addr48 (lsBase + o) = lsBase + o := Nat.mod_eq_of_lt (by rw [lsBase]; omega)
  simp only [State.pushLong, State.core_eq hk, hdown, hbase, haddr, placeOf_stack c _ ho hend, Core.store_above _ c (Nat.le_trans (by decide) ho)]
  rfl

end

theorem Tbl.upd_upd {β : Type} (t : Tbl β) (k : Nat) (f g : β → β) : Tbl.upd (Tbl.upd t k f) k g = Tbl.upd t k (g ∘ f) := by
  rw [Tbl.upd, Tbl.upd, Tbl.upd, List.map_map]
  refine List.map_congr_left fun e _ => ?_
  by_cases h : e.1 = k <;> simp [h]

theorem State.updCore_updCore (s : State) (c : CoreId) (f g : Core → Core) : (s.updCore c f).updCore c g = s.updCore c (g ∘ f) := by
  simp only [State.updCore, Tbl.upd_upd]

/-! ### Entry to a handler (R323) -/

/-- A core with PSW, the saved PC and INFO pushed to local store, INFO at offset `p`. -/
def Core.frame (k : Core) (p info saved : Nat) : Core := ((k.pushed (p + 16) k.psw).pushed (p + 8) saved).pushed p info

/-- A core that enters a handler, its frame at offset `p` of local store. -/
def Core.entered (k : Core) (p info saved handler : Nat) : Core :=
  { k.frame p info saved with psw := bitPut (bitPut k.psw Psw.ie false) Psw.tr false, pc := handler, st := .run }

section
variable {k : Core} {p : Nat} (info saved : Nat)

theorem Core.entered_breg (handler n : Nat) : (k.entered p info saved handler).breg n = (k.frame p info saved).breg n := by
  simp only [Core.breg, Core.entered]

theorem Core.entered_psw (handler b : Nat) : (k.entered p info saved handler).psw.testBit b =
    if 10 = b then false else if 9 = b then false else k.psw.testBit b := by
  simp only [Core.entered, testBit_bitPut, Psw.tr, Psw.ie]

theorem Core.entered_lsRead (handler n : Nat) {o : Nat} (ho : 96 ≤ o) :
    (k.entered p info saved handler).lsRead o n = memRead (k.frame p info saved).ls o n :=
  Core.lsRead_above _ ho n

theorem Core.entered_lsByte (handler : Nat) {o : Nat} (ho : 96 ≤ o) :
    (k.entered p info saved handler).lsByte o = memAt (k.frame p info saved).ls o :=
  Core.lsByte_above _ ho

/-- The local store with the frame in it. -/
theorem Core.frame_ls : (k.frame p info saved).ls =
    memWrite (memWrite (memWrite k.ls (p + 16) (natLE 8 k.psw)) (p + 8) (natLE 8 saved)) p (natLE 8 info) := rfl

theorem Core.frame_info (hinfo : info < 2 ^ 64) : leNat (memRead (k.frame p info saved).ls p 8) = info :=
  leNat_memRead_memWrite _ p hinfo

theorem Core.frame_saved (hsaved : saved < 2 ^ 64) : leNat (memRead (k.frame p info saved).ls (p + 8) 8) = saved := by
  rw [Core.frame_ls, memRead_memWrite_out _ (by rw [length_natLE]; omega), leNat_memRead_memWrite _ _ hsaved]

theorem Core.frame_psw (hpsw : k.psw < 2 ^ 64) : leNat (memRead (k.frame p info saved).ls (p + 16) 8) = k.psw := by
  rw [Core.frame_ls, memRead_memWrite_out _ (by rw [length_natLE]; omega), memRead_memWrite_out _ (by rw [length_natLE]; omega),
    leNat_memRead_memWrite _ _ hpsw]

theorem Core.frame_outside {o : Nat} (h : o < p ∨ p + 24 ≤ o) : memAt (k.frame p info saved).ls o = memAt k.ls o := by
  rw [Core.frame_ls, memAt_memWrite_out _ _ _ _ (by rw [length_natLE]; omega), memAt_memWrite_out _ _ _ _ (by rw [length_natLE]; omega),
    memAt_memWrite_out _ _ _ _ (by rw [length_natLE]; omega)]

theorem Core.frame_sp (hb : k.b.length = 8) (id : CoreId) (hend : p + 8 ≤ lsSize id) : (k.frame p info saved).breg 7 = lsBase + p :=
  Core.pushed_sp ((k.pushed (p + 16) k.psw).pushed (p + 8) saved) info (o := p) (by simp [hb]) id hend

theorem Core.frame_breg {n : Nat} (hn : n ≠ 7) : (k.frame p info saved).breg n = k.breg n := by
  rw [Core.frame, Core.pushed_breg _ _ _ hn, Core.pushed_breg _ _ _ hn, Core.pushed_breg _ _ _ hn]

end

section
variable {s : State} {c : CoreId} {k : Core} (hk : Tbl.at? s.cores (keyOf c) = some k) (hb : k.b.length = 8) {p : Nat}
  (hsp : k.breg 7 = lsBase + (p + 24)) (hp : 0x100 ≤ p) (hend : p + 24 ≤ lsSize c)
include hk hb hsp hp hend

/-- The three pushes of an entry. -/
theorem State.pushFrame (info saved : Nat) :
    ((s.pushLong c k.psw).bind fun s => s.pushLong c saved).bind (fun s => s.pushLong c info) =
      .ok (s.updCore c fun _ => k.frame p info saved) := by
  have hpsw : s.pushLong c k.psw = .ok (s.updCore c fun _ => k.pushed (p + 16) k.psw) :=
    State.pushLong_stack hk hb hsp (by omega) (by omega) _
  have hsaved := State.pushLong_stack (State.at?_updCore hk fun _ => k.pushed (p + 16) k.psw) (o := p + 8) (by simp [hb])
    (k.pushed_sp _ hb c (by omega)) (by omega) (by omega) saved
  have hinfo := State.pushLong_stack (State.at?_updCore (State.at?_updCore hk fun _ => k.pushed (p + 16) k.psw)
    fun _ => (k.pushed (p + 16) k.psw).pushed (p + 8) saved) (o := p) (by simp [hb])
    (Core.pushed_sp _ _ (by simp [hb]) c (by omega)) hp (by omega) info
  simp only [hpsw, Except.bind, hsaved, hinfo]
  simp only [State.updCore_updCore]
  rfl

theorem State.enterExc_stack {vec : Nat} (info saved : Nat) (hhandler : leNat (k.lsRead (0x100 + 8 * vec) 8) % 2 ^ 48 ≠ 0) :
    s.enterExc c vec info saved =
      s.updCore c fun _ => k.entered p info saved (leNat (k.lsRead (0x100 + 8 * vec) 8) % 2 ^ 48) := by
  simp only [State.enterExc, State.core_eq hk, if_neg hhandler, State.pushFrame hk hb hsp hp hend, State.updCore_updCore]
  rfl

end

/-- Settles O16: the frame is three pushes to local store, after which the PSW loses IE and TR and the PC is the handler. -/
theorem exceptionEntry : Obligations.ExceptionEntry := by
  intro s c k vec info saved hk hb sp handler hhandler hlow hhigh hinfo hsaved hpsw t
  obtain ⟨p, hsp⟩ : ∃ p, k.breg 7 = lsBase + (p + 24) := ⟨sp - lsBase - 24, by show sp = _; omega⟩
  have hbase : sp = lsBase + (p + 24) := hsp
  have hp : 0x100 ≤ p := by omega
  have hend : p + 24 ≤ lsSize c := by omega
  have hoff : sp - lsBase - 24 = p ∧ sp - lsBase - 16 = p + 8 ∧ sp - lsBase - 8 = p + 16 ∧ sp - lsBase = p + 24 := by omega
  obtain ⟨hoffInfo, hoffSaved, hoffPsw, hoffEnd⟩ := hoff
  have ht : t = s.updCore c fun _ => k.entered p info saved handler := State.enterExc_stack hk hb hsp hp hend info saved hhandler
  rw [ht]
  refine ⟨k.entered p info saved handler, rfl, State.at?_updCore hk _, fun j hj => ?_, rfl, ?_, fun n hn => ?_, rfl, rfl, ?_, ?_,
    fun b h9 h10 => ?_, ?_, ?_, ?_, fun o ho hout => ?_⟩
  · rw [State.updCore, Tbl.at?_upd, if_neg hj.symm]
  · rw [Core.entered_breg, Core.frame_sp info saved hb c (by omega)]
    omega
  · rw [Core.entered_breg, Core.frame_breg info saved (by omega)]
  · rw [Core.entered_psw]
    rfl
  · rw [Core.entered_psw]
    rfl
  · rw [Core.entered_psw, if_neg (Ne.symm h10), if_neg (Ne.symm h9)]
  · rw [hoffInfo, Core.entered_lsRead _ _ _ _ (by omega), Core.frame_info info saved hinfo]
  · rw [hoffSaved, Core.entered_lsRead _ _ _ _ (by omega), Core.frame_saved info saved hsaved]
  · rw [hoffPsw, Core.entered_lsRead _ _ _ _ (by omega), Core.frame_psw info saved hpsw]
  · rw [Core.entered_lsByte _ _ _ ho, Core.lsByte_above _ ho, Core.frame_outside info saved (by omega)]

/-! ### No handler (R324) -/

/-- Settles O17: with a vector entry of 0 the core's kind decides. -/
theorem exceptionNoHandler : Obligations.ExceptionNoHandler := by
  intro s c vec info saved h
  simp only [State.enterExc, if_pos h]
  cases c <;> rfl

end Sys2Proof.Machine
end

section
/-!
PROOFS. Domains switched off and the entry to a low-power state, as updates of a few fields (R442, R446, R447, R451).
-/

namespace Sys2Proof.Machine

theorem State.foldl_send {α : Type} (f : α → Output) (l : List α) : ∀ s : State,
    l.foldl (fun (s : State) a => s.send (f a)) s = { s with outbox := s.outbox ++ l.map f } := by
  induction l with
  | nil => intro s; simp
  | cons a l ih => intro s; rw [List.foldl_cons, ih]; simp [State.send]

/-- Every connection reset: its message sent, its commands gone. -/
theorem State.resetConns_eq (s : State) : s.resetConns = { s with
    net := { s.net with conns := [] }
    nvme := { s.nvme with cmds := s.nvme.cmds.filter fun e => e.1 < 2 ^ 32 }
    outbox := s.outbox ++ s.net.conns.map fun c => .tcpReset c.1 } := by
  simp only [State.resetConns, State.foldl_send]

/-- The state `t` differs from `s` in what blocks hold beside their registers, and in what was sent: in no register and no counter, in nothing
of the power sequences, of DRAM's control, of Seam or of trust. -/
def BlockFrame (s t : State) : Prop := t = { s with
  mem := t.mem, integ := t.integ, cores := t.cores, caches := t.caches, spool := t.spool, pink := t.pink, nand := t.nand
  pleat := t.pleat, gauge := t.gauge, selv := t.selv, servo := t.servo, trd := t.trd, nvme := t.nvme, net := t.net
  outbox := t.outbox }

theorem BlockFrame.resetConns (s : State) : BlockFrame s s.resetConns := by
  rw [State.resetConns_eq]
  rfl

theorem BlockFrame.loseBlocks (s : State) (d : Nat) : BlockFrame s (s.loseBlocks d) := by
  unfold State.loseBlocks
  repeat' refine iteInduction (fun _ => ?_) (fun _ => ?_)
  any_goals rfl
  exact BlockFrame.resetConns s

section
variable {s t : State} (h : BlockFrame s t)
include h

theorem BlockFrame.dram_eq : t.dram = s.dram := by unfold BlockFrame at h; rw [h]
theorem BlockFrame.regs_eq : t.regs = s.regs := by unfold BlockFrame at h; rw [h]
theorem BlockFrame.part_eq : t.part = s.part := by unfold BlockFrame at h; rw [h]
theorem BlockFrame.power_eq : t.power = s.power := by unfold BlockFrame at h; rw [h]

end

@[simp] theorem State.loseBlocks_dram (s : State) (d : Nat) : (s.loseBlocks d).dram = s.dram := (BlockFrame.loseBlocks s d).dram_eq
@[simp] theorem State.reloadPages_dram (s : State) (ps : List Nat) : (s.reloadPages ps).dram = s.dram := rfl
@[simp] theorem State.zeroMem_dram (s : State) (lo hi : Nat) : (s.zeroMem lo hi).dram = s.dram := rfl
@[simp] theorem State.regEnable_dram (s : State) (r : Nat) (on : Bool) : (s.regEnable r on).dram = s.dram := rfl

theorem State.foldl_dram {α : Type} {f : State → α → State} (h : ∀ s a, (f s a).dram = s.dram) (l : List α) (s : State) :
    (l.foldl f s).dram = s.dram := State.foldl_keeps State.dram h l s

theorem State.whenB_dram {f : State → State} (h : ∀ s, (f s).dram = s.dram) (s : State) (c : Bool) : (s.whenB c f).dram = s.dram := by
  cases c
  · rfl
  · exact h s

@[simp] theorem State.domOff_dram (s : State) (d : Nat) : (s.domOff d).dram = s.dram := by
  unfold State.domOff
  simp only [apply_ite State.dram, State.count_dram, State.wr_dram, State.setDom_dram, State.reloadPages_dram, State.loseBlocks_dram, ite_self]

@[simp] theorem State.loseAll_dram (s : State) : s.loseAll.dram = s.dram := by
  simp only [State.loseAll, State.setDom_dram, State.setDev_dram, State.reloadPages_dram, State.zeroMem_dram]
  exact State.foldl_dram State.domOff_dram _ s

@[simp] theorem State.dropBanks_dram (s : State) : s.dropBanks.dram = s.dram := by
  refine State.foldl_dram (fun _ _ => ?_) _ s
  rfl

@[simp] theorem State.clocksOff_dram (s : State) (t : LowPower) (x : Bool) : (s.clocksOff t x).dram = s.dram := by
  rw [State.clocksOff, State.whenB_dram fun _ => State.wr_dram ..]
  refine State.foldl_dram (fun _ _ => ?_) _ _
  rfl

@[simp] theorem State.wakePlls_dram (s : State) (t : LowPower) : (s.wakePlls t).dram = s.dram := by
  simp only [State.wakePlls]
  split <;> rfl

@[simp] theorem State.wakeCrystal_dram (s : State) (t : LowPower) : (s.wakeCrystal t).dram = s.dram := by
  unfold State.wakeCrystal
  split <;> simp

@[simp] theorem State.wakeRegs_dram (s : State) (t : LowPower) : (s.wakeRegs t).dram = s.dram := by
  unfold State.wakeRegs
  split
  · exact State.wakeCrystal_dram s t
  · rfl

/-- The start of a wake leaves the tables; the end of a Doze takes the channels out of power-down. -/
theorem State.startWake_act (s : State) (t : LowPower) (src : Nat) : (s.startWake t src).dram.act = s.dram.act := by
  cases t <;> simp [State.startWake, State.dozeWake]

/-- Slumber: the domains off, VDD_CORE at its retention value, regulators and crystal off as asked. -/
def State.slumbered (s : State) : State :=
  let u := { s with power := { s.power with domsWere := s.slumberOff, vddCode := 0x1E } }
  ((((s.slumberOff.foldl State.domOff u.dropBanks).send (.vid 0x401E)).clocksOff .slumber
    ((s.slumberOff.foldl State.domOff u.dropBanks).on P.pwr R.pwr_XTAL_SLUMBER)).setDev Dev.slumber).count P.pwr 0x068

/-- Vault: everything but AON lost, regulators and crystal off. -/
def State.vaulted (s : State) : State :=
  let u := { s with power := { s.power with domsWere := [], vddCode := 0x32 } }
  ((u.loseAll.clocksOff .vault true).setDev Dev.vault).count P.pwr 0x070

/-- The state as a low-power state is entered, before a wake latched after AP3 is served. -/
def State.lowered (s : State) (t : LowPower) : State :=
  let u := { s with power := { s.power with seq := .asleep t, asleepSince := s.rtcUs, dvfs := [], vidWait := false } }.wr P.pwr
    R.pwr_STATE_BUSY 0
  (match t with | .doze => u | .slumber => u.slumbered | .vault => u.vaulted).raise P.pwr 0

theorem State.enterLowPower_eq (s : State) (t : LowPower) : s.enterLowPower t =
    if (s.lowered t).power.latched = 0 then s.lowered t else (s.lowered t).startWake t (s.lowered t).power.latched := by
  cases t <;> rfl

@[simp] theorem State.slumbered_dram (s : State) : s.slumbered.dram = s.dram := by
  simp only [State.slumbered, State.count_dram, State.setDev_dram, State.clocksOff_dram, State.send_dram,
    State.foldl_dram State.domOff_dram, State.dropBanks_dram]

@[simp] theorem State.vaulted_dram (s : State) : s.vaulted.dram = s.dram := by
  simp only [State.vaulted, State.count_dram, State.setDev_dram, State.clocksOff_dram, State.loseAll_dram]

theorem State.lowered_dram (s : State) (t : LowPower) : (s.lowered t).dram = s.dram := by
  cases t <;> simp only [State.lowered, State.raise_dram, State.wr_dram, State.slumbered_dram, State.vaulted_dram]

theorem State.enterLowPower_act (s : State) (t : LowPower) : (s.enterLowPower t).dram.act = s.dram.act := by
  rw [State.enterLowPower_eq]
  split
  · rw [State.lowered_dram]
  · rw [State.startWake_act, State.lowered_dram]

@[simp] theorem State.trlSend_dram (s : State) (c a : Nat) : (s.trlSend c a).dram = s.dram := by
  have h := s.trlSend_frame c a
  unfold TrlFrame at h
  rw [h]

@[simp] theorem State.svoPark_dram (s : State) : s.svoPark.dram = s.dram := by
  simp only [State.svoPark, State.svoRetract, State.svoState, State.trlSend_dram, State.wr_dram]
@[simp] theorem State.svoStop_dram (s : State) : s.svoStop.dram = s.dram := by
  simp only [State.svoStop, State.spnMode, State.trlSend_dram, State.wr_dram, State.svoPark_dram]

theorem State.entryPark_act (s : State) (t : LowPower) : (s.entryPark t).dram.act = s.dram.act := by
  unfold State.entryPark
  split
  · rw [State.svoStop_dram]
  · exact State.enterLowPower_act s t

@[simp] theorem State.setSr_dram (s : State) (v : Nat) : (s.setSr v).dram = s.dram := by
  refine State.foldl_dram (fun _ _ => ?_) _ s
  rfl

@[simp] theorem State.abandon_dram (s : State) (t : LowPower) (n : Nat) : (s.abandon t n).dram = s.dram := by simp [State.abandon]

end Sys2Proof.Machine
end

section
/-!
PROOFS. The activation table of a bank: the count of every row above 1/16 of the activations (R430), and what empties the tables
(R436, R447).
-/

namespace Sys2Proof.Machine

/-! ### One activation -/

section
variable {t : List (Nat × Nat)} {row : Nat}

theorem actTable_listed (h : row ∈ t.map (·.1)) :
    actTable t row = t.map fun e => if e.1 = row then (row, e.2 + 1) else e := by
  simp only [actTable, List.contains_iff_mem.2 h, if_true]

theorem actTable_room (h : row ∉ t.map (·.1)) (hl : t.length < 16) : actTable t row = t ++ [(row, 1)] := by
  rw [actTable, if_neg (by simpa using h), if_pos hl]

/-- A full table gives the place of an entry of lowest count. -/
theorem actTable_full (h : row ∉ t.map (·.1)) (hl : 16 ≤ t.length) : ∃ low ∈ t, (∀ e ∈ t, low.2 ≤ e.2) ∧
    actTable t row = t.map fun e => if e.1 = low.1 then (row, low.2 + 1) else e := by
  cases hlow : leastBy (fun e : Nat × Nat => e.2) t with
  | none => simp [leastBy_none hlow] at hl
  | some low =>
    obtain ⟨hmem, hmin⟩ := leastBy_some hlow
    refine ⟨low, hmem, hmin, ?_⟩
    rw [actTable, if_neg (by simpa using h), if_neg (Nat.not_lt.2 hl), hlow]

end

/-- Two entries of one row are the same entry. -/
theorem eq_of_row_eq {t : List (Nat × Nat)} (hn : (t.map (·.1)).Nodup) {a b : Nat × Nat} (ha : a ∈ t) (hb : b ∈ t) (h : a.1 = b.1) :
    a = b := List.inj_on_of_nodup_map hn ha hb h

/-- In a table without duplicates the entry of one row replaced: its count leaves the sum and the new one enters it. -/
theorem sum_map_replace {t : List (Nat × Nat)} (hn : (t.map (·.1)).Nodup) {a : Nat × Nat} (ha : a ∈ t) (b : Nat × Nat) :
    ((t.map fun e => if e.1 = a.1 then b else e).map (·.2)).sum + a.2 = (t.map (·.2)).sum + b.2 := by
  induction t with
  | nil => cases ha
  | cons x r ih =>
    obtain ⟨hx, hr⟩ := List.nodup_cons.1 hn
    by_cases hxa : x.1 = a.1
    · have hkeep : ∀ e ∈ r, (if e.1 = a.1 then b else e) = e := fun e he =>
        if_neg fun h => hx (List.mem_map.2 ⟨e, he, h.trans hxa.symm⟩)
      rw [eq_of_row_eq hn ha List.mem_cons_self hxa.symm] at hkeep ⊢
      simp only [List.map_cons, List.map_congr_left hkeep, List.map_id', List.sum_cons, if_true]
      omega
    · have har : a ∈ r := (List.mem_cons.1 ha).resolve_left fun h => hxa (h ▸ rfl)
      have := ih hr har
      simp only [List.map_cons, List.sum_cons, if_neg hxa]
      omega

/-! ### The invariant of a table since its clear -/

/-- What a table holds of the activations `l` since its clear: its rows are distinct and at most 16, its counts add up to the
activations, none is below the true number, and no count is below the true number of a row that is not listed. -/
structure Counts (l : List Nat) (t : List (Nat × Nat)) : Prop where
  nodup : (t.map (·.1)).Nodup
  length_le : t.length ≤ 16
  sum_eq : (t.map (·.2)).sum = l.length
  count_le : ∀ e ∈ t, l.count e.1 ≤ e.2
  absent_room : t.length < 16 → ∀ r, r ∉ t.map (·.1) → l.count r = 0
  absent_full : ∀ e ∈ t, ∀ r, r ∉ t.map (·.1) → l.count r ≤ e.2

theorem Counts.nil : Counts [] [] where
  nodup := List.nodup_nil
  length_le := by decide
  sum_eq := rfl
  count_le := by simp
  absent_room := by simp
  absent_full := by simp

section
variable {l : List Nat} {t : List (Nat × Nat)} {row : Nat} (h : Counts l t)
include h

theorem Counts.step_listed (hrow : row ∈ t.map (·.1)) :
    Counts (l ++ [row]) (t.map fun e => if e.1 = row then (row, e.2 + 1) else e) := by
  obtain ⟨a, ha, rfl⟩ := List.mem_map.1 hrow
  have hsame : (t.map fun e => if e.1 = a.1 then (a.1, e.2 + 1) else e) = t.map fun e => if e.1 = a.1 then (a.1, a.2 + 1) else e :=
    List.map_congr_left fun e he => by
      split
      next hea => rw [eq_of_row_eq h.nodup he ha hea]
      next => rfl
  have hkeys : (t.map fun e => if e.1 = a.1 then (a.1, a.2 + 1) else e).map (·.1) = t.map (·.1) := by
    rw [List.map_map]
    refine List.map_congr_left fun e _ => ?_
    by_cases hea : e.1 = a.1 <;> simp [hea]
  have hge : ∀ e ∈ t, e.2 ≤ (if e.1 = a.1 then (a.1, a.2 + 1) else e).2 := fun e he => by
    split
    next hea => rw [eq_of_row_eq h.nodup he ha hea]; exact Nat.le_succ _
    next => exact Nat.le_refl _
  have hcount : ∀ r, r ≠ a.1 → (l ++ [a.1]).count r = l.count r := fun r hr => by simp [Ne.symm hr]
  rw [hsame]
  constructor
  · rw [hkeys]; exact h.nodup
  · simpa using h.length_le
  · have := sum_map_replace h.nodup ha (a.1, a.2 + 1)
    have := h.sum_eq
    simp only [List.length_append, List.length_singleton] at *
    omega
  · intro e he
    obtain ⟨x, hx, rfl⟩ := List.mem_map.1 he
    by_cases hxa : x.1 = a.1
    · simpa [hxa] using h.count_le a ha
    · rw [if_neg hxa, hcount _ hxa]; exact h.count_le x hx
  · intro hl r hr
    rw [hkeys] at hr
    rw [hcount r fun e => hr (e ▸ List.mem_map_of_mem ha)]
    exact h.absent_room (by simpa using hl) r hr
  · intro e he r hr
    obtain ⟨x, hx, rfl⟩ := List.mem_map.1 he
    rw [hkeys] at hr
    rw [hcount r fun e => hr (e ▸ List.mem_map_of_mem ha)]
    exact (h.absent_full x hx r hr).trans (hge x hx)

theorem Counts.step_room (hrow : row ∉ t.map (·.1)) (hl : t.length < 16) : Counts (l ++ [row]) (t ++ [(row, 1)]) := by
  have hzero := h.absent_room hl
  have hcount : ∀ r, r ≠ row → (l ++ [row]).count r = l.count r := fun r hr => by simp [Ne.symm hr]
  constructor
  · simpa [List.nodup_append] using ⟨h.nodup, fun a b hab e => hrow (e ▸ List.mem_map_of_mem hab)⟩
  · simpa using hl
  · simp [h.sum_eq]
  · intro e he
    rcases List.mem_append.1 he with he | he
    · rw [hcount _ fun hr => hrow (hr ▸ List.mem_map_of_mem he)]; exact h.count_le e he
    · obtain rfl := List.mem_singleton.1 he
      simp [hzero row hrow]
  · intro _ r hr
    simp only [List.map_append, List.mem_append, not_or] at hr
    rw [hcount r (by simpa using hr.2)]
    exact hzero r hr.1
  · intro e _ r hr
    simp only [List.map_append, List.mem_append, not_or] at hr
    rw [hcount r (by simpa using hr.2), hzero r hr.1]
    exact Nat.zero_le _

theorem Counts.step_full (hrow : row ∉ t.map (·.1)) (hl : 16 ≤ t.length) {low : Nat × Nat} (hlow : low ∈ t) (hmin : ∀ e ∈ t, low.2 ≤ e.2) :
    Counts (l ++ [row]) (t.map fun e => if e.1 = low.1 then (row, low.2 + 1) else e) := by
  have hcount : ∀ r, r ≠ row → (l ++ [row]).count r = l.count r := fun r hr => by simp [Ne.symm hr]
  have hrowCount : (l ++ [row]).count row = l.count row + 1 := by simp
  have hmem : ∀ {r}, r ∉ (t.map fun e => if e.1 = low.1 then (row, low.2 + 1) else e).map (·.1) →
      r ≠ row ∧ (r ∉ t.map (·.1) ∨ r = low.1) := by
    intro r hr
    refine ⟨fun e => hr (List.mem_map.2 ⟨_, List.mem_map_of_mem hlow, by simp [e]⟩), ?_⟩
    by_cases hrl : r = low.1
    · exact .inr hrl
    · refine .inl fun hin => ?_
      obtain ⟨x, hx, rfl⟩ := List.mem_map.1 hin
      exact hr (List.mem_map.2 ⟨_, List.mem_map_of_mem hx, by simp [hrl]⟩)
  constructor
  · have hkeys : (t.map fun e => if e.1 = low.1 then (row, low.2 + 1) else e).map (·.1) =
        (t.map (·.1)).map fun k => if k = low.1 then row else k := by
      simp only [List.map_map]
      refine List.map_congr_left fun e _ => ?_
      by_cases hel : e.1 = low.1 <;> simp [hel]
    rw [hkeys]
    refine h.nodup.map_on fun x hx y hy hxy => ?_
    split_ifs at hxy with hxl hyl hyl
    · rw [hxl, hyl]
    · exact absurd (hxy ▸ hy) hrow
    · exact absurd (hxy ▸ hx) hrow
    · exact hxy
  · simpa using h.length_le
  · have := sum_map_replace h.nodup hlow (row, low.2 + 1)
    have := h.sum_eq
    simp only [List.length_append, List.length_singleton] at *
    omega
  · intro e he
    obtain ⟨x, hx, rfl⟩ := List.mem_map.1 he
    by_cases hxl : x.1 = low.1
    · rw [if_pos hxl, hrowCount]
      exact Nat.succ_le_succ (h.absent_full low hlow row hrow)
    · rw [if_neg hxl, hcount _ fun hr => hrow (hr ▸ List.mem_map_of_mem hx)]; exact h.count_le x hx
  · intro hl'
    exact absurd hl' (by simpa using hl)
  · intro e he r hr
    obtain ⟨hne, hr⟩ := hmem hr
    have hrlow : l.count r ≤ low.2 := by
      rcases hr with hr | rfl
      · exact h.absent_full low hlow r hr
      · exact h.count_le low hlow
    obtain ⟨x, hx, rfl⟩ := List.mem_map.1 he
    rw [hcount r hne]
    split
    · exact hrlow.trans (Nat.le_succ _)
    · exact hrlow.trans (hmin x hx)

theorem Counts.actTable (row : Nat) : Counts (l ++ [row]) (actTable t row) := by
  by_cases hrow : row ∈ t.map (·.1)
  · rw [actTable_listed hrow]; exact h.step_listed hrow
  · rcases Nat.lt_or_ge t.length 16 with hl | hl
    · rw [actTable_room hrow hl]; exact h.step_room hrow hl
    · obtain ⟨low, hlow, hmin, heq⟩ := actTable_full hrow hl
      rw [heq]; exact h.step_full hrow hl hlow hmin

/-- A row that is not listed made up at most 1/16 of the activations. -/
theorem Counts.listed {r : Nat} (hr : l.length < 16 * l.count r) : ∃ e ∈ t, e.1 = r ∧ l.count r ≤ e.2 := by
  by_cases hin : r ∈ t.map (·.1)
  · obtain ⟨e, he, rfl⟩ := List.mem_map.1 hin
    exact ⟨e, he, rfl, h.count_le e he⟩
  · have hlen : t.length = 16 := by
      by_contra hne
      have := h.absent_room (by have := h.length_le; omega) r hin
      omega
    have hsum : (t.map (·.2)).length • l.count r ≤ (t.map (·.2)).sum :=
      List.card_nsmul_le_sum _ _ fun x hx => by
        obtain ⟨e, he, rfl⟩ := List.mem_map.1 hx
        exact h.absent_full e he r hin
    rw [h.sum_eq, List.length_map, hlen, smul_eq_mul] at hsum
    omega

end

theorem counts_foldl (l : List Nat) : Counts l (l.foldl actTable []) := by
  induction l using List.reverseRecOn with
  | nil => exact Counts.nil
  | append_singleton l r ih => rw [List.foldl_append]; exact ih.actTable r

/-! ### Banks, and what empties their tables -/

theorem DramPlace.key_ne {p q : DramPlace} (h : (q.ch, q.sub, q.rank, q.bank) ≠ (p.ch, p.sub, p.rank, p.bank)) (hps : p.sub < 2)
    (hpr : p.rank < 2) (hpb : p.bank < 32) (hqs : q.sub < 2) (hqr : q.rank < 2) (hqb : q.bank < 32) : p.key ≠ q.key := by
  simp only [ne_eq, Prod.mk.injEq] at h
  simp only [DramPlace.key]
  omega

theorem State.actOf_setAct_same (s : State) (p : DramPlace) (t : List (Nat × Nat)) : (s.setAct p t).actOf p = t := by
  simp [State.actOf, State.setAct]

theorem State.actOf_setAct_ne (s : State) {p q : DramPlace} (t : List (Nat × Nat)) (h : p.key ≠ q.key) :
    (s.setAct p t).actOf q = s.actOf q := by
  simp [State.actOf, State.setAct, Tbl.at?_put_ne _ _ h]

theorem State.actOf_empty {s : State} (h : s.dram.act = []) (p : DramPlace) : s.actOf p = [] := by simp [State.actOf, h]

theorem dramSelfRefreshEntered_clears {s : State} {t : LowPower} (h : s.power.seq = .entry t 3) :
    Does .dramSelfRefreshEntered s fun u => ∀ p, u.actOf p = [] := by
  have hexec : exec .dramSelfRefreshEntered s = .next (if s.power.latched ≠ 0
      then (({ s with dram := { s.dram with act := [] } } : State).setSr 3).abandon t 3
      else (({ s with dram := { s.dram with act := [] } } : State).setSr 2).entryPark t) := by
    show execDramSelfRefreshEntered s = _
    simp only [execDramSelfRefreshEntered, h]
  refine ⟨_, hexec, State.actOf_empty ?_⟩
  split
  · simp
  · rw [State.entryPark_act, State.setSr_dram]

/-- Settles O39: the equations of one activation, the invariant of all since a clear, and the two events that empty the tables. -/
theorem activationTable : Obligations.ActivationTable := by
  unfold Obligations.ActivationTable
  refine ⟨fun t row hn => ⟨fun n hrow => ?_, actTable_room, actTable_full⟩, fun l => ?_,
    fun s p t => ⟨s.actOf_setAct_same p t, fun q h hps hpr hpb hqs hqr hqb => s.actOf_setAct_ne t (DramPlace.key_ne h hps hpr hpb hqs hqr hqb)⟩,
    fun s => ⟨_, rfl, State.actOf_empty rfl⟩, fun s t h => dramSelfRefreshEntered_clears h⟩
  · rw [actTable_listed (List.mem_map_of_mem (f := (·.1)) hrow)]
    refine List.map_congr_left fun e he => ?_
    split
    next h => rw [eq_of_row_eq hn he hrow h]
    next => rfl
  · have h := counts_foldl l
    exact ⟨h.nodup, h.length_le, fun r hr => h.listed hr⟩

end Sys2Proof.Machine
end

section
/-!
PROOFS. A refused soft reset (R463).
-/

namespace Sys2Proof.Machine

/-- A soft reset that comes too soon: flagged, counted and signalled. -/
def State.sresetRefused (s : State) : State := ((s.flag P.rst R.rst_SRESET_REJ).count P.rst 0x060).raise P.rst 0

theorem State.softReset_refused {s : State} {p ty n : Nat} {k : PageKind} (hp : pageInfo p = some (k, ty, n)) (hc : isControl k = false)
    (hd : ¬(k = .drc ∧ (s.rd P.drm R.drm_SET).testBit n = true)) (hb : s.on p R.common_EN = true ∨ s.running p = true) :
    s.softReset p = s.sresetRefused := by
  have hbusy : (s.en p || s.running p) = true := by simpa [State.en] using hb
  simp only [State.softReset, hp, hc, Bool.false_eq_true, if_false, if_neg hd, hbusy, if_true, State.sresetRefused]

/-- Settles O33: the refused reset changes its flag, its counter and its interrupt alone. -/
theorem softReset : Obligations.SoftReset := by
  unfold Obligations.SoftReset
  intro s ag p k ty n hr hp hc hd hb
  have hexec : exec (.sreset ag p) s = .next s.sresetRefused := by rw [exec_sreset hr, State.softReset_refused hp hc hd hb]
  have hframe : RegFrame s s.sresetRefused := (((RegFrame.refl s).wr P.rst R.rst_SRESET_REJ 1).count _ _).raise _ _
  refine ⟨_, hexec, ?_, State.testBit_raise _ _ (by decide), hframe, ?_⟩
  · rw [State.sresetRefused, State.rd_raise_own _ _ _ (by decide), State.rd_count, State.flag, State.rd_wr_same]
    rfl
  · have hflag : SameRegs s ((s.flag P.rst R.rst_SRESET_REJ).count P.rst 0x060) [fkey P.rst R.rst_SRESET_REJ 0,
        fkey P.rst R.common_INT_RAW 0] := fun j hj => by
      rw [State.count_regs]
      exact (SameRegs.refl s _).flag (by simp) j hj
    exact hflag.raise (by simp) 0

end Sys2Proof.Machine
end

section
/-!
PROOFS. Registers after the shared operations: what a counter, an output or a fold leaves (R500, R501, R509).
-/

namespace Sys2Proof.Machine

theorem SameRegs.count {s t : State} {l : List Nat} (h : SameRegs s t l) (p o : Nat) : SameRegs s (t.count p o) l := fun k hk => by
  rw [State.count_regs, h k hk]

theorem SameRegs.trans {s t u : State} {l : List Nat} (h : SameRegs s t l) (g : SameRegs t u l) : SameRegs s u l := fun k hk =>
  (g k hk).trans (h k hk)

theorem SameRegs.of_regs_eq {s t : State} (h : t.regs = s.regs) (l : List Nat) : SameRegs s t l := fun k _ => by rw [h]

/-! ### Frames of registers, counters and outputs -/

theorem RegFrame.send {s t : State} (h : RegFrame s t) (o : Output) : RegFrame s (t.send o) := h.trans rfl

theorem RegFrame.wrI {s t : State} (h : RegFrame s t) (p : Nat) (f : Fld) (i v : Nat) : RegFrame s (t.wrI p f i v) := h.trans rfl

theorem RegFrame.setDom {s t : State} (h : RegFrame s t) (d : Nat) (on : Bool) : RegFrame s (t.setDom d on) := by
  unfold State.setDom
  split <;> exact h.wr _ _ _

theorem RegFrame.foldl {α : Type} {f : State → α → State} (hf : ∀ u a, RegFrame u (f u a)) (l : List α) : ∀ {s t : State},
    RegFrame s t → RegFrame s (l.foldl f t) := by
  induction l with
  | nil => exact fun h => h
  | cons a l ih => exact fun h => ih (h.trans (hf _ a))

section
variable {s t : State} (h : RegFrame s t)
include h

theorem RegFrame.sameRegs (hr : t.regs = s.regs) : t = { s with ctrs := t.ctrs, outbox := t.outbox } :=
  Eq.trans h (congrArg (fun r => { s with regs := r, ctrs := t.ctrs, outbox := t.outbox }) hr)

theorem RegFrame.onlyRegs (hc : t.ctrs = s.ctrs) (ho : t.outbox = s.outbox) : t = { s with regs := t.regs } :=
  Eq.trans (h.silent ho) (congrArg (fun c => { s with regs := t.regs, ctrs := c }) hc)

theorem RegFrame.power_eq : t.power = s.power := by unfold RegFrame at h; rw [h]
theorem RegFrame.part_eq : t.part = s.part := by unfold RegFrame at h; rw [h]
theorem RegFrame.dram_eq : t.dram = s.dram := by unfold RegFrame at h; rw [h]
theorem RegFrame.spool_eq : t.spool = s.spool := by unfold RegFrame at h; rw [h]

end

end Sys2Proof.Machine
end

section
/-!
PROOFS. Register, counter, UART and GPIO accesses (R499 to R501, R511).
-/

namespace Sys2Proof.Machine

/-! ### Accesses that reach their page -/

section
variable {s : State} {ag : Agent} {p : Nat} (h : Reaches s ag p)
include h

theorem Reaches.accessWake_eq : s.accessWake ag = s := State.wakeBy_run h.1 _
theorem Reaches.agentUp_eq : s.agentUp ag = true := h.2.1
theorem Reaches.pageOpen_eq : s.pageOpen p = true := h.2.2.1

theorem Reaches.pagesAwake_eq : s.pagesAwake = true := by
  have hopen := h.pageOpen_eq
  simp only [State.pageOpen, Bool.and_eq_true] at hopen
  exact hopen.1.1

end

theorem mod_page (p : Nat) {off : Nat} (h : off < 4096) : (p * 4096 + off) / 4096 = p ∧ (p * 4096 + off) % 4096 = off := by omega

theorem accessOk_word {p off : Nat} (h : off % 4 = 0) : accessOk (p * 4096 + off) 4 = true := by
  have haligned : (p * 4096 + off) % 4 = 0 := by omega
  simp [accessOk, haligned]

theorem exec_registerWrite_word {s : State} {ag : Agent} {p off : Nat} (v : Nat) (h : Reaches s ag p) (ho : off < 4096) (ha : off % 4 = 0) :
    exec (.registerWrite ag (p * 4096 + off) 4 v) s = .next (s.writeReg ⟨ag, p, off, v % 2 ^ 32, 2 ^ 32 - 1⟩) := by
  obtain ⟨hpage, hoff⟩ := mod_page p ho
  have hwake : s.whenB ((p * 4096 + off) / 4 == (P.mode * 4096 + 0x104) / 4) (fun u => u.wakeBy 5) = s := by
    rw [State.whenB, State.wakeBy_run h.1, ite_self]
  obtain ⟨-, -, hopen, hward, hlock⟩ := id h
  have hwrite : s.write32 ⟨ag, p, off, v % 2 ^ 32, 2 ^ 32 - 1⟩ = s.writeReg ⟨ag, p, off, v % 2 ^ 32, 2 ^ 32 - 1⟩ := by
    simp [State.write32, hopen, hward, hlock]
  show Host.Outcome.next (((s.whenB _ fun u => u.wakeBy 5).accessWake ag).whenB _ _) = _
  rw [hwake, h.accessWake_eq, State.whenB_true (by simp [h.agentUp_eq, h.pagesAwake_eq]), ← hwrite, State.regWrite]
  simp [accessOk_word ha, hpage, hoff, ha]

/-- A write with all byte enables set puts the written bits in place of the old ones. -/
theorem RegWr.merged_full (ag : Agent) (p off v old : Nat) {w : Nat} (hw : w ≤ 32) :
    (RegWr.merged ⟨ag, p, off, v, 2 ^ 32 - 1⟩ old) % 2 ^ w = v % 2 ^ w := by
  refine Nat.eq_of_testBit_eq fun b => ?_
  have hlow : b < w → (2 ^ 32 - 1).testBit b = true := fun hb => by rw [Nat.testBit_two_pow_sub_one]; simp; omega
  simp only [Nat.testBit_mod_two_pow, RegWr.merged, RegWr.bits, andNot]
  by_cases hb : b < w
  · have h1 : (Nat.lor (Nat.land v (2 ^ 32 - 1)) (Nat.xor old (Nat.land old (2 ^ 32 - 1)))).testBit b = v.testBit b := by
      refine (Nat.testBit_or ..).trans ?_
      rw [show (Nat.land v (2 ^ 32 - 1)).testBit b = _ from Nat.testBit_and .., show (Nat.xor old _).testBit b = _ from Nat.testBit_xor ..,
        show (Nat.land old (2 ^ 32 - 1)).testBit b = _ from Nat.testBit_and .., hlow hb]
      simp
    simp only [hb, decide_true, Bool.true_and]
    exact h1
  · simp [hb]

theorem fieldsAt_gpioOut : fieldsAt P.gpio 0x104 = [(R.gpio_GPIO_OUT, 0)] := by decide

/-- GPIO_OUT written: its one field takes the value. -/
theorem State.writeReg_gpioOut (s : State) (ag : Agent) (v : Nat) :
    s.writeReg ⟨ag, P.gpio, 0x104, v, 2 ^ 32 - 1⟩ = s.wr P.gpio R.gpio_GPIO_OUT v := by
  have hpage : pageInfo P.gpio = some (.gpio, 0x72, 0) := by decide
  have hput : s.writeReg ⟨ag, P.gpio, 0x104, v, 2 ^ 32 - 1⟩ = s.putPlain ⟨ag, P.gpio, 0x104, v, 2 ^ 32 - 1⟩ := by
    simp [State.writeReg, hpage, State.triggers]
  rw [hput, State.putPlain, fieldsAt_gpioOut]
  have hplain : ([(R.gpio_GPIO_OUT, 0)].filter fun e : Fld × Nat => RegWr.may ⟨ag, P.gpio, 0x104, v, 2 ^ 32 - 1⟩ e.1 &&
      RegWr.touches ⟨ag, P.gpio, 0x104, v, 2 ^ 32 - 1⟩ e.1) = [(R.gpio_GPIO_OUT, 0)] := by
    simp [RegWr.may, RegWr.touches, bitsAt, R.gpio_GPIO_OUT]
  have hone (u : State) (w : Nat) : u.putField ag P.gpio w (R.gpio_GPIO_OUT, 0) = u.wr P.gpio R.gpio_GPIO_OUT (bitsAt w 0 16) := by
    simp [State.putField, hpage, State.putIn, State.pairOk, Rng.holds, State.wr, R.gpio_GPIO_OUT]
  have hfield (u : State) (w : Nat) : u.putFields ag P.gpio 0x104 w [(R.gpio_GPIO_OUT, 0)] = u.wr P.gpio R.gpio_GPIO_OUT (bitsAt w 0 16) := by
    rw [State.putFields, if_neg (by decide)]
    simp only [List.foldl_cons, List.foldl_nil, hone]
    exact State.whenB_false rfl _
  rw [hplain]
  refine (hfield _ _).trans ?_
  show s.wr P.gpio R.gpio_GPIO_OUT _ = _
  simp only [State.wr, State.wrI, bitsAt, pow_zero, Nat.div_one, R.gpio_GPIO_OUT, Nat.mod_mod, RegWr.merged_full _ _ _ _ _ (show 16 ≤ 32 by decide)]

/-! ### Misaligned accesses and counters -/

theorem misaligned_does {s : State} {ag : Agent} {a n : Nat} (r : Bool) (hr : s.power.seq = .run) (hu : s.agentUp ag = true)
    (hm : [1, 2, 4, 8].contains n = false ∨ a % n ≠ 0) (hf : s.frozen P.glb = false) :
    Does (.misalignedRegisterAccess ag a n r) s fun t =>
      t.ctr P.glb 0x040 = (s.ctr P.glb 0x040 + 1) % 2 ^ 64 ∧ t.outbox = s.outbox ++ (if r = true then [.completerAbort (a / 4096)] else []) ∧
        t = { s with ctrs := t.ctrs, outbox := t.outbox } := by
  have hbad : (!([1, 2, 4, 8].contains n) || a % n != 0) = true := by
    rcases hm with hm | hm
    · rw [hm]; rfl
    · simp [hm]
  have hexec : exec (.misalignedRegisterAccess ag a n r) s =
      .next ((s.count P.glb 0x040).whenB r fun u => u.send (.completerAbort (a / 4096))) := by
    show Host.Outcome.next ((s.accessWake ag).whenB _ _) = _
    rw [State.accessWake, State.wakeBy_run (.inl hr), State.whenB_true]
    rw [hu, State.pagesAwake_run hr, hbad]
    rfl
  have hctr := State.ctr_count 0x040 hf
  have hcount : RegFrame s (s.count P.glb 0x040) := (RegFrame.refl s).count _ _
  refine ⟨_, hexec, ?_⟩
  cases r
  · exact ⟨hctr, by simp [State.whenB], hcount.sameRegs (by simp)⟩
  · exact ⟨hctr, by simp [State.whenB, State.send], (hcount.send (.completerAbort (a / 4096))).sameRegs (by simp)⟩

/-! ### Counters (R501) -/

theorem counterCount_le (k : PageKind) : counterCount k ≤ 24 := by cases k <;> decide

/-- The place of a counter's low and high word on a page. -/
theorem counterAt_words {p ty m i : Nat} {k : PageKind} (hp : pageInfo p = some (k, ty, m)) (hi : i < counterCount k) :
    counterAt p (0x040 + 8 * i) = some (0x040 + 8 * i, 0) ∧ counterAt p (0x044 + 8 * i) = some (0x040 + 8 * i, 4) := by
  have hlow : 0x040 + 8 * i - (0x040 + 8 * i) % 8 = 0x040 + 8 * i ∧ (0x040 + 8 * i) % 8 = 0 := by omega
  have hhigh : 0x044 + 8 * i - (0x044 + 8 * i) % 8 = 0x040 + 8 * i ∧ (0x044 + 8 * i) % 8 = 4 := by omega
  constructor
  · simp only [counterAt, hp]
    rw [if_pos (by omega), hlow.1, hlow.2]
  · simp only [counterAt, hp]
    rw [if_pos (by omega), hhigh.1, hhigh.2]

/-- A shadow holds the counter's offset above the high word. -/
theorem shadow_split (c : Nat) {v : Nat} (hv : v < 2 ^ 64) :
    (c * 2 ^ 32 + v / 2 ^ 32) / 2 ^ 32 = c ∧ (c * 2 ^ 32 + v / 2 ^ 32) % 2 ^ 32 = v / 2 ^ 32 := by omega

/-- The state with the high word of counter `off` of page `p` latched for an agent, the low one returned. -/
def State.counterLatched (s : State) (ag : Agent) (p off : Nat) : State :=
  ({ s with shadow := Tbl.put s.shadow (shadowKey ag p) (off * 2 ^ 32 + s.ctr p off / 2 ^ 32) } : State).send
    (.regData p off (s.ctr p off % 2 ^ 32))

section
variable {s : State} {ag : Agent} {p ty m i : Nat} {k : PageKind} (h : Reaches s ag p) (hp : pageInfo p = some (k, ty, m))
  (hi : i < counterCount k)
include h hp hi

theorem exec_counterLowRead : exec (.counterLowRead ag (p * 4096 + (0x040 + 8 * i))) s = .next (s.counterLatched ag p (0x040 + 8 * i)) := by
  have hle := counterCount_le k
  obtain ⟨hpage, hoff⟩ := mod_page p (off := 0x040 + 8 * i) (by omega)
  have hlisted : (0x040 ≤ 0x040 + 8 * i ∧ (0x040 + 8 * i) % 8 = 0 ∧ (0x040 + 8 * i - 0x040) / 8 < counterCount k) := by omega
  show execCounterLowRead ag _ s = _
  simp only [execCounterLowRead, h.accessWake_eq, hpage, hoff, hp, hlisted, and_self, decide_true]
  rw [State.whenB_true h.agentUp_eq, h.pageOpen_eq]
  rfl

/-- The agent's next read of the high word answers with the word latched, whatever the counter has come to. -/
theorem regRead_latched (hc : s.ctr p (0x040 + 8 * i) < 2 ^ 64) {u : State}
    (hu : u = { s.counterLatched ag p (0x040 + 8 * i) with ctrs := u.ctrs }) :
    (u.regRead ag (p * 4096 + (0x044 + 8 * i)) 4).1 = some (s.ctr p (0x040 + 8 * i) / 2 ^ 32) := by
  have hle := counterCount_le k
  obtain ⟨hpage, hoff⟩ := mod_page p (off := 0x044 + 8 * i) (by omega)
  have hopen : u.pageOpen p = true := by rw [hu]; exact h.pageOpen_eq
  have hshadow : Tbl.at? u.shadow (shadowKey ag p) = some ((0x040 + 8 * i) * 2 ^ 32 + s.ctr p (0x040 + 8 * i) / 2 ^ 32) := by
    rw [hu]; exact Tbl.at?_put_same _ _ _
  have hword : (u.readWord ag p (0x044 + 8 * i) 4).1 = s.ctr p (0x040 + 8 * i) / 2 ^ 32 := by
    have hnot : ¬(p = P.dbg ∧ 0x044 + 8 * i = 0x108 ∧ u.pageOpen p = true) := by omega
    have hsplit := shadow_split (0x040 + 8 * i) hc
    simp only [State.readWord, if_neg hnot, if_neg (show ¬(4 ≠ 4 ∨ (!u.pageOpen p) = true) by simp [hopen]), (counterAt_words hp hi).2, hshadow,
      hsplit.1, hsplit.2, if_true]
  have haligned : (p * 4096 + (0x044 + 8 * i)) % 4 = 0 := by omega
  have hlt : s.ctr p (0x040 + 8 * i) / 2 ^ 32 < 2 ^ 32 := by omega
  simp [State.regRead, accessOk_word (show (0x044 + 8 * i) % 4 = 0 by omega), hpage, hoff, haligned, hword]
  exact hlt

end

/-! ### UART (R511) -/

section
variable {s : State} {ag : Agent}

theorem exec_txData (v : Nat) (h : Reaches s ag P.dbg) (hl : s.uartTx.length < 16) (ho : ag = .thimble ∨ s.rd P.dbg R.dbg_UART_THM = 0) :
    exec (.txData ag v) s = .next { s with uartTx := s.uartTx ++ [v % 256] } := by
  have hmay : (decide (s.uartTx.length < 16) && (ag == .thimble || !s.on P.dbg R.dbg_UART_THM)) = true := by
    rcases ho with ho | ho <;> simp [hl, ho, State.on]
  exact congrArg Host.Outcome.next ((State.gated_reaches h _ _ _).trans (State.whenB_true hmay _))

theorem uartRxByte_first (v : Nat) (hr : s.power.seq = .run) (hd : s.dev ≠ Dev.fill) (he : s.uartRx = []) :
    Does (.uartRxByte v) s fun t => t.uartRx = [v % 256] ∧ (t.rd P.dbg R.common_INT_RAW).testBit 0 = true ∧
      t = { s with uartRx := t.uartRx, regs := t.regs, outbox := t.outbox } ∧ SameRegs s t [fkey P.dbg R.common_INT_RAW 0] := by
  have hexec : exec (.uartRxByte v) s = .next (({ s with uartRx := [v % 256] } : State).raise P.dbg 0) :=
    congrArg Host.Outcome.next ((State.whenB_true (by simp [State.pagesAwake_run hr, hd]) _).trans (if_pos he))
  refine ⟨_, hexec, State.raise_uartRx .., State.testBit_raise _ _ (by decide), ?_, ?_⟩
  · rw [State.raise_uartRx]
    exact State.raise_frame _ _ _
  · exact SameRegs.raise (t := { s with uartRx := [v % 256] }) (SameRegs.refl s _) (by simp) 0

/-- The state after an overrun: which of the two bytes stands is left open. -/
def State.uartOverrun (s : State) : State :=
  ((({ (s.drawFree 8).2 with uartRx := [(s.drawFree 8).1] } : State).err P.dbg 0x01 0 0).raise P.dbg 0).raise P.dbg 1

theorem uartRxByte_overrun (v : Nat) (hr : s.power.seq = .run) (hd : s.dev ≠ Dev.fill) (he : s.uartRx ≠ [])
    (hc : s.rd P.dbg R.common_ERR_CODE = 0) : Does (.uartRxByte v) s fun t =>
      t.rd P.dbg R.common_ERR_CODE = 1 ∧ (t.rd P.dbg R.common_INT_RAW).testBit 1 = true ∧ t.uartRx.length = 1 ∧
        t = { s with uartRx := t.uartRx, regs := t.regs, outbox := t.outbox, free := t.free } := by
  have hexec : exec (.uartRxByte v) s = .next s.uartOverrun :=
    congrArg Host.Outcome.next ((State.whenB_true (by simp [State.pagesAwake_run hr, hd]) _).trans (if_neg he))
  have hframe : RegFrame { (s.drawFree 8).2 with uartRx := [(s.drawFree 8).1] } s.uartOverrun :=
    (((RegFrame.refl _).err P.dbg 0x01 0 0).raise P.dbg 0).raise P.dbg 1
  refine ⟨_, hexec, ?_, State.testBit_raise _ _ (by decide), by simp [State.uartOverrun], ?_⟩
  · rw [State.uartOverrun, State.rd_raise_ne _ _ (by decide), State.rd_raise_ne _ _ (by decide)]
    exact State.rd_err_code _ _ _ _ _ hc
  · have hctrs : s.uartOverrun.ctrs = s.ctrs := by simp [State.uartOverrun]
    have hfree := hframe.uncounted (by simp [State.uartOverrun])
    rw [hfree]
    rfl

theorem exec_rxDataRead {b : Nat} (h : Reaches s ag P.dbg) (hb : s.uartRx = [b]) :
    exec (.rxDataRead ag) s = .next { s with uartRx := [], outbox := s.outbox ++ [.regData P.dbg 0x108 (b + 256)] } := by
  show Host.Outcome.next ((s.accessWake ag).whenB _ _) = _
  rw [h.accessWake_eq, State.whenB_true h.agentUp_eq, if_pos h.pageOpen_eq, hb]
  rfl

/-! ### GPIO (R450, R511) -/

/-- The state with a pin's level in GPIO_IN. -/
def State.pinSeen (s : State) (n : Nat) (l : Bool) : State := s.wr P.gpio R.gpio_GPIO_IN (bitPut (s.rd P.gpio R.gpio_GPIO_IN) n l)

theorem State.testBit_pinSeen (s : State) {n : Nat} (hn : n < 16) (l : Bool) : ((s.pinSeen n l).rd P.gpio R.gpio_GPIO_IN).testBit n = l := by
  rw [State.pinSeen, State.rd_wr_same, Nat.testBit_mod_two_pow, testBit_bitPut]
  simp [R.gpio_GPIO_IN, hn]

theorem exec_gpioEdge {n : Nat} {l : Bool} (hr : s.power.seq = .run) (hn : n < 16) (hl : (s.rd P.gpio R.gpio_GPIO_IN).testBit n ≠ l) :
    exec (.gpioEdge n l) s =
      .next ((s.pinSeen n l).whenB ((s.rd P.gpio R.gpio_GPIO_WAKE).testBit n) fun u => u.raise P.gpio n) := by
  have hup : (s.powered && decide (n < 16) && (s.rd P.gpio R.gpio_GPIO_IN).testBit n != l) = true := by
    simp [State.powered, hr, hn, hl]
  have hwake : (s.pinSeen n l).rd P.gpio R.gpio_GPIO_WAKE = s.rd P.gpio R.gpio_GPIO_WAKE := State.rd_wr_ne _ _ (by decide)
  have hrun : ((s.pinSeen n l).raise P.gpio n).wakeBy 3 = (s.pinSeen n l).raise P.gpio n := State.wakeBy_run (.inl (by simp [State.pinSeen, hr])) _
  refine congrArg Host.Outcome.next ((State.whenB_true hup _).trans ?_)
  show (s.pinSeen n l).whenB (((s.pinSeen n l).rd P.gpio R.gpio_GPIO_WAKE).testBit n) _ = _
  rw [hwake]
  simp only [State.whenB, hrun, ite_self]

theorem gpioEdge_does {n : Nat} {l : Bool} (hr : s.power.seq = .run) (hn : n < 16) (hl : (s.rd P.gpio R.gpio_GPIO_IN).testBit n ≠ l) :
    Does (.gpioEdge n l) s fun t => (t.rd P.gpio R.gpio_GPIO_IN).testBit n = l ∧
      ((s.rd P.gpio R.gpio_GPIO_WAKE).testBit n = true → (t.rd P.gpio R.common_INT_RAW).testBit n = true) ∧
      ((s.rd P.gpio R.gpio_GPIO_WAKE).testBit n = false → t.outbox = s.outbox ∧ SameRegs s t [fkey P.gpio R.gpio_GPIO_IN 0]) ∧
      t = { s with regs := t.regs, outbox := t.outbox } := by
  refine ⟨_, exec_gpioEdge hr hn hl, ?_⟩
  cases hw : (s.rd P.gpio R.gpio_GPIO_WAKE).testBit n
  · exact ⟨s.testBit_pinSeen hn l, fun h => Bool.noConfusion h, fun _ => ⟨rfl, (SameRegs.refl s _).wr (by simp) _⟩, rfl⟩
  · refine ⟨?_, fun _ => State.testBit_raise _ _ (by omega), fun h => Bool.noConfusion h, State.raise_frame _ _ _⟩
    exact (congrArg (Nat.testBit · n) (State.rd_raise_own _ _ _ (by decide))).trans (s.testBit_pinSeen hn l)

end

/-- Settles O36: each clause is the lemma above about its access. -/
theorem registerAccess : Obligations.RegisterAccess := by
  unfold Obligations.RegisterAccess
  intro s ag
  refine ⟨fun p off v h ho ha => exec_registerWrite_word v h ho ha, fun v h => ?_, fun a n r hr hu hm hf => misaligned_does r hr hu hm hf,
    fun p k ty m i h hp hi hc => ⟨_, exec_counterLowRead h hp hi, rfl, fun u hu => regRead_latched h hp hi hc hu, rfl⟩,
    fun v h hl ho => exec_txData v h hl ho, fun v hr hd he => uartRxByte_first v hr hd he,
    fun v hr hd he hc => uartRxByte_overrun v hr hd he hc, fun b h hb => exec_rxDataRead h hb, fun n l hr hn hl => gpioEdge_does hr hn hl⟩
  refine ⟨_, (exec_registerWrite_word v h (by decide) (by decide)).trans (congrArg Host.Outcome.next (s.writeReg_gpioOut ag _)), ?_, rfl,
    (SameRegs.refl s _).wr (by simp) _⟩
  rw [State.rd_wr_same]
  exact Nat.mod_mod_of_dvd v (by decide)

end Sys2Proof.Machine
end

section
/-!
PROOFS. The crystal and the PLLs (R453, R461).
-/

namespace Sys2Proof.Machine

/-! ### The crystal -/

theorem State.rd_setDom_ne (s : State) (d : Nat) (on : Bool) {p : Nat} {f : Fld} (hlo : fkey P.pwr R.pwr_DOM_ON_LO 0 ≠ fkey p f 0)
    (hhi : fkey P.pwr R.pwr_DOM_ON_HI 0 ≠ fkey p f 0) : (s.setDom d on).rd p f = s.rd p f := by
  unfold State.setDom
  split
  · exact State.rd_wr_ne _ _ hlo
  · exact State.rd_wr_ne _ _ hhi

/-- The state as a wake goes on with the ring oscillator: the domains that run on it powered, the error noted. -/
def State.ringStarted (s : State) (l : LowPower) : State :=
  ((((({ s with power := { s.power with seq := .wake l 3 } } : State).setDom 1 true).setDom 2 true).setDom 3 true).err P.clk 0x01 0 0).count
    P.clk 0x048

theorem State.ringStarted_frame (s : State) (l : LowPower) :
    RegFrame { s with power := { s.power with seq := .wake l 3 } } (s.ringStarted l) :=
  ((((RegFrame.refl _).setDom 1 true).setDom 2 true).setDom 3 true).err P.clk 0x01 0 0 |>.count P.clk 0x048

theorem State.ringStarted_degraded (s : State) (l : LowPower) :
    (s.ringStarted l).rd P.clk R.clk_CLK_DEGRADED = s.rd P.clk R.clk_CLK_DEGRADED := by
  rw [State.ringStarted, State.rd_count, State.rd_err_own _ _ _ _ _ (by decide), State.rd_setDom_ne _ _ _ (by decide) (by decide),
    State.rd_setDom_ne _ _ _ (by decide) (by decide), State.rd_setDom_ne _ _ _ (by decide) (by decide)]
  rfl

theorem State.ringStarted_code {s : State} (l : LowPower) (h : s.rd P.clk R.common_ERR_CODE = 0) :
    (s.ringStarted l).rd P.clk R.common_ERR_CODE = 1 := by
  rw [State.ringStarted, State.rd_count]
  refine State.rd_err_code _ _ _ _ _ ?_
  rw [State.rd_setDom_ne _ _ _ (by decide) (by decide), State.rd_setDom_ne _ _ _ (by decide) (by decide),
    State.rd_setDom_ne _ _ _ (by decide) (by decide)]
  exact h

theorem crystalTimeout_does {s : State} {l : LowPower} (hw : s.power.seq = .wake l 2) (hd : s.rd P.clk R.clk_CLK_DEGRADED = 0) :
    Does .crystalTimeout s fun t => t.rd P.clk R.clk_CLK_DEGRADED = 1 ∧ t.power.seq = .wake l 3 ∧
      (t.rd P.clk R.common_INT_RAW).testBit 0 = true ∧ (s.rd P.clk R.common_ERR_CODE = 0 → t.rd P.clk R.common_ERR_CODE = 1) ∧
      t = { s with power := t.power, regs := t.regs, ctrs := t.ctrs, outbox := t.outbox } := by
  have hoff : ¬(s.ringStarted l).on P.clk R.clk_CLK_DEGRADED = true := by simp [State.on, State.ringStarted_degraded, hd]
  have hexec : exec .crystalTimeout s = .next (((s.ringStarted l).flag P.clk R.clk_CLK_DEGRADED).raise P.clk 0) := by
    show execCrystalTimeout s = _
    simp only [execCrystalTimeout, hw]
    exact congrArg Host.Outcome.next (if_neg hoff)
  have hframe := ((s.ringStarted_frame l).wr P.clk R.clk_CLK_DEGRADED 1).raise P.clk 0
  refine ⟨_, hexec, ?_, congrArg Power.seq hframe.power_eq, State.testBit_raise _ _ (by decide), fun he => ?_, ?_⟩
  · rw [State.rd_raise_own _ _ _ (by decide)]
    exact State.rd_wr_same (s.ringStarted l) P.clk R.clk_CLK_DEGRADED 1
  · rw [State.rd_raise_ne _ _ (by decide)]
    exact (State.rd_wr_ne _ _ (by decide)).trans (State.ringStarted_code l he)
  · rw [show ((s.ringStarted l).flag P.clk R.clk_CLK_DEGRADED).raise P.clk 0 = _ from hframe]

theorem xtalRetry_does {s : State} {ag : Agent} {l : LowPower} (hr : Reaches s ag P.clk) (hw : s.power.seq = .wake l 3)
    (hd : s.rd P.clk R.clk_CLK_DEGRADED = 1) : Does (.xtalRetry ag) s fun t =>
      t.power = { s.power with seq := .wake l 2 } ∧ t = { s with power := t.power, ctrs := t.ctrs } := by
  have hretry : s.xtalRetry = ({ s with power := { s.power with seq := .wake l 2 } } : State).count P.clk 0x040 := by
    simp only [State.xtalRetry, hw]
    exact State.whenB_true (State.on_eq_true (by omega)) _
  refine ⟨_, congrArg Host.Outcome.next ((State.gated_reaches hr _ _ _).trans hretry), State.count_power .., ?_⟩
  rw [State.count_power]
  exact State.count_frame _ _ _

/-! ### PLLs locked -/

theorem testBit_foldl_bitPut (l : List Nat) (b : Nat) : ∀ v : Nat,
    (l.foldl (fun v b => bitPut v b true) v).testBit b = (decide (b ∈ l) || v.testBit b) := by
  induction l with
  | nil => simp
  | cons a l ih =>
    intro v
    rw [List.foldl_cons, ih, testBit_bitPut]
    by_cases h : a = b
    · simp [h]
    · simp [h, Ne.symm h]

theorem testBit_maskOf (l : List Nat) (b : Nat) : (maskOf l).testBit b = decide (b ∈ l) := by
  simp [maskOf, testBit_foldl_bitPut]

/-- The PLLs of the mask that exist. -/
def State.locking (s : State) (m : Nat) : Nat := maskOf ((List.range 41).filter fun p => m.testBit p && s.pllPresent p)

theorem State.testBit_locking (s : State) (m : Nat) {p : Nat} (hp : p < 41) :
    (s.locking m).testBit p = (m.testBit p && s.pllPresent p) := by
  simp [State.locking, testBit_maskOf, hp]

/-- The state with the PLLs of the mask locked. -/
def State.plled (s : State) (m : Nat) : State :=
  let u := s.wr P.clk R.clk_PLL_LOCK_LO (Nat.lor (s.rd P.clk R.clk_PLL_LOCK_LO) (s.locking m % 2 ^ 32))
  u.wr P.clk R.clk_PLL_LOCK_HI (Nat.lor (u.rd P.clk R.clk_PLL_LOCK_HI) (s.locking m / 2 ^ 32))

theorem State.pllLocked_plled (s : State) (m : Nat) {p : Nat} (hp : p < 41) :
    (s.plled m).pllLocked p = (s.pllLocked p || (m.testBit p && s.pllPresent p)) := by
  rw [← State.testBit_locking s m hp]
  by_cases h : p < 32
  · have hlo : (s.plled m).rd P.clk R.clk_PLL_LOCK_LO = Nat.lor (s.rd P.clk R.clk_PLL_LOCK_LO) (s.locking m % 2 ^ 32) % 2 ^ 32 :=
      (State.rd_wr_ne _ _ (by decide)).trans (State.rd_wr_same ..)
    simp only [State.pllLocked, if_true, hlo, Nat.testBit_mod_two_pow, h, decide_true, Bool.true_and]
    refine (Nat.testBit_or ..).trans ?_
    rw [Nat.testBit_mod_two_pow, decide_eq_true h, Bool.true_and]
  · have hhi : (s.plled m).rd P.clk R.clk_PLL_LOCK_HI = Nat.lor (s.rd P.clk R.clk_PLL_LOCK_HI) (s.locking m / 2 ^ 32) % 2 ^ 9 := by
      refine (State.rd_wr_same ..).trans ?_
      rw [State.rd_wr_ne _ _ (by decide)]
      rfl
    have hdiv : (s.locking m / 2 ^ 32).testBit (p - 32) = (s.locking m).testBit p := by
      rw [Nat.testBit_div_two_pow, Nat.sub_add_cancel (by omega)]
    simp only [State.pllLocked, if_neg h, hhi, Nat.testBit_mod_two_pow, show p - 32 < 9 by omega, decide_true, Bool.true_and]
    refine (Nat.testBit_or ..).trans ?_
    rw [hdiv]

theorem pllLockAcquired_does {s : State} (m : Nat) (hr : s.power.seq = .run) (hv : s.power.dvfs = [])
    (hd : s.rd P.clk R.clk_CLK_DEGRADED = 0) : Does (.pllLockAcquired m) s fun t =>
      (∀ p, p < 41 → t.pllLocked p = (s.pllLocked p || (m.testBit p && s.pllPresent p))) ∧
        t = { s with regs := t.regs } ∧ SameRegs s t [fkey P.clk R.clk_PLL_LOCK_LO 0, fkey P.clk R.clk_PLL_LOCK_HI 0] := by
  have hcond : (s.powered && !s.on P.clk R.clk_CLK_DEGRADED) = true := by simp [State.powered, hr, State.on, hd]
  have hstill (u : State) (hu : u.power = s.power) (c : Nat) : u.dvfsLocked m c = u := by simp [State.dvfsLocked, hu, hv]
  have hfold : ((List.range 8).foldl (fun u c => u.dvfsLocked m c) (s.plled m)) = s.plled m := by
    have hkeep : ∀ l : List Nat, l.foldl (fun u c => u.dvfsLocked m c) (s.plled m) = s.plled m := fun l => by
      induction l with
      | nil => rfl
      | cons c l ih => rw [List.foldl_cons, hstill (s.plled m) rfl c, ih]
    exact hkeep _
  have hwake : (s.plled m).wakeStep3 = s.plled m := by
    unfold State.wakeStep3
    rw [show (s.plled m).power.seq = .run from hr]
  have hexec : exec (.pllLockAcquired m) s = .next (s.plled m) :=
    congrArg Host.Outcome.next ((State.whenB_true hcond _).trans ((congrArg State.wakeStep3 hfold).trans hwake))
  exact ⟨_, hexec, fun p hp => s.pllLocked_plled m hp, rfl, ((SameRegs.refl s _).wr (by simp) _).wr (by simp) _⟩

/-! ### PLLs that lose lock -/

/-- A PLL of the low register that loses lock: noted, counted and signalled. -/
def State.lockLostLo (s : State) (p : Nat) : State :=
  ((((s.wr P.clk R.clk_PLL_LOCK_LO (bitPut (s.rd P.clk R.clk_PLL_LOCK_LO) p false)).wr P.clk R.clk_LOCK_LOST_LO
    (bitPut (s.rd P.clk R.clk_LOCK_LOST_LO) p true)).err P.clk 0x02 p 0).count P.clk 0x050).raise P.clk 2

/-- A PLL of the high register that loses lock. -/
def State.lockLostHi (s : State) (p : Nat) : State :=
  ((((s.wr P.clk R.clk_PLL_LOCK_HI (bitPut (s.rd P.clk R.clk_PLL_LOCK_HI) (p - 32) false)).wr P.clk R.clk_LOCK_LOST_HI
    (bitPut (s.rd P.clk R.clk_LOCK_LOST_HI) (p - 32) true)).err P.clk 0x02 p 0).count P.clk 0x050).raise P.clk 2

section
variable {s : State} {p : Nat} (hp : s.powered = true) (hl : s.pllPresent p = true) (ha : s.pagesAwake = true)
include hp hl ha

theorem exec_pllLockLost_lo (h : p < 32) : exec (.pllLockLost p) s =
    .next (if p = 9 ∨ p = 10 then (s.lockLostLo p).fault' 0x09 P.clk p 0 else (s.lockLostLo p).pllStop p) := by
  refine congrArg Host.Outcome.next ((State.whenB_true (by simp [hp, hl, ha]) _).trans ?_)
  simp only [if_pos h]
  rfl

theorem exec_pllLockLost_hi (h : 32 ≤ p) : exec (.pllLockLost p) s = .next ((s.lockLostHi p).pllStop p) := by
  refine congrArg Host.Outcome.next ((State.whenB_true (by simp [hp, hl, ha]) _).trans ?_)
  simp only [if_neg (Nat.not_lt.2 h), if_neg (show ¬(p = 9 ∨ p = 10) by omega)]
  rfl

end

/-- Settles O22: each clause is the lemma above about its event. -/
theorem clocks : Obligations.Clocks := by
  unfold Obligations.Clocks
  exact fun s => ⟨fun l hw hd => crystalTimeout_does hw hd, fun ag l hr hw hd => xtalRetry_does hr hw hd,
    fun m hr hv hd => pllLockAcquired_does m hr hv hd, fun p h hp hl ha => exec_pllLockLost_lo hp hl ha h,
    fun p h hp hl ha => exec_pllLockLost_hi hp hl ha h⟩

end Sys2Proof.Machine
end

section
/-!
PROOFS. The host's pins and states that concern power, and waking (R349, R437, R449 to R451).
-/

namespace Sys2Proof.Machine

/-- Settles O25: in each clause the step's guard holds. -/
theorem hostPower : Obligations.HostPower := by
  unfold Obligations.HostPower
  refine fun s => ⟨fun b hm hd => ?_, fun hp => ?_, fun ch hd hc hset hpd => ?_⟩
  · refine congrArg Host.Outcome.next (State.whenB_true ?_ _)
    rw [hd]
    rcases hm with hm | hm <;> cases b <;> simp [hm]
  · exact congrArg Host.Outcome.next (State.whenB_true hp _)
  · refine congrArg Host.Outcome.next (State.whenB_true ?_ _)
    rw [hpd]
    simp [hd, hset, hc]

/-! ### Steps of the power sequences -/

/-- `t` is `s` but for the power sequences, the registers, the counters and what has been sent. -/
def PowFrame (s t : State) : Prop := t = { s with power := t.power, regs := t.regs, ctrs := t.ctrs, outbox := t.outbox }

theorem PowFrame.refl (s : State) : PowFrame s s := rfl

theorem PowFrame.trans {s t u : State} (h : PowFrame s t) (g : PowFrame t u) : PowFrame s u :=
  Eq.trans g (congrArg (fun v : State => { v with power := u.power, regs := u.regs, ctrs := u.ctrs, outbox := u.outbox }) h)

theorem PowFrame.part_eq {s t : State} (h : PowFrame s t) : t.part = s.part := by unfold PowFrame at h; rw [h]

theorem State.rd_congr {s t : State} (hr : t.regs = s.regs) (hp : t.part = s.part) (p : Nat) (f : Fld) : t.rd p f = s.rd p f :=
  State.rdI_congr hr hp p f 0

theorem PowFrame.power (s : State) (w : Power) : PowFrame s { s with power := w } := rfl

theorem RegFrame.pow {s t : State} (h : RegFrame s t) : PowFrame s t :=
  Eq.trans h (congrArg (fun w => { s with power := w, regs := t.regs, ctrs := t.ctrs, outbox := t.outbox }) h.power_eq.symm)

/-- A step of a wake: it leaves every register, and the wake of `l` at step `k`. -/
structure WakeAt (s t : State) (l : LowPower) (k : Nat) : Prop where
  frame : PowFrame s t
  regs : t.regs = s.regs
  seq : t.power.seq = .wake l k

theorem State.wakePlls_at (s : State) (l : LowPower) : WakeAt s (s.wakePlls l) l 3 := by
  unfold State.wakePlls
  by_cases h : s.power.vddCode = 0x1E
  · simp only [h, if_true]
    exact ⟨rfl, rfl, rfl⟩
  · simp only [if_neg h]
    exact ⟨rfl, rfl, rfl⟩

theorem State.wakeCrystal_at (s : State) (l : LowPower) : ∃ k, (2 ≤ k ∧ k ≤ 3) ∧ WakeAt s (s.wakeCrystal l) l k := by
  unfold State.wakeCrystal
  by_cases h : s.on P.clk R.clk_XTAL_OK = true
  · rw [if_pos h]
    exact ⟨3, by decide, s.wakePlls_at l⟩
  · rw [if_neg h]
    exact ⟨2, by decide, (PowFrame.power s _).trans ((RegFrame.refl _).count ..).pow, State.count_regs .., by rw [State.count_power]⟩

theorem State.wakeRegs_at (s : State) (l : LowPower) : ∃ k, (1 ≤ k ∧ k ≤ 3) ∧ WakeAt s (s.wakeRegs l) l k := by
  unfold State.wakeRegs
  cases s.power.regsDue with
  | nil =>
    obtain ⟨k, ⟨hlo, hhi⟩, hk⟩ := s.wakeCrystal_at l
    exact ⟨k, ⟨by omega, hhi⟩, hk⟩
  | cons r rs => exact ⟨1, by decide, rfl, rfl, rfl⟩

/-! ### Wake sources -/

section
variable {s : State} {n : Nat}

theorem exec_wakeEvent (hn : n < 8) : exec (.wakeEvent n) s = .next (s.wakeBy n) :=
  congrArg Host.Outcome.next (State.whenB_true (decide_eq_true hn) _)

theorem State.wakeBy_off (h : (s.rd P.pwr R.pwr_WAKE_EN).testBit n = false) : s.wakeBy n = s := by
  simp [State.wakeBy, h]

variable (he : (s.rd P.pwr R.pwr_WAKE_EN).testBit n = true)
include he

theorem State.wakeBy_asleep {l : LowPower} (hs : s.power.seq = .asleep l) (ha : wakeApplies n l = true) :
    s.wakeBy n = s.startWake l (2 ^ n) := by
  simp only [State.wakeBy, he, hs, ha, if_true]

theorem State.wakeBy_entry {l : LowPower} {m : Nat} (hs : s.power.seq = .entry l m) (ha : wakeApplies n l = true) :
    s.wakeBy n = { s with power := { s.power with latched := bitPut s.power.latched n true } } := by
  simp only [State.wakeBy, he, hs, ha, if_true]

end

theorem wakeApplies_doze {n : Nat} (h : n < 8) : wakeApplies n .doze = true := by
  interval_cases n <;> rfl

theorem State.upDev_lt (s : State) : s.upDev < 2 ^ 4 := by
  unfold State.upDev
  split <;> decide

theorem State.dozeWake_does (s : State) {n : Nat} (hn : n < 8) :
    (s.dozeWake (2 ^ n)).power.seq = .run ∧ (s.dozeWake (2 ^ n)).dev = s.upDev ∧
      (s.dozeWake (2 ^ n)).rd P.pwr R.pwr_WAKE_SRC = 2 ^ n ∧ (s.dozeWake (2 ^ n)).dram.powerDown = [] ∧
      s.dozeWake (2 ^ n) = { s with power := (s.dozeWake (2 ^ n)).power, dram := (s.dozeWake (2 ^ n)).dram,
                                    regs := (s.dozeWake (2 ^ n)).regs, outbox := (s.dozeWake (2 ^ n)).outbox } := by
  refine ⟨?_, ?_, ?_, ?_, ?_⟩
  · simp [State.dozeWake]
  · rw [State.dozeWake, State.dev_raise, State.dev_wr _ _ _ (by decide)]
    exact (State.rd_wr_same ..).trans (Nat.mod_eq_of_lt s.upDev_lt)
  · rw [State.dozeWake, State.rd_raise_own _ _ _ (by decide), State.rd_wr_same]
    exact Nat.mod_eq_of_lt (Nat.pow_lt_pow_right (by decide) hn)
  · simp [State.dozeWake]
  · let u := { s with power := { s.power with seq := .run, latched := 0 }, dram := { s.dram with powerDown := [] } }
    have hframe : RegFrame u (s.dozeWake (2 ^ n)) := (((RegFrame.refl u).wr _ _ _).wr _ _ _).raise _ _
    rw [hframe.uncounted (by simp [u, State.dozeWake])]

theorem State.startWake_does (s : State) {l : LowPower} (hl : l ≠ .doze) {n : Nat} (hn : n < 8) :
    (s.startWake l (2 ^ n)).rd P.pwr R.pwr_WAKE_SRC = 2 ^ n ∧ (s.startWake l (2 ^ n)).rd P.pwr R.pwr_STATE_BUSY = 1 ∧
      (∃ k, (s.startWake l (2 ^ n)).power.seq = .wake l k ∧ 1 ≤ k ∧ k ≤ 3) ∧ PowFrame s (s.startWake l (2 ^ n)) := by
  have hstart : ∃ w : Power, s.startWake l (2 ^ n) =
      ((({ s with power := w }.wr P.pwr R.pwr_STATE_BUSY 1).wr P.pwr R.pwr_WAKE_SRC (2 ^ n)).wakeRegs l) := by
    cases l
    · exact absurd rfl hl
    all_goals exact ⟨_, rfl⟩
  obtain ⟨w, hw⟩ := hstart
  obtain ⟨k, ⟨hlo, hhi⟩, hat⟩ := (({ s with power := w }.wr P.pwr R.pwr_STATE_BUSY 1).wr P.pwr R.pwr_WAKE_SRC (2 ^ n)).wakeRegs_at l
  rw [hw]
  refine ⟨?_, ?_, ⟨k, hat.seq, hlo, hhi⟩, ?_⟩
  · rw [State.rd_congr hat.regs hat.frame.part_eq, State.rd_wr_same]
    exact Nat.mod_eq_of_lt (Nat.pow_lt_pow_right (by decide) hn)
  · rw [State.rd_congr hat.regs hat.frame.part_eq, State.rd_wr_ne _ _ (by decide)]
    exact State.rd_wr_same ..
  · refine PowFrame.trans ?_ hat.frame
    rfl

/-- Settles O24: by the event's source (enabled or not) and what the power sequence is. -/
theorem wake : Obligations.Wake := by
  unfold Obligations.Wake
  refine fun s n hn => ⟨fun he => ?_, fun hs he => ?_, fun l m hs he ha => ?_, fun l hs hl ha he => ?_, fun ht hs he => ?_⟩
  · rw [exec_wakeEvent hn, State.wakeBy_off he]
  · rw [Does, exec_wakeEvent hn, State.wakeBy_asleep he hs (wakeApplies_doze hn)]
    exact ⟨_, rfl, s.dozeWake_does hn⟩
  · rw [exec_wakeEvent hn, State.wakeBy_entry he hs ha]
  · rw [Does, exec_wakeEvent hn, State.wakeBy_asleep he hs ha]
    exact ⟨_, rfl, s.startWake_does hl hn⟩
  · have hexec : exec .wakeTimerExpiry s = .next (s.dozeWake (2 ^ 4)) :=
      congrArg Host.Outcome.next ((State.whenB_true (bne_iff_ne.2 ht) _).trans (State.wakeBy_asleep he hs rfl))
    obtain ⟨hseq, hdev, hsrc, -, -⟩ := s.dozeWake_does (n := 4) (by decide)
    exact ⟨_, hexec, hseq, hdev, hsrc⟩

end Sys2Proof.Machine
end

section
/-!
PROOFS. Entry to Doze, Slumber and Vault (R444 to R449).
-/

namespace Sys2Proof.Machine

/-! ### One field of many pages -/

/-- A field of several pages, each set from its own value. -/
theorem State.rd_foldl_wr {pg : Nat → Nat} {f : Fld} {g : Nat → Nat} (hinj : ∀ a b, fkey (pg a) f 0 = fkey (pg b) f 0 → a = b) (c : Nat)
    (l : List Nat) : ∀ s : State, l.Nodup →
      (l.foldl (fun (s : State) a => s.wr (pg a) f (g (s.rd (pg a) f))) s).rd (pg c) f =
        if c ∈ l then g (s.rd (pg c) f) % 2 ^ f.w else s.rd (pg c) f := by
  induction l with
  | nil => exact fun s _ => rfl
  | cons a l ih =>
    intro s hnd
    obtain ⟨hal, hl⟩ := List.nodup_cons.1 hnd
    rw [List.foldl_cons, ih _ hl]
    by_cases hca : a = c
    · subst hca
      rw [if_neg hal, if_pos List.mem_cons_self, State.rd_wr_same]
    · rw [State.rd_wr_ne _ _ fun hk => hca (hinj _ _ hk)]
      simp only [List.mem_cons, Ne.symm hca, false_or]

theorem RegFrame.foldl_wr {pg : Nat → Nat} {f : Fld} {g : State → Nat → Nat} (l : List Nat) (s : State) :
    RegFrame s (l.foldl (fun (s : State) a => s.wr (pg a) f (g s a)) s) :=
  RegFrame.foldl (fun u _ => (RegFrame.refl u).wr _ _ _) l (RegFrame.refl s)

/-! ### The refusal log -/

section
variable (s : State) (dom kind by_ : Nat)

theorem RegFrame.refuse : RegFrame s (s.refuse dom kind by_) :=
  ((((((RegFrame.refl s).wrI _ _ _ _).wrI _ _ _ _).wrI _ _ _ _).wrI _ _ _ _).wr _ _ _ |>.count _ _).raise _ _

theorem State.rdI_refuse {p : Nat} {f : Fld} {i : Nat} (h : fkey P.pwr R.common_INT_RAW 0 ≠ fkey p f i) :
    (s.refuse dom kind by_).rdI p f i = (s.logRef dom kind by_).rdI p f i := by
  rw [State.refuse, State.rdI, State.raise_regs, State.raise_part, Tbl.at?_put_ne _ _ h]
  exact State.rdI_count ..

/-- Whatever has none of the places of a log entry is as before. -/
theorem State.rdI_logRef_ne {p : Nat} {f : Fld} {i : Nat}
    (h : ∀ g ∈ [R.pwr_REF_DOM, R.pwr_REF_KIND, R.pwr_REF_BY, R.pwr_REF_TIME], fkey P.pwr g (s.rd P.pwr R.pwr_REF_HEAD) ≠ fkey p f i)
    (hh : fkey P.pwr R.pwr_REF_HEAD 0 ≠ fkey p f i) : (s.logRef dom kind by_).rdI p f i = s.rdI p f i := by
  simp only [List.forall_mem_cons, List.not_mem_nil, false_imp_iff, implies_true, and_true] at h
  obtain ⟨hd, hk, hb, ht⟩ := h
  exact (State.rdI_wrI_ne _ _ hh).trans ((State.rdI_wrI_ne _ _ ht).trans ((State.rdI_wrI_ne _ _ hb).trans
    ((State.rdI_wrI_ne _ _ hk).trans (State.rdI_wrI_ne _ _ hd))))

/-- The places of a log entry are apart from one another and from REF_HEAD. -/
theorem fkey_ref_ne {f g : Fld} (hs : f.stride = 8 ∧ g.stride = 8) (hl : f.lo < 32 ∧ g.lo < 32)
    (hne : f.off ≠ g.off ∨ f.lo ≠ g.lo) (e : Nat) : fkey P.pwr f e ≠ fkey P.pwr g e := by
  simp only [fkey, hs]
  omega

theorem fkey_head_ne {f g : Fld} (hf : f.off < g.off) (hl : f.lo < 32) (e : Nat) : fkey P.pwr f 0 ≠ fkey P.pwr g e := by
  have : 0 ≤ g.stride * e := Nat.zero_le _
  simp only [fkey, Nat.mul_zero, Nat.add_zero]
  omega

theorem State.logRef_entry : let e := s.rd P.pwr R.pwr_REF_HEAD
    (s.logRef dom kind by_).rdI P.pwr R.pwr_REF_DOM e = dom % 2 ^ 6 ∧ (s.logRef dom kind by_).rdI P.pwr R.pwr_REF_KIND e = kind % 2 ^ 2 ∧
      (s.logRef dom kind by_).rdI P.pwr R.pwr_REF_BY e = by_ % 2 ^ 8 ∧ (s.logRef dom kind by_).rd P.pwr R.pwr_REF_HEAD = (e + 1) % 8 % 2 ^ 3 := by
  intro e
  have hhead {g : Fld} (hg : R.pwr_REF_HEAD.off < g.off) : fkey P.pwr R.pwr_REF_HEAD 0 ≠ fkey P.pwr g e := fkey_head_ne hg (by decide) e
  have htime {g : Fld} (hg : g.off = 0x180 ∧ g.stride = 8 ∧ g.lo < 32) : fkey P.pwr R.pwr_REF_TIME e ≠ fkey P.pwr g e := by
    obtain ⟨ho, hs, hl⟩ := hg
    exact fkey_ref_ne ⟨rfl, hs⟩ ⟨by decide, hl⟩ (.inl (by rw [ho]; decide)) e
  refine ⟨?_, ?_, ?_, State.rd_wr_same ..⟩
  · refine (State.rdI_wrI_ne _ _ (hhead (by decide))).trans ((State.rdI_wrI_ne _ _ (htime (by decide))).trans ?_)
    refine (State.rdI_wrI_ne _ _ (fkey_ref_ne (f := R.pwr_REF_BY) (g := R.pwr_REF_DOM) (by decide) (by decide) (by decide) e)).trans ?_
    exact (State.rdI_wrI_ne _ _ (fkey_ref_ne (f := R.pwr_REF_KIND) (g := R.pwr_REF_DOM) (by decide) (by decide) (by decide) e)).trans (State.rdI_wrI_same ..)
  · refine (State.rdI_wrI_ne _ _ (hhead (by decide))).trans ((State.rdI_wrI_ne _ _ (htime (by decide))).trans ?_)
    exact (State.rdI_wrI_ne _ _ (fkey_ref_ne (f := R.pwr_REF_BY) (g := R.pwr_REF_KIND) (by decide) (by decide) (by decide) e)).trans (State.rdI_wrI_same ..)
  · refine (State.rdI_wrI_ne _ _ (hhead (by decide))).trans ((State.rdI_wrI_ne _ _ (htime (by decide))).trans (State.rdI_wrI_same ..))

theorem State.dev_refuse (he : s.rd P.pwr R.pwr_REF_HEAD < 8) : (s.refuse dom kind by_).dev = s.dev := by
  have hne {g : Fld} (hg : g.off ≤ 0x184 ∧ g.stride ≤ 8 ∧ g.lo < 32) : fkey P.pwr g (s.rd P.pwr R.pwr_REF_HEAD) ≠ fkey P.glb R.glb_DEVSTATE 0 := by
    obtain ⟨ho, hs, hl⟩ := hg
    have : g.stride * s.rd P.pwr R.pwr_REF_HEAD ≤ 8 * 7 := Nat.mul_le_mul hs (by omega)
    simp only [fkey, P.pwr, P.glb, R.glb_DEVSTATE]
    omega
  refine (State.rdI_refuse _ _ _ _ (by decide)).trans (State.rdI_logRef_ne _ _ _ _ ?_ (by decide))
  simp only [List.forall_mem_cons, List.not_mem_nil, false_imp_iff, implies_true, and_true]
  exact ⟨hne (by decide), hne (by decide), hne (by decide), hne (by decide)⟩

end

theorem State.refuse_does (s : State) {dom kind by_ : Nat} (hd : dom < 64) (hk : kind < 4) (hb : by_ < 256)
    (he : s.rd P.pwr R.pwr_REF_HEAD < 8) : let t := s.refuse dom kind by_
    let e := s.rd P.pwr R.pwr_REF_HEAD
    t.rdI P.pwr R.pwr_REF_DOM e = dom ∧ t.rdI P.pwr R.pwr_REF_KIND e = kind ∧ t.rdI P.pwr R.pwr_REF_BY e = by_ ∧
      t.rd P.pwr R.pwr_REF_HEAD = (e + 1) % 8 ∧ t.power = s.power ∧ t.dev = s.dev ∧ RegFrame s t := by
  intro t e
  obtain ⟨hdom, hkind, hby, hhead⟩ := s.logRef_entry dom kind by_
  have hraw {g : Fld} (hg : R.common_INT_RAW.off < g.off) : fkey P.pwr R.common_INT_RAW 0 ≠ fkey P.pwr g e := fkey_head_ne hg (by decide) e
  refine ⟨?_, ?_, ?_, ?_, (RegFrame.refuse s _ _ _).power_eq, State.dev_refuse _ _ _ _ he, RegFrame.refuse s _ _ _⟩
  · exact (State.rdI_refuse _ _ _ _ (hraw (by decide))).trans (hdom.trans (Nat.mod_eq_of_lt hd))
  · exact (State.rdI_refuse _ _ _ _ (hraw (by decide))).trans (hkind.trans (Nat.mod_eq_of_lt hk))
  · exact (State.rdI_refuse _ _ _ _ (hraw (by decide))).trans (hby.trans (Nat.mod_eq_of_lt hb))
  · exact (State.rdI_refuse _ _ _ _ (by decide)).trans (hhead.trans (Nat.mod_eq_of_lt (Nat.mod_lt _ (by decide))))

/-! ### Requests -/

section
variable {s : State} {ag : Agent} (hr : Reaches s ag P.pwr) (hq : s.power.seq = .run) (hb : s.rd P.pwr R.pwr_STATE_BUSY = 0)
  (hu : s.upState = true)
include hr hq hb hu

theorem State.stateGo_eq (l : LowPower) : s.stateGo ag l =
    match (s.wr P.pwr R.pwr_STATE_REQ (lpCode l)).blocker l with
    | some p => (s.wr P.pwr R.pwr_STATE_REQ (lpCode l)).refuse 0x3F 3 p
    | none => if l = .doze then (s.wr P.pwr R.pwr_STATE_REQ (lpCode l)).startDoze else (s.wr P.pwr R.pwr_STATE_REQ (lpCode l)).startEntry l := by
  have hbusy : (s.wr P.pwr R.pwr_STATE_REQ (lpCode l)).on P.pwr R.pwr_STATE_BUSY = false :=
    (State.on_wr_ne _ _ (by decide)).trans (State.on_eq_false hb)
  have hup : (s.wr P.pwr R.pwr_STATE_REQ (lpCode l)).upState = true := by
    rw [State.upState, State.dev_wr _ _ _ (by decide)]
    exact hu
  rw [State.stateGo, State.gated_reaches hr, State.requestLow]
  simp only [State.wr_power, hq, hbusy, hup, Bool.false_and, Bool.false_eq_true, if_false, bne_self_eq_false, Bool.not_true, Bool.or_self] <;>
  rfl

end

/-! ### Steps of an entry -/

section
variable {s : State} {l : LowPower} {n : Nat}

theorem State.abandon_pow : PowFrame s (s.abandon l n) :=
  PowFrame.trans (PowFrame.power s { s.power with seq := .run, latched := 0 })
    (((((RegFrame.refl _).wr _ _ _).wr _ _ _).wr _ _ _).count _ _ |>.raise _ _).pow

theorem State.abandon_power : (s.abandon l n).power = { s.power with seq := .run, latched := 0 } := by simp [State.abandon]

theorem State.abandon_dev : (s.abandon l n).dev = s.dev := by
  rw [State.abandon, State.dev_raise, State.dev_count, State.dev_wr _ _ _ (by decide), State.dev_wr _ _ _ (by decide),
    State.dev_wr _ _ _ (by decide)]
  rfl

theorem State.abandon_st : (s.abandon l n).rd P.pwr R.pwr_LAST_ABORT_ST = lpCode l := by
  rw [State.abandon, State.rd_raise_own _ _ _ (by decide), State.rd_count, State.rd_wr_ne _ _ (by decide), State.rd_wr_ne _ _ (by decide),
    State.rd_wr_same]
  cases l <;> rfl

theorem State.abandon_ap (hn : n < 8) : (s.abandon l n).rd P.pwr R.pwr_LAST_ABORT_AP = n := by
  rw [State.abandon, State.rd_raise_own _ _ _ (by decide), State.rd_count, State.rd_wr_ne _ _ (by decide), State.rd_wr_same]
  exact Nat.mod_eq_of_lt hn

/-- An abandoned entry changes fields of the PWR page alone. -/
theorem State.abandon_rd {p : Nat} {f : Fld} (hp : P.pwr ≠ p) (hf : f.off < 4096 ∧ f.lo < 32) : (s.abandon l n).rd p f = s.rd p f := by
  have hne {g : Fld} (hg : g.off < 4096 ∧ g.lo < 32) : fkey P.pwr g 0 ≠ fkey p f 0 := fkey_ne_of_page hp ⟨hg.1, hf.1, hg.2, hf.2⟩
  rw [State.abandon, State.rd_raise_ne _ _ (hne (by decide)), State.rd_count, State.rd_wr_ne _ _ (hne (by decide)),
    State.rd_wr_ne _ _ (hne (by decide)), State.rd_wr_ne _ _ (hne (by decide))]
  rfl

end

/-- SR_STATE of a channel of the set. -/
theorem State.rd_setSr {s : State} {ch : Nat} (v : Nat) (hc : ch < 4) (hset : (s.rd P.drm R.drm_SET).testBit ch = true) :
    (s.setSr v).rd (P.drc ch) R.drc_SR_STATE = v % 4 := by
  refine (State.rd_foldl_wr (pg := P.drc) (g := fun _ => v) (fun a b hk => ?_) ch _ s (List.nodup_range.filter _)).trans ?_
  · simp only [fkey, P.drc] at hk
    omega
  · rw [if_pos (List.mem_filter.2 ⟨List.mem_range.2 hc, hset⟩)]
    rfl

theorem dozeIdleTimeout_does {s : State} (ha : s.rd P.pwr R.pwr_DOZE_AUTO = 1) (hu : s.upState = true) (hq : s.power.seq = .run)
    (hn : s.blocker .doze = none) : Does .dozeIdleTimeout s fun t =>
      t.power.seq = .entry .doze 2 ∧ t.rd P.pwr R.pwr_STATE_BUSY = 1 ∧ t = { s with power := t.power, regs := t.regs } ∧
        SameRegs s t [fkey P.pwr R.pwr_STATE_BUSY 0] := by
  refine ⟨s.startDoze, congrArg Host.Outcome.next (State.whenB_true ?_ _), rfl, State.rd_wr_same .., rfl, ?_⟩
  · simp [State.on_eq_true (show s.rd P.pwr R.pwr_DOZE_AUTO ≠ 0 by omega), hu, hq, hn]
  · exact SameRegs.wr (SameRegs.of_regs_eq rfl _) (by simp) 1

theorem dozeBiasSettled_enters {s : State} (hq : s.power.seq = .entry .doze 2) (hl : s.power.latched = 0) :
    Does .dozeBiasSettled s fun t => t.power.seq = .asleep .doze ∧ t.dev = Dev.doze ∧ t.rd P.pwr R.pwr_STATE_BUSY = 0 ∧
      t = { s with power := t.power, regs := t.regs, ctrs := t.ctrs, outbox := t.outbox } := by
  let u := { s with power := { s.power with seq := .asleep .doze, asleepSince := s.rtcUs } }
  have hexec : exec .dozeBiasSettled s = .next ((((u.setDev Dev.doze).wr P.pwr R.pwr_STATE_BUSY 0).count P.pwr 0x060).raise P.pwr 0) :=
    congrArg Host.Outcome.next ((if_pos hq).trans (if_neg (not_not.2 hl)))
  have hframe := ((((RegFrame.refl u).wr P.glb R.glb_DEVSTATE Dev.doze).wr P.pwr R.pwr_STATE_BUSY 0).count P.pwr 0x060).raise P.pwr 0
  refine ⟨_, hexec, congrArg Power.seq hframe.power_eq, ?_, ?_, (PowFrame.power s u.power).trans hframe.pow⟩
  · rw [State.dev_raise, State.dev_count, State.dev_wr _ _ _ (by decide)]
    exact State.rd_wr_same ..
  · rw [State.rd_raise_own _ _ _ (by decide), State.rd_count]
    exact State.rd_wr_same ..

theorem dozeBiasSettled_abandons {s : State} (hq : s.power.seq = .entry .doze 2) (hl : s.power.latched ≠ 0) :
    Does .dozeBiasSettled s fun t => t.power.seq = .run ∧ t.power.latched = 0 ∧ t.dev = s.dev ∧ t.rd P.pwr R.pwr_LAST_ABORT_ST = 1 ∧
      t.rd P.pwr R.pwr_LAST_ABORT_AP = 2 ∧ t = { s with power := t.power, regs := t.regs, ctrs := t.ctrs, outbox := t.outbox } :=
  ⟨s.abandon .doze 2, congrArg Host.Outcome.next ((if_pos hq).trans (if_pos hl)), congrArg Power.seq State.abandon_power,
    congrArg Power.latched State.abandon_power, State.abandon_dev, State.abandon_st, State.abandon_ap (by decide), State.abandon_pow⟩

section
variable {s : State} {l : LowPower} (hq : s.power.seq = .entry l 3)
include hq

theorem dramSelfRefreshEntered_abandons (hl : s.power.latched ≠ 0) : Does .dramSelfRefreshEntered s fun t =>
    t.power.seq = .run ∧ t.rd P.pwr R.pwr_LAST_ABORT_ST = lpCode l ∧ t.rd P.pwr R.pwr_LAST_ABORT_AP = 3 ∧ t.dram.act = [] ∧
      (∀ ch, ch < 4 → (s.rd P.drm R.drm_SET).testBit ch = true → t.rd (P.drc ch) R.drc_SR_STATE = 3) ∧
      t = { s with power := t.power, dram := t.dram, regs := t.regs, ctrs := t.ctrs, outbox := t.outbox } := by
  let u := { s with dram := { s.dram with act := [] } }
  have hexec : exec .dramSelfRefreshEntered s = .next ((u.setSr 3).abandon l 3) := by
    show execDramSelfRefreshEntered s = _
    simp only [execDramSelfRefreshEntered, hq]
    exact congrArg Host.Outcome.next (if_pos hl)
  have hframe : PowFrame u ((u.setSr 3).abandon l 3) := PowFrame.trans (RegFrame.foldl_wr _ u).pow State.abandon_pow
  refine ⟨_, hexec, congrArg Power.seq State.abandon_power, State.abandon_st, State.abandon_ap (by decide), ?_, fun ch hc hset => ?_, ?_⟩
  · rw [State.abandon_dram, State.setSr_dram]
  · rw [State.abandon_rd (by simp only [P.pwr, P.drc]; omega) (by decide)]
    exact u.rd_setSr 3 hc hset
  · rw [show (u.setSr 3).abandon l 3 = _ from hframe]

theorem dramSelfRefreshEntered_parks (hl : s.power.latched = 0) :
    exec .dramSelfRefreshEntered s = .next (({ s with dram := { s.dram with act := [] } }.setSr 2).entryPark l) := by
  show execDramSelfRefreshEntered s = _
  simp only [execDramSelfRefreshEntered, hq]
  exact congrArg Host.Outcome.next (if_neg (not_not.2 hl))

end

/-- Settles O23: each clause is the lemma above about its step of an entry. -/
theorem lowPowerEntry : Obligations.LowPowerEntry := by
  unfold Obligations.LowPowerEntry
  refine fun s => ⟨fun ag hr hq hb hu => ?_, fun dom kind by_ hd hk hb he => ?_, fun ha hu hq hn => dozeIdleTimeout_does ha hu hq hn,
    fun hq hl => dozeBiasSettled_enters hq hl, fun hq hl => dozeBiasSettled_abandons hq hl,
    fun l hq hl => dramSelfRefreshEntered_abandons hq hl, fun l hq hl => dramSelfRefreshEntered_parks hq hl⟩
  · have hgo (l : LowPower) := congrArg (Host.Outcome.next (φ := Fault) (ρ := Refusal)) (State.stateGo_eq hr hq hb hu l)
    exact ⟨hgo .doze, hgo .slumber, hgo .vault⟩
  · exact s.refuse_does hd hk hb he

end Sys2Proof.Machine
end

section
/-!
PROOFS. Domains switched on and off (R441, R442).
-/

namespace Sys2Proof.Machine

theorem Tbl.at?_foldl_put_ne {β : Type} {k : Nat} (l : List (Nat × β)) : ∀ t : Tbl β, (∀ e ∈ l, e.1 ≠ k) →
    Tbl.at? (l.foldl (fun r e => Tbl.put r e.1 e.2) t) k = Tbl.at? t k := by
  induction l with
  | nil => exact fun t _ => rfl
  | cons e l ih =>
    intro t h
    rw [List.foldl_cons, ih _ fun a ha => h a (List.mem_cons_of_mem _ ha), Tbl.at?_put_ne _ _ (h e List.mem_cons_self)]

/-- Pages reloaded leave the other pages' fields alone. -/
theorem State.rdI_reloadPages (s : State) {ps : List Nat} {p : Nat} {f : Fld} {i : Nat} (h : keyPage (fkey p f i) ∉ ps) :
    (s.reloadPages ps).rdI p f i = s.rdI p f i := by
  have hback : ∀ e ∈ s.loaded.filter (fun e => ps.contains (keyPage e.1)), e.1 ≠ fkey p f i := fun e he hk => by
    have hpage := (List.mem_filter.1 he).2
    rw [hk] at hpage
    exact h (List.contains_iff_mem.1 hpage)
  have hgone : Tbl.at? (s.regs.filter fun e => !ps.contains (keyPage e.1)) (fkey p f i) = Tbl.at? s.regs (fkey p f i) := by
    rw [Tbl.at?_filter_key s.regs (fun k => !ps.contains (keyPage k))]
    exact if_pos (by simpa using h)
  exact congrArg (fun o => o.getD (fieldReset s.part p f i)) ((Tbl.at?_foldl_put_ne _ _ hback).trans hgone)

theorem keyPage_fkey {p : Nat} {f : Fld} (h : f.off < 4096 ∧ f.lo < 32) : keyPage (fkey p f 0) = p := by
  simp only [keyPage, fkey, Nat.mul_zero, Nat.add_zero]
  omega

/-- From domain 4 on a domain holds no page of the PWR block. -/
theorem pwr_notMem_domPages {d : Nat} (hd : 4 ≤ d) : P.pwr ∉ domPages d := fun h => by
  have hdom := (Bool.and_eq_true_iff.1 (List.mem_filter.1 h).2).2
  have : pageDomain P.pwr = d := by simpa using hdom
  have : pageDomain P.pwr = 2 := rfl
  omega

theorem State.rd_reloadPages_pwr (s : State) {d : Nat} (hd : 4 ≤ d) {f : Fld} (hf : f.off < 4096 ∧ f.lo < 32) :
    (s.reloadPages (domPages d)).rd P.pwr f = s.rd P.pwr f := by
  refine s.rdI_reloadPages ?_
  rw [keyPage_fkey hf]
  exact pwr_notMem_domPages hd

/-! ### DOM_ON -/

theorem State.domOn_congr {s t : State} (hlo : t.rd P.pwr R.pwr_DOM_ON_LO = s.rd P.pwr R.pwr_DOM_ON_LO)
    (hhi : t.rd P.pwr R.pwr_DOM_ON_HI = s.rd P.pwr R.pwr_DOM_ON_HI) (d : Nat) : t.domOn d = s.domOn d := by
  rw [State.domOn, hlo, hhi, State.domOn]

theorem State.domOn_setDom (s : State) {d e : Nat} (on : Bool) (he : e < 38) :
    (s.setDom d on).domOn e = if d = e then on else s.domOn e := by
  by_cases hd : d < 32
  · have hhi : (s.wr P.pwr R.pwr_DOM_ON_LO (bitPut (s.rd P.pwr R.pwr_DOM_ON_LO) d on)).rd P.pwr R.pwr_DOM_ON_HI = s.rd P.pwr R.pwr_DOM_ON_HI :=
      State.rd_wr_ne _ _ (by decide)
    rw [State.setDom, if_pos hd, State.domOn, State.domOn, State.rd_wr_same, hhi]
    by_cases he' : e < 32
    · rw [if_pos he', if_pos he', Nat.testBit_mod_two_pow, testBit_bitPut, decide_eq_true (show e < R.pwr_DOM_ON_LO.w from he'), Bool.true_and]
    · rw [if_neg he', if_neg he', if_neg (show d ≠ e by omega)]
  · have hlo : (s.wr P.pwr R.pwr_DOM_ON_HI (bitPut (s.rd P.pwr R.pwr_DOM_ON_HI) (d - 32) on)).rd P.pwr R.pwr_DOM_ON_LO =
        s.rd P.pwr R.pwr_DOM_ON_LO := State.rd_wr_ne _ _ (by decide)
    rw [State.setDom, if_neg hd, State.domOn, State.domOn, State.rd_wr_same, hlo]
    by_cases he' : e < 32
    · rw [if_pos he', if_pos he', if_neg (show d ≠ e by omega)]
    · have hw : e - 32 < R.pwr_DOM_ON_HI.w := by simp only [R.pwr_DOM_ON_HI]; omega
      rw [if_neg he', if_neg he', Nat.testBit_mod_two_pow, testBit_bitPut, decide_eq_true hw, Bool.true_and]
      simp only [show d - 32 = e - 32 ↔ d = e by omega]

/-- The note that a domain's pads were latched. -/
def State.padLatch (s : State) (d : Nat) : State :=
  (if d < 32 then s.wr P.pad R.pad_PAD_TACK_LO (bitPut (s.rd P.pad R.pad_PAD_TACK_LO) d true)
    else s.wr P.pad R.pad_PAD_TACK_HI (bitPut (s.rd P.pad R.pad_PAD_TACK_HI) (d - 32) true)).count P.pad 0x040

theorem State.rd_padLatch (s : State) (d : Nat) {f : Fld} (hf : f.off < 4096 ∧ f.lo < 32) : (s.padLatch d).rd P.pwr f = s.rd P.pwr f := by
  have hne {g : Fld} (hg : g.off < 4096 ∧ g.lo < 32) : fkey P.pad g 0 ≠ fkey P.pwr f 0 :=
    fkey_ne_of_page (by decide) ⟨hg.1, hf.1, hg.2, hf.2⟩
  rw [State.padLatch, State.rd_count]
  split
  · exact State.rd_wr_ne _ _ (hne (by decide))
  · exact State.rd_wr_ne _ _ (hne (by decide))

/-- A domain switched off, before its pads are latched. -/
def State.domLost (s : State) (d : Nat) : State := ((s.loseBlocks d).reloadPages (domPages d)).setDom d false

theorem State.domOff_eq (s : State) (d : Nat) : s.domOff d =
    if s.domOn d then if (s.domLost d).part = .od7420 then (s.domLost d).padLatch d else s.domLost d else s := rfl

theorem State.domOff_off (s : State) {d : Nat} (hd : d < 38) : (s.domOff d).domOn d = false := by
  have hlost : (s.domLost d).domOn d = false := (State.domOn_setDom _ false hd).trans (if_pos rfl)
  rw [State.domOff_eq]
  by_cases hon : s.domOn d = true
  · rw [if_pos hon]
    split
    · rw [State.domOn_congr (State.rd_padLatch _ d (by decide)) (State.rd_padLatch _ d (by decide)), hlost]
    · exact hlost
  · rw [if_neg hon]
    simpa using hon

section
variable (s : State) {d : Nat} (hd : 4 ≤ d)
include hd

/-- A domain from 4 on switched off changes in the PWR page DOM_ON alone. -/
theorem State.rd_domOff_pwr {f : Fld} (hf : f.off < 4096 ∧ f.lo < 32 ∧ f.off ≠ 0x104 ∧ f.off ≠ 0x108) :
    (s.domOff d).rd P.pwr f = s.rd P.pwr f := by
  obtain ⟨hoff, hlo, h4, h8⟩ := hf
  have hne {g : Fld} (hg : g.off < 4096 ∧ g.lo < 32 ∧ g.off ≠ f.off) : fkey P.pwr g 0 ≠ fkey P.pwr f 0 :=
    fkey_ne_of_off ⟨hg.1, hoff, hg.2.1, hlo, hg.2.2⟩
  have hlost : (s.domLost d).rd P.pwr f = s.rd P.pwr f := by
    rw [State.domLost, State.rd_setDom_ne _ _ _ (hne ⟨by decide, by decide, Ne.symm h4⟩) (hne ⟨by decide, by decide, Ne.symm h8⟩),
      State.rd_reloadPages_pwr _ hd ⟨hoff, hlo⟩]
    exact State.rd_congr (BlockFrame.loseBlocks s d).regs_eq (BlockFrame.loseBlocks s d).part_eq P.pwr f
  rw [State.domOff_eq]
  split
  · split
    · rw [State.rd_padLatch _ _ ⟨hoff, hlo⟩, hlost]
    · exact hlost
  · rfl

theorem State.domOff_stays_off {e : Nat} (he : e < 38) (h : s.domOn e = false) : (s.domOff d).domOn e = false := by
  have hkeep : ((s.loseBlocks d).reloadPages (domPages d)).domOn e = s.domOn e :=
    State.domOn_congr
      ((State.rd_reloadPages_pwr _ hd (by decide)).trans (State.rd_congr (BlockFrame.loseBlocks s d).regs_eq (BlockFrame.loseBlocks s d).part_eq _ _))
      ((State.rd_reloadPages_pwr _ hd (by decide)).trans (State.rd_congr (BlockFrame.loseBlocks s d).regs_eq (BlockFrame.loseBlocks s d).part_eq _ _)) e
  have hlost : (s.domLost d).domOn e = false := by
    rw [State.domLost, State.domOn_setDom _ _ he, hkeep, h, ite_self]
  rw [State.domOff_eq]
  split
  · split
    · rw [State.domOn_congr (State.rd_padLatch _ _ (by decide)) (State.rd_padLatch _ _ (by decide)), hlost]
    · exact hlost
  · exact h

theorem State.domPower_on (he : d < 38) (hp : domainPresent s.part d = true) : (s.domPower d).domOn d = true := by
  unfold State.domPower
  split
  · rw [State.domOn_congr (State.rd_reloadPages_pwr _ hd (by decide)) (State.rd_reloadPages_pwr _ hd (by decide)), State.domOn_setDom _ _ he,
      if_pos rfl]
  next h => simpa [hp] using h

end

theorem State.domLost_power (s : State) (d : Nat) : (s.domLost d).power = s.power := by
  rw [State.domLost, State.setDom_power]
  exact (BlockFrame.loseBlocks s d).power_eq

theorem RegFrame.padLatch (s : State) (d : Nat) : RegFrame s (s.padLatch d) := by
  unfold State.padLatch
  split
  · exact ((RegFrame.refl s).wr _ _ _).count _ _
  · exact ((RegFrame.refl s).wr _ _ _).count _ _

theorem State.domOff_power (s : State) (d : Nat) : (s.domOff d).power = s.power := by
  rw [State.domOff_eq]
  split
  · split
    · rw [(RegFrame.padLatch _ _).power_eq, State.domLost_power]
    · exact State.domLost_power s d
  · rfl

/-! ### Several domains switched off -/

section
variable {l : List Nat} (hl : ∀ d ∈ l, 4 ≤ d)
include hl

theorem State.foldl_domOff_stays_off {e : Nat} (he : e < 38) : ∀ s : State, s.domOn e = false → (l.foldl State.domOff s).domOn e = false := by
  induction l with
  | nil => exact fun s h => h
  | cons d l ih =>
    exact fun s h => ih (fun a ha => hl a (List.mem_cons_of_mem _ ha)) _ (s.domOff_stays_off (hl d List.mem_cons_self) he h)

theorem State.foldl_domOff_off {e : Nat} (he : e < 38) : ∀ s : State, e ∈ l → (l.foldl State.domOff s).domOn e = false := by
  induction l with
  | nil => exact fun s h => absurd h List.not_mem_nil
  | cons d l ih =>
    intro s hmem
    have htail : ∀ a ∈ l, 4 ≤ a := fun a ha => hl a (List.mem_cons_of_mem _ ha)
    rcases List.mem_cons.1 hmem with rfl | hmem
    · exact State.foldl_domOff_stays_off htail he _ (s.domOff_off he)
    · exact ih htail _ hmem

theorem State.rd_foldl_domOff {f : Fld} (hf : f.off < 4096 ∧ f.lo < 32 ∧ f.off ≠ 0x104 ∧ f.off ≠ 0x108) : ∀ s : State,
    (l.foldl State.domOff s).rd P.pwr f = s.rd P.pwr f := by
  induction l with
  | nil => exact fun s => rfl
  | cons d l ih => exact fun s => (ih (fun a ha => hl a (List.mem_cons_of_mem _ ha)) _).trans (s.rd_domOff_pwr (hl d List.mem_cons_self) hf)

end

end Sys2Proof.Machine
end

section
/-!
PROOFS. Domains, the power limit and the pads (R441 to R443, R457 to R459).
-/

namespace Sys2Proof.Machine

/-! ### Domains -/

section
variable {s : State} {d : Nat}

theorem State.offOne_essential (h : s.essential d = true) : s.offOne d = s.refuse d 1 0xFF := if_pos h

theorem State.offOne_working {p : Nat} (h : s.essential d = false) (hw : s.domWork d = some p) : s.offOne d = s.refuse d 0 p := by
  simp [State.offOne, h, hw]

theorem State.offOne_idle (h : s.essential d = false) (hw : s.domWork d = none) : s.offOne d = s.domOff d := by
  simp [State.offOne, h, hw]

end

/-! ### The power limit -/

/-- DVFS_MAX of a powered cluster, changed by a function. -/
theorem State.rd_dvfsMax (s : State) (f : Nat → Nat) {c : Nat} (hc : c < nClusters s.part) (hon : s.domOn (8 + c) = true) :
    (s.dvfsMax f).rd (P.shc c) R.shc_DVFS_MAX = f (s.rd (P.shc c) R.shc_DVFS_MAX) % 4 := by
  refine (State.rd_foldl_wr (pg := P.shc) (g := f) (fun a b hk => ?_) c _ s (List.nodup_range.filter _)).trans ?_
  · simp only [fkey, P.shc] at hk
    omega
  · rw [if_pos (List.mem_filter.2 ⟨List.mem_range.2 hc, hon⟩)]
    rfl

theorem RegFrame.dvfsMax (s : State) (f : Nat → Nat) : RegFrame s (s.dvfsMax f) := RegFrame.foldl_wr _ s

theorem State.dvfsMax_outbox (s : State) (f : Nat → Nat) : (s.dvfsMax f).outbox = s.outbox := by
  refine State.foldl_keeps State.outbox (fun _ _ => ?_) _ s
  rfl

theorem State.dvfsMax_ctrs (s : State) (f : Nat → Nat) : (s.dvfsMax f).ctrs = s.ctrs := by
  refine State.foldl_keeps State.ctrs (fun _ _ => ?_) _ s
  rfl

theorem State.rd_dvfsMax_ne (s : State) (f : Nat → Nat) {p : Nat} {g : Fld} (hp : ∀ c, P.shc c ≠ p) (hg : g.off < 4096 ∧ g.lo < 32) :
    (s.dvfsMax f).rd p g = s.rd p g := by
  refine State.foldl_keeps (fun u => u.rd p g) (fun u c => ?_) _ s
  exact State.rd_wr_ne _ _ (fkey_ne_of_page (hp c) ⟨by decide, hg.1, by decide, hg.2⟩)

theorem powerLimitAverage_does {s : State} {w : Nat} (hq : s.power.seq = .run) (hd : s.dev = Dev.ready)
    (hw : s.rd P.pwr R.pwr_PWR_LIMIT_W < w) : Does (.powerLimitAverage w) s fun t =>
      t.rd P.pwr R.pwr_PWR_MEAS_W = min w 255 ∧ t.power.underMs = 0 ∧ (t.rd P.pwr R.common_INT_RAW).testBit 6 = true ∧
      (∀ c, c < nClusters s.part → s.domOn (8 + c) = true → t.rd (P.shc c) R.shc_DVFS_MAX = (s.rd (P.shc c) R.shc_DVFS_MAX - 1) % 4) ∧
      t = { s with power := t.power, regs := t.regs, ctrs := t.ctrs, outbox := t.outbox } := by
  let u := { s.wr P.pwr R.pwr_PWR_MEAS_W (min w 255) with power := { s.power with underMs := 0 } }
  have hexec : exec (.powerLimitAverage w) s = .next (((u.dvfsMax (· - 1)).count P.pwr 0x098).raise P.pwr 6) := by
    refine congrArg Host.Outcome.next ((State.whenB_true ?_ _).trans (if_pos hw))
    simp [hq, hd, Dev.boot, Dev.ready, Dev.readOnly]
  have hshc (c : Nat) : P.shc c ≠ P.pwr := by simp only [P.shc, P.pwr]; omega
  have hframe := ((RegFrame.dvfsMax u (· - 1)).count P.pwr 0x098).raise P.pwr 6
  have hu : PowFrame s u := rfl
  refine ⟨_, hexec, ?_, congrArg Power.underMs hframe.power_eq, State.testBit_raise _ _ (by decide), fun c hc hon => ?_, hu.trans hframe.pow⟩
  · rw [State.rd_raise_own _ _ _ (by decide), State.rd_count, State.rd_dvfsMax_ne _ _ hshc (by decide)]
    exact (State.rd_wr_same ..).trans (Nat.mod_eq_of_lt (by simp only [R.pwr_PWR_MEAS_W]; omega))
  · have hon' : u.domOn (8 + c) = true :=
      (State.domOn_congr (State.rd_wr_ne s _ (by decide)) (State.rd_wr_ne s _ (by decide)) (8 + c)).trans hon
    have hmax : u.rd (P.shc c) R.shc_DVFS_MAX = s.rd (P.shc c) R.shc_DVFS_MAX :=
      State.rd_wr_ne s _ (fkey_ne_of_page (Ne.symm (hshc c)) (by decide))
    rw [State.rd_raise_own _ _ _ (by decide), State.rd_count, State.rd_dvfsMax u _ hc hon', hmax]

theorem powerLimitRestore_does {s : State} (hms : 100 ≤ s.power.underMs) : Does .powerLimitRestore s fun t =>
    t.power.underMs = 0 ∧
      (∀ c, c < nClusters s.part → s.domOn (8 + c) = true →
        t.rd (P.shc c) R.shc_DVFS_MAX = min s.dvfsTop (s.rd (P.shc c) R.shc_DVFS_MAX + 1) % 4) ∧
      t = { s with power := t.power, regs := t.regs } := by
  let u := { s with power := { s.power with underMs := 0 } }
  have hexec : exec .powerLimitRestore s = .next (u.dvfsMax fun m => min s.dvfsTop (m + 1)) :=
    congrArg Host.Outcome.next (State.whenB_true (decide_eq_true hms) _)
  have hframe := RegFrame.dvfsMax u fun m => min s.dvfsTop (m + 1)
  refine ⟨_, hexec, congrArg Power.underMs hframe.power_eq, fun c hc hon => u.rd_dvfsMax _ hc hon, ?_⟩
  rw [hframe.onlyRegs (State.dvfsMax_ctrs ..) (State.dvfsMax_outbox ..)]

/-! ### Pads -/

theorem filter_range_two_pow {d n : Nat} (hd : d < n) {f : Nat → Bool} (hf : f d = true) :
    (List.range n).filter (fun a => (2 ^ d).testBit a && f a) = [d] := by
  have hbit : (fun a => (2 ^ d).testBit a && f a) = (· == d) := funext fun a => by
    by_cases h : d = a
    · subst h
      simp [hf]
    · rw [Nat.testBit_two_pow_of_ne h, Bool.false_and, beq_false_of_ne (Ne.symm h)]
  rw [hbit, List.filter_beq, List.count_eq_one_of_mem List.nodup_range (List.mem_range.2 hd)]
  rfl

theorem State.tackRel_low {s : State} {d : Nat} (hd : d < 32) (hon : s.domOn d = true) (hb : (s.rd P.pad R.pad_PAD_TACK_LO).testBit d = true) :
    s.tackRel d = (s.wr P.pad R.pad_PAD_TACK_LO (bitPut (s.rd P.pad R.pad_PAD_TACK_LO) d false)).count P.pad 0x048 := by
  have hlow (a b : Nat) : (a + b * 2 ^ 32).testBit d = a.testBit d := by
    have hmod (v : Nat) : v.testBit d = (v % 2 ^ 32).testBit d := by rw [Nat.testBit_mod_two_pow, decide_eq_true hd, Bool.true_and]
    rw [hmod, Nat.add_mul_mod_self_right, ← hmod]
  simp only [State.tackRel, hon, hlow, hb, if_pos hd, if_true]

theorem padTackRel_does {s : State} {ag : Agent} (hpart : s.part = .od7420) (hr : Reaches s ag P.pad) {d : Nat} (hd : d < 32)
    (hp : domainPresent s.part d = true) (hon : s.domOn d = true) (hb : (s.rd P.pad R.pad_PAD_TACK_LO).testBit d = true) :
    Does (.padTackRel ag (2 ^ d) 0) s fun t => (t.rd P.pad R.pad_PAD_TACK_LO).testBit d = false ∧
      t = { s with regs := t.regs, ctrs := t.ctrs } ∧ SameRegs s t [fkey P.pad R.pad_PAD_TACK_LO 0] := by
  let u := (s.wr P.pad R.pad_PAD_TACK_LO (bitPut (s.rd P.pad R.pad_PAD_TACK_LO) d false)).count P.pad 0x048
  have hmask : 2 ^ d % 2 ^ 32 + 0 % 64 * 2 ^ 32 = 2 ^ d := by
    rw [Nat.mod_eq_of_lt (Nat.pow_lt_pow_right (by decide) hd)]
    rfl
  have hrel : s.tackRelease (2 ^ d) = u := by
    refine (State.whenB_true (by simp [hpart]) _).trans ?_
    rw [filter_range_two_pow (show d < 38 by omega) hp]
    exact State.tackRel_low hd hon hb
  have hexec : exec (.padTackRel ag (2 ^ d) 0) s = .next u :=
    congrArg Host.Outcome.next ((State.gated_reaches hr _ _ _).trans ((congrArg s.tackRelease hmask).trans hrel))
  refine ⟨u, hexec, ?_, (((RegFrame.refl s).wr _ _ _).count _ _).silent (by simp), ((SameRegs.refl s _).wr (by simp) _).count _ _⟩
  rw [State.rd_count, State.rd_wr_same, Nat.testBit_mod_two_pow, testBit_bitPut, if_pos rfl, Bool.and_false]

/-- Settles O27: each clause is the lemma above about its operation. -/
theorem domainsAndPads : Obligations.DomainsAndPads := by
  unfold Obligations.DomainsAndPads
  refine fun s ag => ⟨fun hr => congrArg Host.Outcome.next (State.gated_reaches hr _ _ _),
    fun hr => congrArg Host.Outcome.next (State.gated_reaches hr _ _ _), fun d h => State.offOne_essential h,
    fun d p h hw => State.offOne_working h hw, fun d hd h hw => ?_, fun d hd h4 hp => s.domPower_on h4 hd hp,
    fun w hq hd hw => powerLimitAverage_does hq hd hw, fun hms => powerLimitRestore_does hms, fun hpart hr lo hi => ?_,
    fun hpart hr d hd hp hon hb => padTackRel_does hpart hr hd hp hon hb⟩
  · rw [State.offOne_idle h hw]
    exact s.domOff_off hd
  · exact congrArg Host.Outcome.next ((State.gated_reaches hr _ _ _).trans (State.whenB_false (by simp [hpart]) _))

end Sys2Proof.Machine
end

section
/-!
PROOFS. Power-up (R452, R453, R462, R519, R520).
-/

namespace Sys2Proof.Machine

/-! ### Power-on reset, PGOOD, the crystal -/

theorem powerOnDetect_does {s : State} (hq : s.power.seq = .heldInReset) : Does .powerOnDetect s fun t =>
    t.power = { s.power with seq := .upRegulator 0, regEn := s.power.regEn.filter (· ≠ 0) ++ [0] } ∧ t.rd P.rst R.rst_RST_CAUSE = 1 ∧
      t.outbox = s.outbox ++ [.pwrEn 0 true] ∧
      t = { s with power := t.power, regs := t.regs, ctrs := t.ctrs, outbox := t.outbox } ∧ SameRegs s t [fkey P.rst R.rst_RST_CAUSE 0] := by
  let u := ({ s with power := { s.power with seq := .upRegulator 0 } } : State).wr P.rst R.rst_RST_CAUSE 1
  have hexec : exec .powerOnDetect s = .next ((u.count P.rst 0x040).regEnable 0 true) :=
    congrArg Host.Outcome.next (State.whenB_true (by simp [hq]) _)
  have hcount : (u.count P.rst 0x040).power = u.power := State.count_power ..
  have hframe : PowFrame s (u.count P.rst 0x040) := PowFrame.trans (show PowFrame s u from rfl) ((RegFrame.refl u).count _ _).pow
  refine ⟨_, hexec, ?_, ?_, ?_, hframe.trans rfl, ?_⟩
  · simp only [State.regEnable, State.send, hcount, if_true]
    rfl
  · exact (State.rd_count ..).trans (State.rd_wr_same ..)
  · simp only [State.regEnable, State.send, State.count_outbox]
    rfl
  · exact SameRegs.count (SameRegs.wr (SameRegs.of_regs_eq rfl _) (by simp) 1) _ _

/-- The registers and outputs of a regulator's PGOOD during power-up. -/
theorem regulatorPgood_does {s : State} {r : Nat} (hr : r < 8) (hq : s.power.seq = .upRegulator r) (hen : s.power.regEn.contains r = true) :
    Does (.regulatorPgood r) s fun t => (t.rd P.pwr R.pwr_REG_PGOOD).testBit r = true ∧
      (r < 7 → t.power.seq = .upRegulator (r + 1) ∧ (r + 1) ∈ t.power.regEn ∧ t.outbox = s.outbox ++ [.pwrEn (r + 1) true]) ∧
      (r = 7 → t.power.seq = .upCrystal ∧ t.outbox = s.outbox) ∧
      t = { s with power := t.power, regs := t.regs, outbox := t.outbox } ∧ SameRegs s t [fkey P.pwr R.pwr_REG_PGOOD 0] := by
  let u := s.wr P.pwr R.pwr_REG_PGOOD (bitPut (s.rd P.pwr R.pwr_REG_PGOOD) r true)
  have hexec : exec (.regulatorPgood r) s = .next (u.upNext r) := by
    refine congrArg Host.Outcome.next ((State.whenB_true (by simp only [decide_eq_true hr, hen, Bool.and_true]) _).trans ?_)
    simp only [State.regNext, State.wr_power, hq, if_true]
    rfl
  have hbit : (u.rd P.pwr R.pwr_REG_PGOOD).testBit r = true := by
    rw [State.rd_wr_same, Nat.testBit_mod_two_pow, testBit_bitPut, if_pos rfl, Bool.and_true]
    exact decide_eq_true hr
  have hsame : SameRegs s u [fkey P.pwr R.pwr_REG_PGOOD 0] := (SameRegs.refl s _).wr (by simp) _
  refine ⟨_, hexec, ?_⟩
  by_cases h7 : r < 7
  · rw [State.upNext, if_pos h7]
    exact ⟨hbit, fun _ => ⟨rfl, by simp [State.regEnable], rfl⟩, fun h => absurd h (by omega), rfl, hsame⟩
  · rw [State.upNext, if_neg h7]
    exact ⟨hbit, fun h => absurd h h7, fun _ => ⟨rfl, rfl⟩, rfl, hsame⟩

theorem crystalRunning_does {s : State} (hq : s.power.seq = .upCrystal) : Does .crystalRunning s fun t =>
    t.power.seq = .run ∧ t.dev = Dev.fill ∧ t.rd P.clk R.clk_XTAL_OK = 1 ∧ t.dram.fill = 1 ∧
      t = { s with power := t.power, dram := t.dram, regs := t.regs } ∧
      SameRegs s t [fkey P.clk R.clk_XTAL_OK 0, fkey P.glb R.glb_DEVSTATE 0] := by
  let u := { s with power := { s.power with seq := .run }, dram := { s.dram with fill := 1 } }
  have hexec : exec .crystalRunning s = .next ((u.wr P.clk R.clk_XTAL_OK 1).setDev Dev.fill) := by
    show execCrystalRunning s = _
    simp only [execCrystalRunning, hq]
    rfl
  refine ⟨_, hexec, rfl, State.rd_wr_same .., ?_, rfl, rfl, ?_⟩
  · exact (State.rd_wr_ne _ _ (by decide)).trans (State.rd_wr_same ..)
  · exact SameRegs.wr (SameRegs.wr (SameRegs.of_regs_eq rfl _) (by simp) 1) (by simp) Dev.fill

/-! ### A regulator that times out -/

/-- The domains that a regulator feeds. -/
def State.fedBy (s : State) (r : Nat) : List Nat := (List.range 38).filter fun d => regFeeds r d && domainPresent s.part d

/-- A regulator switched off with its REG_FAIL bit. -/
def State.regDown (s : State) (r : Nat) : State := (s.regEnable r false).wr P.pwr R.pwr_REG_FAIL (bitPut (s.rd P.pwr R.pwr_REG_FAIL) r true)

/-- A refusal of each domain logged, its regulator the reason. -/
def State.logDoms (s : State) (l : List Nat) (r : Nat) : State := l.foldl (fun s d => s.refuse d 2 r) s

theorem RegFrame.logDoms (s : State) (l : List Nat) (r : Nat) : RegFrame s (s.logDoms l r) :=
  RegFrame.foldl (fun u d => RegFrame.refuse u d 2 r) l (RegFrame.refl s)

/-- The log and the interrupts leave the fields between them alone. -/
theorem State.rd_logDoms (s : State) (l : List Nat) (r : Nat) {f : Fld} (hf : 0x100 ≤ f.off ∧ f.off < 0x130 ∧ f.lo < 32) :
    (s.logDoms l r).rd P.pwr f = s.rd P.pwr f := by
  obtain ⟨hlo, hhi, hl⟩ := hf
  refine State.foldl_keeps (fun u => u.rd P.pwr f) (fun u d => ?_) l s
  have hraw : fkey P.pwr R.common_INT_RAW 0 ≠ fkey P.pwr f 0 := fkey_ne_of_off ⟨by decide, by omega, by decide, hl, by simp only [R.common_INT_RAW]; omega⟩
  have hhead : fkey P.pwr R.pwr_REF_HEAD 0 ≠ fkey P.pwr f 0 := fkey_ne_of_off ⟨by decide, by omega, by decide, hl, by simp only [R.pwr_REF_HEAD]; omega⟩
  refine (State.rdI_refuse _ _ _ _ hraw).trans (State.rdI_logRef_ne _ _ _ _ ?_ hhead)
  simp only [List.forall_mem_cons, List.not_mem_nil, false_imp_iff, implies_true, and_true]
  exact ⟨(fkey_head_ne (by simp only [R.pwr_REF_DOM]; omega) hl _).symm, (fkey_head_ne (by simp only [R.pwr_REF_KIND]; omega) hl _).symm,
    (fkey_head_ne (by simp only [R.pwr_REF_BY]; omega) hl _).symm, (fkey_head_ne (by simp only [R.pwr_REF_TIME]; omega) hl _).symm⟩

/-- The state of `regFailed` before the domains that it feeds are switched off. -/
def State.regNoted (s : State) (r : Nat) : State :=
  let u := (((s.regDown r).err P.pwr 2 r 0).logDoms (s.fedBy r) r)
  { u with power := { u.power with partialWake := true } }

section
variable {s : State} {r : Nat} (hr : r = 2 ∨ r = 4 ∨ r = 5 ∨ r = 6)
include hr

theorem State.mem_fedBy {d : Nat} (h : d ∈ s.fedBy r) : 16 ≤ d ∧ ¬(25 ≤ d ∧ d ≤ 28) := by
  have hfeeds : regFeeds r d = true := (Bool.and_eq_true_iff.1 (List.mem_filter.1 h).2).1
  rcases hr with rfl | rfl | rfl | rfl <;> simp [regFeeds] at hfeeds <;> omega

theorem State.fedBy_inessential : (s.fedBy r).any (s.regDown r).essential = false := by
  refine List.any_eq_false.2 fun d hd => ?_
  obtain ⟨h16, hdrc⟩ := State.mem_fedBy hr hd
  simp only [State.essential, decide_eq_false hdrc, decide_eq_false (show ¬d < 4 by omega)]
  simp

theorem State.regFailed_eq : s.regFailed r = ((s.fedBy r).foldl State.domOff (s.regNoted r)).regNext r := by
  have hbad : ((List.range 38).filter fun d => regFeeds r d && domainPresent (s.regDown r).part d).any (s.regDown r).essential = false :=
    State.fedBy_inessential (s := s) hr
  unfold State.regFailed
  simp only [show (s.regEnable r false).wr P.pwr R.pwr_REG_FAIL (bitPut (s.rd P.pwr R.pwr_REG_FAIL) r true) = s.regDown r from rfl]
  simp only [hbad, Bool.false_eq_true, if_false]
  rfl

theorem regulatorPgoodTimeout_does (hq : s.power.seq = .upRegulator r) : Does (.regulatorPgoodTimeout r) s fun t =>
    (t.rd P.pwr R.pwr_REG_FAIL).testBit r = true ∧ t.power.regEn.contains r = false ∧ t.power.seq = .upRegulator (r + 1) ∧
      ∀ d, d < 38 → regFeeds r d = true → domainPresent s.part d = true → t.domOn d = false := by
  let off := (s.fedBy r).foldl State.domOff (s.regNoted r)
  have h4 : ∀ d ∈ s.fedBy r, 4 ≤ d := fun d hd => by have := State.mem_fedBy hr hd; omega
  have hpower : off.power = { s.power with regEn := s.power.regEn.filter (· ≠ r), partialWake := true } := by
    have hlog := (RegFrame.logDoms ((s.regDown r).err P.pwr 2 r 0) (s.fedBy r) r).power_eq
    rw [State.err_power] at hlog
    refine (State.foldl_keeps State.power State.domOff_power _ _).trans ?_
    simp only [State.regNoted, hlog]
    rfl
  have hexec : exec (.regulatorPgoodTimeout r) s = .next (({ off with power := { off.power with seq := .upRegulator (r + 1) } } : State).regEnable
      (r + 1) true) := by
    have hseq : off.power.seq = .upRegulator r := by rw [hpower]; exact hq
    refine congrArg Host.Outcome.next ((State.whenB_true ?_ _).trans ((State.regFailed_eq hr).trans ?_))
    · rcases hr with rfl | rfl | rfl | rfl <;> simp [State.awaits, hq]
    · simp only [State.regNext, show ((s.fedBy r).foldl State.domOff (s.regNoted r)).power.seq = _ from hseq, if_true]
      rw [State.upNext, if_pos (show r < 7 by omega)]
  refine ⟨_, hexec, ?_, ?_, rfl, fun d hd hf hp => ?_⟩
  · have hfail : off.rd P.pwr R.pwr_REG_FAIL = bitPut (s.rd P.pwr R.pwr_REG_FAIL) r true % 2 ^ 8 := by
      refine (State.rd_foldl_domOff h4 (by decide) _).trans ((State.rd_logDoms _ _ _ (by decide)).trans ?_)
      rw [State.rd_err_own _ _ _ _ _ (by decide)]
      exact State.rd_wr_same ..
    show (off.rd P.pwr R.pwr_REG_FAIL).testBit r = true
    rw [hfail, Nat.testBit_mod_two_pow, testBit_bitPut, if_pos rfl, Bool.and_true]
    exact decide_eq_true (by omega)
  · simp [State.regEnable, hpower]
  · exact State.foldl_domOff_off h4 hd _ (List.mem_filter.2 ⟨List.mem_range.2 hd, by simp [hf, hp]⟩)

end

/-- Settles O21: each clause is the lemma above about its event. -/
theorem powerUp : Obligations.PowerUp := by
  unfold Obligations.PowerUp
  refine fun s => ⟨fun hq => powerOnDetect_does hq, fun r hr hq hen => regulatorPgood_does hr hq hen, fun hq => crystalRunning_does hq,
    fun r hr hq => ?_, fun r hr hq => regulatorPgoodTimeout_does hr hq, fun r hr hp hen hd => ?_⟩
  · refine congrArg Host.Outcome.next (State.whenB_false ?_ _)
    rcases hr with rfl | rfl | rfl <;> simp [hq]
  · refine congrArg Host.Outcome.next ((State.whenB_true (by simp only [hp, decide_eq_true hr, hen, Bool.and_true]) _).trans (if_neg ?_))
    rw [State.dev, State.rd_wr_ne _ _ (by decide)]
    exact fun h => hd h.1

end Sys2Proof.Machine
end

section
/-!
PROOFS. Completions: what a reply and the end of a command leave alone (13_host_network.md R353, R356).
-/

namespace Sys2Proof.Machine

/-- `t` is `s` but for what the NVMe controller and the staging buffers hold, and for what is counted and sent. -/
def EndFrame (s t : State) : Prop := t = { s with nvme := t.nvme, stg := t.stg, ctrs := t.ctrs, outbox := t.outbox }

theorem EndFrame.refl (s : State) : EndFrame s s := rfl

theorem EndFrame.trans {s t u : State} (h : EndFrame s t) (g : EndFrame t u) : EndFrame s u :=
  Eq.trans g (congrArg (fun v : State => { v with nvme := u.nvme, stg := u.stg, ctrs := u.ctrs, outbox := u.outbox }) h)

section
variable {s t : State} (h : EndFrame s t)
include h

theorem EndFrame.count (p o : Nat) : EndFrame s (t.count p o) := by
  refine h.trans ((State.count_frame t p o).trans ?_)
  rw [State.count_nvme, State.count_stg, State.count_outbox]

theorem EndFrame.regs_eq : t.regs = s.regs := by unfold EndFrame at h; rw [h]
theorem EndFrame.part_eq : t.part = s.part := by unfold EndFrame at h; rw [h]
theorem EndFrame.power_eq : t.power = s.power := by unfold EndFrame at h; rw [h]
theorem EndFrame.rd_eq (p : Nat) (f : Fld) : t.rd p f = s.rd p f := State.rd_congr h.regs_eq h.part_eq p f

end

theorem State.postCqe_frame (s : State) (q : Nat) (o : Output) : EndFrame s (s.postCqe q o) := by
  unfold State.postCqe
  split
  · rfl
  · split <;> rfl

theorem State.reply_frame (s : State) (h : Hdr) (st a b : Nat) : EndFrame s (s.reply h st a b) := by
  refine ((EndFrame.refl s).count P.nvm 0x040).trans ?_
  unfold State.reply
  simp only
  split
  · exact State.postCqe_frame _ _ _
  · unfold State.whenB
    split <;> rfl

theorem State.finish_frame (s : State) (key st a b : Nat) : EndFrame s (s.finish key st a b) := by
  have hended : EndFrame s (s.ended key) := by
    have h := s.ended_frame key
    rw [EndFrame]
    exact h.trans (by rw [show (s.ended key).ctrs = s.ctrs by rw [h], show (s.ended key).outbox = s.outbox by rw [h]])
  unfold State.finish
  split
  · rfl
  · split
    · exact hended
    · exact hended.trans (State.reply_frame _ _ _ _ _)

end Sys2Proof.Machine
end

section
/-!
PROOFS. Device faults: the capture of the first, the entry to Ward, the watchdog (R469, R487 to R493).
-/

namespace Sys2Proof.Machine

/-! ### What a step of the entry to Ward keeps -/

/-- `t` comes from `s` by stopping the disk and ending commands: the media, the map, the streams, DEVSTATE and the FLT page stand. -/
structure WardKeeps (s t : State) : Prop where
  frame   : t = { s with selv := t.selv, servo := t.servo, trd := t.trd, nvme := t.nvme, stg := t.stg, seam := t.seam, regs := t.regs,
                         ctrs := t.ctrs, outbox := t.outbox }
  disk    : t.selv.disk = s.selv.disk
  map     : t.seam.map = s.seam.map
  streams : t.seam.streams = s.seam.streams
  flt     : ∀ {f : Fld}, f.off < 4096 ∧ f.lo < 32 → t.rd P.flt f = s.rd P.flt f
  dev     : t.dev = s.dev

theorem WardKeeps.refl (s : State) : WardKeeps s s := ⟨rfl, rfl, rfl, rfl, fun _ => rfl, rfl⟩

theorem WardKeeps.trans {s t u : State} (h : WardKeeps s t) (g : WardKeeps t u) : WardKeeps s u :=
  ⟨Eq.trans g.frame (congrArg (fun v : State => { v with selv := u.selv, servo := u.servo, trd := u.trd, nvme := u.nvme, stg := u.stg
                                                         seam := u.seam, regs := u.regs, ctrs := u.ctrs, outbox := u.outbox }) h.frame),
    g.disk.trans h.disk, g.map.trans h.map, g.streams.trans h.streams, fun hf => (g.flt hf).trans (h.flt hf), g.dev.trans h.dev⟩

section
variable {s t : State} (h : WardKeeps s t)
include h

theorem WardKeeps.wr {p : Nat} {g : Fld} (v : Nat) (hp : p ≠ P.flt) (hg : g.off < 4096 ∧ g.lo < 32)
    (hd : fkey p g 0 ≠ fkey P.glb R.glb_DEVSTATE 0) : WardKeeps s (t.wr p g v) :=
  h.trans ⟨rfl, rfl, rfl, rfl, fun hf => State.rd_wr_ne _ _ (fkey_ne_of_page hp ⟨hg.1, hf.1, hg.2, hf.2⟩), State.rd_wr_ne _ _ hd⟩

theorem WardKeeps.count (p o : Nat) : WardKeeps s (t.count p o) :=
  h.trans ⟨State.count_frame t p o |>.trans (by rw [State.count_selv, State.count_servo, State.count_trd, State.count_nvme, State.count_stg,
      State.count_seam, State.count_regs, State.count_outbox]),
    by rw [State.count_selv], by rw [State.count_seam], by rw [State.count_seam], fun _ => State.rd_count .., State.dev_count ..⟩

theorem WardKeeps.trlSend (c a : Nat) : WardKeeps s (t.trlSend c a) := by
  have hf := State.trlSend_frame t c a
  refine h.trans ⟨?_, ?_, ?_, ?_, fun _ => hf.rd_eq .., hf.rd_eq ..⟩
  · exact Eq.trans hf (by rw [show t.trlSend c a = _ from hf])
  all_goals rw [show t.trlSend c a = _ from hf]

theorem WardKeeps.svoEmergency : WardKeeps s t.svoEmergency := by
  have hidle : WardKeeps t { t with servo := { t.servo with seekDone := false, good := 0 } } := ⟨rfl, rfl, rfl, rfl, fun _ => rfl, rfl⟩
  have hpark : WardKeeps t t.svoPark :=
    (((hidle.wr 0 (p := P.svo) (g := R.svo_STATE) (by decide) (by decide) (by decide)).wr 0 (p := P.svo) (g := R.svo_ON_TRACK) (by decide)
      (by decide) (by decide)).wr 1 (p := P.svo) (g := R.svo_WR_INHIBIT) (by decide) (by decide) (by decide)).trlSend _ _
  have hslow : WardKeeps t (t.svoPark.wr P.svo R.svo_SPN_AT_SPEED 0) := hpark.wr 0 (by decide) (by decide) (by decide)
  have hspin (u : State) (m : Nat) : WardKeeps u { u with servo := { u.servo with spinMode := m } } := ⟨rfl, rfl, rfl, rfl, fun _ => rfl, rfl⟩
  exact h.trans ((hslow.trans (hspin _ 0)).trlSend _ _)

end

/-- The disk's queue, its aborts and its seek dropped. -/
def State.diskIdled (s : State) : State :=
  let u := { s with selv := { s.selv with hemQ := [], aborts := [], draining := false }, servo := { s.servo with seek := none } }
  (u.wr P.svo R.svo_SEEK_BUSY 0).wr P.slv R.slv_RING_HEAD (s.rd P.slv R.slv_RING_TAIL)

/-- The request in progress on the disk taken as `r`. -/
def State.withRun (s : State) (r : Option SlvRun) : State := { s with selv := { s.selv with run := r } }

theorem State.stopDisk_eq (s : State) : s.stopDisk = match s.selv.run with
    | some r => if s.diskIdled.on P.slv R.slv_WG_STATE then s.diskIdled.withRun (some { r with aborted := true })
        else ((s.diskIdled.withRun none).wr P.slv R.slv_RG_STATE 0).svoEmergency
    | none => if s.diskIdled.pageUp P.svo && s.diskIdled.en P.svo then s.diskIdled.svoEmergency else s.diskIdled := rfl

theorem WardKeeps.stopDisk (s : State) : WardKeeps s s.stopDisk := by
  have hfree : WardKeeps s { s with selv := { s.selv with hemQ := [], aborts := [], draining := false },
                                    servo := { s.servo with seek := none } } := ⟨rfl, rfl, rfl, rfl, fun _ => rfl, rfl⟩
  have hidle : WardKeeps s s.diskIdled := (hfree.wr (p := P.svo) (g := R.svo_SEEK_BUSY) 0 (by decide) (by decide) (by decide)).wr (p := P.slv)
    (g := R.slv_RING_HEAD) _ (by decide) (by decide) (by decide)
  have hrun (r : Option SlvRun) : WardKeeps s (s.diskIdled.withRun r) := hidle.trans ⟨rfl, rfl, rfl, rfl, fun _ => rfl, rfl⟩
  rw [State.stopDisk_eq]
  cases s.selv.run with
  | none =>
    simp only
    split
    · exact hidle.svoEmergency
    · exact hidle
  | some r =>
    simp only
    split
    · exact hrun _
    · exact ((hrun none).wr 0 (by decide) (by decide) (by decide)).svoEmergency

/-- An outstanding command ended as Ward ends it: in silence where the link is down. -/
def State.endOne (st : Nat) (s : State) (e : Nat × Cmd) : State :=
  let u := ((s.count P.nvm 0x050).count P.flt 0x048).orphan e.1
  if u.nvme.linkUp then u.finish e.1 st 0 0
  else { u with nvme := { u.nvme with cmds := Tbl.del u.nvme.cmds e.1, aers := u.nvme.aers.filter (· ≠ e.1) } }

theorem EndFrame.keeps {s t : State} (h : EndFrame s t) : WardKeeps s t := by
  rw [show t = _ from h]
  exact ⟨rfl, rfl, rfl, rfl, fun _ => rfl, rfl⟩

theorem WardKeeps.endOne (st : Nat) (s : State) (e : Nat × Cmd) : WardKeeps s (s.endOne st e) := by
  have horphan (u : State) (k : Nat) : WardKeeps u (u.orphan k) := ⟨rfl, rfl, rfl, rfl, fun _ => rfl, rfl⟩
  have hcounted := (((WardKeeps.refl s).count P.nvm 0x050).count P.flt 0x048).trans (horphan _ e.1)
  unfold State.endOne
  simp only
  split
  · exact hcounted.trans (State.finish_frame ..).keeps
  · exact hcounted.trans (EndFrame.keeps rfl)

theorem WardKeeps.foldl_endOne (st : Nat) (l : List (Nat × Cmd)) : ∀ s : State, WardKeeps s (l.foldl (State.endOne st) s) := by
  induction l with
  | nil => exact fun s => .refl s
  | cons e l ih => exact fun s => (WardKeeps.endOne st s e).trans (ih _)

theorem WardKeeps.endCommands (s : State) (st : Nat) : WardKeeps s (s.endCommands st) := WardKeeps.foldl_endOne st s.nvme.cmds s

/-! ### The entry to Ward -/

/-- The connections reset and the cores stopped. -/
def State.wardHalted (s : State) (code : Nat) : State := ((s.setDev Dev.ward).raise P.flt 0).resetConns.stopCores code

/-- Thimble's requests abandoned and the work discarded. -/
def State.wardCleared (s : State) (code : Nat) : State := (s.wardHalted code).abandonSerial.discardWork

/-- The state of Ward but for the NVMe status and STATE_BUSY. -/
def State.wardStopped (s : State) (code : Nat) : State := (s.wardCleared code).stopDisk.endCommands St.internal

/-- The NVMe status of Ward, with the power sequences at rest. -/
def State.wardStatus (s : State) : State :=
  ({ s with nvme := { s.nvme with cfs := true, csts := false }, power := { s.power with seq := .run } } : State).wr P.pwr R.pwr_STATE_BUSY 0

theorem State.rd_wardStatus (s : State) {p : Nat} {f : Fld} (h : fkey P.pwr R.pwr_STATE_BUSY 0 ≠ fkey p f 0) : s.wardStatus.rd p f = s.rd p f :=
  State.rd_wr_ne _ _ h

theorem State.enterWard_eq (s : State) (code : Nat) : s.enterWard code = (s.wardStopped code).wardStatus := by
  unfold State.enterWard State.wardStopped State.wardCleared State.wardHalted State.wardStatus
  with_reducible rfl

theorem State.wardStopped_keeps (s : State) (code : Nat) : WardKeeps (s.wardCleared code) (s.wardStopped code) :=
  (WardKeeps.stopDisk _).trans (WardKeeps.endCommands _ _)

/-- The requests to Thimble abandoned. -/
theorem State.abandonSerial_frame (s : State) :
    s.abandonSerial = { s with serial := s.abandonSerial.serial, regs := s.abandonSerial.regs, ctrs := s.abandonSerial.ctrs,
                               outbox := s.abandonSerial.outbox } ∧
      (∀ {f : Fld}, f.off < 4096 ∧ f.lo < 32 → s.abandonSerial.rd P.flt f = s.rd P.flt f) ∧ s.abandonSerial.dev = s.dev := by
  let u := s.whenB (s.on P.mode R.mode_REQ_BUSY) fun s =>
    ((((s.wr P.mode R.mode_REQ_BUSY 0).wr P.mode R.mode_REQ_RESULT 0x04)).raise P.mode 1).count P.mode 0x048
  have hne {p : Nat} {f g : Fld} (hp : p ≠ P.flt) (hg : g.off < 4096 ∧ g.lo < 32) (hf : f.off < 4096 ∧ f.lo < 32) : fkey p g 0 ≠ fkey P.flt f 0 :=
    fkey_ne_of_page hp ⟨hg.1, hf.1, hg.2, hf.2⟩
  have hu : RegFrame s u ∧ (∀ {f : Fld}, f.off < 4096 ∧ f.lo < 32 → u.rd P.flt f = s.rd P.flt f) ∧ u.dev = s.dev := by
    cases hb : s.on P.mode R.mode_REQ_BUSY
    · rw [show u = s from State.whenB_false hb _]
      exact ⟨rfl, fun _ => rfl, rfl⟩
    · rw [show u = _ from State.whenB_true hb _]
      refine ⟨((((RegFrame.refl s).wr _ _ _).wr _ _ _).raise _ _).count _ _, fun hf => ?_, ?_⟩
      · rw [State.rd_count, State.rd_raise_ne _ _ (hne (by decide) (by decide) hf), State.rd_wr_ne _ _ (hne (by decide) (by decide) hf),
          State.rd_wr_ne _ _ (hne (by decide) (by decide) hf)]
      · rw [State.dev_count, State.dev_raise, State.dev_wr _ _ _ (by decide), State.dev_wr _ _ _ (by decide)]
  obtain ⟨hframe, hflt, hdev⟩ := hu
  have hlast : s.abandonSerial = { (u.wr P.thm R.thm_MB_BUSY 0).wr P.pan R.pan_PAN_BUSY 0 with
    serial := { u.serial with queue := [], mode := none, pan := none } } := rfl
  refine ⟨?_, fun hf => ?_, ?_⟩
  · exact hlast.trans (congrArg (fun v : State => { v with serial := s.abandonSerial.serial, regs := s.abandonSerial.regs
                                                           ctrs := s.abandonSerial.ctrs, outbox := s.abandonSerial.outbox }) hframe)
  · exact (State.rd_wr_ne _ _ (hne (by decide) (by decide) hf)).trans ((State.rd_wr_ne _ _ (hne (by decide) (by decide) hf)).trans (hflt hf))
  · exact (State.rd_wr_ne _ _ (by decide)).trans ((State.rd_wr_ne _ _ (by decide)).trans hdev)

/-- What Ward discards is gone in `t`, and what it must not touch is as in `s`. -/
structure Discarded (s t : State) : Prop where
  conns    : t.net.conns = []
  items    : t.spool.items = []
  streams  : t.seam.streams = []
  lanes    : t.pleat.lanes = []
  gauge    : t.gauge = gaugeEmpty
  ops      : ∀ o ∈ t.nand.ops, o.started = true
  cores    : ∀ e ∈ t.cores, e.1 < 40 → e.2.st = .stopped
  mem      : t.mem = s.mem
  nor      : t.nor = s.nor
  slots    : t.nand.slots = s.nand.slots
  disk     : t.selv.disk = s.selv.disk
  map      : t.seam.map = s.seam.map
  keySlots : t.trust.keySlots = s.trust.keySlots
  pending  : t.pending = s.pending

theorem Discarded.keeps {s t u : State} (h : Discarded s t) (g : WardKeeps t u) : Discarded s u := by
  obtain ⟨hframe, hdisk, hmap, hstreams, -, -⟩ := g
  have hd : u.selv.disk = s.selv.disk := hdisk.trans h.disk
  have hm : u.seam.map = s.seam.map := hmap.trans h.map
  have hs : u.seam.streams = [] := hstreams.trans h.streams
  rw [hframe]
  exact ⟨h.conns, h.items, hs, h.lanes, h.gauge, h.ops, h.cores, h.mem, h.nor, h.slots, hd, hm, h.keySlots, h.pending⟩

theorem Discarded.status {s t : State} (h : Discarded s t) : Discarded s t.wardStatus :=
  ⟨h.conns, h.items, h.streams, h.lanes, h.gauge, h.ops, h.cores, h.mem, h.nor, h.slots, h.disk, h.map, h.keySlots, h.pending⟩

theorem Discarded.of_regFrame {s t u : State} (h : RegFrame s t) (g : Discarded t u) : Discarded s u := by
  obtain ⟨hconns, hitems, hstreams, hlanes, hgauge, hops, hcores, hmem, hnor, hslots, hdisk, hmap, hkeys, hpending⟩ := g
  rw [show t = _ from h] at hmem hnor hslots hdisk hmap hkeys hpending
  exact ⟨hconns, hitems, hstreams, hlanes, hgauge, hops, hcores, hmem, hnor, hslots, hdisk, hmap, hkeys, hpending⟩

theorem Discarded.discardWork {s t : State} (hconns : t.net.conns = []) (hcores : ∀ e ∈ t.cores, e.1 < 40 → e.2.st = .stopped)
    (hframe : t = { s with net := t.net, nvme := t.nvme, cores := t.cores, serial := t.serial, regs := t.regs, ctrs := t.ctrs
                           outbox := t.outbox }) : Discarded s t.discardWork := by
  have hops : ∀ o ∈ t.discardWork.nand.ops, o.started = true := fun o ho => (List.mem_filter.1 ho).2
  refine ⟨by simpa [State.discardWork] using hconns, rfl, rfl, rfl, rfl, hops, by simpa [State.discardWork] using hcores, ?_, ?_, ?_, ?_, ?_, ?_,
    ?_⟩
  all_goals
    simp only [State.discardWork, State.countN_mem, State.countN_nor, State.countN_nand, State.countN_selv, State.countN_seam,
      State.countN_trust, State.countN_pending]
    rw [hframe]

section
variable (s : State) (code : Nat)

theorem State.wardHalted_frame : s.wardHalted code = { s with
    net := (s.wardHalted code).net, nvme := (s.wardHalted code).nvme, cores := (s.wardHalted code).cores, regs := (s.wardHalted code).regs
    ctrs := (s.wardHalted code).ctrs, outbox := (s.wardHalted code).outbox } := by
  have hraise : RegFrame s ((s.setDev Dev.ward).raise P.flt 0) := ((RegFrame.refl s).wr _ _ _).raise _ _
  have hhalt : s.wardHalted code = { (s.setDev Dev.ward).raise P.flt 0 with
      net := (s.wardHalted code).net, nvme := (s.wardHalted code).nvme, cores := (s.wardHalted code).cores
      regs := (s.wardHalted code).regs, ctrs := (s.wardHalted code).ctrs, outbox := (s.wardHalted code).outbox } := by
    rw [State.wardHalted, State.resetConns_eq]
    rfl
  exact hhalt.trans (congrArg (fun v : State => { v with net := (s.wardHalted code).net, nvme := (s.wardHalted code).nvme
                                                         cores := (s.wardHalted code).cores, regs := (s.wardHalted code).regs
                                                         ctrs := (s.wardHalted code).ctrs, outbox := (s.wardHalted code).outbox }) hraise)

theorem BlockFrame.stopCores {s t : State} (h : BlockFrame s t) (code : Nat) : BlockFrame s (t.stopCores code) :=
  congrArg (fun v : State => v.stopCores code) h

theorem State.wardHalted_rd (p : Nat) (f : Fld) : (s.wardHalted code).rd p f = ((s.setDev Dev.ward).raise P.flt 0).rd p f := by
  have hframe := (BlockFrame.resetConns ((s.setDev Dev.ward).raise P.flt 0)).stopCores code
  exact State.rd_congr hframe.regs_eq hframe.part_eq p f

theorem State.wardHalted_cores : ∀ e ∈ (s.wardHalted code).cores, e.1 < 40 → e.2.st = .stopped := fun e he hlt => by
  obtain ⟨e', -, rfl⟩ := List.mem_map.1 he
  revert hlt
  split
  · exact fun _ => rfl
  next h => exact fun hlt => absurd (.inl hlt) h

theorem State.wardCleared_discards : Discarded s (s.wardCleared code) := by
  obtain ⟨habandon, -, -⟩ := (s.wardHalted code).abandonSerial_frame
  have hframe := habandon.trans (congrArg (fun v : State => { v with
    serial := (s.wardHalted code).abandonSerial.serial, regs := (s.wardHalted code).abandonSerial.regs
    ctrs := (s.wardHalted code).abandonSerial.ctrs, outbox := (s.wardHalted code).abandonSerial.outbox }) (s.wardHalted_frame code))
  have hnet : (s.wardHalted code).net.conns = [] := by
    rw [State.wardHalted, State.resetConns_eq]
    rfl
  refine Discarded.discardWork (t := (s.wardHalted code).abandonSerial) ?_ ?_ ?_
  · exact (congrArg (fun v : State => v.net.conns) habandon).trans hnet
  · rw [show (s.wardHalted code).abandonSerial.cores = _ from congrArg State.cores habandon]
    exact s.wardHalted_cores code
  · rw [show (s.wardHalted code).abandonSerial.net = _ from congrArg State.net habandon,
      show (s.wardHalted code).abandonSerial.nvme = _ from congrArg State.nvme habandon,
      show (s.wardHalted code).abandonSerial.cores = _ from congrArg State.cores habandon]
    exact hframe

theorem State.enterWard_discards : Discarded s (s.enterWard code) := by
  rw [State.enterWard_eq]
  exact ((s.wardCleared_discards code).keeps (s.wardStopped_keeps code)).status

theorem State.rd_discardWork (p : Nat) (f : Fld) : s.discardWork.rd p f = s.rd p f :=
  State.rdI_congr (by simp [State.discardWork]) (by simp [State.discardWork]) p f 0

/-- The entry to Ward changes INT_RAW alone on the FLT page. -/
theorem State.rd_enterWard {f : Fld} (hf : f.off < 4096 ∧ f.lo < 32) (hr : fkey P.flt R.common_INT_RAW 0 ≠ fkey P.flt f 0) :
    (s.enterWard code).rd P.flt f = s.rd P.flt f := by
  have hpage {p : Nat} {g : Fld} (hp : p ≠ P.flt) (hg : g.off < 4096 ∧ g.lo < 32) : fkey p g 0 ≠ fkey P.flt f 0 :=
    fkey_ne_of_page hp ⟨hg.1, hf.1, hg.2, hf.2⟩
  obtain ⟨-, hflt, -⟩ := (s.wardHalted code).abandonSerial_frame
  calc (s.enterWard code).rd P.flt f
      = (s.wardStopped code).rd P.flt f := by
        rw [State.enterWard_eq, State.rd_wardStatus _ (hpage (by decide) (by decide))]
    _ = (s.wardCleared code).rd P.flt f := (s.wardStopped_keeps code).flt hf
    _ = (s.wardHalted code).abandonSerial.rd P.flt f := by
        rw [State.wardCleared, State.rd_discardWork]
    _ = ((s.setDev Dev.ward).raise P.flt 0).rd P.flt f := (hflt hf).trans (s.wardHalted_rd code _ _)
    _ = s.rd P.flt f := (State.rd_raise_ne _ _ hr).trans (State.rd_wr_ne _ _ (hpage (by decide) (by decide)))

theorem State.dev_enterWard : (s.enterWard code).dev = Dev.ward := by
  obtain ⟨-, -, hdev⟩ := (s.wardHalted code).abandonSerial_frame
  calc (s.enterWard code).dev
      = (s.wardStopped code).dev := by
        rw [State.enterWard_eq, State.dev, State.rd_wardStatus _ (by decide), State.dev]
    _ = (s.wardCleared code).dev := (s.wardStopped_keeps code).dev
    _ = (s.wardHalted code).abandonSerial.dev := by
        rw [State.wardCleared, State.dev, State.rd_discardWork]
        rfl
    _ = ((s.setDev Dev.ward).raise P.flt 0).dev := hdev.trans (s.wardHalted_rd code _ _)
    _ = Dev.ward := (State.dev_raise ..).trans (State.rd_wr_same ..)

end

/-! ### The first fault -/

section
variable {s : State} (code p i a : Nat)

theorem RegFrame.captureFault : RegFrame s (s.captureFault code p i a) :=
  (((((((((RegFrame.refl s).wr _ _ _).wr _ _ _).wr _ _ _).wr _ _ _).wr _ _ _).wr _ _ _).wr _ _ _).wr _ _ _ |>.wr _ _ _).count _ _

/-- The fields of the capture (R488, R496). -/
theorem State.rd_captureFault : let t := s.captureFault code p i a
    t.rd P.flt R.common_ERR_CODE = code % 2 ^ 8 ∧ t.rd P.flt R.common_ERR_INFO = i % 2 ^ 32 ∧ t.rd P.flt R.flt_FAULT_PAGE = p % 2 ^ 8 ∧
      t.rd P.flt R.flt_FAULT_STATE = s.dev % 2 ^ 4 ∧ t.rd P.flt R.flt_FAULT_VALID = 1 ∧
      t.rd P.flt R.common_ERR_ADDR_LO = a % 2 ^ 32 % 2 ^ 32 := by
  have hdev (u : State) (hu : u = ((((s.wr P.flt R.common_ERR_CODE code).wr P.flt R.common_ERR_INFO i).wr P.flt R.common_ERR_ADDR_LO
      (a % 2 ^ 32)).wr P.flt R.common_ERR_ADDR_HI (a / 2 ^ 32)).wr P.flt R.flt_FAULT_PAGE p) : u.dev = s.dev := by
    subst hu
    simp (disch := decide) only [State.dev_wr]
  refine ⟨?_, ?_, ?_, ?_, ?_, ?_⟩
  all_goals simp (disch := decide) only [State.captureFault, State.rd_count, State.rd_wr_ne]
  all_goals refine (State.rd_wr_same ..).trans ?_
  case refine_4 => exact congrArg (· % 2 ^ 4) (hdev _ rfl)
  all_goals rfl

theorem State.fault'_first (hv : s.rd P.flt R.flt_FAULT_VALID = 0) (hd : s.dev = Dev.ready) :
    s.fault' code p i a = (s.captureFault code p i a).enterWard code := by
  rw [State.fault', if_neg (by simp [State.on_eq_false hv])]
  simp [hd, Dev.ready, Dev.fill, Dev.slumber, Dev.vault]

end

/-! ### The watchdog, and Ward quiesced -/

theorem wdogHalfPeriod_does {s : State} (h : s.wdogRuns = true) : Does .wdogHalfPeriod s fun t =>
    (t.rd P.flt R.common_INT_RAW).testBit 2 = true ∧ t = { s with regs := t.regs, ctrs := t.ctrs, outbox := t.outbox } ∧
      SameRegs s t [fkey P.flt R.common_INT_RAW 0] := by
  refine ⟨_, congrArg Host.Outcome.next (State.whenB_true h _), ?_, ((RegFrame.refl s).raise _ _).count _ _,
    ((SameRegs.refl s _).raise (by simp) _).count _ _⟩
  rw [State.rd_count]
  exact State.testBit_raise _ _ (by decide)

theorem wardQuiesced_does {s : State} (hd : s.dev = Dev.ward) (hq : s.rd P.flt R.flt_QUIESCED = 0)
    (hops : ∀ o ∈ s.nand.ops, o.started = false) (hw : s.rd P.slv R.slv_WG_STATE = 0) : Does .wardQuiesced s fun t =>
      t.rd P.flt R.flt_QUIESCED = 1 ∧ t.fault.quiescedAt = s.rtcUs ∧ (t.rd P.flt R.common_INT_RAW).testBit 1 = true ∧
        t = { s with fault := t.fault, regs := t.regs, outbox := t.outbox } := by
  let u := { s with fault := { s.fault with quiescedAt := s.rtcUs } }
  have hnone : s.nand.ops.any (fun o => o.started) = false := List.any_eq_false.2 fun o ho => by simp [hops o ho]
  have hexec : exec .wardQuiesced s = .next ((u.flag P.flt R.flt_QUIESCED).raise P.flt 1) :=
    congrArg Host.Outcome.next (State.whenB_true (by simp [hd, State.on_eq_false hq, hnone, State.on_eq_false hw]) _)
  have hframe : RegFrame u ((u.flag P.flt R.flt_QUIESCED).raise P.flt 1) := ((RegFrame.refl u).wr _ _ _).raise _ _
  refine ⟨_, hexec, ?_, ?_, State.testBit_raise _ _ (by decide), ?_⟩
  · rw [State.rd_raise_own _ _ _ (by decide)]
    exact State.rd_wr_same ..
  · rw [State.raise_fault]
    rfl
  · rw [hframe.uncounted (State.raise_ctrs ..)]

/-- Settles O34: the events raise their fault, and the first fault is the capture followed by the entry to Ward. -/
theorem deviceFaults : Obligations.DeviceFaults := by
  unfold Obligations.DeviceFaults
  refine fun s => ⟨fun code p i a hp h1 he => ?_, fun h => congrArg Host.Outcome.next (State.whenB_true h _), fun h1 h2 => ?_, rfl,
    fun h => wdogHalfPeriod_does h, fun ag hr => congrArg Host.Outcome.next (State.gated_reaches hr _ _ _),
    fun hd hq hops hw => wardQuiesced_does hd hq hops hw, fun hd hq hw => ?_, fun code p i a hv => if_pos (State.on_eq_true hv),
    fun code p i a hv hd hcode hp hi => ?_, fun code p i a hv hd => ?_⟩
  · exact congrArg Host.Outcome.next (State.whenB_true (by simp [hp, h1, he]) _)
  · exact congrArg Host.Outcome.next (State.whenB_true (by simp [h1, h2]) _)
  · refine congrArg Host.Outcome.next ((State.whenB_true ?_ _).trans (congrArg (fun u : State => u.resetFor 3) (State.whenB_false (by simp [hd]) _)))
    simp [hd, State.on_eq_true (show s.rd P.flt R.flt_QUIESCED ≠ 0 by omega), hw]
  · obtain ⟨hrc, hri, hrp, hrs, hrv, hra⟩ := State.rd_captureFault (s := s) code p i a
    have hgone := (s.captureFault code p i a).enterWard_discards code
    rw [State.fault'_first code p i a hv hd]
    refine ⟨State.dev_enterWard _ _, ?_, ?_, ?_, ?_, ?_, ?_, ?_, ?_, hgone.conns, hgone.items, hgone.streams, hgone.lanes, hgone.gauge,
      hgone.ops, hgone.cores⟩
    · exact (State.rd_enterWard _ _ (by decide) (by decide)).trans (hrc.trans (Nat.mod_eq_of_lt hcode))
    · exact (State.rd_enterWard _ _ (by decide) (by decide)).trans (hri.trans (Nat.mod_eq_of_lt hi))
    · exact (State.rd_enterWard _ _ (by decide) (by decide)).trans (hrp.trans (Nat.mod_eq_of_lt hp))
    · rw [State.rd_enterWard _ _ (by decide) (by decide), hrs, hd]
      rfl
    · rw [State.rd_enterWard _ _ (by decide) (by decide), hrv]
    · exact (State.rd_enterWard _ _ (by decide) (by decide)).trans (hra.trans (Nat.mod_mod _ _))
    · rw [State.enterWard_eq]
      rfl
    · rw [State.enterWard_eq]
      rfl
  · obtain ⟨-, -, -, -, -, -, -, hmem, hnor, hslots, hdisk, hmap, hkeys, hpending⟩ :=
      Discarded.of_regFrame (RegFrame.captureFault (s := s) code p i a) ((s.captureFault code p i a).enterWard_discards code)
    rw [State.fault'_first code p i a hv hd]
    exact ⟨hmem, hnor, hslots, hdisk, hmap, hkeys, hpending⟩

end Sys2Proof.Machine
end

section
/-!
PROOFS. Fill and Boot (R410, R411, R421, R424, R425, R475).
-/

namespace Sys2Proof.Machine

/-! ### Memory lost -/

theorem State.memAt_zeroMem (s : State) (lo hi a : Nat) :
    memAt (s.zeroMem lo hi).mem a = if a < lo ∨ hi ≤ a then memAt s.mem a else 0 := by
  have hat : Tbl.at? (s.zeroMem lo hi).mem a = if decide (a < lo ∨ hi ≤ a) = true then Tbl.at? s.mem a else none :=
    Tbl.at?_filter_key s.mem (fun a => decide (a < lo ∨ hi ≤ a)) a
  rw [memAt, hat]
  by_cases h : a < lo ∨ hi ≤ a <;> simp [h, memAt]

theorem Tbl.length_put_new {β : Type} {k : Nat} (v : β) (t : Tbl β) (h : Tbl.at? t k = none) : List.length (Tbl.put t k v) = List.length t + 1 := by
  induction t with
  | nil => rfl
  | cons e r ih =>
    obtain ⟨a, w⟩ := e
    have hka : k ≠ a := fun hk => by simp [Tbl.at?, hk] at h
    have hr : Tbl.at? r k = none := by simpa [Tbl.at?, Ne.symm hka] using h
    unfold Tbl.put
    split
    · simp
    · rw [List.length_cons, ih hr, List.length_cons]

/-! ### The interleave set -/

/-- How many channels the interleave set takes. -/
def setSize (n : Nat) : Nat := if 4 ≤ n then 4 else if 2 ≤ n then 2 else n

theorem setSize_pos {n : Nat} (h : 0 < n) : setSize n = (if 4 ≤ n then 4 else if 2 ≤ n then 2 else 1) ∧ 0 < setSize n ∧ setSize n ≤ n ∧
    setSize n < 8 := by
  unfold setSize
  split
  · omega
  · split <;> omega

/-- The interleave set and the value left open, with no channel trained, for NCH. -/
def State.NoSet (s : State) : State := ((s.wr P.drm R.drm_SET (maskOf [])).drawFree 3).2.wr P.drm R.drm_NCH
  ((s.wr P.drm R.drm_SET (maskOf [])).drawFree 3).1

theorem State.setInterleave_none {s : State} (h : s.trainedList = []) : s.setInterleave = s.NoSet := by
  simp only [State.setInterleave, h]
  rfl

theorem State.setInterleave_some {s : State} (h : s.trainedList ≠ []) : s.setInterleave =
    (s.wr P.drm R.drm_SET (maskOf (s.trainedList.take (setSize s.trainedList.length)))).wr P.drm R.drm_NCH (setSize s.trainedList.length) := by
  obtain ⟨-, hpos, hle, -⟩ := setSize_pos (List.length_pos_iff.2 h)
  have hlen : (s.trainedList.take (setSize s.trainedList.length)).length = setSize s.trainedList.length := by
    rw [List.length_take]
    omega
  have hne : (s.trainedList.take (setSize s.trainedList.length)).isEmpty = false := by
    rw [List.isEmpty_eq_false_iff, ← List.length_pos_iff, hlen]
    exact hpos
  show (if (s.trainedList.take (setSize s.trainedList.length)).isEmpty then _ else (State.wr _ P.drm R.drm_NCH
    (s.trainedList.take (setSize s.trainedList.length)).length)) = _
  rw [hne, hlen]
  rfl

/-- `t` is `s` but for DRAM's control, the registers and the values left open. -/
def FillFrame (s t : State) : Prop := t = { s with dram := t.dram, regs := t.regs, free := t.free }

theorem FillFrame.trans {s t u : State} (h : FillFrame s t) (g : FillFrame t u) : FillFrame s u :=
  Eq.trans g (congrArg (fun v : State => { v with dram := u.dram, regs := u.regs, free := u.free }) h)

theorem FillFrame.part_eq {s t : State} (h : FillFrame s t) : t.part = s.part := by unfold FillFrame at h; rw [h]

theorem State.setInterleave_dram (s : State) : s.setInterleave.dram = s.dram := by
  by_cases h : s.trainedList = []
  · rw [State.setInterleave_none h]
    rfl
  · rw [State.setInterleave_some h]
    rfl

theorem State.setInterleave_frame (s : State) : FillFrame s s.setInterleave := by
  by_cases h : s.trainedList = []
  · rw [State.setInterleave_none h]
    rfl
  · rw [State.setInterleave_some h]
    rfl

theorem State.setInterleave_trained (s : State) : s.setInterleave.trainedList = s.trainedList := by
  have hpart : s.setInterleave.part = s.part := s.setInterleave_frame.part_eq
  simp only [State.trainedList, s.setInterleave_dram, hpart]

theorem State.setInterleave_does {s : State} (h : s.trainedList ≠ []) :
    s.setInterleave.rd P.drm R.drm_NCH = setSize s.trainedList.length ∧
      ∀ c, c < 4 → ((s.setInterleave.rd P.drm R.drm_SET).testBit c = true ↔ c ∈ s.trainedList.take (setSize s.trainedList.length)) := by
  obtain ⟨-, -, -, hlt⟩ := setSize_pos (List.length_pos_iff.2 h)
  rw [State.setInterleave_some h]
  refine ⟨(State.rd_wr_same ..).trans (Nat.mod_eq_of_lt hlt), fun c hc => ?_⟩
  rw [State.rd_wr_ne _ _ (by decide), State.rd_wr_same, Nat.testBit_mod_two_pow, testBit_maskOf, decide_eq_true (show c < R.drm_SET.w from hc)]
  simp

/-- What the training of a channel reports of its chips. -/
def State.chipsNoted (s : State) (ch : Nat) (ok : Bool) : State :=
  ({ s with dram := { s.dram with trained := Tbl.put s.dram.trained ch ok } } : State).whenB ok fun u =>
    (((u.wr (P.drc ch) R.drc_RANKS_M1 (s.board.ranks - 1)).wr (P.drc ch) R.drc_DENSITY (if s.board.density32 then 1 else 0)).wr (P.drc ch)
      R.drc_RFM_REQ (if s.board.rfmReq then 1 else 0)).wr (P.drc ch) R.drc_RAAIMT s.board.raaimt

theorem State.chipsNoted_frame (s : State) (ch : Nat) (ok : Bool) : FillFrame s (s.chipsNoted ch ok) := by
  cases ok <;> rfl

theorem State.chipsNoted_dram (s : State) (ch : Nat) (ok : Bool) :
    (s.chipsNoted ch ok).dram = { s.dram with trained := Tbl.put s.dram.trained ch ok } := by
  cases ok <;> rfl

theorem dramTrainingDone_last {s : State} {ch : Nat} (ok : Bool) (hf : s.dram.fill = 2) (hc : ch < nDram s.part)
    (hn : Tbl.at? s.dram.trained ch = none) (hlen : s.dram.trained.length + 1 = nDram s.part) :
    Does (.dramTrainingDone ch ok) s fun t => let l := t.trainedList
      t.dram.fill = 3 ∧ Tbl.at? t.dram.trained ch = some ok ∧
        (l ≠ [] → t.rd P.drm R.drm_NCH = (if 4 ≤ l.length then 4 else if 2 ≤ l.length then 2 else 1) ∧
          ∀ c, c < 4 → ((t.rd P.drm R.drm_SET).testBit c = true ↔ c ∈ l.take (if 4 ≤ l.length then 4 else if 2 ≤ l.length then 2 else 1))) ∧
        t = { s with dram := t.dram, regs := t.regs, free := t.free } := by
  let u := { s.chipsNoted ch ok with dram := { (s.chipsNoted ch ok).dram with fill := 3 } }
  have hpart : (s.chipsNoted ch ok).part = s.part := (s.chipsNoted_frame ch ok).part_eq
  have hall : (s.chipsNoted ch ok).dram.trained.length = nDram (s.chipsNoted ch ok).part := by
    rw [s.chipsNoted_dram, hpart]
    exact (Tbl.length_put_new ok _ hn).trans hlen
  have hexec : exec (.dramTrainingDone ch ok) s = .next u.setInterleave :=
    congrArg Host.Outcome.next ((State.whenB_true (by simp [hf, hc, Tbl.has, hn]) _).trans (if_pos hall))
  have hdram : u.setInterleave.dram = { s.dram with trained := Tbl.put s.dram.trained ch ok, fill := 3 } :=
    u.setInterleave_dram.trans (congrArg (fun d : Dram => { d with fill := 3 }) (s.chipsNoted_dram ch ok))
  refine ⟨_, hexec, by rw [hdram], by rw [hdram]; exact (Tbl.at?_put _ _ _ _).trans (if_pos rfl), fun hl => ?_,
    ((s.chipsNoted_frame ch ok).trans (show FillFrame _ u from rfl)).trans u.setInterleave_frame⟩
  rw [State.setInterleave_trained] at hl ⊢
  rw [← (setSize_pos (List.length_pos_iff.2 hl)).1]
  exact State.setInterleave_does hl

/-! ### The line fill -/

theorem State.rd_recordFill (s : State) (ms : Nat) : (s.recordFill ms).rd P.fil R.fil_FILL_DRAM_MS = min 65535 ms := by
  rw [State.recordFill, State.rd_wr_ne _ _ (by decide), State.rd_wr_ne _ _ (by decide), State.rd_wr_ne _ _ (by decide), State.rd_wr_same]
  exact Nat.mod_eq_of_lt (by simp only [R.fil_FILL_DRAM_MS]; omega)

theorem fillDramDone_again {s : State} (ms : Nat) (hf : s.dram.fill = 4) : Does (.fillDramDone ms) s fun t =>
    (∀ a, dramBase ≤ a → a < hostBase → memAt t.mem a = 0) ∧ (∀ a, a < dramBase ∨ hostBase ≤ a → memAt t.mem a = memAt s.mem a) ∧
      t.rd P.fil R.fil_FILL_DRAM_MS = min 65535 ms ∧ t.dram.fill = 0 ∧
      t = { s with dram := t.dram, regs := t.regs, mem := t.mem, integ := t.integ } := by
  let u := { s with dram := { s.dram with fill := 0 } }
  have hexec : exec (.fillDramDone ms) s = .next (u.recordFill ms) :=
    congrArg Host.Outcome.next ((if_neg (by omega)).trans (if_pos hf))
  have hmem (a : Nat) : memAt (u.recordFill ms).mem a = if a < dramBase ∨ hostBase ≤ a then memAt s.mem a else 0 :=
    State.memAt_zeroMem u dramBase hostBase a
  refine ⟨_, hexec, fun a hlo hhi => ?_, fun a ha => ?_, u.rd_recordFill ms, rfl, rfl⟩
  · rw [hmem, if_neg (by omega)]
  · rw [hmem, if_pos ha]

/-- `t` is `s` but for the registers, the counters, trust and the cores. -/
def FwFrame (s t : State) : Prop := t = { s with regs := t.regs, ctrs := t.ctrs, trust := t.trust, cores := t.cores }

theorem FwFrame.refl (s : State) : FwFrame s s := rfl

theorem FwFrame.trans {s t u : State} (h : FwFrame s t) (g : FwFrame t u) : FwFrame s u :=
  Eq.trans g (congrArg (fun v : State => { v with regs := u.regs, ctrs := u.ctrs, trust := u.trust, cores := u.cores }) h)

section
variable {s t : State} (h : FwFrame s t)
include h

theorem FwFrame.part_eq : t.part = s.part := by unfold FwFrame at h; rw [h]
theorem FwFrame.power_eq : t.power = s.power := by unfold FwFrame at h; rw [h]
theorem FwFrame.fault_eq : t.fault = s.fault := by unfold FwFrame at h; rw [h]

end

theorem FwFrame.countN (s : State) (p o n : Nat) : FwFrame s (s.countN p o n) := by
  unfold State.countN
  split <;> rfl

theorem RegFrame.countN (s : State) (p o n : Nat) : RegFrame s (s.countN p o n) := by
  unfold State.countN
  split <;> rfl

/-! ### Bobbin started -/

/-- A Bobbin core started. -/
def State.startCore (s : State) (c : Nat) : State := s.setCore (32 + c) (s.core (32 + c)).bobbinStart

/-- A step that touches neither registers nor anything beside trust and the cores. -/
def FwStep (s t : State) : Prop := FwFrame s t ∧ t.regs = s.regs

theorem FwStep.foldl {α : Type} {f : State → α → State} (hf : ∀ u a, FwStep u (f u a)) (l : List α) : ∀ s : State, FwStep s (l.foldl f s) := by
  induction l with
  | nil => exact fun s => ⟨.refl s, rfl⟩
  | cons a l ih => exact fun s => ⟨(hf s a).1.trans (ih _).1, (ih _).2.trans (hf s a).2⟩

theorem FwStep.startBobbin (s : State) : FwStep s s.startBobbin := FwStep.foldl (f := State.startCore) (fun _ _ => ⟨rfl, rfl⟩) _ s

theorem State.startBobbin_trust (s : State) : s.startBobbin.trust = s.trust :=
  State.foldl_keeps (f := State.startCore) State.trust (fun _ _ => rfl) _ s

theorem FwStep.unlockAuto (s : State) : FwStep s s.unlockAuto := by
  refine FwStep.foldl (fun u n => ?_) _ s
  split
  · exact ⟨rfl, rfl⟩
  · exact ⟨rfl, rfl⟩

theorem State.startBobbin_run (s : State) {c : Nat} (hc : c < 8) : (Tbl.at? s.startBobbin.cores (32 + c)).map (fun k => k.st) = some .run := by
  have hset (u : State) (d : Nat) (h : d = c ∨ (Tbl.at? u.cores (32 + c)).map (fun k => k.st) = some .run) :
      (Tbl.at? (u.startCore d).cores (32 + c)).map (fun k => k.st) = some .run := by
    rw [show (u.startCore d).cores = Tbl.put u.cores (32 + d) (u.core (32 + d)).bobbinStart from rfl, Tbl.at?_put]
    split
    · rfl
    next hd => exact h.resolve_left fun hdc => hd (by rw [hdc])
  have hall (l : List Nat) : ∀ u : State, c ∈ l ∨ (Tbl.at? u.cores (32 + c)).map (fun k => k.st) = some .run →
      (Tbl.at? (l.foldl (State.startCore) u).cores (32 + c)).map (fun k => k.st) = some .run := by
    induction l with
    | nil => exact fun u h => h.resolve_left List.not_mem_nil
    | cons d l ih =>
      intro u h
      rw [List.foldl_cons]
      by_cases hcl : c ∈ l
      · exact ih _ (.inl hcl)
      · exact ih _ (.inr (hset u d (h.imp (fun hm => ((List.mem_cons.1 hm).resolve_right hcl).symm) id)))
  exact hall _ s (.inl (List.mem_range.2 hc))

/-- Bobbin released into Rebuild. -/
def State.released (s : State) : State :=
  let u := ({ s with trust := { s.trust with fwRunning := true } } : State).startBobbin
  (({ u with trust := { u.trust with rebuild := 1 } } : State).setDev Dev.rebuild).kick

/-- The state as Bobbin is started. -/
def State.fwUp (s : State) : State := { s with trust := { s.trust with fwRunning := true } }

theorem FwFrame.released (s : State) : FwFrame s s.released :=
  ((show FwFrame s s.fwUp from rfl).trans (FwStep.startBobbin s.fwUp).1).trans rfl

theorem State.released_regs (s : State) : s.released.regs = (s.setDev Dev.rebuild).regs :=
  congrArg (fun r => Tbl.put r (fkey P.glb R.glb_DEVSTATE 0) (Dev.rebuild % 2 ^ R.glb_DEVSTATE.w)) (FwStep.startBobbin s.fwUp).2

theorem State.released_trust (s : State) : s.released.trust.fwRunning = true ∧ s.released.trust.rebuild = 1 :=
  ⟨congrArg Trust.fwRunning s.fwUp.startBobbin_trust, rfl⟩

theorem State.release_run {s : State} (hq : s.power.seq = .run) (hh : s.fault.held = false) (ha : s.mode M.arch = false) :
    s.release = s.released := by
  have hstep := FwStep.startBobbin s.fwUp
  have harch : s.released.mode M.arch = false := by
    rw [State.mode, State.rd_congr s.released_regs (FwFrame.released s).part_eq, State.setDev, State.rd_wr_ne _ _ (by decide)]
    exact ha
  have hseq : s.fwUp.startBobbin.power.seq = .run := by rw [hstep.1.power_eq]; exact hq
  have hheld : s.fwUp.startBobbin.fault.held = false := by rw [hstep.1.fault_eq]; exact hh
  unfold State.release
  simp only [show ({ s with trust := { s.trust with fwRunning := true } } : State) = s.fwUp from rfl, hseq, hheld, Bool.false_eq_true, if_false]
  exact State.whenB_false harch _

/-! ### Firmware chosen -/

/-- The state as the image of a slot is about to be released. -/
def State.fwChosen (s : State) (slot : Nat) (img : List Byte) : State :=
  let u := (s.wr P.pat R.pat_FW_SLOT slot).wr P.pat R.pat_FW_VERSION (imgVersion img)
  let v := { u with trust := { u.trust with bootDigest := sha384 img } }
  v.whenB (!v.on P.pat R.pat_PATTERN_DEFAULTED) State.unlockAuto

theorem FwFrame.fwChosen (s : State) (slot : Nat) (img : List Byte) : FwFrame s (s.fwChosen slot img) := by
  unfold State.fwChosen State.whenB
  simp only
  split
  · exact FwFrame.trans (t := { (s.wr P.pat R.pat_FW_SLOT slot).wr P.pat R.pat_FW_VERSION (imgVersion img) with
      trust := { s.trust with bootDigest := sha384 img } }) rfl (FwStep.unlockAuto _).1
  · rfl

theorem State.fwChosen_regs (s : State) (slot : Nat) (img : List Byte) :
    (s.fwChosen slot img).regs = ((s.wr P.pat R.pat_FW_SLOT slot).wr P.pat R.pat_FW_VERSION (imgVersion img)).regs := by
  unfold State.fwChosen State.whenB
  simp only
  split
  · exact (FwStep.unlockAuto _).2
  · rfl

theorem State.released_run (s : State) {c : Nat} (hc : c < 8) : (Tbl.at? s.released.cores (32 + c)).map (fun k => k.st) = some .run :=
  State.startBobbin_run { s with trust := { s.trust with fwRunning := true } } hc

section
variable {s : State} (hd : s.dev = Dev.boot) (hf : s.dram.fill = 0) (hw : s.trust.fwRunning = false)
include hd hf hw

theorem bootFirmwareVerified_none (h : (s.imageOk 1 (s.slotImage 0) || s.imageOk 1 (s.slotImage 1)) = false) :
    Does .bootFirmwareVerified s fun t =>
      t.rd P.pat R.pat_NO_FIRMWARE = 1 ∧ t.dev = Dev.boot ∧ t = { s with regs := t.regs, ctrs := t.ctrs } := by
  let u := s.countN P.pat 0x058 ((if s.imageOk 1 (s.slotImage 0) then 0 else 1) + (if s.imageOk 1 (s.slotImage 1) then 0 else 1))
  have hexec : exec .bootFirmwareVerified s = .next ((u.wr P.pat R.pat_NO_FIRMWARE 1).err P.pat 0x03 0 0) :=
    congrArg Host.Outcome.next ((State.whenB_true (by simp [hd, hf, hw]) _).trans (if_pos (by simp [h])))
  have hu : RegFrame s u := RegFrame.countN ..
  refine ⟨_, hexec, ?_, ?_, ((hu.wr _ _ _).err _ _ _ _).silent ?_⟩
  · rw [State.rd_err_own _ _ _ _ _ (by decide)]
    exact State.rd_wr_same ..
  · rw [State.dev_err, State.dev_wr _ _ _ (by decide)]
    exact (State.rd_countN ..).trans hd
  · rw [State.err_outbox, State.wr_outbox]
    exact State.countN_outbox ..

theorem bootFirmwareVerified_some (h : (s.imageOk 1 (s.slotImage 0) || s.imageOk 1 (s.slotImage 1)) = true) (hq : s.power.seq = .run)
    (hh : s.fault.held = false) (ha : s.mode M.arch = false) :
    let slot := if s.imageOk 1 (s.slotImage 1) && (!s.imageOk 1 (s.slotImage 0) ||
      decide (imgVersion (s.slotImage 0) < imgVersion (s.slotImage 1))) then 1 else 0
    Does .bootFirmwareVerified s fun t =>
      t.dev = Dev.rebuild ∧ t.trust.fwRunning = true ∧ t.trust.rebuild = 1 ∧ t.rd P.pat R.pat_FW_SLOT = slot ∧
        (∀ c, c < 8 → (Tbl.at? t.cores (32 + c)).map (fun k => k.st) = some .run) ∧
        t = { s with regs := t.regs, ctrs := t.ctrs, trust := t.trust, cores := t.cores } := by
  intro slot
  let u := s.countN P.pat 0x058 ((if s.imageOk 1 (s.slotImage 0) then 0 else 1) + (if s.imageOk 1 (s.slotImage 1) then 0 else 1))
  let img := if slot = 1 then s.slotImage 1 else s.slotImage 0
  have hchosen : FwFrame s (u.fwChosen slot img) := (FwFrame.countN s _ _ _).trans (FwFrame.fwChosen u slot img)
  have hrd {f : Fld} {p : Nat} : (u.fwChosen slot img).rd p f =
      ((u.wr P.pat R.pat_FW_SLOT slot).wr P.pat R.pat_FW_VERSION (imgVersion img)).rd p f :=
    State.rd_congr (u.fwChosen_regs slot img) ((FwFrame.fwChosen u slot img).part_eq) p f
  have hreleased {f : Fld} {p : Nat} : (u.fwChosen slot img).released.rd p f = ((u.fwChosen slot img).setDev Dev.rebuild).rd p f :=
    State.rd_congr (State.released_regs _) ((FwFrame.released (u.fwChosen slot img)).part_eq) p f
  have harch : (u.fwChosen slot img).mode M.arch = false := by
    rw [State.mode, hrd, State.rd_wr_ne _ _ (by decide), State.rd_wr_ne _ _ (by decide), State.rd_countN]
    exact ha
  have hexec : exec .bootFirmwareVerified s = .next (u.fwChosen slot img).released := by
    refine congrArg Host.Outcome.next ((State.whenB_true (by simp [hd, hf, hw]) _).trans ((if_neg (by simp [h])).trans ?_))
    exact State.release_run ((congrArg Power.seq hchosen.power_eq).trans hq)
      ((congrArg FaultSt.held hchosen.fault_eq).trans hh) harch
  obtain ⟨hfw, hrb⟩ := (u.fwChosen slot img).released_trust
  refine ⟨_, hexec, hreleased.trans (State.rd_wr_same ..), hfw, hrb, ?_, fun c hc => (u.fwChosen slot img).released_run hc,
    hchosen.trans (FwFrame.released _)⟩
  rw [hreleased, State.setDev, State.rd_wr_ne _ _ (by decide), hrd, State.rd_wr_ne _ _ (by decide), State.rd_wr_same]
  refine Nat.mod_eq_of_lt ?_
  simp only [slot]
  split <;> decide

end

/-- Settles O28: each clause is the lemma above about its step of Fill or Boot. -/
theorem fillAndBoot : Obligations.FillAndBoot := by
  unfold Obligations.FillAndBoot
  refine fun s => ⟨fun us hf hq => ?_, fun ch ok hf hc hn hlen => dramTrainingDone_last ok hf hc hn hlen,
    fun ms hf => congrArg Host.Outcome.next (if_pos hf), fun ms hf => fillDramDone_again ms hf,
    fun hd hf hw => ⟨fun h => bootFirmwareVerified_none hd hf hw h,
      fun h hq hh ha => bootFirmwareVerified_some hd hf hw h hq hh ha⟩⟩
  refine congrArg Host.Outcome.next ((if_pos hf).trans ?_)
  rw [hq]

end Sys2Proof.Machine
end

section
/-!
PROOFS. The later steps of a wake (R437, R451, R454, R484).
-/

namespace Sys2Proof.Machine

/-! ### The retention check -/

section
variable {s : State} (hq : s.power.seq = .wake .slumber 4)
include hq

theorem retentionCheckDone_of_lost {m : Nat} {l : List Nat} (hl : (List.range 32).filter (fun b => m.testBit b &&
    (b == 0 || (s.rd P.pwr R.pwr_SLUMBER_BANKS).testBit b)) = l) (h0 : l.contains 0 = false) :
    exec (.retentionCheckDone m false 0) s = .next ((((l.foldl State.bankLost s).power.domsWere.filter
      (l.foldl State.bankLost s).supplied).foldl State.domPower (l.foldl State.bankLost s)).wakeDram .slumber) := by
  show execRetentionCheckDone m false 0 s = _
  simp only [execRetentionCheckDone, hq, List.replicate_zero, List.foldl_nil, hl, h0, Bool.or_false]
  rw [State.whenB_false rfl]

end

section
variable (s : State) (b : Nat)

/-- The bank zeroed and reported. -/
def State.bankNoted (s : State) (b : Nat) : State :=
  let u := s.zeroMem (stgBase + b * 0x200000) (stgBase + (b + 1) * 0x200000)
  ((u.wr P.pwr R.pwr_RETAIN_LOST (bitPut (u.rd P.pwr R.pwr_RETAIN_LOST) b true)).count P.pwr 0x090).raise P.pwr 5

theorem RegFrame.bankNoted : RegFrame (s.zeroMem (stgBase + b * 0x200000) (stgBase + (b + 1) * 0x200000)) (s.bankNoted b) :=
  (((RegFrame.refl _).wr _ _ _).count _ _).raise _ _

/-- With no item posted the loss of a bank ends none. -/
theorem State.bankLost_idle {s : State} (h : s.spool.items = []) (b : Nat) : s.bankLost b = s.bankNoted b := by
  have hitems : (s.bankNoted b).spool.items = [] := by
    rw [(RegFrame.bankNoted s b).spool_eq]
    exact h
  have hdue : ((s.bankNoted b).spool.items.filter fun e => e.2.st ≠ .running ∧ e.2.st ≠ .done ∧ e.2.banks.testBit b = true) = [] := by
    rw [hitems, List.filter_nil]
  unfold State.bankLost
  simp only [show ((State.wr (s.zeroMem (stgBase + b * 0x200000) (stgBase + (b + 1) * 0x200000)) P.pwr R.pwr_RETAIN_LOST
    (bitPut ((s.zeroMem (stgBase + b * 0x200000) (stgBase + (b + 1) * 0x200000)).rd P.pwr R.pwr_RETAIN_LOST) b true)).count P.pwr
      0x090).raise P.pwr 5 = s.bankNoted b from rfl, hdue, List.foldl_nil]
  exact State.whenB_false (by simp) _

theorem bankLost_does {s : State} {b : Nat} (hb : b < 32) (h : s.spool.items = []) : let t := s.bankLost b
    (t.rd P.pwr R.pwr_RETAIN_LOST).testBit b = true ∧
      (∀ a, stgBase + b * 0x200000 ≤ a → a < stgBase + (b + 1) * 0x200000 → memAt t.mem a = 0) ∧
      (∀ a, a < stgBase + b * 0x200000 ∨ stgBase + (b + 1) * 0x200000 ≤ a → memAt t.mem a = memAt s.mem a) ∧
      t = { s with regs := t.regs, ctrs := t.ctrs, mem := t.mem, integ := t.integ, outbox := t.outbox } := by
  intro t
  have ht : t = s.bankNoted b := State.bankLost_idle h b
  have hmem (a : Nat) : memAt t.mem a = if a < stgBase + b * 0x200000 ∨ stgBase + (b + 1) * 0x200000 ≤ a then memAt s.mem a else 0 := by
    rw [ht, (RegFrame.bankNoted s b).mem_eq]
    exact State.memAt_zeroMem s _ _ a
  refine ⟨?_, fun a hlo hhi => ?_, fun a ha => ?_, ?_⟩
  · rw [ht, State.bankNoted, State.rd_raise_own _ _ _ (by decide), State.rd_count, State.rd_wr_same, Nat.testBit_mod_two_pow, testBit_bitPut,
      if_pos rfl, Bool.and_true]
    exact decide_eq_true hb
  · rw [hmem, if_neg (by omega)]
  · rw [hmem, if_pos ha]
  · rw [ht, show s.bankNoted b = _ from RegFrame.bankNoted s b]
    rfl

end

/-! ### Self-refresh left -/

theorem State.retryDram_nil {s : State} (h : s.dram.waits = []) : s.retryDram = s := by
  have hsame : ({ s with dram := { s.dram with waits := [] } } : State) = s := by rw [← h]
  simp only [State.retryDram, h, List.foldl_nil, hsame]

theorem dramSelfRefreshExitDone_last {s : State} {ch : Nat} (hc : ch < 4) (hset : s.dramSet.contains ch = true)
    (hsr : s.rd (P.drc ch) R.drc_SR_STATE = 3) (hq : s.power.seq = .wake .slumber 5)
    (hall : ∀ c ∈ s.dramSet, c = ch ∨ c ∈ s.power.dramAwake) (hw : s.dram.waits = []) :
    Does (.dramSelfRefreshExitDone ch true) s fun t =>
      t.rd (P.drc ch) R.drc_SR_STATE = 0 ∧ t.power.seq = .wake .slumber 6 ∧ t = { s with regs := t.regs, power := t.power } := by
  let u := { s.wr (P.drc ch) R.drc_SR_STATE 0 with power := { s.power with seq := .wake .slumber 6, dramAwake := ch :: s.power.dramAwake } }
  have hset' : (s.wr (P.drc ch) R.drc_SR_STATE 0).dramSet = s.dramSet := by
    rw [State.dramSet, State.rd_wr_ne _ _ (fkey_ne_of_page (by simp only [P.drc, P.drm]; omega) (by decide)), State.dramSet]
  have hawake : ((s.wr (P.drc ch) R.drc_SR_STATE 0).dramSet.all fun c => (ch :: s.power.dramAwake).contains c) = true := by
    rw [hset', List.all_eq_true]
    exact fun c hc => by simpa using hall c hc
  have hexit : s.srExit ch = u := by
    unfold State.srExit
    simp only [State.wr_power, hq]
    exact (if_pos hawake).trans (State.retryDram_nil hw)
  have hexec : exec (.dramSelfRefreshExitDone ch true) s = .next u :=
    congrArg Host.Outcome.next ((State.whenB_true (by rw [hset, hsr]; simp [hc]) _).trans hexit)
  exact ⟨u, hexec, State.rd_wr_same s (P.drc ch) R.drc_SR_STATE 0, rfl, rfl⟩

/-- Settles O31: each clause is the lemma above about its step of a wake. -/
theorem wakeSteps : Obligations.WakeSteps := by
  unfold Obligations.WakeSteps
  refine fun s => ⟨fun hq => ?_, fun b hb hlt hq hret => ?_, fun b hb h => bankLost_does hb h,
    fun ch hc hset hsr hq hall hw => dramSelfRefreshExitDone_last hc hset hsr hq hall hw, fun hq => ⟨?_, ?_⟩⟩
  · exact retentionCheckDone_of_lost hq (l := []) (List.filter_eq_nil_iff.2 (by simp)) rfl
  · refine retentionCheckDone_of_lost hq (l := [b]) (filter_range_two_pow hlt (by simp [hret])) ?_
    simpa using Nat.ne_of_lt hb
  · show execBobbinImageChecked true s = _
    simp only [execBobbinImageChecked, hq, if_true]
  · show execBobbinImageChecked false s = _
    simp only [execBobbinImageChecked, hq, Bool.false_eq_true, if_false]

end Sys2Proof.Machine
end

section
/-!
PROOFS. The DRAM controller and the arbitration epoch (R381, R427 to R435, R438).
-/

namespace Sys2Proof.Machine

/-! ### Refresh -/

section
variable (s : State) (ch rank n : Nat)

@[simp] theorem State.postponed_setPostponed : (s.setPostponed ch rank n).postponed ch rank = n := by
  simp [State.postponed, State.setPostponed]

@[simp] theorem State.postponed_setPulledIn : (s.setPulledIn ch rank n).postponed ch rank = s.postponed ch rank := rfl

@[simp] theorem State.pulledIn_setPulledIn : (s.setPulledIn ch rank n).pulledIn ch rank = n := by
  simp [State.pulledIn, State.setPulledIn]

end

/-- The command of a refresh of a rank, by the channel's mode. -/
def State.refCmd (s : State) (ch rank : Nat) : Output :=
  .dramCmd ch (if s.on (P.drc ch) R.drc_REF_MODE then Dk.refSb else Dk.refAb) rank

theorem State.foldl_refreshRank (ch rank n : Nat) : ∀ s : State,
    (List.range n).foldl (fun s _ => s.refreshRank ch rank) s = { s with outbox := s.outbox ++ List.replicate n (s.refCmd ch rank) } := by
  induction n with
  | zero => intro s; simp
  | succ n ih =>
    intro s
    rw [List.range_succ, List.foldl_append, ih]
    simp [State.refreshRank, State.send, State.refCmd, List.replicate_succ', State.on, State.rd, State.rdI]

theorem State.refreshFirst_few {s : State} {ch rank : Nat} (h : s.postponed ch rank < 4) : s.refreshFirst ch rank = s :=
  if_neg (Nat.not_le.2 h)

section
variable {s : State} {ch rank : Nat} (ha : s.chanActive ch = true) (hr : rank < s.board.ranks) (hp : s.postponed ch rank < 4)
include ha hr

theorem exec_dramRefreshDue (d idle : Bool) : exec (.dramRefreshDue ch rank d idle) s = .next (s.refreshTick ch rank d idle) :=
  congrArg Host.Outcome.next (State.whenB_true (by simp [ha, hr]) _)

include hp

theorem dramRefreshDue_pulledIn (d idle : Bool) (h : 0 < s.pulledIn ch rank) : Does (.dramRefreshDue ch rank d idle) s fun t =>
    t.pulledIn ch rank = s.pulledIn ch rank - 1 ∧ t.postponed ch rank = s.postponed ch rank ∧ t = { s with dram := t.dram } := by
  have htick : s.refreshTick ch rank d idle = s.setPulledIn ch rank (s.pulledIn ch rank - 1) := by
    simp only [State.refreshTick, State.refreshFirst_few hp, if_pos h]
  exact ⟨_, (exec_dramRefreshDue ha hr d idle).trans (congrArg _ htick), by simp, by simp, rfl⟩

theorem dramRefreshDue_demand (idle : Bool) (h : s.pulledIn ch rank = 0) : Does (.dramRefreshDue ch rank true idle) s fun t =>
    t.postponed ch rank = s.postponed ch rank + 1 ∧ t = { s with dram := t.dram, ctrs := t.ctrs } := by
  have htick : s.refreshTick ch rank true idle = (s.setPostponed ch rank (s.postponed ch rank + 1)).count (P.drc ch) 0x070 := by
    simp only [State.refreshTick, State.refreshFirst_few hp, h, Nat.lt_irrefl, if_false, if_true]
  refine ⟨_, (exec_dramRefreshDue ha hr true idle).trans (congrArg _ htick), ?_, ?_⟩
  · rw [State.postponed, State.count_dram]
    exact State.postponed_setPostponed ..
  · rw [State.count_dram]
    exact State.count_frame ..

theorem dramRefreshDue_issued (h : s.pulledIn ch rank = 0) : Does (.dramRefreshDue ch rank false false) s fun t =>
    t.postponed ch rank = 0 ∧ t.outbox = s.outbox ++ List.replicate (s.postponed ch rank + 1)
      (.dramCmd ch (if s.rd (P.drc ch) R.drc_REF_MODE = 0 then Dk.refAb else Dk.refSb) rank) ∧
      t = { s with dram := t.dram, outbox := t.outbox } := by
  let u := (List.range (s.postponed ch rank + 1)).foldl (fun s _ => s.refreshRank ch rank) s
  have hu : u = { s with outbox := s.outbox ++ List.replicate (s.postponed ch rank + 1) (s.refCmd ch rank) } := State.foldl_refreshRank ..
  have htick : s.refreshTick ch rank false false = (u.setPostponed ch rank 0).setPulledIn ch rank 0 := by
    simp only [State.refreshTick, State.refreshFirst_few hp, h, Nat.lt_irrefl, if_false, Bool.false_eq_true, Nat.add_zero]
    rfl
  have hcmd : s.refCmd ch rank = .dramCmd ch (if s.rd (P.drc ch) R.drc_REF_MODE = 0 then Dk.refAb else Dk.refSb) rank := by
    by_cases h0 : s.rd (P.drc ch) R.drc_REF_MODE = 0 <;> simp [State.refCmd, State.on, h0]
  refine ⟨_, (exec_dramRefreshDue ha hr false false).trans (congrArg _ htick), by simp, ?_, ?_⟩
  · rw [← hcmd]
    exact congrArg State.outbox hu
  · rw [hu]
    rfl

end

/-! ### Demand accesses -/

/-- An access that arrives at the place `q`. -/
def State.accessAt (s : State) (a : DramAcc) (o : CodeOutcome) (q : Option DramPlace) : State :=
  match q with
  | none => s
  | some p =>
    if !s.chanUp p.ch then s
    else
      let s := s.whenB (s.rd (P.drc p.ch) R.drc_SR_STATE == 1) State.abandonSr
      if s.chanActive p.ch && !s.dram.pausing.contains (subKey p.ch p.sub) then s.serveDram p a o
      else s.waitDram a o

theorem State.dramAccess_eq (s : State) (a : DramAcc) (o : CodeOutcome) : s.dramAccess a o = s.accessAt a o (s.dramPlace a.d) := rfl

/-- An access served at once where its channel takes commands and its subchannel is not in a pause. -/
def State.takeDram (s : State) (p : DramPlace) (a : DramAcc) (o : CodeOutcome) : State :=
  if s.chanActive p.ch && !s.dram.pausing.contains (subKey p.ch p.sub) then s.serveDram p a o else s.waitDram a o

section
variable {s : State} {a : DramAcc} {p : DramPlace} 
theorem State.accessAt_active (hact : s.chanActive p.ch = true) (o : CodeOutcome) :
    s.accessAt a o (some p) = if s.dram.pausing.contains (subKey p.ch p.sub) then s.waitDram a o else s.serveDram p a o := by
  have hboth : s.chanUp p.ch = true ∧ s.rd (P.drc p.ch) R.drc_SR_STATE = 0 := by
    simpa only [State.chanActive, Bool.and_eq_true, beq_iff_eq] using hact
  obtain ⟨hup, hsr⟩ := hboth
  have hstay : s.whenB (s.rd (P.drc p.ch) R.drc_SR_STATE == 1) State.abandonSr = s := State.whenB_false (by rw [hsr]; rfl) _
  have htake : s.accessAt a o (some p) = s.takeDram p a o :=
    (if_neg (by simp [hup])).trans (congrArg (fun u : State => u.takeDram p a o) hstay)
  rw [htake, State.takeDram, hact, Bool.true_and]
  cases s.dram.pausing.contains (subKey p.ch p.sub)
  · exact (if_pos rfl).trans (if_neg Bool.false_ne_true).symm
  · exact (if_neg Bool.false_ne_true).trans (if_pos rfl).symm

theorem exec_dramAccess (hp : s.dramPlace a.d = some p) (hact : s.chanActive p.ch = true) (o : CodeOutcome) : exec (.dramAccess a o) s =
    .next (if s.dram.pausing.contains (subKey p.ch p.sub) then s.waitDram a o else s.serveDram p a o) :=
  congrArg Host.Outcome.next ((s.dramAccess_eq a o).trans ((congrArg (s.accessAt a o) hp).trans (State.accessAt_active hact o)))

end

/-- A counter of one page stands while another counts. -/
theorem State.ctr_countN_ne (s : State) {p q o r : Nat} (n : Nat) (h : p * 4096 + o ≠ q * 4096 + r) : (s.countN p o n).ctr q r = s.ctr q r := by
  unfold State.countN State.ctr
  split
  · rfl
  · simp only [Tbl.at?_put_ne _ _ h]

/-- The bank opened and its row read, with the counts of both. -/
def State.readRow (s : State) (p : DramPlace) (a : DramAcc) : State :=
  let u := { s with dram := { s.dram with powerDown := s.dram.powerDown.filter (· ≠ p.ch) } }
  let v := (u.send (.dramCmd p.ch Dk.act (p.key * 2 ^ 17 + p.row))).count (P.drc p.ch) 0x050
  (v.send (.dramCmd p.ch Dk.read (lineOf a))).count (P.drc p.ch) 0x040

/-- The row entered in its bank's table and the bytes carried. -/
def State.rowDone (s : State) (p : DramPlace) (a : DramAcc) : State :=
  ((s.readRow p a).setAct p (actTable ((s.readRow p a).actOf p) p.row)).carry p.ch a.bytes

/-- `t` is `s` but for DRAM's control, the counters and what has been sent. -/
def AccessFrame (s t : State) : Prop := t = { s with dram := t.dram, outbox := t.outbox, ctrs := t.ctrs }

theorem AccessFrame.refl (s : State) : AccessFrame s s := rfl

theorem AccessFrame.trans {s t u : State} (h : AccessFrame s t) (g : AccessFrame t u) : AccessFrame s u :=
  Eq.trans g (congrArg (fun v : State => { v with dram := u.dram, outbox := u.outbox, ctrs := u.ctrs }) h)

section
variable {s t : State} (h : AccessFrame s t)
include h

theorem AccessFrame.countN (p o n : Nat) : AccessFrame s (t.countN p o n) := by
  refine h.trans ?_
  unfold State.countN
  split <;> rfl

theorem AccessFrame.send (e : Output) : AccessFrame s (t.send e) := h.trans rfl

theorem AccessFrame.withDram (d : Dram) : AccessFrame s { t with dram := d } := h.trans rfl

theorem AccessFrame.rd_eq (p : Nat) (f : Fld) : t.rd p f = s.rd p f := by
  unfold AccessFrame at h
  rw [h]
  rfl

theorem AccessFrame.knownBad_eq (p a : Nat) : t.knownBad p a = s.knownBad p a := by
  unfold AccessFrame at h
  rw [h]
  rfl

theorem AccessFrame.frozen_eq (p : Nat) : t.frozen p = s.frozen p := by simp only [State.frozen, State.on, h.rd_eq]

end

section
variable (s : State) (p : DramPlace) (a : DramAcc)

theorem AccessFrame.readRow : AccessFrame s (s.readRow p a) :=
  (((((AccessFrame.refl s).withDram _).send _).countN _ _ 1).send _).countN _ _ 1

theorem AccessFrame.rowDone : AccessFrame s (s.rowDone p a) :=
  (((AccessFrame.readRow s p a).withDram _).withDram _).countN _ _ _

theorem State.readRow_actOf : (s.readRow p a).actOf p = s.actOf p := by
  rw [State.actOf, State.readRow, State.count_dram, State.send_dram, State.count_dram]
  rfl

theorem State.rowDone_outbox : (s.rowDone p a).outbox =
    s.outbox ++ [.dramCmd p.ch Dk.act (p.key * 2 ^ 17 + p.row), .dramCmd p.ch Dk.read (lineOf a)] := by
  simp [State.rowDone, State.carry, State.setAct, State.readRow, State.send]

theorem State.rowDone_actOf : (s.rowDone p a).actOf p = actTable (s.actOf p) p.row := by
  rw [State.rowDone, State.readRow_actOf, State.actOf, State.carry, State.countN_dram]
  exact State.actOf_setAct_same (s.readRow p a) p _

/-- The two counts of a read (R433). -/
theorem State.rowDone_ctr (h : s.frozen (P.drc p.ch) = false) (hc : p.ch < 4) :
    (s.rowDone p a).ctr (P.drc p.ch) 0x040 = (s.ctr (P.drc p.ch) 0x040 + 1) % 2 ^ 64 ∧
      (s.rowDone p a).ctr (P.drc p.ch) 0x050 = (s.ctr (P.drc p.ch) 0x050 + 1) % 2 ^ 64 := by
  let u := ({ s with dram := { s.dram with powerDown := s.dram.powerDown.filter (· ≠ p.ch) } } : State).send
    (.dramCmd p.ch Dk.act (p.key * 2 ^ 17 + p.row))
  have hu : AccessFrame s u := ((AccessFrame.refl s).withDram _).send _
  have hfu : u.frozen (P.drc p.ch) = false := (hu.frozen_eq _).trans h
  have hfv : ((u.count (P.drc p.ch) 0x050).send (.dramCmd p.ch Dk.read (lineOf a))).frozen (P.drc p.ch) = false :=
    (((hu.countN _ _ 1).send _).frozen_eq _).trans h
  have hcarry (o : Nat) (ho : o < 4096) : (s.rowDone p a).ctr (P.drc p.ch) o = (s.readRow p a).ctr (P.drc p.ch) o := by
    rw [State.rowDone, State.carry, State.ctr_countN_ne _ _ (by simp only [P.drm, P.drc]; omega)]
    rfl
  have hne {x y : Nat} (hxy : x ≠ y) : P.drc p.ch * 4096 + x ≠ P.drc p.ch * 4096 + y := by omega
  refine ⟨(hcarry _ (by decide)).trans ((State.ctr_count _ hfv).trans ?_), (hcarry _ (by decide)).trans ?_⟩
  · exact congrArg (fun n => (n + 1) % 2 ^ 64) (State.ctr_countN_ne u 1 (hne (by decide)))
  · exact (State.ctr_countN_ne _ 1 (hne (by decide))).trans (State.ctr_count _ hfu)

end

section
variable {s : State} {p : DramPlace} {a : DramAcc}

theorem State.rfm_off (h : s.rd (P.drc p.ch) R.drc_RFM_REQ = 0) : s.rfm p = s := by
  simp [State.rfm, State.on_eq_false h]

theorem State.darn_below (h : ∀ e ∈ s.actOf p, e.2 < s.rd (P.drc p.ch) R.drc_DARN_THR) : s.darn p = s := by
  have hfull : ¬((s.actOf p).length = 16 ∧ (s.actOf p).all (fun e => decide (s.rd (P.drc p.ch) R.drc_DARN_THR ≤ e.2)) = true) := fun ⟨hlen, hall⟩ => by
    obtain ⟨e, he⟩ := List.exists_mem_of_length_pos (l := s.actOf p) (by omega)
    have hle : s.rd (P.drc p.ch) R.drc_DARN_THR ≤ e.2 := by simpa using List.all_eq_true.1 hall e he
    have := h e he
    omega
  have hnone : ¬((s.actOf p).any fun e => decide (e.1 = p.row ∧ s.rd (P.drc p.ch) R.drc_DARN_THR ≤ e.2)) = true := fun hany => by
    obtain ⟨e, he, hrow⟩ := List.any_eq_true.1 hany
    have hle : s.rd (P.drc p.ch) R.drc_DARN_THR ≤ e.2 := (of_decide_eq_true hrow).2
    have := h e he
    omega
  exact (if_neg hfull).trans (if_neg hnone)

theorem State.lineCode_good (hw : a.isWrite = false) (h : s.knownBad (P.drc p.ch) (lineOf a) = false) : s.lineCode p.ch a .correct = s := by
  simp only [State.lineCode, hw, Bool.false_and, Bool.false_eq_true, if_false, State.showsAs_good h]

theorem State.serveDram_read (hf : s.postponed p.ch p.rank < 4) (hrfm : s.rd (P.drc p.ch) R.drc_RFM_REQ = 0)
    (hgood : s.knownBad (P.drc p.ch) (lineOf a) = false) (hw : a.isWrite = false)
    (hthr : ∀ e ∈ actTable (s.actOf p) p.row, e.2 < s.rd (P.drc p.ch) R.drc_DARN_THR) : s.serveDram p a .correct = s.rowDone p a := by
  have hframe := AccessFrame.rowDone s p a
  have hread : s.serveDram p a .correct = (((s.rowDone p a).rfm p).darn p).lineCode p.ch a .correct := by
    unfold State.serveDram
    simp only [State.refreshFirst_few hf, hw, Bool.false_eq_true, if_false]
    rfl
  rw [hread, State.rfm_off ((hframe.rd_eq _ _).trans hrfm), State.darn_below, State.lineCode_good hw ((hframe.knownBad_eq _ _).trans hgood)]
  rw [State.rowDone_actOf, hframe.rd_eq]
  exact hthr

end

theorem State.chanActive_lt {s : State} {ch : Nat} (h : s.chanActive ch = true) : ch < 4 := by
  simp only [State.chanActive, State.chanUp, Bool.and_eq_true, decide_eq_true_eq] at h
  exact h.1.1.1.1.1

theorem dramAccess_reads {s : State} {a : DramAcc} {p : DramPlace} (hp : s.dramPlace a.d = some p) (hact : s.chanActive p.ch = true)
    (hpause : s.dram.pausing.contains (subKey p.ch p.sub) = false) (hf : s.postponed p.ch p.rank < 4)
    (hrfm : s.rd (P.drc p.ch) R.drc_RFM_REQ = 0) (hgood : s.knownBad (P.drc p.ch) (lineOf a) = false) (hw : a.isWrite = false)
    (hthr : ∀ e ∈ actTable (s.actOf p) p.row, e.2 < s.rd (P.drc p.ch) R.drc_DARN_THR) : Does (.dramAccess a .correct) s fun t =>
      t.outbox = s.outbox ++ [.dramCmd p.ch Dk.act (p.key * 2 ^ 17 + p.row), .dramCmd p.ch Dk.read (lineOf a)] ∧
        t.actOf p = actTable (s.actOf p) p.row ∧ (s.frozen (P.drc p.ch) = false →
          t.ctr (P.drc p.ch) 0x040 = (s.ctr (P.drc p.ch) 0x040 + 1) % 2 ^ 64 ∧ t.ctr (P.drc p.ch) 0x050 = (s.ctr (P.drc p.ch) 0x050 + 1) % 2 ^ 64) ∧
        t = { s with dram := t.dram, outbox := t.outbox, ctrs := t.ctrs } := by
  refine ⟨s.rowDone p a, ?_, s.rowDone_outbox p a, s.rowDone_actOf p a, fun h => s.rowDone_ctr p a h (State.chanActive_lt hact),
    AccessFrame.rowDone s p a⟩
  rw [exec_dramAccess hp hact, hpause, if_neg Bool.false_ne_true, State.serveDram_read hf hrfm hgood hw hthr]

/-! ### Training and calibration -/

theorem dramRetrainCheck_pauses {s : State} {ch sub d : Nat} (hact : s.chanActive ch = true) (hsub : sub < 2)
    (hpause : s.dram.pausing.contains (subKey ch sub) = false) (hd : s.rd (P.drc ch) R.drc_RETRAIN_PS < d) :
    Does (.dramRetrainCheck ch sub d) s fun t =>
      t.dram.pausing = s.dram.pausing ++ [subKey ch sub] ∧ (t.rd (P.drc ch) R.common_INT_RAW).testBit 0 = true ∧
        t = { s with dram := { s.dram with pausing := t.dram.pausing }, regs := t.regs, ctrs := t.ctrs, outbox := t.outbox } ∧
        SameRegs s t [fkey (P.drc ch) R.common_INT_RAW 0] := by
  let u := { s with dram := { s.dram with pausing := s.dram.pausing ++ [subKey ch sub] } }
  have hexec : exec (.dramRetrainCheck ch sub d) s = .next (((u.send (.dramCmd ch Dk.retrain sub)).count (P.drc ch) 0x078).raise (P.drc ch) 0) :=
    congrArg Host.Outcome.next (State.whenB_true (by rw [hact, hpause]; simp [hsub, hd]) _)
  have hframe := (((RegFrame.refl u).send (.dramCmd ch Dk.retrain sub)).count (P.drc ch) 0x078).raise (P.drc ch) 0
  refine ⟨_, hexec, by rw [hframe.dram_eq], State.testBit_raise _ _ (by decide), ?_, ?_⟩
  · rw [hframe.dram_eq]
    exact hframe
  · have hsent : SameRegs s (u.send (.dramCmd ch Dk.retrain sub)) [fkey (P.drc ch) R.common_INT_RAW 0] := SameRegs.of_regs_eq rfl _
    exact (hsent.count _ _).raise (by simp) _

theorem State.foldl_zq (l : List Nat) : ∀ s : State,
    l.foldl (fun s ch => (s.send (.dramCmd ch Dk.zq 0)).send (.dramCmd ch Dk.zq 1)) s =
      { s with outbox := s.outbox ++ l.flatMap fun ch => [.dramCmd ch Dk.zq 0, .dramCmd ch Dk.zq 1] } := by
  induction l with
  | nil => intro s; simp
  | cons ch l ih => intro s; rw [List.foldl_cons, ih]; simp [State.send]

theorem zqCalibrationDue_now {s : State} (h : s.dram.pausing = []) : Does .zqCalibrationDue s fun t =>
    t.outbox = s.outbox ++ (s.dramSet.filter s.chanActive).flatMap (fun ch => [.dramCmd ch Dk.zq 0, .dramCmd ch Dk.zq 1]) ∧
      t = { s with outbox := t.outbox } := by
  have hall : s.zqAll = _ := State.foldl_zq (s.dramSet.filter s.chanActive) s
  refine ⟨s.zqAll, congrArg Host.Outcome.next (if_pos (by simp [h])), congrArg State.outbox hall, ?_⟩
  rw [hall]

section
variable {s : State} {ch sub : Nat} (hact : s.chanActive ch = true) (hsub : sub < 2)
include hact hsub

theorem caParityAlert_first (hlast : ∀ u, Tbl.at? s.dram.lastAlert (subKey ch sub) = some u → 1000 < s.rtcUs - u) :
    Does (.caParityAlert ch sub) s fun t =>
      Tbl.at? t.dram.lastAlert (subKey ch sub) = some s.rtcUs ∧ (t.rd (P.drc ch) R.common_INT_RAW).testBit 1 = true ∧
        t = { s with dram := { s.dram with lastAlert := t.dram.lastAlert }, regs := t.regs, ctrs := t.ctrs, outbox := t.outbox } := by
  let u := { s with dram := { s.dram with lastAlert := Tbl.put s.dram.lastAlert (subKey ch sub) s.rtcUs } }
  have hexec : exec (.caParityAlert ch sub) s = .next (((u.send (.dramCmd ch Dk.replay sub)).count (P.drc ch) 0x088).raise (P.drc ch) 1) := by
    refine congrArg Host.Outcome.next ((State.whenB_true (by rw [hact]; simp [hsub]) _).trans (if_neg ?_))
    split
    next w hw =>
      have := hlast w hw
      simp only [decide_eq_true_eq]
      omega
    next => exact Bool.false_ne_true
  have hframe := (((RegFrame.refl u).send (.dramCmd ch Dk.replay sub)).count (P.drc ch) 0x088).raise (P.drc ch) 1
  refine ⟨_, hexec, ?_, State.testBit_raise _ _ (by decide), ?_⟩
  · rw [hframe.dram_eq]
    exact (Tbl.at?_put _ _ _ _).trans (if_pos rfl)
  · rw [hframe.dram_eq]
    exact hframe

theorem caParityAlert_again {w : Nat} (hlast : Tbl.at? s.dram.lastAlert (subKey ch sub) = some w) (hw : s.rtcUs - w ≤ 1000) :
    ∃ v : State, v = { s with dram := v.dram } ∧
      exec (.caParityAlert ch sub) s = .next (((v.err (P.drc ch) 0x02 0 0).raise (P.drc ch) 3).fault' 0x08 (P.drc ch) ch 0) := by
  refine ⟨{ s with dram := { s.dram with lastAlert := Tbl.put s.dram.lastAlert (subKey ch sub) s.rtcUs } }, rfl, ?_⟩
  refine congrArg Host.Outcome.next ((State.whenB_true (by rw [hact]; simp [hsub]) _).trans (if_pos ?_))
  rw [hlast]
  exact decide_eq_true hw

end

/-! ### The arbitration epoch -/

/-- The share of the epoch recorded, and the shares begun anew. -/
def State.epochBegun (s : State) : State :=
  { s.recordImb with
    spool := { s.recordImb.spool with coreUs := [] }
    panels := { s.recordImb.panels with hostBytes := [], epochN := if s.recordImb.mode M.panel then s.recordImb.nActive else 1 }
    seam := { s.recordImb.seam with admitted := [] } }

/-- The registers of an epoch's share. -/
def State.imbNoted (s : State) : State :=
  (s.wr P.drm R.drm_IMB_PCT s.imbalance.2).wr P.drm R.drm_IMB_CH s.imbalance.1

/-- `t` is `s` but for DRAM's control, the registers, the counters and what has been sent. -/
def EpochFrame (s t : State) : Prop := t = { s with dram := t.dram, regs := t.regs, ctrs := t.ctrs, outbox := t.outbox }

theorem EpochFrame.trans {s t u : State} (h : EpochFrame s t) (g : EpochFrame t u) : EpochFrame s u :=
  Eq.trans g (congrArg (fun v : State => { v with dram := u.dram, regs := u.regs, ctrs := u.ctrs, outbox := u.outbox }) h)

theorem EpochFrame.spool_eq {s t : State} (h : EpochFrame s t) : t.spool = s.spool := by unfold EpochFrame at h; rw [h]
theorem EpochFrame.seam_eq {s t : State} (h : EpochFrame s t) : t.seam = s.seam := by unfold EpochFrame at h; rw [h]

theorem RegFrame.epoch {s t : State} (h : RegFrame s t) : EpochFrame s t := by
  rw [show t = _ from h]
  rfl

/-- An epoch above the threshold counted, and signalled where it is the first. -/
def State.imbSignal (s : State) (above first : Bool) : State :=
  (s.whenB above fun u => u.count P.drm 0x060).whenB first fun u => u.raise P.drm 0

section
variable (s : State)

theorem RegFrame.imbSignal (above first : Bool) : RegFrame s (s.imbSignal above first) :=
  ((RegFrame.refl s).whenB above ((RegFrame.refl s).count _ _)).whenB first (((RegFrame.refl s).whenB above ((RegFrame.refl s).count _ _)).raise _ _)

theorem State.rd_imbSignal (above first : Bool) {p : Nat} {f : Fld} (h : fkey P.drm R.common_INT_RAW 0 ≠ fkey p f 0) :
    (s.imbSignal above first).rd p f = s.rd p f := by
  cases above <;> cases first
  · rfl
  · exact State.rd_raise_ne _ _ h
  · exact State.rd_count ..
  · exact (State.rd_raise_ne _ _ h).trans (State.rd_count ..)

/-- The shares of the epoch as it ends: noted, and begun anew. -/
def State.imbCleared (s : State) : State :=
  { s.imbNoted with dram := { s.imbNoted.dram with bytes := [], imbRun := decide (s.rd P.drm R.drm_IMB_THR < s.imbalance.2) } }

theorem State.recordImb_eq : s.recordImb = s.imbCleared.imbSignal (decide (s.rd P.drm R.drm_IMB_THR < s.imbalance.2))
    (decide (s.rd P.drm R.drm_IMB_THR < s.imbalance.2) && !s.dram.imbRun) := rfl

theorem EpochFrame.recordImb : EpochFrame s s.recordImb := by
  rw [State.recordImb_eq]
  exact EpochFrame.trans (t := s.imbCleared) rfl (RegFrame.imbSignal _ _ _).epoch

theorem State.rd_recordImb {p : Nat} {f : Fld} (h : fkey P.drm R.common_INT_RAW 0 ≠ fkey p f 0) : s.recordImb.rd p f = s.imbNoted.rd p f := by
  rw [State.recordImb_eq, State.rd_imbSignal _ _ _ h]
  rfl

theorem State.recordImb_bytes : s.recordImb.dram.bytes = [] := by
  rw [State.recordImb_eq, (RegFrame.imbSignal _ _ _).dram_eq]
  rfl

/-- The share is noted on the DRM page alone. -/
theorem State.rd_recordImb_page {p : Nat} {f : Fld} (hp : P.drm ≠ p) (hf : f.off < 4096 ∧ f.lo < 32) : s.recordImb.rd p f = s.rd p f := by
  have hne {g : Fld} (hg : g.off < 4096 ∧ g.lo < 32) : fkey P.drm g 0 ≠ fkey p f 0 := fkey_ne_of_page hp ⟨hg.1, hf.1, hg.2, hf.2⟩
  rw [State.rd_recordImb _ (hne (by decide)), State.imbNoted, State.rd_wr_ne _ _ (hne (by decide)), State.rd_wr_ne _ _ (hne (by decide))]

theorem State.recordImb_signals (h : s.rd P.drm R.drm_IMB_THR < s.imbalance.2) (hr : s.dram.imbRun = false) :
    (s.recordImb.rd P.drm R.common_INT_RAW).testBit 0 = true := by
  rw [State.recordImb_eq, decide_eq_true h, hr]
  exact State.testBit_raise _ _ (by decide)

theorem State.recordImb_nActive : s.recordImb.nActive = s.nActive := by
  simp only [State.nActive, s.rd_recordImb_page (p := P.pan) (f := R.pan_ACTIVE_LO) (by decide) (by decide),
    s.rd_recordImb_page (p := P.pan) (f := R.pan_ACTIVE_HI) (by decide) (by decide)]

theorem State.recordImb_mode (b : Nat) : s.recordImb.mode b = s.mode b := by
  simp only [State.mode, s.rd_recordImb_page (p := P.mode) (f := R.mode_MODE_EN) (by decide) (by decide)]

end

theorem exec_arbitrationEpoch {s : State} (hq : s.power.seq = .run) :
    exec .arbitrationEpoch s = .next s.epochBegun.reclaimCheck.hemRetry.tryWrites :=
  congrArg Host.Outcome.next (State.whenB_true (by simp [State.fabricRuns, hq]) _)

theorem State.epochBegun_frame (s : State) : s.epochBegun = { s with
    regs := s.epochBegun.regs, ctrs := s.epochBegun.ctrs, outbox := s.epochBegun.outbox, dram := s.epochBegun.dram
    spool := { s.spool with coreUs := [] }, panels := s.epochBegun.panels, seam := { s.seam with admitted := [] } } := by
  have hspool : s.recordImb.spool = s.spool := (EpochFrame.recordImb s).spool_eq
  have hseam : s.recordImb.seam = s.seam := (EpochFrame.recordImb s).seam_eq
  have hbegun : s.epochBegun = { s.recordImb with
      spool := { s.spool with coreUs := [] }, panels := s.epochBegun.panels, seam := { s.seam with admitted := [] } } := by
    rw [← hspool, ← hseam]
    rfl
  exact hbegun.trans (congrArg (fun v : State => { v with
    spool := { s.spool with coreUs := [] }, panels := s.epochBegun.panels, seam := { s.seam with admitted := [] } }) (EpochFrame.recordImb s))

/-- Settles O38: each clause is the lemma above about its event. -/
theorem dramController : Obligations.DramController := by
  unfold Obligations.DramController
  refine fun s => ⟨fun ch rank ha hr hp => ⟨fun idle h d => dramRefreshDue_pulledIn ha hr hp d idle h,
      fun idle h => dramRefreshDue_demand ha hr hp idle h, fun h => dramRefreshDue_issued ha hr hp h⟩, rfl,
    fun a o p hp hact hpause => ?_,
    fun a p hp hact hpause hf hrfm hgood hw hthr => dramAccess_reads hp hact hpause hf hrfm hgood hw hthr,
    fun a o p hp hact hpause => ?_, fun ch sub d hact hsub hpause hd => dramRetrainCheck_pauses hact hsub hpause hd,
    fun ch sub d hd => congrArg Host.Outcome.next (State.whenB_false (by simp [Nat.not_lt.2 hd]) _), fun ch sub hpause hw hz => ?_,
    fun ch sub hpause => congrArg Host.Outcome.next (State.whenB_true hpause _), fun h => zqCalibrationDue_now h,
    fun h => congrArg Host.Outcome.next (if_neg (by simpa using h)), fun ch sub hact hsub hlast => caParityAlert_first hact hsub hlast,
    fun ch sub u hact hsub hlast hu => caParityAlert_again hact hsub hlast hu, fun ag ch sr hr hset => ?_, fun ag ch hr hset => ?_,
    fun hq => ⟨s.epochBegun, exec_arbitrationEpoch hq, ?_, ?_, s.recordImb_signals, s.recordImb_bytes, rfl, rfl, rfl, ?_, s.epochBegun_frame⟩⟩
  · rw [exec_dramAccess hp hact, hpause, if_neg Bool.false_ne_true]
  · rw [exec_dramAccess hp hact, hpause, if_pos rfl, State.waitDram]
  · refine congrArg Host.Outcome.next ((State.whenB_true hpause _).trans ((if_neg (by decide)).trans ?_))
    refine (congrArg State.retryDram (State.whenB_false ?_ _)).trans (State.retryDram_nil hw)
    simp [hz]
  · refine ⟨s.flag (P.drc ch) R.drc_CFG_REJ, ?_, State.rd_wr_same s (P.drc ch) R.drc_CFG_REJ 1, rfl, (SameRegs.refl s _).wr (by simp) 1⟩
    exact congrArg Host.Outcome.next ((State.gated_reaches hr _ _ _).trans (if_pos hset))
  · refine congrArg Host.Outcome.next ((State.gated_reaches hr _ _ _).trans ((if_neg (by rw [hset]; decide)).trans ?_))
    exact if_neg (by decide)
  · refine (s.rd_recordImb (p := P.drm) (f := R.drm_IMB_PCT) (by decide)).trans ?_
    exact (State.rd_wr_ne _ _ (by decide)).trans (State.rd_wr_same ..)
  · exact (s.rd_recordImb (p := P.drm) (f := R.drm_IMB_CH) (by decide)).trans (State.rd_wr_same ..)
  · show (if s.recordImb.mode M.panel then s.recordImb.nActive else 1) = _
    rw [s.recordImb_mode, s.recordImb_nActive]

end Sys2Proof.Machine
end

section
/-!
PROOFS. Panels: commands begun, resets and their steps, SQ_PANEL (R376, R378, R379, R382 to R386).
-/

namespace Sys2Proof.Machine

/-! ### One request to Thimble at a time -/

/-- A request to Thimble begun. -/
def State.beginReq (s : State) (r : ThmReq) : State :=
  match r with
  | .mailbox ag => s.startMailbox ag
  | .mode _ => s.startMode
  | .panel op => s.startPan op

/-- A request that finds Thimble idle begins at once. -/
theorem State.serialPut_idle {s : State} (h : ThmIdle s) (r : ThmReq) : s.serialPut r = State.serialNext 2 (s.beginReq r) := by
  obtain ⟨hqueue, hidle⟩ := h
  have hsame : ({ s with serial := { s.serial with queue := [] } } : State) = s := by rw [← hqueue]
  have hbusy : ¬({ s with serial := { s.serial with queue := [r] } } : State).serialBusy = true := by
    rw [show ({ s with serial := { s.serial with queue := [r] } } : State).serialBusy = s.serialBusy from rfl, hidle]
    decide
  have hput : s.serialPut r = State.serialNext 3 { s with serial := { s.serial with queue := [r] } } := by
    rw [State.serialPut, hqueue]
    rfl
  refine hput.trans ((if_neg hbusy).trans ?_)
  cases r with
  | mailbox ag => exact congrArg (fun u : State => State.serialNext 2 (u.startMailbox ag)) hsame
  | mode ag => exact congrArg (fun u : State => State.serialNext 2 u.startMode) hsame
  | panel op => exact congrArg (fun u : State => State.serialNext 2 (u.startPan op)) hsame

/-! ### PAN commands begun -/

/-- The state as a PAN command begins. -/
def State.panFrom (s : State) (op : Nat) : State := (s.wr P.pan R.pan_PAN_OP op).wr P.pan R.pan_PAN_BUSY 1

theorem State.rd_panFrom (s : State) (op : Nat) {p : Nat} {f : Fld} (ho : fkey P.pan R.pan_PAN_OP 0 ≠ fkey p f 0)
    (hb : fkey P.pan R.pan_PAN_BUSY 0 ≠ fkey p f 0) : (s.panFrom op).rd p f = s.rd p f :=
  (State.rd_wr_ne _ _ hb).trans (State.rd_wr_ne _ _ ho)

/-- The PAN commands with their operation. -/
def panCmds (ag : Agent) : List (Instr × Nat) := [(.panActivate ag, 0), (.panReset ag, 1), (.panRemove ag, 2)]

theorem exec_panCmd {ag : Agent} {x : Instr × Nat} (hx : x ∈ panCmds ag) (s : State) : exec x.1 s = .next (s.panCmd ag x.2) := by
  simp only [panCmds, List.mem_cons, List.not_mem_nil, or_false] at hx
  rcases hx with rfl | rfl | rfl <;> rfl

theorem panCmds_op {ag : Agent} {x : Instr × Nat} (hx : x ∈ panCmds ag) : x.2 < 3 := by
  simp only [panCmds, List.mem_cons, List.not_mem_nil, or_false] at hx
  rcases hx with rfl | rfl | rfl <;> simp

section
variable {s : State} {ag : Agent} {op : Nat} (hr : Reaches s ag P.pan) (ho : op < 3)
include hr

theorem State.panCmd_reaches : s.panCmd ag op = (s.wr P.pan R.pan_PAN_OP op).panGo op := State.gated_reaches hr _ _ _

theorem State.panCmd_busy (hb : s.rd P.pan R.pan_PAN_BUSY ≠ 0) :
    s.panCmd ag op = (s.wr P.pan R.pan_PAN_OP op).wr P.pan R.pan_PAN_RESULT 7 := by
  have hon : (s.wr P.pan R.pan_PAN_OP op).on P.pan R.pan_PAN_BUSY = true := (State.on_wr_ne _ _ (by decide)).trans (State.on_eq_true hb)
  rw [State.panCmd_reaches hr, State.panGo, if_pos hon]

include ho

theorem State.panCmd_idle (hb : s.rd P.pan R.pan_PAN_BUSY = 0) (hi : ThmIdle s) :
    s.panCmd ag op = State.serialNext 2 ((s.panFrom op).startPan op) := by
  have hoff : ¬(s.wr P.pan R.pan_PAN_OP op).on P.pan R.pan_PAN_BUSY = true := by
    rw [State.on_wr_ne _ _ (by decide), State.on_eq_false hb]
    decide
  rw [State.panCmd_reaches hr, State.panGo, if_neg hoff, if_neg (show op ≠ 3 by omega)]
  exact State.serialPut_idle (s := s.panFrom op) hi (.panel op)

end

/-- The first check that fails decides. -/
theorem State.startPan_panFrom (s : State) (op : Nat) : (s.panFrom op).startPan op =
    if s.mode M.panel = false then (s.panFrom op).panEnd 5
    else if op = 0 then
      if (s.panFrom op).panelActive (s.rd P.pan R.pan_PAN_ID) = true then (s.panFrom op).panEnd 1
      else if (s.panFrom op).pasidUsed (s.rd P.pan R.pan_NEW_PASID) = true then (s.panFrom op).panEnd 3
      else (s.panFrom op).activate (s.rd P.pan R.pan_PAN_ID) (s.rd P.pan R.pan_NEW_PASID)
    else if op = 2 ∧ s.rd P.pan R.pan_PAN_ID = 0 then (s.panFrom op).panEnd 4
    else if (s.panFrom op).panelActive (s.rd P.pan R.pan_PAN_ID) = false then (s.panFrom op).panEnd 2
    else (s.panFrom op).startReset (s.rd P.pan R.pan_PAN_ID) op := by
  have hmode : (s.panFrom op).mode M.panel = s.mode M.panel := by
    rw [State.mode, s.rd_panFrom op (by decide) (by decide), State.mode]
  simp only [State.startPan, hmode, s.rd_panFrom op (p := P.pan) (f := R.pan_PAN_ID) (by decide) (by decide),
    s.rd_panFrom op (p := P.pan) (f := R.pan_NEW_PASID) (by decide) (by decide), Bool.not_eq_true']

theorem panCmd_refused {s : State} {ag : Agent} {x : Instr × Nat} (hx : x ∈ panCmds ag) (hr : Reaches s ag P.pan)
    (hb : s.rd P.pan R.pan_PAN_BUSY ≠ 0) : Does x.1 s fun t => t.rd P.pan R.pan_PAN_RESULT = 7 ∧ t.rd P.pan R.pan_PAN_OP = x.2 ∧
      t = { s with regs := t.regs } ∧ SameRegs s t [fkey P.pan R.pan_PAN_OP 0, fkey P.pan R.pan_PAN_RESULT 0] := by
  refine ⟨_, (exec_panCmd hx s).trans (congrArg _ (State.panCmd_busy hr hb)), State.rd_wr_same .., ?_, rfl,
    ((SameRegs.refl s _).wr (by simp) _).wr (by simp) 7⟩
  rw [State.rd_wr_ne _ _ (by decide), State.rd_wr_same]
  have := panCmds_op hx
  exact Nat.mod_eq_of_lt (by simp only [R.pan_PAN_OP]; omega)

/-! ### The end and the start of a reset -/

theorem State.panEnd_does (s : State) (c : Nat) : let t := s.panEnd c
    t.rd P.pan R.pan_PAN_BUSY = 0 ∧ t.rd P.pan R.pan_PAN_RESULT = c % 256 ∧ t.serial = { s.serial with pan := none } ∧
      (t.rd P.pan R.common_INT_RAW).testBit (if c = 0 ∨ c = 6 then 0 else 1) = true ∧
      t = { s with serial := t.serial, regs := t.regs, outbox := t.outbox } := by
  let u := { (s.wr P.pan R.pan_PAN_BUSY 0).wr P.pan R.pan_PAN_RESULT c with serial := { s.serial with pan := none } }
  have hframe : RegFrame u (s.panEnd c) := (RegFrame.refl u).raise _ _
  refine ⟨?_, ?_, State.raise_serial .., State.testBit_raise _ _ (by split <;> decide), ?_⟩
  · rw [State.panEnd, State.rd_raise_own _ _ _ (by decide)]
    exact (State.rd_wr_ne (s.wr P.pan R.pan_PAN_BUSY 0) c (by decide)).trans (State.rd_wr_same ..)
  · rw [State.panEnd, State.rd_raise_own _ _ _ (by decide)]
    exact State.rd_wr_same (s.wr P.pan R.pan_PAN_BUSY 0) P.pan R.pan_PAN_RESULT c
  · have hserial : (s.panEnd c).serial = u.serial := State.raise_serial ..
    rw [hserial]
    exact hframe.uncounted (State.raise_ctrs ..)

theorem State.startReset_does {s : State} {p op : Nat} (h : 0 < s.rd P.pan R.pan_DRAIN_TMO_MS) : let t := s.startReset p op
    t.rdI P.pan R.pan_RESETTING p = 1 ∧ p ∈ t.panels.closed ∧ t.serial.pan = some ⟨p, op, 2, false⟩ ∧
      t = { s with panels := { s.panels with closed := t.panels.closed }, serial := { s.serial with pan := t.serial.pan }, regs := t.regs } ∧
      SameRegs s t [fkey P.pan R.pan_RESETTING p] := by
  let u := { s.wrI P.pan R.pan_RESETTING p 1 with
    panels := { s.panels with closed := s.panels.closed ++ [p] }, serial := { s.serial with pan := some ⟨p, op, 2, false⟩ } }
  have htmo : u.rd P.pan R.pan_DRAIN_TMO_MS = s.rd P.pan R.pan_DRAIN_TMO_MS := by
    refine State.rdI_wrI_ne s 1 ?_
    simp only [fkey, P.pan, R.pan_RESETTING, R.pan_DRAIN_TMO_MS]
    omega
  have hwait : (u.rd P.pan R.pan_DRAIN_TMO_MS == 0) = false := beq_eq_false_iff_ne.mpr (by omega)
  have hstart : s.startReset p op = u := by
    unfold State.startReset
    exact State.whenB_false hwait _
  rw [hstart]
  exact ⟨State.rdI_wrI_same .., by simp [u], rfl, rfl, (SameRegs.refl s _).wrI (by simp) 1⟩

/-! ### The steps of a reset -/

section
variable {s : State} {r : PanRun} (hr : s.serial.pan = some r) (n : Nat) (f : PanRun → State → State)
include hr

theorem State.panAt_at (h : r.step = n) : s.panAt n f = f r s := by
  simp only [State.panAt, hr, if_pos h]

theorem State.panAt_other (h : r.step ≠ n) : s.panAt n f = s := by
  simp only [State.panAt, hr, if_neg h]

end

theorem State.panAt_none {s : State} (h : s.serial.pan = none) (n : Nat) (f : PanRun → State → State) : s.panAt n f = s := by
  simp only [State.panAt, h]

theorem State.squashed_iff (s : State) (p : Nat) : s.squashed p = true ↔ ∀ e ∈ s.spool.items, e.2.panel ≠ p := by
  simp [State.squashed]

/-! ### SQ_PANEL -/

section
variable {s : State} {ag : Agent} {q p : Nat} (hlo : 1 ≤ q) (hhi : q ≤ 512) (hr : Reaches s ag P.pan)
include hlo hhi hr

theorem exec_sqPanelWrite : exec (.sqPanelWrite ag q p) s = .next (s.setSqPanel q p) :=
  congrArg Host.Outcome.next ((State.whenB_true (by simp [hlo, hhi]) _).trans (State.gated_reaches hr _ _ _))

theorem sqPanelWrite_refused (h : Tbl.has s.nvme.sqs q = true) : Does (.sqPanelWrite ag q p) s fun t =>
    t.rd P.pan R.pan_CFG_REJ = 1 ∧ t = { s with regs := t.regs } ∧ SameRegs s t [fkey P.pan R.pan_CFG_REJ 0] :=
  ⟨s.flag P.pan R.pan_CFG_REJ, (exec_sqPanelWrite hlo hhi hr).trans (congrArg _ (if_pos h)), State.rd_wr_same s P.pan R.pan_CFG_REJ 1, rfl,
    (SameRegs.refl s _).wr (by simp) 1⟩

theorem sqPanelWrite_set (hp : p < 64) (h : Tbl.has s.nvme.sqs q = false) : Does (.sqPanelWrite ag q p) s fun t =>
    t.rdI P.pan R.pan_SQ_PANEL q = p ∧ t = { s with regs := t.regs } ∧ SameRegs s t [fkey P.pan R.pan_SQ_PANEL q] :=
  ⟨s.wrI P.pan R.pan_SQ_PANEL q p, (exec_sqPanelWrite hlo hhi hr).trans (congrArg _ (if_neg (by simp [h]))),
    (State.rdI_wrI_same ..).trans (Nat.mod_eq_of_lt hp), rfl, (SameRegs.refl s _).wrI (by simp) p⟩

end

/-- Settles O57: each clause is the lemma above about its command or step. -/
theorem panels : Obligations.Panels := by
  unfold Obligations.Panels
  refine fun s => ⟨fun ag hr x hx => ⟨fun hb => panCmd_refused hx hr hb, fun hb hi => ?_⟩, fun c => s.panEnd_does c,
    fun p op h => State.startReset_does h, fun h => ?_, fun r hr => ⟨fun h2 => ⟨?_, ?_⟩, fun h3 => ?_, fun h6 => ?_, fun h6 => ?_⟩,
    fun ag q p hlo hhi hp hr => ⟨fun h => sqPanelWrite_refused hlo hhi hr h, fun h => sqPanelWrite_set hlo hhi hr hp h⟩⟩
  · exact (exec_panCmd hx s).trans (congrArg _ ((State.panCmd_idle hr (panCmds_op hx) hb hi).trans
      (congrArg (State.serialNext 2) (s.startPan_panFrom x.2))))
  · simp only [List.forall_mem_cons, List.not_mem_nil, false_imp_iff, implies_true, and_true]
    exact ⟨congrArg Host.Outcome.next (State.panAt_none h _ _), congrArg Host.Outcome.next (State.panAt_none h _ _),
      congrArg Host.Outcome.next (State.panAt_none h _ _), congrArg Host.Outcome.next (State.panAt_none h _ _)⟩
  · exact congrArg Host.Outcome.next (State.panAt_at hr _ _ h2)
  · exact congrArg Host.Outcome.next (State.panAt_at hr _ _ h2)
  · refine congrArg Host.Outcome.next ((State.panAt_at hr _ _ h3).trans ?_)
    simp only [State.squashed_iff]
  · exact congrArg Host.Outcome.next (State.panAt_at hr _ _ h6)
  · exact congrArg Host.Outcome.next (State.panAt_other hr _ _ h6)

end Sys2Proof.Machine
end

section
/-!
PROOFS. Mode changes, the mailbox and the restart of a Bobbin core (R391, R394, R474, R481 to R484).
-/

namespace Sys2Proof.Machine

/-! ### Requests for a change of modes -/

theorem State.modeCode_eq (s : State) : s.modeCode =
    if s.upState = false ∧ s.dev ≠ Dev.doze then 2 else if s.rd P.pat R.pat_PATTERN_DEFAULTED ≠ 0 then 3
    else if andNot (Nat.xor (s.rd P.mode R.mode_MODE_REQ) (s.rd P.mode R.mode_MODE_EN)) rtModes ≠ 0 then 1 else 0 := by
  simp only [State.modeCode, Bool.and_eq_true, Bool.not_eq_true', bne_iff_ne, State.on_iff]

theorem State.modeCode_busy (s : State) : (s.wr P.mode R.mode_REQ_BUSY 1).modeCode = s.modeCode := by
  have hdev : (s.wr P.mode R.mode_REQ_BUSY 1).dev = s.dev := State.dev_wr _ _ _ (by decide)
  simp (disch := decide) only [State.modeCode, State.upState, hdev, State.on_wr_ne, State.rd_wr_ne]
  rfl

/-- A request that the check of R394 refuses or lets through. -/
theorem State.startMode_busy (s : State) : let u := s.wr P.mode R.mode_REQ_BUSY 1
    u.startMode = if s.modeCode ≠ 0 then u.modeRefuse s.modeCode else u.startMode := by
  intro u
  have hcode : u.modeCode = s.modeCode := s.modeCode_busy
  split
  · next h => rw [State.startMode, hcode, if_pos h]
  · rfl

section
variable {s : State} {ag : Agent} (hne : ag ≠ .thimble) (hr : Reaches s ag P.mode) (hrun : s.power.seq = .run)
include hne hr hrun

theorem exec_reqGo : exec (.reqGo ag) s =
    .next (if s.on P.mode R.mode_REQ_BUSY then s.wr P.mode R.mode_REQ_RESULT 5 else (s.wr P.mode R.mode_REQ_BUSY 1).serialPut (.mode ag)) := by
  refine congrArg Host.Outcome.next ?_
  rw [State.wakeBy_run (.inl hrun), State.gated_reaches hr, State.modeGo, if_neg hne]

theorem reqGo_busy (hb : s.rd P.mode R.mode_REQ_BUSY ≠ 0) : Does (.reqGo ag) s fun t =>
    t.rd P.mode R.mode_REQ_RESULT = 5 ∧ t = { s with regs := t.regs } ∧ SameRegs s t [fkey P.mode R.mode_REQ_RESULT 0] :=
  ⟨_, (exec_reqGo hne hr hrun).trans (congrArg _ (if_pos (State.on_eq_true hb))), State.rd_wr_same .., rfl,
    (SameRegs.refl s _).wr (by simp) 5⟩

theorem exec_reqGo_idle (hb : s.rd P.mode R.mode_REQ_BUSY = 0) (hi : ThmIdle s) : let u := s.wr P.mode R.mode_REQ_BUSY 1
    exec (.reqGo ag) s = .next (State.serialNext 2 (if s.modeCode ≠ 0 then u.modeRefuse s.modeCode else u.startMode)) := by
  have hoff : ¬s.on P.mode R.mode_REQ_BUSY = true := by
    rw [State.on_eq_false hb]
    decide
  refine (exec_reqGo hne hr hrun).trans (congrArg _ ((if_neg hoff).trans ((State.serialPut_idle (s := s.wr P.mode R.mode_REQ_BUSY 1) hi (.mode ag)).trans ?_)))
  exact congrArg (State.serialNext 2) s.startMode_busy

end

/-! ### The steps of a change of modes -/

section
variable {s : State} {r : ModeRun}

theorem exec_modeDrainDone (hr : s.serial.mode = some r) (h0 : r.step = 0) :
    let idle := ((List.range 12).filter fun b => s.mode b && !r.target.testBit b).all fun b => s.modeIdle r.drain b
    exec .modeDrainDone s = .next (if idle = true then s.commitMode r else s) := by
  show execModeDrainDone s = _
  simp only [execModeDrainDone, hr, h0, true_and]

/-- The modes committed and enabled: the request is over. -/
def State.modeEnd (s : State) : State :=
  ((({ s with serial := { s.serial with mode := none } } : State).wr P.mode R.mode_REQ_BUSY 0).wr P.mode R.mode_REQ_RESULT 0
    |>.count P.mode 0x040).raise P.mode 0

theorem exec_modeEnableDone (hr : s.serial.mode = some r) (h1 : r.step = 1) : exec .modeEnableDone s = .next s.modeEnd.serialOn := by
  show execModeEnableDone s = _
  simp only [execModeEnableDone, hr, h1, if_true, State.modeEnd]

end

theorem State.modeEnd_does (s : State) : let v := s.modeEnd
    v.rd P.mode R.mode_REQ_BUSY = 0 ∧ v.rd P.mode R.mode_REQ_RESULT = 0 ∧ v.serial = { s.serial with mode := none } ∧
      (v.rd P.mode R.common_INT_RAW).testBit 0 = true ∧
      v = { s with serial := v.serial, regs := v.regs, ctrs := v.ctrs, outbox := v.outbox } := by
  let u : State := { s with serial := { s.serial with mode := none } }
  have hframe : RegFrame u s.modeEnd := (((RegFrame.refl u).wr _ _ _).wr _ _ _ |>.count _ _).raise _ _
  have hserial : s.modeEnd.serial = u.serial := by rw [State.modeEnd, State.raise_serial, State.count_serial]; rfl
  refine ⟨?_, ?_, hserial, State.testBit_raise _ _ (by decide), ?_⟩
  · rw [State.modeEnd, State.rd_raise_own _ _ _ (by decide), State.rd_count, State.rd_wr_ne _ _ (by decide)]
    exact State.rd_wr_same ..
  · rw [State.modeEnd, State.rd_raise_own _ _ _ (by decide), State.rd_count]
    exact State.rd_wr_same ..
  · rw [hserial]
    exact hframe

theorem exec_modeStep_none {s : State} (h : s.serial.mode = none) : exec .modeDrainDone s = .next s ∧ exec .modeEnableDone s = .next s := by
  refine ⟨?_, ?_⟩
  · show execModeDrainDone s = _
    simp only [execModeDrainDone, h]
  · show execModeEnableDone s = _
    simp only [execModeEnableDone, h]

/-! ### The mailbox's commands -/

/-- The commands with their number in MB_CMD. -/
noncomputable def mbCmds (ag : Agent) : List (Instr × Nat) :=
  [(.patternRead ag, 1), (.patternWrite ag, 2), (.keyUnlock ag, 3), (.keyLock ag, 4), (.keyPolicy ag, 5), (.fwWrite ag, 7)]

theorem exec_mbCmd {ag : Agent} {x : Instr × Nat} (hx : x ∈ mbCmds ag) (s : State) : exec x.1 s = .next (s.mbCmd ag x.2) := by
  simp only [mbCmds, List.mem_cons, List.not_mem_nil, or_false] at hx
  rcases hx with rfl | rfl | rfl | rfl | rfl | rfl <;> rfl

theorem mbCmds_lt {ag : Agent} {x : Instr × Nat} (hx : x ∈ mbCmds ag) : x.2 < 8 := by
  simp only [mbCmds, List.mem_cons, List.not_mem_nil, or_false] at hx
  rcases hx with rfl | rfl | rfl | rfl | rfl | rfl <;> simp

theorem mbCmd_rejected {s : State} {ag : Agent} {x : Instr × Nat} (hx : x ∈ mbCmds ag) (hr : Reaches s ag P.thm)
    (hb : s.rd P.thm R.thm_MB_BUSY ≠ 0) : Does x.1 s fun t => t.rd P.thm R.thm_MB_REJ = 1 ∧ t = { s with regs := t.regs } ∧
      SameRegs s t [fkey P.thm R.thm_MB_REJ 0, fkey P.thm R.thm_MB_CMD 0] := by
  have hbusy : (s.wr P.thm R.thm_MB_CMD x.2).on P.thm R.thm_MB_BUSY = true := (State.on_wr_ne _ _ (by decide)).trans (State.on_eq_true hb)
  have hcmd : s.mbCmd ag x.2 = (s.wr P.thm R.thm_MB_CMD x.2).flag P.thm R.thm_MB_REJ := by
    rw [State.mbCmd, State.gated_reaches hr, State.mbGo, if_pos hbusy]
  exact ⟨_, (exec_mbCmd hx s).trans (congrArg _ hcmd), State.rd_wr_same _ P.thm R.thm_MB_REJ 1, rfl,
    ((SameRegs.refl s _).wr (by simp) _).flag (by simp)⟩

section
variable (s : State) (c : Nat)

theorem State.mbAddr_mbFrom : (s.mbFrom c).mbAddr = s.mbAddr := by
  simp (disch := decide) only [State.mbAddr, State.rd_mbFrom_ne]

theorem State.patFinish_mbFrom (b : List Byte) : (s.mbFrom c).patFinish b = s.patFinish b := by
  rw [State.patFinish, State.rd_mbFrom_ne _ _ (by decide) (by decide)]
  rfl

/-- What each command does as it begins, by its number. -/
def State.mbBody (s : State) (c : Nat) : State :=
  match c with
  | 1 => (s.fabWrite s.mbAddr s.trust.pattern).mbEnd 0
  | 2 => s.mbPatWrite
  | 3 => s.mbUnlock
  | 4 => s.mbLock
  | 5 => s.mbPolicy
  | 6 => s.mbHem
  | 7 => s.mbFw
  | _ => s.mbEnd 9

theorem State.startMailbox_eq (ag : Agent) : s.startMailbox ag =
    if s.mbAllowed ag (s.rd P.thm R.thm_MB_CMD) = false then s.mbEnd 1 else s.mbBody (s.rd P.thm R.thm_MB_CMD) := by
  simp only [State.startMailbox, Bool.not_eq_true']
  rfl

theorem State.mbAllowed_mbFrom (ag : Agent) (n : Nat) : (s.mbFrom c).mbAllowed ag n = s.mbAllowed ag n := rfl

variable {c}

/-- A command that begins: denied to its issuer, or carried out. -/
theorem State.startMailbox_mbFrom (hc : c < 8) (ag : Agent) :
    (s.mbFrom c).startMailbox ag = if s.mbAllowed ag c = false then (s.mbFrom c).mbEnd 1 else (s.mbFrom c).mbBody c := by
  rw [State.startMailbox_eq, State.rd_mbFrom_cmd, State.mbAllowed_mbFrom, Nat.mod_eq_of_lt (by omega)]

end

section
variable {s : State} {ag : Agent} (hm : MbReady s ag) {x : Instr × Nat} (hx : x ∈ mbCmds ag)
include hm hx

theorem exec_mbCmd_ready : exec x.1 s = .next (State.serialNext 2 ((s.mbFrom x.2).startMailbox ag)) :=
  (exec_mbCmd hx s).trans (congrArg _ (State.mbCmd_ready hm x.2))

theorem exec_mbCmd_denied (ha : s.mbAllowed ag x.2 = false) : exec x.1 s = .next (State.serialNext 2 ((s.mbFrom x.2).mbEnd 1)) := by
  rw [exec_mbCmd_ready hm hx, State.startMailbox_mbFrom s (mbCmds_lt hx), if_pos ha]

/-- A command allowed does what its number says. -/
theorem exec_mbCmd_allowed (ha : s.mbAllowed ag x.2 = true) {c : Nat} (hc : x.2 = c) {t : State} (ht : (s.mbFrom c).mbBody c = t) :
    exec x.1 s = .next (State.serialNext 2 t) := by
  rw [exec_mbCmd_ready hm hx, State.startMailbox_mbFrom s (mbCmds_lt hx), if_neg (by simp [ha]), hc, ht]

end

/-! ### What each command does -/

section
variable {s : State}

theorem State.mbUnlock_defaulted (h : s.rd P.pat R.pat_PATTERN_DEFAULTED ≠ 0) : (s.mbFrom 3).mbUnlock = (s.mbFrom 3).mbEnd 5 := by
  refine if_pos (State.on_eq_true ?_)
  rwa [State.rd_mbFrom_ne _ _ (by decide) (by decide)]

section
variable (h : s.rd P.pat R.pat_PATTERN_DEFAULTED = 0) (hn : s.rd P.thm R.thm_MB_ARG0 < 1024)
include h hn

theorem State.mbUnlock_locked (hf : 8 ≤ (Tbl.at? s.trust.keyFails (s.rd P.thm R.thm_MB_ARG0)).getD 0) :
    (s.mbFrom 3).mbUnlock = (s.mbFrom 3).mbEnd 4 := by
  have hrd : (s.mbFrom 3).rd P.thm R.thm_MB_ARG0 = s.rd P.thm R.thm_MB_ARG0 := State.rd_mbFrom_ne _ _ (by decide) (by decide)
  have hpat : (s.mbFrom 3).on P.pat R.pat_PATTERN_DEFAULTED = false :=
    State.on_eq_false ((State.rd_mbFrom_ne _ _ (by decide) (by decide)).trans h)
  simp only [State.mbUnlock, hrd, hpat, Bool.false_eq_true, if_false, if_neg (Nat.not_le.mpr hn)]
  exact if_pos hf

/-- An unlock that fails: its count rises. -/
def State.unlockFailed (s : State) (n : Nat) : State :=
  (({ s with trust := { s.trust with keyFails := Tbl.put s.trust.keyFails n ((Tbl.at? s.trust.keyFails n).getD 0 + 1) } } : State).err
    P.thm 0x02 n 0).count P.thm 0x050

/-- An unlock with its secret read. -/
def State.unlockWith (s : State) (n : Nat) (key : Option (List Byte)) : State :=
  match key with
  | some z => (({ s with trust := { s.trust with keyFails := Tbl.del s.trust.keyFails n } } : State).kload n z).mbEnd 0
  | none => (s.unlockFailed n).mbEnd 3

theorem State.mbUnlock_reads (hf : (Tbl.at? s.trust.keyFails (s.rd P.thm R.thm_MB_ARG0)).getD 0 < 8) {k : List Byte}
    (hk : ∀ f, (s.mbFrom 3).blockRead s.mbAddr 32 f = f k (s.mbFrom 3)) : (s.mbFrom 3).mbUnlock =
      (s.mbFrom 3).unlockWith (s.rd P.thm R.thm_MB_ARG0) ((s.mbFrom 3).openKey (s.rd P.thm R.thm_MB_ARG0) (some k)) := by
  have hrd : (s.mbFrom 3).rd P.thm R.thm_MB_ARG0 = s.rd P.thm R.thm_MB_ARG0 := State.rd_mbFrom_ne _ _ (by decide) (by decide)
  have hpat : (s.mbFrom 3).on P.pat R.pat_PATTERN_DEFAULTED = false :=
    State.on_eq_false ((State.rd_mbFrom_ne _ _ (by decide) (by decide)).trans h)
  simp only [State.mbUnlock, hrd, hpat, Bool.false_eq_true, if_false, if_neg (Nat.not_le.mpr hn), State.mbAddr_mbFrom, hk]
  exact if_neg (Nat.not_le.mpr hf)

end

theorem State.unlockFailed_does (s : State) (n : Nat) : (s.unlockFailed n).trust.keySlots = s.trust.keySlots ∧
    Tbl.at? (s.unlockFailed n).trust.keyFails n = some ((Tbl.at? s.trust.keyFails n).getD 0 + 1) := by
  have htrust : (s.unlockFailed n).trust =
      { s.trust with keyFails := Tbl.put s.trust.keyFails n ((Tbl.at? s.trust.keyFails n).getD 0 + 1) } := by
    rw [State.unlockFailed, State.count_trust, State.err_trust]
  rw [htrust]
  exact ⟨rfl, (Tbl.at?_put ..).trans (if_pos rfl)⟩

theorem State.mbUnlock_ends {k : List Byte} {t : State → Prop} (n : Nat) (hx : t ((s.mbFrom 3).unlockWith n ((s.mbFrom 3).openKey n (some k)))) :
    ∃ w, t w ∧ match (s.mbFrom 3).openKey n (some k) with
      | some z => w = (({ s.mbFrom 3 with trust := { (s.mbFrom 3).trust with keyFails := Tbl.del s.trust.keyFails n } } : State).kload n z).mbEnd 0
      | none => ∃ v : State, w = v.mbEnd 3 ∧ v.trust.keySlots = s.trust.keySlots ∧
        Tbl.at? v.trust.keyFails n = some ((Tbl.at? s.trust.keyFails n).getD 0 + 1) := by
  refine ⟨_, hx, ?_⟩
  cases (s.mbFrom 3).openKey n (some k) with
  | some z => rfl
  | none => exact ⟨_, rfl, State.unlockFailed_does (s.mbFrom 3) n⟩

theorem State.mbLock_mbFrom (s : State) : (s.mbFrom 4).mbLock =
    if 1024 ≤ s.rd P.thm R.thm_MB_ARG0 then (s.mbFrom 4).mbEnd 9 else ((s.mbFrom 4).kzap (s.rd P.thm R.thm_MB_ARG0)).mbEnd 0 := by
  rw [State.mbLock, State.rd_mbFrom_ne _ _ (by decide) (by decide)]

theorem State.mbPolicy_closed (h : Tbl.at? s.trust.keySlots (s.rd P.thm R.thm_MB_ARG0 % 65536) = none) :
    (s.mbFrom 5).mbPolicy = (s.mbFrom 5).mbEnd 9 := by
  have hslot : Tbl.at? (s.mbFrom 5).trust.keySlots (s.rd P.thm R.thm_MB_ARG0 % 65536) = none := h
  simp only [State.mbPolicy, State.rd_mbFrom_ne s 5 (p := P.thm) (f := R.thm_MB_ARG0) (by decide) (by decide), hslot]

theorem State.mbPolicy_rewraps {k : List Byte} (hn : s.rd P.thm R.thm_MB_ARG0 < 1024)
    (h : Tbl.at? s.trust.keySlots (s.rd P.thm R.thm_MB_ARG0) = some k) :
    (s.mbFrom 5).mbPolicy = ((s.mbFrom 5).storeKey (s.rd P.thm R.thm_MB_ARG0) none k).mbEnd 0 := by
  have hslot : Tbl.at? (s.mbFrom 5).trust.keySlots (s.rd P.thm R.thm_MB_ARG0) = some k := h
  have hmod : s.rd P.thm R.thm_MB_ARG0 % 65536 = s.rd P.thm R.thm_MB_ARG0 := Nat.mod_eq_of_lt (by omega)
  have hrange : ¬(2 ^ 17 ≤ s.rd P.thm R.thm_MB_ARG0 ∨ 1024 ≤ s.rd P.thm R.thm_MB_ARG0) := by omega
  have hbit : ¬(s.rd P.thm R.thm_MB_ARG0).testBit 16 = true := by
    rw [Nat.testBit_lt_two_pow (by omega)]
    decide
  simp only [State.mbPolicy, State.rd_mbFrom_ne s 5 (p := P.thm) (f := R.thm_MB_ARG0) (by decide) (by decide), hmod, hslot, if_neg hrange, if_neg hbit]

theorem State.mbPatWrite_reads {b : List Byte} (hb : ∀ f, (s.mbFrom 2).blockRead s.mbAddr 4096 f = f b (s.mbFrom 2)) :
    (s.mbFrom 2).mbPatWrite = if patForm b = true then
      { s.mbFrom 2 with serial := { (s.mbFrom 2).serial with pat := some ⟨s.patFinish b, 1⟩ } } else (s.mbFrom 2).mbEnd 2 := by
  rw [State.mbPatWrite, State.mbAddr_mbFrom, hb, State.patFinish_mbFrom]

theorem State.mbFw_refused (h : 1 < s.rd P.thm R.thm_MB_ARG0 ∨ s.rd P.thm R.thm_MB_ARG1 = 0 ∨ slotSize < s.rd P.thm R.thm_MB_ARG1) :
    (s.mbFrom 7).mbFw = (s.mbFrom 7).mbEnd 9 := by
  rw [State.mbFw, State.rd_mbFrom_ne _ _ (by decide) (by decide), State.rd_mbFrom_ne _ _ (by decide) (by decide)]
  exact if_pos h

theorem State.mbFw_writes (hs : s.rd P.thm R.thm_MB_ARG0 ≤ 1) (hlo : 0 < s.rd P.thm R.thm_MB_ARG1) (hhi : s.rd P.thm R.thm_MB_ARG1 ≤ slotSize)
    {d : List Byte} (hd : ∀ f, (s.mbFrom 7).blockRead s.mbAddr (s.rd P.thm R.thm_MB_ARG1) f = f d (s.mbFrom 7)) :
    let r := ((s.mbFrom 7).norWrite (norSlot (s.rd P.thm R.thm_MB_ARG0)) d).commitFw (s.rd P.thm R.thm_MB_ARG0)
    (s.mbFrom 7).mbFw = r.2.mbEnd (if r.1 = true then 0 else 7) := by
  have hrange : ¬(1 < s.rd P.thm R.thm_MB_ARG0 ∨ s.rd P.thm R.thm_MB_ARG1 = 0 ∨ slotSize < s.rd P.thm R.thm_MB_ARG1) := by omega
  simp only [State.mbFw, State.rd_mbFrom_ne s 7 (p := P.thm) (f := R.thm_MB_ARG0) (by decide) (by decide),
    State.rd_mbFrom_ne s 7 (p := P.thm) (f := R.thm_MB_ARG1) (by decide) (by decide), State.mbAddr_mbFrom, if_neg hrange, hd]

end

theorem State.mbEnd_does (s : State) (c : Nat) : let t := s.mbEnd c
    t.rd P.thm R.thm_MB_BUSY = 0 ∧ t.rd P.thm R.thm_MB_RESULT = c % 256 ∧ t.serial = { s.serial with pat := none } ∧
      (t.rd P.thm R.common_INT_RAW).testBit (if c = 0 then 0 else 1) = true ∧
      t = { s with serial := t.serial, regs := t.regs, ctrs := t.ctrs, outbox := t.outbox } := by
  let u : State := { (s.wr P.thm R.thm_MB_BUSY 0).wr P.thm R.thm_MB_RESULT c with serial := { s.serial with pat := none } }
  have hbusy : u.rd P.thm R.thm_MB_BUSY = 0 :=
    (State.rd_wr_ne (s.wr P.thm R.thm_MB_BUSY 0) c (by decide)).trans (State.rd_wr_same ..)
  have hresult : u.rd P.thm R.thm_MB_RESULT = c % 256 := State.rd_wr_same (s.wr P.thm R.thm_MB_BUSY 0) P.thm R.thm_MB_RESULT c
  have hcounted : RegFrame u (u.count P.thm 0x040) := (RegFrame.refl u).count _ _
  have hs : { s with serial := u.serial, regs := (s.mbEnd c).regs, ctrs := (s.mbEnd c).ctrs, outbox := (s.mbEnd c).outbox } =
    { u with regs := (s.mbEnd c).regs, ctrs := (s.mbEnd c).ctrs, outbox := (s.mbEnd c).outbox } := rfl
  by_cases h : c = 0
  · have hend : s.mbEnd c = (u.count P.thm 0x040).raise P.thm 0 := if_pos h
    have hserial : (s.mbEnd c).serial = u.serial := by rw [hend, State.raise_serial, State.count_serial]
    have hframe : RegFrame u (s.mbEnd c) := hend ▸ hcounted.raise _ _
    refine ⟨?_, ?_, hserial, ?_, by rw [hserial]; exact hframe⟩
    · rw [hend, State.rd_raise_own _ _ _ (by decide), State.rd_count, hbusy]
    · rw [hend, State.rd_raise_own _ _ _ (by decide), State.rd_count, hresult]
    · rw [hend, if_pos h]
      exact State.testBit_raise _ _ (by decide)
  · have hend : s.mbEnd c = ((u.count P.thm 0x040).count P.thm 0x048).raise P.thm 1 := if_neg h
    have hserial : (s.mbEnd c).serial = u.serial := by rw [hend, State.raise_serial, State.count_serial, State.count_serial]
    have hframe : RegFrame u (s.mbEnd c) := hend ▸ (hcounted.count _ _).raise _ _
    refine ⟨?_, ?_, hserial, ?_, by rw [hserial]; exact hframe⟩
    · rw [hend, State.rd_raise_own _ _ _ (by decide), State.rd_count, State.rd_count, hbusy]
    · rw [hend, State.rd_raise_own _ _ _ (by decide), State.rd_count, State.rd_count, hresult]
    · rw [hend, if_neg h]
      exact State.testBit_raise _ _ (by decide)

/-! ### A pattern write -/

theorem State.patCopy_true (s : State) (r : PatWrite) : s.patCopy r true = s.norWrite (norPattern r.copy) r.block := rfl

theorem State.patCopy_false (s : State) (r : PatWrite) :
    s.patCopy r false = (s.drawFree 32768).2.norWrite (norPattern r.copy) (natLE 4096 (s.drawFree 32768).1) := rfl

theorem State.dev_norWrite (s : State) (a : Nat) (l : List Byte) : (s.norWrite a l).dev = s.dev := rfl

section
variable {s : State} {r : PatWrite} (hr : s.serial.pat = some r)
include hr

theorem exec_patternCopyProgrammed (ok : Bool) : exec (.patternCopyProgrammed ok) s = .next (let t := s.patCopy r ok
    if t.dev = Dev.ward then { t with serial := { t.serial with pat := none } }
    else if ok = false then (t.mbEnd 8).serialOn
    else if r.copy = 1 then { t with serial := { t.serial with pat := some { r with copy := 0 } } } else (t.mbEnd 0).serialOn) := by
  show execPatternCopyProgrammed ok s = _
  simp only [execPatternCopyProgrammed, hr, Bool.not_eq_true']

theorem patternCopy_programmed : let v := s.norWrite (norPattern r.copy) r.block
    (s.dev = Dev.ward → exec (.patternCopyProgrammed true) s = .next { v with serial := { v.serial with pat := none } }) ∧
    (v.dev ≠ Dev.ward → exec (.patternCopyProgrammed true) s = .next (if r.copy = 1 then
      { v with serial := { v.serial with pat := some { r with copy := 0 } } } else (v.mbEnd 0).serialOn)) := by
  have hdev : (s.patCopy r true).dev = s.dev := by rw [State.patCopy_true, State.dev_norWrite]
  refine ⟨fun h => ?_, fun h => ?_⟩
  · rw [exec_patternCopyProgrammed hr, if_pos (hdev.trans h), State.patCopy_true]
  · rw [exec_patternCopyProgrammed hr, if_neg (by rwa [State.patCopy_true]), if_neg (by decide), State.patCopy_true]

theorem patternCopy_failed (h : s.dev ≠ Dev.ward) : exec (.patternCopyProgrammed false) s =
    .next (((s.drawFree 32768).2.norWrite (norPattern r.copy) (natLE 4096 (s.drawFree 32768).1)).mbEnd 8).serialOn := by
  have hdev : (s.patCopy r false).dev = s.dev := by rw [State.patCopy_false, State.dev_norWrite, State.dev, State.rd_drawFree, State.dev]
  rw [exec_patternCopyProgrammed hr, if_neg (by rwa [hdev]), if_pos rfl, State.patCopy_false]

end

/-! ### The restart of a Bobbin core -/

/-- The restarts of the last hour. -/
def State.recentRestarts (s : State) : List Nat := s.trust.restarts.filter fun t => s.rtcUs < t + 3600000000

section
variable {s : State} {k : Nat} {c : Core} (hc : Tbl.at? s.cores (32 + k) = some c) (hk : k < 8) (hh : c.halted = true)
  (ha : s.pagesAwake = true) (hd : s.dev ≠ Dev.ward)
include hc hk hh ha hd

theorem exec_bobbinRestart (b : Bool) : exec (.bobbinRestart k b) s =
    .next (if b = false ∨ 3 ≤ s.recentRestarts.length then s.fault' 0x05 P.bob 0 0
      else ({ s with trust := { s.trust with restarts := s.recentRestarts ++ [s.rtcUs] } } : State).bobRestart k) := by
  show execBobbinRestart k b s = _
  simp only [execBobbinRestart, hc, hk, hh, ha, hd, true_and, ne_eq, not_false_eq_true, if_true, Bool.or_eq_true, Bool.not_eq_true',
    decide_eq_true_eq, State.recentRestarts]
  rfl

theorem bobbinRestart_does (hn : s.recentRestarts.length < 3) : Does (.bobbinRestart k true) s fun t =>
    t.trust = { s.trust with restarts := s.recentRestarts ++ [s.rtcUs] } ∧
      Tbl.at? t.cores (32 + k) = some { coreZero with psw := 0x1000, ls := c.ls, bits := c.bits, wins := c.wins, st := .run } ∧
      (t.rd P.thm R.common_INT_RAW).testBit 2 = true ∧ (∀ j, j ≠ 32 + k → Tbl.at? t.cores j = Tbl.at? s.cores j) ∧
      t = { s with trust := t.trust, cores := t.cores, regs := t.regs, ctrs := t.ctrs, outbox := t.outbox } := by
  let u : State := { s with trust := { s.trust with restarts := s.recentRestarts ++ [s.rtcUs] } }
  let v := u.setCore (32 + k) c.bobbinStart
  let t := (v.count P.thm 0x058).raise P.thm 2
  have hrestart : u.bobRestart k = t := by
    have hcore : Tbl.at? u.cores (32 + k) = some c := hc
    simp only [State.bobRestart, hcore]
    exact State.whenB_true hh _
  have hframe : RegFrame v t := ((RegFrame.refl v).count _ _).raise _ _
  have htrust : t.trust = u.trust := by rw [State.raise_trust, State.count_trust]; rfl
  have hcores : t.cores = Tbl.put s.cores (32 + k) c.bobbinStart := by rw [State.raise_cores, State.count_cores]; rfl
  refine ⟨t, ?_, htrust, ?_, State.testBit_raise _ _ (by decide), fun j hj => ?_, ?_⟩
  · rw [exec_bobbinRestart hc hk hh ha hd, if_neg (by simp; omega)]
    exact congrArg _ hrestart
  · rw [hcores, Tbl.at?_put, if_pos rfl]
    rfl
  · rw [hcores, Tbl.at?_put_ne _ _ hj.symm]
  · rw [htrust, hcores]
    exact hframe

end

/-! ### The obligation -/

/-- Settles O58: each clause is the lemma above about its command or step. -/
theorem modesAndMailbox : Obligations.ModesAndMailbox := by
  unfold Obligations.ModesAndMailbox
  refine fun s => ⟨fun ag hne hr hrun => ⟨reqGo_busy hne hr hrun, exec_reqGo_idle hne hr hrun⟩, s.modeCode_eq,
    fun r hr h0 => exec_modeDrainDone hr h0, fun r hr h1 => ⟨s.modeEnd, exec_modeEnableDone hr h1, s.modeEnd_does⟩, exec_modeStep_none,
    fun ag hr hb x hx => mbCmd_rejected hx hr hb, fun ag hm x hx => ⟨exec_mbCmd_denied hm hx, fun ha => ?_⟩, fun c => s.mbEnd_does c,
    fun r hr => ?_, fun k c b hc hk hh ha hd => ⟨fun h => ?_, fun hb hn => ?_⟩⟩
  · obtain ⟨i, c⟩ := x
    have hdoes {n : Nat} (hc : c = n) {t : State} (ht : (s.mbFrom n).mbBody n = t) : exec i s = .next (State.serialNext 2 t) :=
      exec_mbCmd_allowed hm hx ha hc ht
    refine ⟨?_, ?_, ?_, ?_, ?_, ?_, ?_, ?_, ?_, ?_⟩ <;> intro (hc : c = _) <;> subst hc
    · exact hdoes rfl (congrArg (fun a => ((s.mbFrom 1).fabWrite a s.trust.pattern).mbEnd 0) (s.mbAddr_mbFrom 1))
    · exact fun b hb => hdoes rfl (State.mbPatWrite_reads hb)
    · exact fun hd => hdoes rfl (State.mbUnlock_defaulted hd)
    · exact fun hd hn hf => hdoes rfl (State.mbUnlock_locked hd hn hf)
    · exact fun hd hn hf k hk => State.mbUnlock_ends (t := fun w => exec i s = .next (State.serialNext 2 w)) _
        (hdoes rfl (State.mbUnlock_reads hd hn hf hk))
    · exact hdoes rfl s.mbLock_mbFrom
    · exact fun hs => hdoes rfl (State.mbPolicy_closed hs)
    · exact fun k hn hs => hdoes rfl (State.mbPolicy_rewraps hn hs)
    · exact fun hs => hdoes rfl (State.mbFw_refused hs)
    · exact fun hs hlo hhi d hd => hdoes rfl (State.mbFw_writes hs hlo hhi hd)
  · obtain ⟨hward, hnext⟩ := patternCopy_programmed hr
    exact ⟨hward, hnext, patternCopy_failed hr⟩
  · exact (exec_bobbinRestart hc hk hh ha hd b).trans (congrArg _ (if_pos h))
  · rw [hb]
    exact bobbinRestart_does hc hk hh ha hd hn

end Sys2Proof.Machine
end

section
/-!
PROOFS. What Tracing leaves alone, and the dispatch of Spool items (R333 to R336, R344, R345).
-/

namespace Sys2Proof.Machine

/-! ### Tracing -/

/-- `t` is `s` but for what Tracing holds, and for what is counted, registered and sent. -/
def TraceFrame (s t : State) : Prop :=
  t = { s with spool := { s.spool with trcBuf := t.spool.trcBuf }, regs := t.regs, ctrs := t.ctrs, outbox := t.outbox }

theorem TraceFrame.refl (s : State) : TraceFrame s s := rfl

theorem TraceFrame.trans {s t u : State} (h : TraceFrame s t) (g : TraceFrame t u) : TraceFrame s u :=
  Eq.trans g (congrArg (fun v : State =>
    { v with spool := { v.spool with trcBuf := u.spool.trcBuf }, regs := u.regs, ctrs := u.ctrs, outbox := u.outbox }) h)

theorem RegFrame.traces {s t : State} (h : RegFrame s t) : TraceFrame s t := by
  have hspool : t.spool = s.spool := h.spool_eq
  rw [TraceFrame, hspool]
  exact h

theorem TraceFrame.spool_eq {s t : State} (h : TraceFrame s t) : t.spool = { s.spool with trcBuf := t.spool.trcBuf } := by
  unfold TraceFrame at h
  rw [h]

theorem State.trcPut_frame (s : State) (r : List Byte) : TraceFrame s (s.trcPut r) := by
  unfold State.trcPut
  split
  · exact (((RegFrame.refl s).count _ _).err _ _ _ _ |>.raise _ _).traces
  · rfl

theorem State.trace_frame (s : State) (dec n : Nat) (i : Item) (core info : Nat) : TraceFrame s (s.trace dec n i core info) := by
  unfold State.trace
  obtain h | h := State.whenB_cases s _ _ <;> rw [h]
  · rfl
  · exact s.trcPut_frame _

/-- With Tracing off nothing is recorded. -/
theorem State.trace_off {s : State} (h : s.rd P.trc R.trc_TRC_ON = 0) (dec n : Nat) (i : Item) (core info : Nat) :
    s.trace dec n i core info = s :=
  State.whenB_false (by rw [State.on_eq_false h, Bool.false_and]) _

/-! ### What a dispatch changes -/

/-- `t` is `s` but for Spool, and for what is counted, registered and sent. -/
def SpoolFrame (s t : State) : Prop := t = { s with spool := t.spool, regs := t.regs, ctrs := t.ctrs, outbox := t.outbox }

theorem TraceFrame.spoolFrame {s t : State} (h : TraceFrame s t) : SpoolFrame s t :=
  Eq.trans h (congrArg (fun x => { s with spool := x, regs := t.regs, ctrs := t.ctrs, outbox := t.outbox }) h.spool_eq.symm)

theorem SpoolFrame.withSpool {s t : State} (h : SpoolFrame s t) (x : Spool) : SpoolFrame s { t with spool := x } := by
  unfold SpoolFrame at h ⊢
  exact congrArg (fun v : State => { v with spool := x }) h

/-! ### The order of the dispatch (R335) -/

theorem mem_lowestList {e : Nat × Item} {l : List (Nat × Item)} (h : e ∈ lowestList l) : e ∈ l ∧ ∀ b ∈ l, e.2.list ≤ b.2.list := by
  unfold lowestList at h
  split at h
  · next m hm =>
    obtain ⟨hmem, heq⟩ := List.mem_filter.1 h
    obtain ⟨-, hmin⟩ := leastBy_some hm
    exact ⟨hmem, fun b hb => of_decide_eq_true heq ▸ hmin b hb⟩
  · cases h

theorem mem_lowestList_of_list_eq {e b : Nat × Item} {l : List (Nat × Item)} (h : e ∈ lowestList l) (hb : b ∈ l)
    (hlist : b.2.list = e.2.list) : b ∈ lowestList l := by
  unfold lowestList at h ⊢
  split at h
  · next m hm =>
    have heq : e.2.list = m.2.list := of_decide_eq_true (List.mem_filter.1 h).2
    exact List.mem_filter.2 ⟨hb, decide_eq_true (hlist.trans heq)⟩
  · cases h

theorem dispBefore_key {d : Bool} {s : State} {a b : Nat × Item} (h : dispBefore d s a b = true) : a.2.key ≤ b.2.key := by
  simp only [dispBefore, Bool.or_eq_true, decide_eq_true_eq, Bool.and_eq_true, beq_iff_eq] at h
  omega

theorem dispBefore_key_of_not {d : Bool} {s : State} {a b : Nat × Item} (h : ¬dispBefore d s a b = true) : b.2.key ≤ a.2.key := by
  simp only [dispBefore, Bool.or_eq_true, decide_eq_true_eq] at h
  omega

/-- The head of a list in the order of the dispatch has the least key. -/
theorem sortBy_dispBefore_head {d : Bool} {s : State} {l : List (Nat × Item)} : ∀ {a}, (sortBy (dispBefore d s) l).head? = some a →
    ∀ b ∈ l, a.2.key ≤ b.2.key := by
  induction l with
  | nil => exact fun h => nomatch h
  | cons x r ih =>
    intro a h b hb
    change (insertBy (dispBefore d s) x (sortBy (dispBefore d s) r)).head? = some a at h
    cases hr : sortBy (dispBefore d s) r with
    | nil =>
      have hnil : b ∉ r := fun hbr => by
        have hsorted := mem_sortBy (le := dispBefore d s).2 hbr
        rw [hr] at hsorted
        cases hsorted
      rw [hr] at h
      obtain rfl : x = a := Option.some.inj h
      obtain rfl := (List.mem_cons.1 hb).resolve_right hnil
      exact Nat.le_refl _
    | cons y t =>
      have hmin := ih (a := y) (by rw [hr]; rfl)
      rw [hr, insertBy] at h
      split at h <;> obtain rfl := Option.some.inj h <;> obtain rfl | hbr := List.mem_cons.1 hb
      · exact Nat.le_refl _
      · next hxy => exact Nat.le_trans (dispBefore_key hxy) (hmin b hbr)
      · next hxy => exact dispBefore_key_of_not hxy
      · exact hmin b hbr

theorem State.firstOf_some {s : State} {d : Bool} {l : List (Nat × Item)} {a : Nat × Item} (h : s.firstOf d l = some a) :
    a ∈ l ∧ ∀ b ∈ l, a.2.key ≤ b.2.key :=
  ⟨mem_sortBy.1 (List.mem_of_mem_head? h), sortBy_dispBefore_head h⟩

/-! ### The item and the core of a Shuttle dispatch -/

theorem State.mem_coresFor {s : State} {e : Nat × Item} {k : Nat} (h : k ∈ s.coresFor e) : s.coreFree k = true ∧ e.2.allows k = true := by
  have hmem : k ∈ s.freeCores.filter e.2.allows := by
    unfold State.coresFor at h
    split at h
    · exact (List.mem_filter.1 h).1
    · exact h
  obtain ⟨hfree, hallows⟩ := List.mem_filter.1 hmem
  exact ⟨(List.mem_filter.1 hfree).2, hallows⟩

/-- The item of the next Shuttle dispatch. -/
def State.pickItem (s : State) : Option (Nat × Item) :=
  let c := lowestList (s.programs.filter fun e => s.coresFor e ≠ [])
  if s.mode M.deadline then s.firstOf true c
  else match s.firstOf false (c.filter fun e => s.affine e.2) with
    | some e => some e
    | none => s.firstOf false c

/-- The core of free cores `f` that an item takes whose flow last ran on `last`. -/
def pickCore (f : List Nat) (last : Option Nat) : Nat :=
  match last with
  | none => f.headD 0
  | some l => if f.contains l then l else ((f.find? fun k => k / 4 = l / 4).getD (f.headD 0))

theorem State.shuttlePick_eq (s : State) : s.shuttlePick = s.pickItem.map fun e =>
    (e.1, e.2, pickCore (s.coresFor e) (if e.2.flow = 0 then none else Tbl.at? s.spool.lastCore e.2.flowKey)) := rfl

theorem headD_mem {f : List Nat} (h : f ≠ []) : f.headD 0 ∈ f := by
  cases f with
  | nil => exact absurd rfl h
  | cons k r => exact List.mem_cons_self

theorem pickCore_mem {f : List Nat} (h : f ≠ []) (last : Option Nat) : pickCore f last ∈ f := by
  cases last with
  | none => exact headD_mem h
  | some l =>
    rw [pickCore]
    split
    · next hl => exact List.contains_iff_mem.1 hl
    · cases hfind : f.find? fun k => k / 4 = l / 4 with
      | none => exact headD_mem h
      | some k => exact List.mem_of_find?_eq_some hfind

theorem State.pickItem_some {s : State} {e : Nat × Item} (h : s.pickItem = some e) :
    e ∈ lowestList (s.programs.filter fun e => s.coresFor e ≠ []) ∧ (s.mode M.deadline = true →
      ∀ b ∈ lowestList (s.programs.filter fun e => s.coresFor e ≠ []), e.2.key ≤ b.2.key) := by
  unfold State.pickItem at h
  simp only at h
  split at h
  · obtain ⟨hmem, hmin⟩ := State.firstOf_some h
    exact ⟨hmem, fun _ => hmin⟩
  · next hmode =>
    refine ⟨?_, fun hd => absurd hd hmode⟩
    split at h
    · next x hx =>
      obtain rfl := Option.some.inj h
      exact (List.mem_filter.1 (State.firstOf_some hx).1).1
    · exact (State.firstOf_some h).1

theorem State.shuttlePick_some {s : State} {n : Nat} {i : Item} {k : Nat} (h : s.shuttlePick = some (n, i, k)) :
    (n, i) ∈ s.spool.items ∧ i.kind = 1 ∧ s.eligible (n, i) = true ∧ s.coreFree k = true ∧ i.allows k = true ∧
      ∀ e ∈ s.programs, s.coresFor e ≠ [] → i.list ≤ e.2.list ∧ (s.mode M.deadline = true → e.2.list = i.list → i.key ≤ e.2.key) := by
  rw [State.shuttlePick_eq] at h
  obtain ⟨⟨n', i'⟩, hpick, heq⟩ := Option.map_eq_some_iff.1 h
  simp only [Prod.mk.injEq] at heq
  obtain ⟨rfl, rfl, rfl⟩ := heq
  obtain ⟨hlow, hkey⟩ := State.pickItem_some hpick
  obtain ⟨hmem, hlist⟩ := mem_lowestList hlow
  obtain ⟨hprog, hcores⟩ := List.mem_filter.1 hmem
  obtain ⟨hitem, hgo⟩ := List.mem_filter.1 hprog
  simp only [Bool.and_eq_true, beq_iff_eq] at hgo
  obtain ⟨hkind, helig⟩ := hgo
  obtain ⟨hfree, hallows⟩ := State.mem_coresFor (pickCore_mem (of_decide_eq_true hcores)
    (if i'.flow = 0 then none else Tbl.at? s.spool.lastCore i'.flowKey))
  have hcand {e : Nat × Item} (he : e ∈ s.programs) (hc : s.coresFor e ≠ []) : e ∈ s.programs.filter fun e => s.coresFor e ≠ [] :=
    List.mem_filter.2 ⟨he, decide_eq_true hc⟩
  exact ⟨hitem, hkind, helig, hfree, hallows, fun e he hc =>
    ⟨hlist e (hcand he hc), fun hd hl => hkey hd e (mem_lowestList_of_list_eq hlow (hcand he hc) hl)⟩⟩

/-! ### The dispatches of a cycle -/

/-- A Shuttle dispatch counted and traced. -/
def State.dispNoted (s : State) (n : Nat) (i : Item) (k : Nat) : State :=
  let last := i.flow != 0 && Tbl.at? s.spool.lastCore i.flowKey == some k
  let dec := if last then 0x04 else if i.aged then 0x05 else 0x03
  let s := s.count P.spl 0x050
  let s := (s.whenB last fun s => s.count P.spl 0x058).whenB (dec == 5) fun s => s.count P.spl 0x060
  s.trace dec n i k (s.waitUs i)

theorem State.dispNoted_frame (s : State) (n : Nat) (i : Item) (k : Nat) : TraceFrame s (s.dispNoted n i k) := by
  refine TraceFrame.trans (RegFrame.traces ?_) (State.trace_frame _ _ _ _ _ _)
  have hone : RegFrame s (s.count P.spl 0x050) := (RegFrame.refl s).count _ _
  exact (hone.whenB _ (hone.count _ _)).whenB _ ((hone.whenB _ (hone.count _ _)).count _ _)

section
variable {s : State} (hrun : s.splRuns = true)
include hrun

theorem exec_shuttleDispatch_none (h : s.shuttlePick = none) : exec .spoolShuttleDispatch s = .next s := by
  refine congrArg Host.Outcome.next ((State.whenB_true hrun _).trans ?_)
  simp only [h]

theorem exec_shuttleDispatch {n : Nat} {i : Item} {k : Nat} (h : s.shuttlePick = some (n, i, k)) : exec .spoolShuttleDispatch s =
    .next (State.updItem { s.dispNoted n i k with spool := { (s.dispNoted n i k).spool with
      coreItem := Tbl.put (s.dispNoted n i k).spool.coreItem k n
      lastCore := if i.flow = 0 then (s.dispNoted n i k).spool.lastCore else Tbl.put (s.dispNoted n i k).spool.lastCore i.flowKey k } } n
        fun i => { i with st := .dispatched, core := some k, unit := k }) := by
  refine congrArg Host.Outcome.next ((State.whenB_true hrun _).trans ?_)
  simp only [h]
  rfl

theorem shuttleDispatch_does {n : Nat} {i : Item} {k : Nat} (h : s.shuttlePick = some (n, i, k)) : Does .spoolShuttleDispatch s fun t =>
    t.spool.items = Tbl.upd s.spool.items n (fun i => { i with st := .dispatched, core := some k, unit := k }) ∧
      t.spool.coreItem = Tbl.put s.spool.coreItem k n ∧
      t.spool.lastCore = (if i.flow = 0 then s.spool.lastCore else Tbl.put s.spool.lastCore i.flowKey k) ∧
      t = { s with spool := t.spool, regs := t.regs, ctrs := t.ctrs, outbox := t.outbox } := by
  have hframe := s.dispNoted_frame n i k
  have hspool := hframe.spool_eq
  refine ⟨_, exec_shuttleDispatch hrun h, ?_, ?_, ?_, hframe.spoolFrame.withSpool _⟩ <;> simp only [State.updItem] <;> rw [hspool]

/-- A unit's dispatch counted and traced. -/
def State.unitNoted (s : State) (n : Nat) (i : Item) (u : Nat) : State :=
  ((s.count P.spl 0x050).trace 0x03 n i u (s.waitUs i)).whenB (i.kind == 2) fun s => s.count P.bob 0x040

theorem unitDispatch_does {n : Nat} {i : Item} (h : s.firstOf false (lowestList (s.spool.items.filter fun e =>
    e.2.kind != 1 && s.eligible e && (s.unitFor e.2).isSome)) = some (n, i)) : Does .spoolUnitDispatch s fun t =>
    ∃ u, s.unitFor i = some u ∧ t.spool.items = Tbl.upd s.spool.items n (fun i => { i with st := .dispatched, unit := u }) ∧
      t = { s with spool := t.spool, regs := t.regs, ctrs := t.ctrs, outbox := t.outbox } := by
  obtain ⟨-, hcand⟩ := List.mem_filter.1 (mem_lowestList (State.firstOf_some h).1).1
  obtain ⟨u, hu⟩ := Option.isSome_iff_exists.1 (Bool.and_eq_true _ _ |>.mp hcand).2
  have hexec : exec .spoolUnitDispatch s = .next ((s.unitNoted n i u).updItem n fun i => { i with st := .dispatched, unit := u }) := by
    refine congrArg Host.Outcome.next ((State.whenB_true hrun _).trans ?_)
    simp only [h, hu, Option.getD_some]
    rfl
  have hframe : TraceFrame s (s.unitNoted n i u) := by
    have htraced := ((RegFrame.refl s).count P.spl 0x050).traces.trans (State.trace_frame _ 0x03 n i u (s.waitUs i))
    unfold State.unitNoted
    obtain hb | hb := State.whenB_cases ((s.count P.spl 0x050).trace 0x03 n i u (s.waitUs i)) (i.kind == 2)
      fun s => s.count P.bob 0x040 <;> rw [hb]
    · exact htraced
    · exact htraced.trans ((RegFrame.refl _).count _ _).traces
  refine ⟨_, hexec, u, hu, ?_, hframe.spoolFrame.withSpool _⟩
  simp only [State.updItem]
  rw [hframe.spool_eq]

end

theorem exec_affinityAgeExpiry {s : State} {n : Nat} {i : Item} (h : s.item? n = some i) : exec (.affinityAgeExpiry n) s = .next
    (if i.st = .waiting ∧ i.kind = 1 ∧ s.rd P.spl R.spl_AFF_WAIT_US < s.waitUs i then s.updItem n (fun i => { i with aged := true }) else s) := by
  show execAffinityAgeExpiry n s = _
  simp only [execAffinityAgeExpiry, h, State.whenB, Bool.and_eq_true, beq_iff_eq, decide_eq_true_eq, and_assoc]

end Sys2Proof.Machine
end

section
/-!
PROOFS. Tasks started, items cancelled, Take-up and the ring of Tracing (R336 to R340, R342, R343, R345, R346).
-/

namespace Sys2Proof.Machine

/-! ### A task begun on its core (R336) -/

/-- Whether core `k`'s local store and bit space are cleared before a task of item `i`. -/
def State.taskClears (s : State) (i : Item) (k : Nat) : Bool :=
  s.on (P.shc (k / 4)) R.shc_CLR_ALWAYS || Tbl.at? s.spool.lastPanel k != some i.panel

/-- Core `k` with a task of item `i` on it. -/
def State.taskCore (s : State) (i : Item) (k : Nat) : Core :=
  let c := if s.taskClears i k then { s.core k with ls := [], bits := [] } else s.core k
  { startRegs i c with wins := s.panelWins i.panel, cplQ := i.heldCpls, st := .run, halted := false }

/-- The state with the task on its core. -/
def State.taskPlaced (s : State) (i : Item) (k : Nat) : State :=
  { s.setCore k (s.taskCore i k) with spool := { s.spool with lastPanel := Tbl.put s.spool.lastPanel k i.panel } }

/-- The state with the task begun: the core's data cache invalidated, and what is counted. -/
def State.taskBegun (s : State) (n : Nat) (i : Item) (k : Nat) : State :=
  (((((s.taskPlaced i k).dropLines (.shuttle k)).count (P.shc (k / 4)) 0x040).count (P.shc (k / 4)) 0x068).whenB (s.taskClears i k)
    fun s => s.count (P.shc (k / 4)) 0x050).updItem n fun i => { i with saved := none, heldCpls := [] }

theorem exec_program {s : State} {n : Nat} {i : Item} {k : Nat} (hq : Queued s n 1 i) (hk : i.core = some k) :
    exec (.program n) s = .next ((s.begun n).taskBegun n i k) := by
  refine congrArg Host.Outcome.next ((State.begin_queued hq _).trans ?_)
  simp only [hk, Option.getD_some]
  rfl

/-- `t` is `s` but for what is counted. -/
def CtrFrame (s t : State) : Prop := t = { s with ctrs := t.ctrs }

theorem CtrFrame.refl (s : State) : CtrFrame s s := rfl

theorem CtrFrame.count {s t : State} (h : CtrFrame s t) (p o : Nat) : CtrFrame s (t.count p o) :=
  Eq.trans (t.count_frame p o) (congrArg (fun v : State => { v with ctrs := (t.count p o).ctrs }) (show t = _ from h))

theorem State.taskBegun_eq (s : State) (n : Nat) (i : Item) (k : Nat) : s.taskBegun n i k =
    { ((s.taskPlaced i k).dropLines (.shuttle k)).updItem n (fun i => { i with saved := none, heldCpls := [] }) with
      ctrs := (s.taskBegun n i k).ctrs } := by
  have hcounted (u : State) : CtrFrame u (((u.count (P.shc (k / 4)) 0x040).count (P.shc (k / 4)) 0x068).whenB (s.taskClears i k)
      fun s => s.count (P.shc (k / 4)) 0x050) := by
    have htwo : CtrFrame u ((u.count (P.shc (k / 4)) 0x040).count (P.shc (k / 4)) 0x068) := ((CtrFrame.refl u).count _ _).count _ _
    obtain h | h := State.whenB_cases ((u.count (P.shc (k / 4)) 0x040).count (P.shc (k / 4)) 0x068) (s.taskClears i k)
      fun s => s.count (P.shc (k / 4)) 0x050 <;> rw [h]
    · exact htwo
    · exact htwo.count _ _
  exact congrArg (fun v : State => v.updItem n fun i => { i with saved := none, heldCpls := [] })
    (hcounted ((s.taskPlaced i k).dropLines (.shuttle k)))

/-- What a task begun leaves: its core, the panel it ran for, an empty data cache, and all else as it was. -/
theorem State.taskBegun_does (s : State) (n : Nat) (i : Item) (k : Nat) : let t := s.taskBegun n i k
    t.core k = s.taskCore i k ∧ Tbl.at? t.spool.lastPanel k = some i.panel ∧ (∀ j, j ≠ k → Tbl.at? t.cores j = Tbl.at? s.cores j) ∧
      (∀ line, t.heldLine k line = none) ∧ t = { s with cores := t.cores, spool := t.spool, ctrs := t.ctrs, caches := t.caches } := by
  have hcores : (s.taskBegun n i k).cores = Tbl.put s.cores k (s.taskCore i k) := by
    rw [State.taskBegun_eq]
    rfl
  have hlast : (s.taskBegun n i k).spool.lastPanel = Tbl.put s.spool.lastPanel k i.panel := by
    rw [State.taskBegun_eq]
    rfl
  have hcaches : (s.taskBegun n i k).caches = ((s.taskPlaced i k).dropLines (.shuttle k)).caches := by
    rw [State.taskBegun_eq]
    rfl
  refine ⟨?_, ?_, fun j hj => ?_, fun line => ?_, ?_⟩
  · rw [State.core, hcores, Tbl.at?_put, if_pos rfl]
    rfl
  · rw [hlast, Tbl.at?_put, if_pos rfl]
  · rw [hcores, Tbl.at?_put_ne _ _ hj.symm]
  · rw [State.heldLine, hcaches]
    exact (s.taskPlaced i k).heldLine_dropLines k line
  · obtain ⟨l, hdrop⟩ := (s.taskPlaced i k).dropLines_eq (.shuttle k)
    have h := s.taskBegun_eq n i k
    rw [hdrop] at h
    rw [h]
    rfl

/-- The core of a task that YIELD has not saved. -/
theorem State.taskCore_new (s : State) {i : Item} (hs : i.saved = none) (k : Nat) : let c := s.taskCore i k
    c.b = [BitVec.ofNat 64 i.arg0, BitVec.ofNat 64 i.arg1, BitVec.ofNat 64 i.arg2, 0, 0, 0, 0, BitVec.ofNat 64 (lsBase + 0x40000)] ∧
      c.pc = i.target ∧ c.psw = 0 ∧ c.rcnt = 0 ∧ c.fp = 0 ∧ c.st = .run ∧ c.halted = false ∧ c.wins = s.panelWins i.panel ∧
      c.cplQ = i.heldCpls ∧ c.ls = (if s.taskClears i k = true then [] else (s.core k).ls) ∧
      c.bits = (if s.taskClears i k = true then [] else (s.core k).bits) := by
  simp only [State.taskCore, startRegs, hs, true_and]
  cases s.taskClears i k <;> exact ⟨rfl, rfl⟩

theorem program_does {s : State} {n : Nat} {i : Item} {k : Nat} (hq : Queued s n 1 i) (hk : i.core = some k) (hs : i.saved = none) :
    Does (.program n) s fun t => let c := t.core k
      let clear := s.on (P.shc (k / 4)) R.shc_CLR_ALWAYS || Tbl.at? s.spool.lastPanel k != some i.panel
      c.b = [BitVec.ofNat 64 i.arg0, BitVec.ofNat 64 i.arg1, BitVec.ofNat 64 i.arg2, 0, 0, 0, 0, BitVec.ofNat 64 (lsBase + 0x40000)] ∧
        c.pc = i.target ∧ c.psw = 0 ∧ c.rcnt = 0 ∧ c.fp = 0 ∧ c.st = .run ∧ c.halted = false ∧ c.wins = s.panelWins i.panel ∧
        c.cplQ = i.heldCpls ∧ c.ls = (if clear = true then [] else (s.core k).ls) ∧ c.bits = (if clear = true then [] else (s.core k).bits) ∧
        Tbl.at? t.spool.lastPanel k = some i.panel ∧ (∀ j, j ≠ k → Tbl.at? t.cores j = Tbl.at? s.cores j) ∧
        (∀ line, t.heldLine k line = none) ∧ t = { s with cores := t.cores, spool := t.spool, ctrs := t.ctrs, caches := t.caches } := by
  obtain ⟨hcore, hlast, hcores, hlines, hframe⟩ := (s.begun n).taskBegun_does n i k
  obtain ⟨hb, hpc, hpsw, hrcnt, hfp, hst, hhalt, hwins, hcpl, hls, hbits⟩ := (s.begun n).taskCore_new hs k
  refine ⟨_, exec_program hq hk, ?_⟩
  simp only [hcore]
  exact ⟨hb, hpc, hpsw, hrcnt, hfp, hst, hhalt, hwins, hcpl, hls, hbits, hlast, hcores, hlines, hframe⟩

/-! ### Spool's registers written (R339, R340, R342, R346) -/

/-- The address at STG_REL. -/
def State.stgRel (s : State) : Nat := s.rd P.spl R.spl_STG_REL_LO + s.rd P.spl R.spl_STG_REL_HI * 2 ^ 32

/-- The release of a buffer that stands there, or of none. -/
def State.stgRelAt (s : State) (b : Option Nat) : State :=
  match b with
  | some b => s.stgRelease b
  | none => ((s.flag P.spl R.spl_STG_REL_BAD).err P.spl 0x02 0 s.stgRel).raise P.spl 3

/-- The release in terms of what stands at STG_REL. (The address is kept out of the kernel's evaluation: it is a sum with a literal 2^32.) -/
theorem State.stgRelGo_eq {s : State} {b : Option Nat} (ha : stgOfAddr s.stgRel = b) :
    s.stgRelGo = s.stgRelAt (b.filter fun b => Tbl.has s.stg.bufs b) := by
  unfold State.stgRel at ha
  suffices h : ∀ g, g = State.stgRelGo → g s = s.stgRelAt (b.filter fun b => Tbl.has s.stg.bufs b) from h _ rfl
  intro g hg
  delta State.stgRelGo at hg
  simp only [hg, ha]
  rfl

section
variable {s : State} {ag : Agent} (hr : Reaches s ag P.spl)
include hr

theorem exec_cancelGo : let r := s.cancelItem (s.rd P.spl R.spl_CANCEL_ITEM) Cs.cancelled
    exec (.cancelGo ag) s = .next ((r.2.wr P.spl R.spl_CANCEL_RESULT r.1).raise P.spl 1) :=
  congrArg Host.Outcome.next (State.gated_reaches hr _ _ _)

theorem exec_stgRelGo : exec (.stgRelGo ag) s = .next s.stgRelGo := congrArg Host.Outcome.next (State.gated_reaches hr _ _ _)

theorem exec_stgRelGo_held {b : Nat} (ha : stgOfAddr s.stgRel = some b) (hb : Tbl.has s.stg.bufs b = true) :
    exec (.stgRelGo ag) s = .next (s.stgRelease b) := by
  rw [exec_stgRelGo hr, State.stgRelGo_eq ha, Option.filter_some, if_pos hb, State.stgRelAt]

theorem stgRelGo_bad (ha : stgOfAddr s.stgRel = none) : Does (.stgRelGo ag) s fun t => t.rd P.spl R.spl_STG_REL_BAD = 1 ∧
    (t.rd P.spl R.common_INT_RAW).testBit 3 = true ∧ t = { s with regs := t.regs, outbox := t.outbox } := by
  have hgo : s.stgRelGo = ((s.flag P.spl R.spl_STG_REL_BAD).err P.spl 0x02 0 s.stgRel).raise P.spl 3 := by
    rw [State.stgRelGo_eq ha, Option.filter_none, State.stgRelAt]
  have hframe : RegFrame s (((s.flag P.spl R.spl_STG_REL_BAD).err P.spl 0x02 0 s.stgRel).raise P.spl 3) :=
    (((RegFrame.refl s).wr _ _ _).err _ _ _ _).raise _ _
  refine ⟨_, (exec_stgRelGo hr).trans (congrArg _ hgo), ?_, State.testBit_raise _ _ (by decide), hframe.uncounted ?_⟩
  · rw [State.rd_raise_own _ _ _ (by decide), State.rd_err_own _ _ _ _ _ (by decide)]
    exact State.rd_wr_same s P.spl R.spl_STG_REL_BAD 1
  · rw [State.raise_ctrs, State.err_ctrs]
    rfl

theorem exec_splCtrlEnClear (hen : s.en P.spl = true) : exec (.splCtrlEnClear ag) s = .next s.splDisable :=
  congrArg Host.Outcome.next ((State.gated_reaches hr _ _ _).trans (State.whenB_true hen _))

/-- CTRL.EN cleared, with dispatch going on for the items that wait or not. -/
def State.splOff (s : State) (drain : Bool) : State :=
  { s.wr P.spl R.common_EN 0 with spool := { s.spool with draining := drain } }

theorem splCtrlEnClear_does (hen : s.en P.spl = true) {drain : Bool} (h : s.splDisable = s.splOff drain) : Does (.splCtrlEnClear ag) s fun t =>
    t.en P.spl = false ∧ t.spool = { s.spool with draining := drain } ∧ t = { s with spool := t.spool, regs := t.regs } := by
  refine ⟨_, (exec_splCtrlEnClear hr hen).trans (congrArg _ h), ?_, rfl, rfl⟩
  exact State.on_eq_false (s := s.wr P.spl R.common_EN 0) (State.rd_wr_same ..)

end

theorem State.splDisable_drains {s : State} (h : s.rd P.spl R.common_DRAIN ≠ 0) : s.splDisable = s.splOff true :=
  if_pos ((State.on_wr_ne _ _ (by decide)).trans (State.on_eq_true h))

theorem State.splDisable_stops {s : State} (h : s.rd P.spl R.common_DRAIN = 0) (hw : ∀ e ∈ s.spool.items, e.2.st ≠ .waiting) :
    s.splDisable = s.splOff false := by
  have hoff : (s.wr P.spl R.common_EN 0).on P.spl R.common_DRAIN = false := (State.on_wr_ne _ _ (by decide)).trans (State.on_eq_false h)
  have hnone : (s.spool.items.filter fun e => e.2.st = .waiting) = [] :=
    List.filter_eq_nil_iff.2 fun e he => by simpa using hw e he
  have hitems : (s.wr P.spl R.common_EN 0).spool.items = s.spool.items := rfl
  rw [State.splDisable]
  simp only [hoff, hitems, hnone, Bool.false_eq_true, if_false, List.map_nil, List.foldl_nil]
  rfl

theorem exec_coreEnWrite {s : State} {ag : Agent} {c : Nat} (v : Nat) (hc : c < nClusters s.part) (hr : Reaches s ag (P.shc c)) :
    exec (.coreEnWrite ag c v) s = .next (s.wr (P.shc c) R.shc_CORE_EN v).dropCoreless :=
  congrArg Host.Outcome.next ((State.whenB_true (decide_eq_true hc) _).trans (State.gated_reaches hr _ _ _))

/-- Without PROGRAM items none is without a core. -/
theorem State.dropCoreless_none {s : State} (h : ∀ e ∈ s.spool.items, e.2.kind ≠ 1) : s.dropCoreless = s := by
  have hnone : (s.spool.items.filter fun e => e.2.st == .waiting && s.noCore e.2) = [] :=
    List.filter_eq_nil_iff.2 fun e he => by simp [State.noCore, h e he]
  rw [State.dropCoreless, hnone]
  rfl

/-! ### Items cancelled (R340) -/

section
variable {s : State} {n st : Nat} {i : Item}

theorem State.itemEnded_count (p o : Nat) : (s.count p o).itemEnded n i = s.itemEnded n i := by
  rw [State.itemEnded, State.count_spool, State.itemEnded]

theorem State.cancelItem_none (h : s.item? n = none) : s.cancelItem n st = (3, s) := by
  simp only [State.cancelItem, h]

variable (h : s.item? n = some i)
include h

theorem State.cancelItem_ended (he : s.itemEnded n i = true) : (s.cancelItem n st).1 = 1 := by
  simp only [State.cancelItem, h, State.itemEnded_count, he, if_true]

variable (he : s.itemEnded n i = false)
include he

theorem State.cancelItem_waiting (hst : i.st = .waiting ∨ i.st = .dispatched) :
    s.cancelItem n st = (0, ((s.count P.spl 0x068).trace 0x08 n i 0xFF 0).completeItem n st 0) := by
  simp only [State.cancelItem, h, State.itemEnded_count, he, Bool.false_eq_true, if_false, if_pos hst]

variable (hst : i.st = .running)
include hst

theorem State.cancelItem_dma (hk : i.kind = 6) : (s.cancelItem n st).1 = 0 ∧
    (s.cancelItem n st).2.spool.items = Tbl.upd s.spool.items n (fun i => { i with cancel := true }) := by
  have hrun : ¬(i.st = .waiting ∨ i.st = .dispatched) := by simp [hst]
  have hcancel : s.cancelItem n st = (0, ((s.count P.spl 0x068).trace 0x08 n i 0xFF 0).updItem n fun i => { i with cancel := true }) := by
    simp only [State.cancelItem, h, State.itemEnded_count, he, Bool.false_eq_true, if_false, if_neg hrun, if_neg (show i.kind ≠ 1 by omega),
      if_pos hk]
  have hframe := ((RegFrame.refl s).count P.spl 0x068).traces.trans (State.trace_frame _ 0x08 n i 0xFF 0)
  rw [hcancel]
  refine ⟨rfl, ?_⟩
  simp only [State.updItem]
  rw [hframe.spool_eq]

theorem State.cancelItem_unit (h1 : i.kind ≠ 1) (h6 : i.kind ≠ 6) : (s.cancelItem n st).1 = 2 := by
  have hrun : ¬(i.st = .waiting ∨ i.st = .dispatched) := by simp [hst]
  simp only [State.cancelItem, h, State.itemEnded_count, he, Bool.false_eq_true, if_false, if_neg hrun, if_neg h1, if_neg h6]

end

/-! ### The grants of a cycle (R343) -/

/-- The sources in the order of the rotation. -/
def rotation (p : Nat) : List Nat := (List.range 72).map fun k => (p + k) % 72

theorem mem_rotation {p x : Nat} : x ∈ rotation p ↔ x < 72 := by
  rw [rotation, List.mem_map]
  constructor
  · rintro ⟨k, -, rfl⟩
    exact Nat.mod_lt _ (by decide)
  · exact fun hx => ⟨(x + 72 - p % 72) % 72, List.mem_range.2 (Nat.mod_lt _ (by decide)), by omega⟩

theorem nodup_rotation (p : Nat) : (rotation p).Nodup :=
  List.Nodup.map_on (fun a ha b hb h => by
    have := List.mem_range.1 ha
    have := List.mem_range.1 hb
    omega) List.nodup_range

theorem State.tkuGrants_eq (s : State) : s.tkuGrants = ((rotation (s.rd P.tku R.tku_ROT_PTR)).filter s.requests).take 4 := rfl

theorem State.mem_tkuGrants {s : State} {x : Nat} (h : x ∈ s.tkuGrants) : x < 72 ∧ s.requests x = true := by
  rw [State.tkuGrants_eq] at h
  obtain ⟨hrot, hreq⟩ := List.mem_filter.1 (List.mem_of_mem_take h)
  exact ⟨mem_rotation.1 hrot, hreq⟩

theorem State.nodup_tkuGrants (s : State) : s.tkuGrants.Nodup := by
  rw [State.tkuGrants_eq]
  exact ((nodup_rotation _).filter _).sublist (List.take_sublist _ _)

/-- With a grant left over every source that presents a completion has one. -/
theorem State.tkuGrants_all {s : State} (h : s.tkuGrants.length < 4) {x : Nat} (hx : x < 72) (hr : s.requests x = true) : x ∈ s.tkuGrants := by
  rw [State.tkuGrants_eq] at h ⊢
  have hlen : ((rotation (s.rd P.tku R.tku_ROT_PTR)).filter s.requests).length ≤ 4 := by
    rw [List.length_take] at h
    omega
  rw [List.take_of_length_le hlen]
  exact List.mem_filter.2 ⟨mem_rotation.2 hx, hr⟩

theorem State.tkuGrants_bounds (s : State) : s.tkuGrants.length ≤ 4 ∧ s.tkuGrants.Nodup ∧ (∀ x ∈ s.tkuGrants, x < 72 ∧ s.requests x = true) ∧
    (s.tkuGrants.length < 4 → ∀ x, x < 72 → s.requests x = true → x ∈ s.tkuGrants) :=
  ⟨List.length_take_le _ _, s.nodup_tkuGrants, fun _ => State.mem_tkuGrants, fun h _ => State.tkuGrants_all h⟩

/-- The completion that a source presents. -/
def cplOf (l : List Cpl) (x : Nat) : Option Cpl := l.find? fun c => c.src = x

theorem cplOf_erase {c : Cpl} {x : Nat} (h : c.src ≠ x) (l : List Cpl) : cplOf (l.erase c) x = cplOf l x := by
  induction l with
  | nil => rfl
  | cons d r ih =>
    by_cases hd : d = c
    · rw [hd, List.erase_cons_head, cplOf, cplOf, List.find?_cons_of_neg (by simpa using h)]
    · rw [List.erase_cons_tail (by simpa using hd)]
      simp only [cplOf, List.find?_cons] at ih ⊢
      rw [ih]

theorem State.requests_iff (s : State) (x : Nat) : s.requests x = true ↔ ∃ c, cplOf s.spool.cpls x = some c := by
  rw [← Option.isSome_iff_exists, cplOf, List.find?_isSome, State.requests, List.any_eq_true]

theorem State.grantOne_some {s : State} {x : Nat} {c : Cpl} (h : cplOf s.spool.cpls x = some c) :
    s.grantOne x = { s with spool := { s.spool with cpls := s.spool.cpls.erase c, granted := s.spool.granted ++ [c] } } := by
  unfold cplOf at h
  simp only [State.grantOne, h]

/-- `t` is `s` but for the completions presented and granted. -/
def GrantFrame (s t : State) : Prop := t = { s with spool := { s.spool with cpls := t.spool.cpls, granted := t.spool.granted } }

theorem GrantFrame.trans {s t u : State} (h : GrantFrame s t) (g : GrantFrame t u) : GrantFrame s u :=
  Eq.trans g (congrArg (fun v : State => { v with spool := { v.spool with cpls := u.spool.cpls, granted := u.spool.granted } }) h)

/-- Distinct sources granted: the completion of each, in order. -/
theorem State.foldl_grantOne (g : List Nat) : ∀ s : State, g.Nodup → (∀ x ∈ g, s.requests x = true) → let t := g.foldl State.grantOne s
    t.spool.granted = s.spool.granted ++ g.filterMap (cplOf s.spool.cpls) ∧ t.spool.cpls.length + g.length = s.spool.cpls.length ∧
      GrantFrame s t := by
  induction g with
  | nil => exact fun s _ _ => ⟨(List.append_nil _).symm, rfl, rfl⟩
  | cons x r ih =>
    intro s hn hreq
    obtain ⟨hx, hr⟩ := List.nodup_cons.1 hn
    obtain ⟨c, hc⟩ := (s.requests_iff x).1 (hreq x List.mem_cons_self)
    have hsrc : c.src = x := of_decide_eq_true (List.find?_some (p := fun c : Cpl => decide (c.src = x)) hc)
    have hmem : c ∈ s.spool.cpls := List.mem_of_find?_eq_some hc
    have hother {y : Nat} (hy : y ∈ r) : cplOf (s.spool.cpls.erase c) y = cplOf s.spool.cpls y :=
      cplOf_erase (fun h => hx (by rwa [← hsrc, h])) _
    have hone := State.grantOne_some hc
    obtain ⟨hgranted, hlen, hframe⟩ := ih (s.grantOne x) hr fun y hy => by
      rw [State.requests_iff, hone, hother hy, ← State.requests_iff]
      exact hreq y (List.mem_cons_of_mem _ hy)
    refine ⟨hgranted.trans ?_, ?_, GrantFrame.trans ?_ hframe⟩
    · rw [hone, List.filterMap_cons_some hc, List.filterMap_congr fun y hy => hother hy, List.append_assoc]
      rfl
    · have herase : (s.grantOne x).spool.cpls.length + 1 = s.spool.cpls.length := by
        rw [hone]
        exact (congrArg (· + 1) (List.length_erase_of_mem hmem)).trans (Nat.sub_add_cancel (List.length_pos_of_mem hmem))
      rw [List.foldl_cons, List.length_cons]
      omega
    · rw [hone]
      rfl

/-- The grants of a cycle counted. -/
def State.grantsCounted (s : State) : State :=
  let held := ((List.range 72).filter s.requests).length - s.tkuGrants.length
  ((s.countN P.tku 0x040 s.tkuGrants.length).countN P.tku 0x050 held).whenB (s.tkuGrants.length == 4) fun s => s.count P.tku 0x048

theorem State.grantsCounted_frame (s : State) : CtrFrame s s.grantsCounted := by
  have hcountN {t : State} (h : CtrFrame s t) (p o n : Nat) : CtrFrame s (t.countN p o n) := by
    refine Eq.trans ?_ (congrArg (fun v : State => { v with ctrs := (t.countN p o n).ctrs }) (show t = _ from h))
    unfold State.countN
    split <;> rfl
  have htwo : CtrFrame s ((s.countN P.tku 0x040 s.tkuGrants.length).countN P.tku 0x050
      (((List.range 72).filter s.requests).length - s.tkuGrants.length)) := hcountN (hcountN (CtrFrame.refl s) _ _ _) _ _ _
  unfold State.grantsCounted
  obtain h | h := State.whenB_cases ((s.countN P.tku 0x040 s.tkuGrants.length).countN P.tku 0x050
    (((List.range 72).filter s.requests).length - s.tkuGrants.length)) (s.tkuGrants.length == 4) fun s => s.count P.tku 0x048 <;>
    simp only [h]
  · exact htwo
  · exact htwo.count _ _

theorem exec_takeupGrant {s : State} (hd : s.dev ≠ Dev.ward) {l : Nat} (hl : s.tkuGrants.getLast? = some l) : exec .takeupGrant s =
    .next ((s.tkuGrants.foldl State.grantOne s.grantsCounted).wr P.tku R.tku_ROT_PTR ((l + 1) % 72)) := by
  refine congrArg Host.Outcome.next ((State.whenB_true (bne_iff_ne.2 hd) _).trans ?_)
  simp only [hl]
  rfl

theorem takeupGrant_does {s : State} {l : Nat} (hd : s.dev ≠ Dev.ward) (hl : s.tkuGrants.getLast? = some l) : Does .takeupGrant s fun t =>
    t.spool.granted = s.spool.granted ++ s.tkuGrants.filterMap (fun x => s.spool.cpls.find? fun c => c.src = x) ∧
      t.spool.cpls.length + s.tkuGrants.length = s.spool.cpls.length ∧ t.rd P.tku R.tku_ROT_PTR = (l + 1) % 72 ∧
      t = { s with spool := { s.spool with cpls := t.spool.cpls, granted := t.spool.granted }, regs := t.regs, ctrs := t.ctrs } ∧
      SameRegs s t [fkey P.tku R.tku_ROT_PTR 0] := by
  have hcounted := s.grantsCounted_frame
  have hspool : s.grantsCounted.spool = s.spool := by
    unfold CtrFrame at hcounted
    rw [hcounted]
  have hregs : s.grantsCounted.regs = s.regs := by
    unfold CtrFrame at hcounted
    rw [hcounted]
  obtain ⟨hgranted, hlen, hframe⟩ := State.foldl_grantOne s.tkuGrants s.grantsCounted s.nodup_tkuGrants fun x hx => by
    rw [State.requests, hspool]
    exact (State.mem_tkuGrants hx).2
  rw [hspool] at hgranted hlen
  let g := s.tkuGrants.foldl State.grantOne s.grantsCounted
  have hg : g = { s with spool := { s.spool with cpls := g.spool.cpls, granted := g.spool.granted }, ctrs := s.grantsCounted.ctrs } :=
    Eq.trans hframe (congrArg (fun v : State => { v with spool := { v.spool with cpls := g.spool.cpls, granted := g.spool.granted } }) hcounted)
  have hgregs : g.regs = s.regs := by rw [hg]
  refine ⟨_, exec_takeupGrant hd hl, hgranted, hlen, ?_, ?_, ?_⟩
  · refine (State.rd_wr_same ..).trans (Nat.mod_eq_of_lt ?_)
    exact Nat.lt_trans (Nat.mod_lt _ (by decide)) (by decide)
  · have hctrs : g.ctrs = s.grantsCounted.ctrs := by rw [hg]
    rw [← hctrs] at hg
    have hall : g = { s with spool := { s.spool with cpls := g.spool.cpls, granted := g.spool.granted }, regs := g.regs, ctrs := g.ctrs } :=
      hg.trans (by rw [hgregs])
    exact congrArg (fun v : State => v.wr P.tku R.tku_ROT_PTR ((l + 1) % 72)) hall
  · exact (SameRegs.of_regs_eq hgregs _).wr (by simp) _

theorem exec_takeupGrant_none {s : State} (h : s.dev = Dev.ward ∨ s.tkuGrants = []) : exec .takeupGrant s = .next s := by
  refine congrArg Host.Outcome.next ?_
  by_cases hd : s.dev = Dev.ward
  · exact State.whenB_false (bne_eq_false_iff_eq.2 hd) _
  · refine (State.whenB_true (bne_iff_ne.2 hd) _).trans ?_
    simp only [h.resolve_left hd, List.getLast?_nil]

/-! ### Completions delivered (R338, R343) -/

theorem exec_completionDelivery_none {s : State} (h : s.spool.granted = []) : exec .completionDelivery s = .next s := by
  show execCompletionDelivery s = _
  simp only [execCompletionDelivery, h]

/-- A granted completion handed to its consumer. -/
def State.deliver (s : State) (c : Cpl) : State :=
  match c.item with
  | some n => s.completeItem n c.status c.result
  | none => if c.src = 61 ∧ c.info < 2 ^ 16 then s.cplToCore 32 (c.info + c.status * 2 ^ 16 + c.result * 2 ^ 24) else s

theorem exec_completionDelivery {s : State} {c : Cpl} {r : List Cpl} (h : s.spool.granted = c :: r) :
    exec .completionDelivery s = .next (({ s with spool := { s.spool with granted := r } } : State).deliver c) := by
  show execCompletionDelivery s = _
  simp only [execCompletionDelivery, h]
  rfl

theorem State.rd_fabWrite (s : State) (a : Nat) (l : List Byte) (p : Nat) (f : Fld) : (s.fabWrite a l).rd p f = s.rd p f := rfl

/-- The table of items without item `n`. -/
def State.itemGone (s : State) (n : Nat) : State :=
  { s with spool := { s.spool with items := Tbl.del s.spool.items n, coreItem := s.spool.coreItem.filter fun e => e.2 ≠ n } }

section
variable {s : State} {n : Nat} {i : Item} (hi : s.item? n = some i) (hc : i.core = none) (hf : i.flow = 0)
  (ht : s.rd P.trc R.trc_TRC_ON = 0) (st r : Nat)
include hi hc hf ht

/-- The end of an item that holds no core and is of no flow, with Tracing off: its completion is sent. -/
theorem State.completeItem_sends {u : State} (hu : (s.itemGone n).cplSend i st r (n + st * 2 ^ 16 + r % 2 ^ 40 * 2 ^ 24) = u)
    (hrd : u.rd P.trc R.trc_TRC_ON = s.rd P.trc R.trc_TRC_ON) : s.completeItem n st r = u := by
  unfold State.itemGone at hu
  simp only [State.completeItem, hi, hc, hf, hu]
  exact State.trace_off (hrd.trans ht) _ _ _ _ _

theorem State.completeItem_dropped (hto : i.cplTo = 1) : s.completeItem n st r = s.itemGone n := by
  refine State.completeItem_sends hi hc hf ht st r ?_ rfl
  rw [State.cplSend, if_neg (by omega), if_pos hto]

theorem State.completeItem_written (hto : i.cplTo = 2) :
    s.completeItem n st r = (s.itemGone n).fabWrite i.cplAddr (natLE 8 (n + st * 2 ^ 16 + r % 2 ^ 40 * 2 ^ 24)) := by
  refine State.completeItem_sends hi hc hf ht st r ?_ (State.rd_fabWrite ..)
  rw [State.cplSend, if_pos hto]

end

/-! ### The ring of Tracing (R345) -/

theorem exec_traceRecordAck_none {s : State} (h : s.spool.trcBuf = []) : exec .traceRecordAck s = .next s := by
  show execTraceRecordAck s = _
  simp only [execTraceRecordAck, h]

theorem exec_traceRecordAck {s : State} {b : List Byte} {r : List (List Byte)} (h : s.spool.trcBuf = b :: r) : let w := s.rd P.trc R.trc_TRC_WR
    let a := s.rd P.trc R.trc_TRC_BASE_LO + s.rd P.trc R.trc_TRC_BASE_HI * 2 ^ 32 + 16 * w
    ∀ v, v = (({ s with spool := { s.spool with trcBuf := r } } : State).busWrite 0 a b).count P.trc 0x040 →
      v.rd P.trx R.trx_TRX_EN = 0 →
      exec .traceRecordAck s = .next (v.wr P.trc R.trc_TRC_WR ((w + 1) % 2 ^ v.rd P.trc R.trc_TRC_LOG2)) := by
  intro w a v hv hoff
  show execTraceRecordAck s = _
  simp only [execTraceRecordAck, h]
  rw [← hv, State.whenB_false (State.on_eq_false hoff)]

/-- Settles O54: each clause is the lemma above about its command. -/
theorem spool : Obligations.Spool := by
  unfold Obligations.Spool
  refine fun s => ⟨fun hrun h => exec_shuttleDispatch_none hrun h, fun n i k hrun h => shuttleDispatch_does hrun h,
    fun n i k h => State.shuttlePick_some h, fun n i hrun h => unitDispatch_does hrun h, fun n i h => exec_affinityAgeExpiry h,
    fun n i k hq hk hs => program_does hq hk hs,
    fun ag hr => ⟨exec_cancelGo hr, ⟨fun b ha hb => exec_stgRelGo_held hr ha hb, stgRelGo_bad hr⟩,
      fun hen hd => splCtrlEnClear_does hr hen (State.splDisable_drains hd),
      fun hen hd hw => splCtrlEnClear_does hr hen (State.splDisable_stops hd hw)⟩,
    fun n st => ⟨State.cancelItem_none, fun i => State.cancelItem_ended, fun i => State.cancelItem_waiting,
      fun i => State.cancelItem_dma, fun i => State.cancelItem_unit⟩,
    fun ag c v hc hr => ⟨exec_coreEnWrite v hc hr, State.dropCoreless_none (s := s.wr (P.shc c) R.shc_CORE_EN v)⟩,
    s.tkuGrants_bounds, fun l hd hl => takeupGrant_does hd hl, exec_takeupGrant_none, exec_completionDelivery_none,
    fun c r h => exec_completionDelivery h,
    fun n i st r hi hc hf ht => ⟨State.completeItem_dropped hi hc hf ht st r, State.completeItem_written hi hc hf ht st r⟩,
    exec_traceRecordAck_none, fun b r h _ => exec_traceRecordAck h⟩

end Sys2Proof.Machine
end

section
/-!
PROOFS. The NVMe controller: CC.EN, doorbells, items admitted, Flush, a fetch that pauses, completions (R348, R352 to R355).
-/

namespace Sys2Proof.Machine

/-! ### The controller enabled (R352) -/

/-- The controller enabled, with its admin queue empty. -/
def State.controllerOn (s : State) : State :=
  { s with nvme := { s.nvme with
      ccEn := true
      csts := s.upState
      sqs := [(0, ⟨4096, 0, 0, 0, 0⟩)]
      cqs := [(0, ⟨4096, 0, 0, 0⟩)]
      cqHeld := [] } }

section
variable {s : State} (hrun : s.power.seq = .run) (hup : s.hostUp = true)
include hrun

theorem State.accessWake_run (ag : Agent) : s.accessWake ag = s := State.wakeBy_run (.inl hrun) _

include hup

theorem ccEnSet_does (hen : s.nvme.ccEn = false) (hd : s.dev ≠ Dev.ward) : Does .ccEnSet s fun t =>
    t.nvme.ccEn = true ∧ t.nvme.csts = s.upState ∧ t.nvme.sqs = [(0, ⟨4096, 0, 0, 0, 0⟩)] ∧ t.nvme.cqs = [(0, ⟨4096, 0, 0, 0⟩)] ∧
      t = { s with nvme := { s.nvme with ccEn := true, csts := s.upState, sqs := t.nvme.sqs, cqs := t.nvme.cqs, cqHeld := [] } } := by
  have hexec : exec .ccEnSet s = .next s.controllerOn := by
    refine congrArg Host.Outcome.next ?_
    rw [State.accessWake_run hrun, State.whenB_true (by simp [hup, hen, hd]), State.controllerOn]
  exact ⟨_, hexec, rfl, rfl, rfl, rfl, rfl⟩

/-! ### Doorbells (R348, R354) -/

variable (hen : s.nvme.ccEn = true)
include hen

section
variable {q v : Nat} {x : Sq} (hx : Tbl.at? s.nvme.sqs q = some x)
include hx

theorem exec_sqTailDoorbell : exec (.sqTailDoorbell q v) s = .next (if x.size ≤ v then s.nvmeEvent 0x00010100
    else { s with nvme := { s.nvme with sqs := Tbl.put s.nvme.sqs q { x with tail := v } } }) := by
  refine congrArg Host.Outcome.next ?_
  rw [State.accessWake_run hrun, State.whenB_true (by simp [hup, hen])]
  simp only [hx]

theorem sqTailDoorbell_invalid (hv : x.size ≤ v) (ha : s.nvme.aers = []) : Does (.sqTailDoorbell q v) s fun t =>
    t.nvme.events.length = s.nvme.events.length + 1 ∧ t = { s with nvme := { s.nvme with events := t.nvme.events } } := by
  have hevent : s.nvmeEvent 0x00010100 = { s with nvme := { s.nvme with events := s.nvme.events ++ [0x00010100] } } := by
    simp only [State.nvmeEvent, ha]
  refine ⟨_, exec_sqTailDoorbell hrun hup hen hx, ?_⟩
  rw [if_pos hv, hevent]
  exact ⟨List.length_append, rfl⟩

end

section
variable {q v : Nat} {x : Cq} (hx : Tbl.at? s.nvme.cqs q = some x) (hv : v < x.size)
include hx hv

theorem exec_cqHeadDoorbell : exec (.cqHeadDoorbell q v) s =
    .next (({ s with nvme := { s.nvme with cqs := Tbl.put s.nvme.cqs q { x with head := v } } } : State).cqDrain q) := by
  refine congrArg Host.Outcome.next ?_
  rw [State.accessWake_run hrun, State.whenB_true (by simp [hup, hen])]
  simp only [hx]
  exact if_neg (by omega)

theorem exec_cqHeadDoorbell_none (hh : s.nvme.cqHeld = []) : exec (.cqHeadDoorbell q v) s =
    .next { s with nvme := { s.nvme with cqs := Tbl.put s.nvme.cqs q { x with head := v } } } := by
  rw [exec_cqHeadDoorbell hrun hup hen hx hv]
  simp only [State.cqDrain, hh, List.filter_nil, List.foldl_nil]

end

end

/-- An entry posted to a queue with room. -/
theorem State.postCqe_room {s : State} {q : Nat} {x : Cq} (hx : Tbl.at? s.nvme.cqs q = some x) (hr : x.room = true)
    (hh : ∀ e ∈ s.nvme.cqHeld, e.1 ≠ q) (o : Output) : s.postCqe q o =
      (({ s with nvme := { s.nvme with cqs := Tbl.put s.nvme.cqs q { x with tail := (x.tail + 1) % x.size } } } : State).send o).send
        (.msix 0 x.vec) := by
  have hnone : (s.nvme.cqHeld.any fun e => e.1 = q) = false := List.any_eq_false.2 fun e he => by simpa using hh e he
  simp only [State.postCqe, hx, hr, hnone]
  exact if_pos rfl

theorem cqHeadDoorbell_posts {s : State} {q v : Nat} {x : Cq} {o : Output} (hrun : s.power.seq = .run) (hup : s.hostUp = true)
    (hen : s.nvme.ccEn = true) (hx : Tbl.at? s.nvme.cqs q = some x) (hv : v < x.size) (hh : s.nvme.cqHeld = [(q, o)])
    (hroom : (x.tail + 1) % x.size ≠ v) : Does (.cqHeadDoorbell q v) s fun t =>
      t.outbox = s.outbox ++ [o, .msix 0 x.vec] ∧ Tbl.at? t.nvme.cqs q = some { x with head := v, tail := (x.tail + 1) % x.size } ∧
        t = { s with nvme := { s.nvme with cqs := t.nvme.cqs, cqHeld := [] }, outbox := t.outbox } := by
  let u : State := { s with nvme := { s.nvme with cqs := Tbl.put s.nvme.cqs q { x with head := v }, cqHeld := [] } }
  have hdrain : ({ s with nvme := { s.nvme with cqs := Tbl.put s.nvme.cqs q { x with head := v } } } : State).cqDrain q = u.postCqe q o := by
    simp [State.cqDrain, hh, u]
  have hpost := State.postCqe_room (s := u) (x := { x with head := v }) ((Tbl.at?_put ..).trans (if_pos rfl)) (bne_iff_ne.2 hroom)
    (by simp [u]) o
  refine ⟨_, (exec_cqHeadDoorbell hrun hup hen hx hv).trans (congrArg _ (hdrain.trans hpost)), ?_, (Tbl.at?_put ..).trans (if_pos rfl), rfl⟩
  exact List.append_assoc ..

/-! ### Items admitted (R354) -/

theorem exec_nvmeItemAdmit_none {s : State} (h : ∀ k ∈ s.spool.heldCmds, ∀ c, Tbl.at? s.nvme.cmds k = some c → s.splRoom (c.toItem k) = false) :
    exec .nvmeItemAdmit s = .next s := by
  have hnone : (s.spool.heldCmds.find? fun k => (Tbl.at? s.nvme.cmds k).any fun c => s.splRoom (c.toItem k)) = none := by
    rw [List.find?_eq_none]
    intro k hk
    cases hc : Tbl.at? s.nvme.cmds k with
    | none => simp
    | some c => simp [h k hk c hc]
  show execNvmeItemAdmit s = _
  simp only [execNvmeItemAdmit, hnone]

theorem exec_nvmeItemAdmit_first {s : State} {k : Nat} {l : List Nat} {c : Cmd} (hk : s.spool.heldCmds = k :: l)
    (hc : Tbl.at? s.nvme.cmds k = some c) (hr : s.splRoom (c.toItem k) = true) : exec .nvmeItemAdmit s =
      .next (({ s with spool := { s.spool with heldCmds := s.spool.heldCmds.filter (· ≠ k) } } : State).admitItem k c) := by
  have hfirst : (s.spool.heldCmds.find? fun k => (Tbl.at? s.nvme.cmds k).any fun c => s.splRoom (c.toItem k)) = some k := by
    rw [hk]
    exact List.find?_cons_of_pos (by simp [hc, hr])
  show execNvmeItemAdmit s = _
  simp only [execNvmeItemAdmit, hfirst, hc]

/-! ### Flush, and a fetch that pauses (R354, R355) -/

theorem exec_flush {s : State} {h : Hdr} {p : Nat} (hf : Fetches s h p) (ha : s.onAdmin h = false) :
    exec (.flush h) s = .next ((s.fetched h).reply h St.ok 0 0) := congrArg Host.Outcome.next (State.ioCmd_fetched hf ha _)

theorem exec_flush_onAdmin {s : State} {h : Hdr} {p : Nat} (hf : Fetches s h p) (ha : s.onAdmin h = true) :
    exec (.flush h) s = .next ((s.fetched h).reply h St.badOpcode 0 0) := by
  refine congrArg Host.Outcome.next ?_
  rw [State.ioCmd, State.fetch_ready hf, State.fetched_onAdmin, if_pos ha]

/-- At the limit of outstanding commands fetch pauses, whatever the command. -/
theorem State.fetch_full {s : State} {h : Hdr} {p : Nat} (hp : s.fetchPanel h = some p) (hr : s.power.seq = .run) (hup : s.upState = true)
    (hpf : s.seam.pfailHold = false) (hcl : s.panels.closed.contains p = false) (hroom : s.cmdRoom p = false) (f : Nat → State → State) :
    s.fetch h f = (s.wr P.nvm R.nvm_FETCH_PAUSED 1).raise P.nvm 0 := by
  have hopen : p ∉ s.panels.closed := by simpa using hcl
  simp [State.fetch, hp, State.wakeBy_run (.inl hr), hr, hup, hpf, hopen, hroom]

theorem flush_pauses {s : State} {h : Hdr} {p : Nat} (hp : s.fetchPanel h = some p) (hr : s.power.seq = .run) (hup : s.upState = true)
    (hpf : s.seam.pfailHold = false) (hcl : s.panels.closed.contains p = false) (hroom : s.cmdRoom p = false) : Does (.flush h) s fun t =>
      t.rd P.nvm R.nvm_FETCH_PAUSED = 1 ∧ (t.rd P.nvm R.common_INT_RAW).testBit 0 = true ∧ t = { s with regs := t.regs, outbox := t.outbox } ∧
        SameRegs s t [fkey P.nvm R.nvm_FETCH_PAUSED 0, fkey P.nvm R.common_INT_RAW 0] := by
  have hframe : RegFrame s ((s.wr P.nvm R.nvm_FETCH_PAUSED 1).raise P.nvm 0) := ((RegFrame.refl s).wr _ _ _).raise _ _
  refine ⟨_, congrArg Host.Outcome.next (State.fetch_full hp hr hup hpf hcl hroom _), ?_, State.testBit_raise _ _ (by decide),
    hframe.uncounted (State.raise_ctrs ..), ((SameRegs.refl s _).wr (by simp) 1).raise (by simp) 0⟩
  rw [State.rd_raise_own _ _ _ (by decide)]
  exact State.rd_wr_same s P.nvm R.nvm_FETCH_PAUSED 1

/-! ### Completions (R348, R371) -/

theorem reply_tcp_does {s : State} {h : Hdr} {c : Nat} (hs : h.src = .tcp c) (hc : Tbl.has s.net.conns c = true) (st a b : Nat) :
    let t := s.reply h st a b
    t.outbox = s.outbox ++ [.tcpResp c h.cid st a b] ∧ t = { s with ctrs := t.ctrs, outbox := t.outbox } := by
  have hcount := s.count_frame P.nvm 0x040
  rw [State.reply_tcp hs hc, hcount]
  exact ⟨rfl, rfl⟩

theorem reply_pcie_does {s : State} {h : Hdr} {x : Cq} (hs : h.src = .pcie) (hx : Tbl.at? s.nvme.cqs (s.cqOf h.q) = some x)
    (hr : x.room = true) (hh : ∀ e ∈ s.nvme.cqHeld, e.1 ≠ s.cqOf h.q) (st a b : Nat) : let t := s.reply h st a b
    t.outbox = s.outbox ++ [.nvmeCqe (s.cqOf h.q) h.cid st a b, .msix 0 x.vec] ∧
      t = { s with ctrs := t.ctrs, outbox := t.outbox, nvme := { s.nvme with cqs := t.nvme.cqs } } := by
  have hcount := s.count_frame P.nvm 0x040
  have hcq : (s.count P.nvm 0x040).cqOf h.q = s.cqOf h.q := by rw [State.cqOf, State.count_nvme, State.cqOf]
  have hreply : s.reply h st a b = (s.count P.nvm 0x040).postCqe (s.cqOf h.q) (.nvmeCqe (s.cqOf h.q) h.cid st a b) := by
    simp only [State.reply, hs, hcq]
  rw [hreply, State.postCqe_room (by rw [State.count_nvme, hx]) hr (by rwa [State.count_nvme]), hcount]
  exact ⟨List.append_assoc .., rfl⟩

/-- Settles O40: each clause is the lemma above about its command. -/
theorem nvmeControl : Obligations.NvmeControl := by
  unfold Obligations.NvmeControl
  refine fun s => ⟨ccEnSet_does, fun q v x hrun hup hen hx hv => ?_, fun q v x hrun hup hen hx hv ha => sqTailDoorbell_invalid hrun hup hen hx hv ha,
    fun q v x hrun hup hen hx hv hh => exec_cqHeadDoorbell_none hrun hup hen hx hv hh,
    fun q v x o hrun hup hen hx hv hh hroom => cqHeadDoorbell_posts hrun hup hen hx hv hh hroom, exec_nvmeItemAdmit_none,
    fun k l c hk hc hr => exec_nvmeItemAdmit_first hk hc hr, fun h p hf ha => exec_flush hf ha, fun h p hf ha => exec_flush_onAdmin hf ha,
    fun h p hp hr hup hpf hcl hroom => flush_pauses hp hr hup hpf hcl hroom, fun h c st a b hs hc => reply_tcp_does hs hc st a b,
    fun h x st a b hs hx hr hh => reply_pcie_does hs hx hr hh st a b⟩
  rw [exec_sqTailDoorbell hrun hup hen hx, if_neg (by omega)]

end Sys2Proof.Machine
end

section
/-!
PROOFS. The NVMe admin commands: features, logs, firmware, namespaces, queues, profiles, programs (R353 to R355, R358, R360, R361, R365 to R368,
R378 to R380, R474, R480, R533).
-/

namespace Sys2Proof.Machine

/-! ### What a fetch leaves of the state that admin commands read -/

section
variable (s : State) (h : Hdr)

@[simp] theorem State.fetched_cmds : (s.fetched h).nvme.cmds = s.nvme.cmds := by rw [State.fetched_frame]
@[simp] theorem State.fetched_cqs : (s.fetched h).nvme.cqs = s.nvme.cqs := by rw [State.fetched_frame]
@[simp] theorem State.fetched_events : (s.fetched h).nvme.events = s.nvme.events := by rw [State.fetched_frame]
@[simp] theorem State.fetched_rtcUs : (s.fetched h).rtcUs = s.rtcUs := by rw [State.fetched_frame]
@[simp] theorem State.fetched_board : (s.fetched h).board = s.board := by rw [State.fetched_frame]
@[simp] theorem State.fetched_part : (s.fetched h).part = s.part := by rw [State.fetched_frame]

@[simp] theorem State.fetched_spareSlot : (s.fetched h).spareSlot = s.spareSlot := by
  rw [State.spareSlot, State.rd_fetched _ _ (by decide), State.spareSlot]

@[simp] theorem State.fetched_holdsHem (n : Nat) : (s.fetched h).holdsHem n = s.holdsHem n := by simp [State.holdsHem]

@[simp] theorem State.fetched_exported : (s.fetched h).exported = s.exported := by simp [State.exported]

@[simp] theorem State.fetched_panelActive (p : Nat) : (s.fetched h).panelActive p = s.panelActive p := by
  simp (disch := decide) only [State.panelActive, State.rd_fetched]

@[simp] theorem State.fetched_imagePlace (p n : Nat) : (s.fetched h).imagePlace p n = s.imagePlace p n := by
  simp [State.imagePlace]

@[simp] theorem State.fetched_abortKey (q c : Nat) : (s.fetched h).abortKey h q c = s.abortKey h q c := by
  simp only [State.abortKey, State.fetched_net]

theorem State.fetched_chans : (s.fetched h).chans = s.chans := by
  have hpresent : (s.fetched h).chanPresent = s.chanPresent := by
    funext ch
    have hrd : (s.fetched h).rd (P.nfc ch) R.nfc_CE_PRESENT = s.rd (P.nfc ch) R.nfc_CE_PRESENT := State.rd_fetched _ _ (fkey_ne_of_off (by decide))
    rw [State.chanPresent, hrd, State.fetched_part, State.chanPresent]
  rw [State.chans, hpresent, State.fetched_part, State.chans]

theorem State.fetched_rowSlots : (s.fetched h).rowSlots = s.rowSlots := by rw [State.rowSlots, State.fetched_board, State.rowSlots]

theorem State.fetched_goodRows : (s.fetched h).goodRows = s.goodRows := by
  rw [State.goodRows, State.fetched_chans, State.fetched_board, State.fetched_seam, State.goodRows]

theorem State.fetched_dramBytes : (s.fetched h).dramBytes = s.dramBytes := by
  rw [State.dramBytes, State.rd_fetched _ _ (by decide), State.fetched_board, State.dramBytes]

theorem State.fetched_capLimited : (s.fetched h).capLimited = s.capLimited := by
  rw [State.capLimited, State.fetched_dramBytes, State.seamNeed, State.rawMedia, State.fetched_chans, State.fetched_board, State.fetched_rowSlots,
    State.capLimited, State.seamNeed, State.rawMedia]

@[simp] theorem State.fetched_capOffer : (s.fetched h).capOffer = s.capOffer := by
  rw [State.capOffer, State.fetched_mode, State.rd_fetched _ _ (by decide), State.fetched_goodRows, State.rd_fetched _ _ (by decide),
    State.fetched_chans, State.fetched_rowSlots, State.fetched_capLimited, State.fetched_dramBytes, State.capOffer]

theorem State.fetched_nvmeFrame : s.fetched h = { s with nvme := (s.fetched h).nvme, regs := (s.fetched h).regs } := by
  unfold State.fetched State.sqAdvance
  split <;> rfl

/-- The queues after a fetch hold the keys and the panels that they held. -/
theorem State.fetched_sqs : ∃ f : Sq → Sq, (∀ q, (f q).panel = q.panel) ∧ (s.fetched h).nvme.sqs = Tbl.upd s.nvme.sqs h.q f := by
  unfold State.fetched State.sqAdvance
  split
  · exact ⟨fun q => { q with head := (q.head + 1) % q.size }, fun _ => rfl, rfl⟩
  · have hid : ∀ e ∈ s.nvme.sqs, (if e.1 = h.q then (h.q, e.2) else e) = e := fun e _ => by
      split
      · next he => rw [← he]
      · rfl
    exact ⟨fun q => q, fun _ => rfl, ((List.map_congr_left hid).trans (List.map_id' _)).symm⟩

theorem State.fetched_has_sqs (q : Nat) : Tbl.has (s.fetched h).nvme.sqs q = Tbl.has s.nvme.sqs q := by
  obtain ⟨f, -, hsqs⟩ := s.fetched_sqs h
  rw [hsqs, Tbl.has, Tbl.at?_upd, Tbl.has]
  split
  · exact Option.isSome_map
  · rfl

theorem State.fetched_length_sqs (n : Nat) : ((s.fetched h).nvme.sqs.filter fun e => e.1 ≠ 0 ∧ e.2.panel = n).length =
    (s.nvme.sqs.filter fun e => e.1 ≠ 0 ∧ e.2.panel = n).length := by
  obtain ⟨f, hpanel, hsqs⟩ := s.fetched_sqs h
  rw [hsqs, Tbl.upd, List.filter_map, List.length_map]
  refine congrArg List.length (List.filter_congr fun e _ => ?_)
  by_cases he : e.1 = h.q
  · simp [he, hpanel]
  · simp [he]

end

/-! ### Commands of the admin queue -/

section
variable {s : State} {h : Hdr} {p : Nat} (hf : Fetches s h p)
include hf

section
variable (ha : s.onAdmin h = true)
include ha

theorem State.adminCmd_fetched (f : Nat → State → State) : s.adminCmd h f = f p (s.fetched h) := by
  rw [State.adminCmd, State.fetch_ready hf, State.fetched_onAdmin, if_pos ha]

theorem exec_identify {cns : Nat} {d : List Byte} {dp : DataPtr}
    (hd : (s.fetched h).identifyData (decide (h.src = .pcie)) p h.nsid cns = some d) (hp : dpFar dp = false) :
    exec (.identify h cns dp) s = .next ((s.fetched h).answer h p dp d) := by
  refine congrArg Host.Outcome.next ((State.adminCmd_fetched hf ha _).trans ?_)
  simp only [hd, hp]
  rfl

theorem exec_getFeatures {f : Nat} (hlo : 0 < f) (hhi : f < 256) :
    exec (.getFeatures h f) s = .next ((s.fetched h).reply h St.ok ((s.fetched h).feature f) 0) :=
  congrArg Host.Outcome.next ((State.adminCmd_fetched hf ha _).trans (if_neg (by omega)))

/-- The state with a feature set. -/
def State.withFeature (s : State) (f v : Nat) : State := { s with nvme := { s.nvme with features := Tbl.put s.nvme.features f v } }

theorem exec_setFeatures {f v : Nat} (hlo : 0 < f) (hhi : f < 256) (h2 : f ≠ 2) (h7 : f ≠ 7) :
    exec (.setFeatures h f v) s = .next (((s.fetched h).withFeature f (v % 2 ^ 32)).reply h St.ok 0 0) := by
  refine congrArg Host.Outcome.next ((State.adminCmd_fetched hf ha _).trans ?_)
  rw [if_neg (by omega), if_neg h2, if_neg h7, State.withFeature]

theorem exec_setFeatures_slumber {v : Nat} (hv : v % 32 = 1) :
    exec (.setFeatures h 2 v) s = .next ((((s.fetched h).withFeature 2 1).reply h St.ok 0 0).requestLow .slumber) := by
  refine congrArg Host.Outcome.next ((State.adminCmd_fetched hf ha _).trans ?_)
  simp only [hv]
  rfl

theorem exec_getLogPage {l off k : Nat} {d : List Byte} {dp : DataPtr} (hd : (s.fetched h).logPage l = some d) (hp : dpFar dp = false) :
    exec (.getLogPage h l off k dp) s = .next ((s.fetched h).answer h p dp (fitTo k (d.drop off))) := by
  refine congrArg Host.Outcome.next ((State.adminCmd_fetched hf ha _).trans ?_)
  simp only [hd, hp]
  rfl

theorem exec_getLogPage_none {l off k : Nat} {dp : DataPtr} (hd : (s.fetched h).logPage l = none) :
    exec (.getLogPage h l off k dp) s = .next ((s.fetched h).reply h St.badLogPage 0 0) := by
  refine congrArg Host.Outcome.next ((State.adminCmd_fetched hf ha _).trans ?_)
  simp only [hd]

/-- A command without an item is not cancelled. -/
theorem exec_abort_noItem {q c : Nat} (hno : ∀ k x, s.abortKey h q c = some k → Tbl.at? s.nvme.cmds k = some x → x.item = none) :
    exec (.abort h q c) s = .next ((s.fetched h).reply h St.ok 1 0) := by
  have hnone : (((s.fetched h).abortKey h q c).bind fun k => (Tbl.at? (s.fetched h).nvme.cmds k).bind fun c => c.item) = none := by
    rw [State.fetched_abortKey, State.fetched_cmds]
    cases hk : s.abortKey h q c with
    | none => rfl
    | some k =>
      cases hx : Tbl.at? s.nvme.cmds k with
      | none => rw [Option.bind_some, hx, Option.bind_none]
      | some x => rw [Option.bind_some, hx, Option.bind_some, hno k x hk hx]
  refine congrArg Host.Outcome.next ((State.adminCmd_fetched hf ha _).trans ?_)
  simp only [State.abortCmd, hnone]

/-- An Asynchronous Event Request that waits. -/
def State.aerHeld (s : State) (h : Hdr) (p : Nat) : State :=
  let u := s.addCmd h .aer p (.segs []) 0 0 none
  { u with nvme := { u.nvme with aers := u.nvme.aers ++ [cmdKey h] } }

theorem asynchronousEventRequest_waits (he : s.nvme.events = []) : Does (.asynchronousEventRequest h) s fun t =>
    cmdKey h ∈ t.nvme.aers ∧ t.outbox = s.outbox ∧ t = { s with nvme := t.nvme, regs := t.regs } := by
  have hexec : exec (.asynchronousEventRequest h) s = .next ((s.fetched h).aerHeld h p) := by
    refine congrArg Host.Outcome.next ((State.adminCmd_fetched hf ha _).trans ?_)
    simp only [State.fetched_events, he]
    rfl
  refine ⟨_, hexec, by simp [State.aerHeld], (s.fetched_outbox h), ?_⟩
  exact congrArg (fun u : State => u.aerHeld h p) (s.fetched_nvmeFrame h)

theorem exec_keepAlive : exec (.keepAlive h) s =
    .next (({ s.fetched h with nvme := { (s.fetched h).nvme with keepAlive := s.rtcUs } } : State).reply h St.ok 0 0) := by
  refine congrArg Host.Outcome.next ((State.adminCmd_fetched hf ha _).trans ?_)
  exact congrArg (fun x => ({ s.fetched h with nvme := { (s.fetched h).nvme with keepAlive := x } } : State).reply h St.ok 0 0) (s.fetched_rtcUs h)

theorem exec_firmwareImageDownload {off : Nat} {b : List Byte} (hb : off + b.length ≤ slotSize) :
    exec (.firmwareImageDownload h off (.inline b)) s =
      .next (((s.fetched h).norWrite (norSlot s.spareSlot + off) b).reply h St.ok 0 0) := by
  have hfits : ¬(dpFar (.inline b) = true ∨ slotSize < off + dpSize (.inline b)) := by
    simp only [dpFar, dpSize, Bool.false_eq_true, false_or]
    omega
  refine congrArg Host.Outcome.next ((State.adminCmd_fetched hf ha _).trans ((if_neg hfits).trans ?_))
  show ((s.fetched h).norWrite (norSlot (s.fetched h).spareSlot + off) b).reply h St.ok 0 0 = _
  rw [State.fetched_spareSlot]

theorem exec_firmwareCommit : exec (.firmwareCommit h) s = .next (((s.fetched h).commitFw s.spareSlot).2.reply h
    (if ((s.fetched h).commitFw s.spareSlot).1 = true then St.ok else St.badFirmware) 0 0) := by
  refine congrArg Host.Outcome.next ((State.adminCmd_fetched hf ha _).trans ?_)
  rw [State.fetched_spareSlot]

end

/-! ### Commands of the manager's queue: namespaces (R357, R379, R480, R533) -/

section
variable (hs : h.src = .pcie) (hq : h.q = 0)
include hs hq

theorem State.managerCmd_fetched (f : State → State) : s.managerCmd h f = f (s.fetched h) := by
  rw [State.managerCmd, State.fetch_ready hf, if_pos ⟨hs, hq⟩]

theorem exec_formatNvm {n : Ns} {l z : Nat} (hn : OnNs s h (s.panelOf n.panel) n) (hl : l ≤ 1) (hz : z = 0 ∨ z = 2)
    (hhem : s.holdsHem (hdrNs h) = false) : let u := s.fetched h
    let m : Ns := { n with lbaf := l, blocks := n.blocks * n.lbaBytes / (if l = 0 then 512 else 4096) }
    let v := ({ u with nvme := { u.nvme with ns := Tbl.put u.nvme.ns (hdrNs h) m } } : State).unmapNs (hdrNs h)
    exec (.formatNvm h l z) s = .next ((if z = 2 then v.newKey (hdrNs h) else v).reply h St.ok 0 0) := by
  obtain ⟨hns, hid, -⟩ := hn
  intro u m v
  have hkey : (v.whenB (z == 2) fun s => s.newKey (hdrNs h)) = if z = 2 then v.newKey (hdrNs h) else v := by
    obtain rfl | rfl := hz <;> rfl
  refine congrArg Host.Outcome.next ((State.managerCmd_fetched hf hs hq _).trans ?_)
  simp only [State.fetched_ns, hns, hid, State.fetched_holdsHem, hhem, Bool.false_eq_true, or_false, if_false]
  rw [if_neg (by omega), if_neg (by omega), ← hkey]
  simp only [v, m, u, State.fetched_ns]

theorem exec_namespaceCreate {b l : Nat} (hb : b ≠ 0) (hl : l ≤ 1) (hi : Tbl.freeKey s.nvme.ns 1024 0 < 1024)
    (hcap : s.exported + b * (if l = 0 then 512 else 4096) ≤ s.capOffer) : let u := s.fetched h
    let i := Tbl.freeKey s.nvme.ns 1024 0
    exec (.namespaceCreate h b l) s =
      .next (((({ u with nvme := { u.nvme with ns := Tbl.put u.nvme.ns i ⟨b, l, 0, none⟩ } } : State).newKey i).checkSpace).reply h St.ok (i + 1) 0) := by
  have hfits : ¬s.capOffer < s.exported + b * Ns.lbaBytes ⟨b, l, 0, none⟩ := Nat.not_lt.2 hcap
  refine congrArg Host.Outcome.next ((State.managerCmd_fetched hf hs hq _).trans ?_)
  simp only [State.fetched_ns, State.fetched_capOffer, State.fetched_exported]
  rw [if_neg (by omega), if_neg hb, if_neg (by omega), if_neg hfits]

theorem exec_namespaceDelete (hid : h.nsid ≠ 0) (hns : Tbl.has s.nvme.ns (hdrNs h) = true) : exec (.namespaceDelete h) s =
    .next (if s.holdsHem (hdrNs h) = true then (s.fetched h).reply h St.nsNotReady 0 0
      else ((s.fetched h).dropNs (hdrNs h)).reply h St.ok 0 0) := by
  refine congrArg Host.Outcome.next ((State.managerCmd_fetched hf hs hq _).trans ?_)
  rw [if_neg (by simp [hid, hns]), State.fetched_holdsHem]

theorem exec_namespaceAttachment {n : Ns} {x : Nat} (hn : OnNs s h (s.panelOf n.panel) n) (hx : x < 64) (ha : s.panelActive x = true)
    (hp : s.panelOf x = x) : let u := s.fetched h
    exec (.namespaceAttachment h x) s =
      .next (({ u with nvme := { u.nvme with ns := Tbl.put u.nvme.ns (hdrNs h) { n with panel := x } } } : State).reply h St.ok 0 0) := by
  obtain ⟨hns, hid, -⟩ := hn
  refine congrArg Host.Outcome.next ((State.managerCmd_fetched hf hs hq _).trans ?_)
  have hok : ¬(64 ≤ x ∨ (s.fetched h).panelActive x = false ∨ (s.fetched h).panelOf x ≠ x) := by simp [ha, hp, hx]
  simp only [State.fetched_ns, hns, if_neg hid]
  exact if_neg hok

/-! ### Queues (R354, R378, R380) -/

theorem exec_createIoCq {q k v : Nat} (hlo : 0 < q) (hhi : q ≤ 512) (hnew : Tbl.has s.nvme.cqs q = false) (hk : 2 ≤ k) (hk' : k ≤ 16384)
    (hv : v ≤ 512) : let u := s.fetched h
    exec (.createIoCq h q k v) s =
      .next (({ u with nvme := { u.nvme with cqs := Tbl.put u.nvme.cqs q ⟨k, v, 0, 0⟩ } } : State).reply h St.ok 0 0) := by
  refine congrArg Host.Outcome.next ((State.managerCmd_fetched hf hs hq _).trans ?_)
  have hqid : ¬(q = 0 ∨ 512 < q ∨ Tbl.has (s.fetched h).nvme.cqs q = true) := by
    rw [State.fetched_cqs, hnew]
    simp only [Bool.false_eq_true, or_false]
    omega
  rw [if_neg hqid, if_neg (by omega), if_neg (by omega)]

theorem exec_createIoSq {q k c : Nat} (hlo : 0 < q) (hhi : q ≤ 512) (hnew : Tbl.has s.nvme.sqs q = false) (hm : s.mode M.panel = false)
    (hk : 2 ≤ k) (hk' : k ≤ 16384) (hc : 0 < c) (hcq : Tbl.has s.nvme.cqs c = true)
    (hroom : (s.nvme.sqs.filter fun e => e.1 ≠ 0 ∧ e.2.panel = 0).length < 512) : let u := s.fetched h
    exec (.createIoSq h q k c) s =
      .next (({ u with nvme := { u.nvme with sqs := Tbl.put u.nvme.sqs q ⟨k, c, 0, 0, 0⟩ } } : State).reply h St.ok 0 0) := by
  have hpanel (x : Nat) : (s.fetched h).panelOf x = 0 := by rw [State.panelOf, State.fetched_mode, hm]; rfl
  have hshare : (s.fetched h).share 512 = 512 := by rw [State.share, State.fetched_mode, hm]; rfl
  have hqid : ¬(q = 0 ∨ 512 < q ∨ Tbl.has (s.fetched h).nvme.sqs q = true) := by
    rw [State.fetched_has_sqs, hnew]
    simp only [Bool.false_eq_true, or_false]
    omega
  have hplace : ¬((s.fetched h).mode M.panel && !(s.fetched h).panelActive 0 ||
      decide ((s.fetched h).share 512 ≤ ((s.fetched h).nvme.sqs.filter fun e => e.1 ≠ 0 ∧ e.2.panel = 0).length)) = true := by
    rw [State.fetched_mode, hm, hshare, State.fetched_length_sqs]
    simp only [Bool.false_and, Bool.false_or, decide_eq_true_eq]
    omega
  have hcqid : ¬(c = 0 ∨ Tbl.has (s.fetched h).nvme.cqs c = false) := by
    rw [State.fetched_cqs, hcq]
    simp
    omega
  refine congrArg Host.Outcome.next ((State.managerCmd_fetched hf hs hq _).trans ?_)
  simp only [hpanel]
  rw [if_neg hqid, if_neg hplace, if_neg (by omega), if_neg hcqid]

theorem exec_deleteIoSq {q : Nat} (hlo : 0 < q) (hsq : Tbl.has (s.fetched h).nvme.sqs q = true)
    (hno : ∀ e ∈ s.nvme.cmds, ¬(e.2.h.src = .pcie ∧ e.2.h.q = q)) : let u := s.fetched h
    exec (.deleteIoSq h q) s = .next (({ u with nvme := { u.nvme with sqs := Tbl.del u.nvme.sqs q } } : State).reply h St.ok 0 0) := by
  have hnone : ((s.fetched h).nvme.cmds.filter fun e => e.2.h.src = .pcie ∧ e.2.h.q = q) = [] := by
    rw [State.fetched_cmds]
    exact List.filter_eq_nil_iff.2 fun e he => by simpa using hno e he
  refine congrArg Host.Outcome.next ((State.managerCmd_fetched hf hs hq _).trans ((if_neg ?_).trans ?_))
  · rw [hsq]
    simp
    omega
  · rw [hnone]
    rfl

theorem exec_deleteIoCq {q : Nat} (hlo : 0 < q) (hcq : Tbl.has s.nvme.cqs q = true) (hno : ∀ e ∈ (s.fetched h).nvme.sqs, e.2.cq ≠ q) :
    let u := s.fetched h
    exec (.deleteIoCq h q) s = .next (({ u with nvme := { u.nvme with
      cqs := Tbl.del u.nvme.cqs q, cqHeld := u.nvme.cqHeld.filter fun e => e.1 ≠ q } } : State).reply h St.ok 0 0) := by
  have hqid : ¬(q = 0 ∨ Tbl.has (s.fetched h).nvme.cqs q = false) := by
    rw [State.fetched_cqs, hcq]
    simp
    omega
  have hfree : ¬((s.fetched h).nvme.sqs.any fun e => e.2.cq == q) = true := by simpa using fun a b he => hno (a, b) he
  exact congrArg Host.Outcome.next ((State.managerCmd_fetched hf hs hq _).trans ((if_neg hqid).trans (if_neg hfree)))

/-! ### LEGACY profiles (R361, R368) -/

theorem exec_setLegacyProfile {i : Nat} {b : List Byte} (hr : h.rsvd = 0) (hi : i < 16) : let w := (s.fetched h).count P.nvm 0x048
    exec (.setLegacyProfile h i (.inline b)) s = .next (if profileOk b = true then
      ({ w with nvme := { w.nvme with profiles := Tbl.put w.nvme.profiles i b } } : State).reply h St.ok 0 0
      else (w.err P.nvm 0x01 0 0).reply h (St.vendor 0x25) 0 0) :=
  congrArg Host.Outcome.next ((State.managerCmd_fetched hf hs hq _).trans (if_neg (by simp [hr, hi, dpFar])))

theorem exec_bindLegacyProfile {n : Ns} {i : Nat} (hn : OnNs s h (s.panelOf n.panel) n) (hr : h.rsvd = 0) (hi : i < 16) :
    let w := (s.fetched h).count P.nvm 0x048
    exec (.bindLegacyProfile h i) s = .next (if Tbl.has s.nvme.profiles i = true then
      ({ w with nvme := { w.nvme with ns := Tbl.put w.nvme.ns (hdrNs h) { n with legacy := some i } } } : State).reply h St.ok 0 0
      else w.reply h St.badField 0 0) := by
  obtain ⟨hns, hid, -⟩ := hn
  intro w
  have hat : Tbl.at? w.nvme.ns (hdrNs h) = some n := by rw [State.count_nvme, State.fetched_ns, hns]
  have hprof : w.nvme.profiles = s.nvme.profiles := by rw [State.count_nvme, State.fetched_profiles]
  refine congrArg Host.Outcome.next ((State.managerCmd_fetched hf hs hq _).trans ?_)
  simp only [hat, if_neg hid, hr, ne_eq, not_true_eq_false, if_false, if_neg (show i ≠ 0x1F by omega), hi, true_and, hprof, w]

end

/-! ### Memory ranges and programs (R358, R360) -/

theorem exec_memoryRangeSet {i : Nat} {l : List (Nat × Nat)} (hr : ∀ r ∈ l, r.1 + r.2 ≤ (s.slmOf p).2) (hl : l ≠ []) : let u := s.fetched h
    exec (.memoryRangeSet h i l) s =
      .next (({ u with nvme := { u.nvme with ranges := Tbl.put u.nvme.ranges (p * 65536 + i) l } } : State).reply h St.ok 0 0) := by
  have hin : ¬(l.any fun r => decide (((s.fetched h).slmOf p).2 < r.1 + r.2)) = true := by
    rw [State.fetched_slmOf]
    simpa using fun a b he => hr (a, b) he
  refine congrArg Host.Outcome.next ((State.fetch_ready hf _).trans ((if_neg hin).trans ?_))
  simp only [if_neg hl]

theorem exec_programDownload {i a : Nat} {b : List Byte} (hi : i < 256) (hnew : Tbl.has s.nvme.progs i = false) (hlo : 16 ≤ b.length)
    (hhi : b.length ≤ 0x1000000) (hz : zeroAt b 4 12 = true) (he : 16 + leAt b 0 4 < b.length) (ha : s.imagePlace p b.length = some a) :
    exec (.programDownload h i 0xC0 (.inline b)) s = .next (((s.fetched h).placeImage i p b a (leAt b 0 4)).reply h St.ok 0 0) := by
  have hfield : ¬(0xC0 ≠ 0xC0 ∨ 256 ≤ i ∨ Tbl.has (s.fetched h).nvme.progs i = true ∨ dpFar (.inline b) = true ∨ dpSize (.inline b) < 16 ∨
      0x1000000 < dpSize (.inline b)) := by
    rw [State.fetched_progs, hnew]
    simp only [dpFar, dpSize, Bool.false_eq_true, ne_eq, not_true_eq_false, false_or]
    omega
  have himage : ¬(!zeroAt b 4 12 || decide (b.length ≤ 16 + leAt b 0 4)) = true := by
    rw [hz]
    simpa using he
  refine congrArg Host.Outcome.next ((State.fetch_ready hf _).trans ((if_neg hfield).trans ((if_neg himage).trans ?_)))
  simp only [dpSize, State.fetched_imagePlace, ha]

theorem exec_programDelete {i : Nat} {g : Prog} (hg : Tbl.at? s.nvme.progs i = some g) (hp : g.panel = p) : let u := s.fetched h
    exec (.programDelete h i) s =
      .next ((({ u with nvme := { u.nvme with progs := Tbl.del u.nvme.progs i } } : State).rebuildWins p).reply h St.ok 0 0) := by
  refine congrArg Host.Outcome.next ((State.fetch_ready hf _).trans ?_)
  simp only [State.fetched_progs, hg]
  exact if_neg (by simp [hp])

end

/-- Settles O43: each clause is the lemma above about its command. -/
theorem nvmeAdmin : Obligations.NvmeAdmin := by
  unfold Obligations.NvmeAdmin
  refine fun s h p hf => ⟨fun ha => ⟨fun cns d dp hd hp => exec_identify hf ha hd hp, fun f hlo hhi => exec_getFeatures hf ha hlo hhi,
      fun f v hlo hhi h2 h7 => exec_setFeatures hf ha hlo hhi h2 h7, fun v hv => exec_setFeatures_slumber hf ha hv,
      fun l off k d dp hd hp => exec_getLogPage hf ha hd hp, fun l off k dp hd => exec_getLogPage_none hf ha hd,
      fun q c hno => exec_abort_noItem hf ha hno, asynchronousEventRequest_waits hf ha, exec_keepAlive hf ha,
      fun off b hb => exec_firmwareImageDownload hf ha hb, exec_firmwareCommit hf ha⟩,
    fun hs hq => ⟨fun n l z hn hl hz hhem => exec_formatNvm hf hs hq hn hl hz hhem,
      fun b l hb hl hi hcap => exec_namespaceCreate hf hs hq hb hl hi hcap, exec_namespaceDelete hf hs hq,
      fun n x hn hx ha hp => exec_namespaceAttachment hf hs hq hn hx ha hp,
      fun q k v hlo hhi hnew hk hk' hv => exec_createIoCq hf hs hq hlo hhi hnew hk hk' hv,
      fun q k c hlo hhi hnew hm hk hk' hc hcq hroom => exec_createIoSq hf hs hq hlo hhi hnew hm hk hk' hc hcq hroom,
      fun q hlo hsq hno => exec_deleteIoSq hf hs hq hlo hsq hno, fun q hlo hcq hno => exec_deleteIoCq hf hs hq hlo hcq hno,
      fun i b hr hi => exec_setLegacyProfile hf hs hq hr hi, fun n i hn hr hi => exec_bindLegacyProfile hf hs hq hn hr hi⟩,
    fun i l hr hl => exec_memoryRangeSet hf hr hl, fun i b a hi hnew hlo hhi hz he ha => exec_programDownload hf hi hnew hlo hhi hz he ha,
    fun i g hg hp => exec_programDelete hf hg hp⟩

end Sys2Proof.Machine
end
